-- ==== Sys2Proof/Word.lean ====
section
/-! DEFINITION. The word types of the Ilzeta IZ2406: the byte of a link frame, and the two 32-bit counters that
wrap (R1: the station clock; R118: the sequence counter). -/

namespace Sys2Proof

/-- One byte of a frame (R204). -/
abbrev Byte := BitVec 8

/-- A reading of the station clock: whole seconds from reset, wrapping from 4,294,967,295 to 0 (R1). -/
abbrev Clock := BitVec 32

/-- A move sequence number, wrapping like the clock (R118). -/
abbrev Seq := BitVec 32

end Sys2Proof
end

