-- ==== Sys2Proof/Config.lean ====
section
/-! DEFINITION. The fixed sizes of the IZ2406, each a number the manual states, and the two free values: the
orders that the manual leaves open, and the number that stands for a period of a fractional number of seconds. -/

namespace Sys2Proof.Config

/-- Storage slots 0 to 383, eight to a shelf (Positions and numbering; R3). -/
def storageSlots : Nat := 384

/-- Records the catalogue holds at most (R9). -/
def catalogueCapacity : Nat := 480

/-- Link-originated moves in the queue at most (R119). -/
def linkBudget : Nat := 24

/-- Checked-out count of a port at most (R71). -/
def checkedOutLimit : Nat := 8

/-- Inspection-out count at most (R106). -/
def inspectionLimit : Nat := 16

/-- Entries of the announcement list at most (R93). -/
def announcementCapacity : Nat := 8

/-- Identifiers of one call-ahead list at most (R77, R79). -/
def aheadCapacity : Nat := 16

/-- Body bytes of a received frame at most (R204, R205). -/
def receivedBodyLimit : Nat := 320

/-- The start byte of every frame (R204). -/
def startByte : BitVec 8 := 0xC3

/-- The free choices: the k-th choice among orders that the manual leaves open (R89, R141, R142, and expiries that fall in
one second). It has no body: nothing is known of it. -/
opaque freeChoice : Nat → Nat

/-- The number sent for a liveness period of so many tenths of a second when they make no whole number of seconds: time values
are whole seconds in two bytes (R204, 00_scope Time values), and the manual states no number for such a period. A free value
(log entry 55): it has no body, so nothing is known of it. -/
opaque fractionPeriod : Nat → BitVec 16

end Sys2Proof.Config
end

