-- ==== Sys2Proof/Syntax.lean ====
section
/-! DEFINITION. The commands of the IZ2406: one constructor of `Instr` per row of spec/opcode_table.json, with the
operands the spec gives it. A request row carries the link it arrived on, the tag of its frame and its body; the body is
`none` when the frame's body does not hold exactly the kind's fields, each in its form (R205, check 3). A field in its
form may still be outside its range; the ranges are the owning rule's matter. -/

namespace Sys2Proof

/-- A tool port 0 to 5 (Positions and numbering). -/
abbrev Port := Fin 6

/-- A slot of the slot table: 0 to 383 storage, 384 to 395 staging (R3). -/
abbrev Slot := Fin 396

/-- A storage shelf 0 to 47. -/
abbrev Shelf := Fin 48

/-- A reticle class 0 to 7. -/
abbrev ClassNo := Fin 8

/-- An identifier or a name as the frame carries it: its characters, well formed or not (R2, R204). -/
abbrev Ident := List Byte

/-- The nine single-pod nests: T0 to T5, BI, BO and IN. -/
inductive Nest where
  | t (p : Port)
  | bi
  | bo
  | inn
  deriving DecidableEq, Repr

/-- The eight links on which the partner asks and the part answers (chapter 11). -/
inductive ReqLink where
  | material
  | tool (p : Port)
  | service
  deriving DecidableEq, Repr

/-- The nine links: the eight request links and the handler link (chapter 11). -/
inductive Link where
  | request (l : ReqLink)
  | handler
  deriving DecidableEq, Repr

/-- The two links that have a notice set (R211). -/
inductive NoticeLink where
  | material
  | service
  deriving DecidableEq, Repr

/-- The condition of a catalogue record (R12). -/
inductive Condition where
  | ready
  | due
  | quarantine
  deriving DecidableEq, Repr

/-- The outcome a VERDICT carries (R111). -/
inductive VerdictOutcome where
  | pass
  | fail
  deriving DecidableEq, Repr

/-- What an intercept entry does to a move it decides (R182). -/
inductive InterceptAction where
  | note
  | hold
  | divert
  deriving DecidableEq, Repr

/-- The match field of INTERCEPT_SET as the frame carries it (R183). -/
inductive MatchField where
  | byPrefix (chars : Ident)
  | bySlots (base length : Nat)
  deriving DecidableEq, Repr

/-- The identifier read at a pick, or NOREAD (R145). -/
inductive ReadId where
  | ident (id : Ident)
  | noread
  deriving DecidableEq, Repr

/-- One of the eight results of a SCANNED report (R145, chapter 10.4). -/
inductive ScanResult where
  | empty
  | ident (id : Ident)
  | unreadable
  deriving DecidableEq, Repr

/-- HELLO(name, base, f1, f2) (R51). -/
structure HelloBody where
  name : Ident
  base : Nat
  f1 : Nat
  f2 : Nat
  deriving DecidableEq, Repr

/-- AHEAD(replace-now, IDs) (R79). -/
structure AheadBody where
  replaceNow : Bool
  ids : List Ident
  deriving DecidableEq, Repr

/-- RETURN(id, lots) (R67). -/
structure ReturnBody where
  id : Ident
  lots : Nat
  deriving DecidableEq, Repr

/-- ANNOUNCE(id, class, hold) (R94). -/
structure AnnounceBody where
  id : Ident
  cls : Nat
  hold : Bool
  deriving DecidableEq, Repr

/-- EXPORT(id, withdraw) and INSPECT(id, withdraw) (R99, R107). -/
structure WithdrawBody where
  id : Ident
  withdraw : Bool
  deriving DecidableEq, Repr

/-- SETCLASS(id, class) (R105). -/
structure SetClassBody where
  id : Ident
  cls : Nat
  deriving DecidableEq, Repr

/-- VERDICT(id, outcome) (R111). -/
structure VerdictBody where
  id : Ident
  outcome : VerdictOutcome
  deriving DecidableEq, Repr

/-- CENSUS(first shelf, last shelf) (R194). -/
structure CensusBody where
  first : Nat
  last : Nat
  deriving DecidableEq, Repr

/-- INTERCEPT_SET(entry, requester mask, kind mask, match mode, prefix or base slot and length, action) (R183).
The masks are sets of three and of ten members, so a member above the last is out of form (R204). -/
structure InterceptBody where
  entry : Nat
  requesterMask : BitVec 3
  kindMask : BitVec 10
  matching : MatchField
  action : InterceptAction
  deriving DecidableEq, Repr

/-- ZONE_SET(entry, base shelf, limit shelf, class mask, serve mask, purge class) (R33). -/
structure ZoneBody where
  entry : Nat
  base : Nat
  limit : Nat
  classMask : BitVec 8
  serveMask : BitVec 6
  purge : Nat
  deriving DecidableEq, Repr

/-- CLASS_SET(class, delivery limit, lot limit, air limit), each limit optional (R171). -/
structure ClassBody where
  cls : Nat
  deliveryLimit : Option Nat
  lotLimit : Option Nat
  airLimit : Option Nat
  deriving DecidableEq, Repr

/-- PORT_SET(port, weight, priority, aging rate, tenure limit, anchor shelf, window count) (R49). -/
structure PortSetBody where
  port : Nat
  weight : Nat
  priority : Bool
  agingRate : Nat
  tenureLimit : Nat
  anchor : Nat
  windowCount : Nat
  deriving DecidableEq, Repr

/-- TIMING_SET: the five dispatch settings, the two handler timeouts and the notice gap, each optional (R140, R148, R213). -/
structure TimingBody where
  starvation : Option Nat
  materialWeight : Option Nat
  materialRate : Option Nat
  bulkAnchor : Option Nat
  inspectionAnchor : Option Nat
  pickTimeout : Option Nat
  placeTimeout : Option Nat
  noticeGap : Option Nat
  deriving DecidableEq, Repr

/-- SET_SLOT(slot, ID, class) (R26). -/
structure SetSlotBody where
  slot : Nat
  id : Ident
  cls : Nat
  deriving DecidableEq, Repr

/-- SET_CONDITION(id, condition); only READY is taken (R28, chapter 1.6). -/
structure SetConditionBody where
  id : Ident
  condition : Condition
  deriving DecidableEq, Repr

/-- The levels RESET_N's end samples: the nine presence sensors and AUTOCEN (R57, R96, R102, R109, R196). -/
structure Straps where
  presT : Vector Bool 6
  presBi : Bool
  presBo : Bool
  presIn : Bool
  autocen : Bool
  deriving DecidableEq, Repr

/-- The commands: the rows of spec/opcode_table.json in the table's order. -/
inductive Instr where
  /-- POWER_ON_RESET -/
  | powerOnReset (straps : Straps)
  /-- HELLO -/
  | hello (l : ReqLink) (tag : Byte) (body : Option HelloBody)
  /-- ALIVE -/
  | alive (l : ReqLink) (tag : Byte) (body : Option Unit)
  /-- CALL -/
  | call (l : ReqLink) (tag : Byte) (body : Option Ident)
  /-- CANCEL -/
  | cancel (l : ReqLink) (tag : Byte) (body : Option Ident)
  /-- AHEAD -/
  | ahead (l : ReqLink) (tag : Byte) (body : Option AheadBody)
  /-- RETURN -/
  | returnLots (l : ReqLink) (tag : Byte) (body : Option ReturnBody)
  /-- PORTSTATE -/
  | portState (l : ReqLink) (tag : Byte) (body : Option Unit)
  /-- ANNOUNCE -/
  | announce (l : ReqLink) (tag : Byte) (body : Option AnnounceBody)
  /-- UNANNOUNCE -/
  | unannounce (l : ReqLink) (tag : Byte) (body : Option Ident)
  /-- EXPORT -/
  | exportOut (l : ReqLink) (tag : Byte) (body : Option WithdrawBody)
  /-- HOLD -/
  | hold (l : ReqLink) (tag : Byte) (body : Option Ident)
  /-- RELEASE -/
  | release (l : ReqLink) (tag : Byte) (body : Option Ident)
  /-- SETCLASS -/
  | setClass (l : ReqLink) (tag : Byte) (body : Option SetClassBody)
  /-- INSPECT -/
  | inspect (l : ReqLink) (tag : Byte) (body : Option WithdrawBody)
  /-- VERDICT -/
  | verdict (l : ReqLink) (tag : Byte) (body : Option VerdictBody)
  /-- CENSUS -/
  | census (l : ReqLink) (tag : Byte) (body : Option CensusBody)
  /-- CENSUS_STOP -/
  | censusStop (l : ReqLink) (tag : Byte) (body : Option Unit)
  /-- INTERCEPT_SET -/
  | interceptSet (l : ReqLink) (tag : Byte) (body : Option InterceptBody)
  /-- ACK -/
  | ack (l : ReqLink) (tag : Byte) (body : Option (BitVec 16))
  /-- MASK -/
  | mask (l : ReqLink) (tag : Byte) (body : Option (BitVec 16))
  /-- QRETICLE -/
  | qReticle (l : ReqLink) (tag : Byte) (body : Option Ident)
  /-- QSLOT -/
  | qSlot (l : ReqLink) (tag : Byte) (body : Option Nat)
  /-- QZONE_ENTRY -/
  | qZoneEntry (l : ReqLink) (tag : Byte) (body : Option Nat)
  /-- QZONE_SLOT -/
  | qZoneSlot (l : ReqLink) (tag : Byte) (body : Option Nat)
  /-- QPORT -/
  | qPort (l : ReqLink) (tag : Byte) (body : Option Nat)
  /-- QQUEUE -/
  | qQueue (l : ReqLink) (tag : Byte) (body : Option Unit)
  /-- QINTERCEPT_ENTRY -/
  | qInterceptEntry (l : ReqLink) (tag : Byte) (body : Option Nat)
  /-- QINTERCEPT_ALL -/
  | qInterceptAll (l : ReqLink) (tag : Byte) (body : Option Unit)
  /-- ZONE_SET -/
  | zoneSet (l : ReqLink) (tag : Byte) (body : Option ZoneBody)
  /-- CLASS_SET -/
  | classSet (l : ReqLink) (tag : Byte) (body : Option ClassBody)
  /-- PORT_SET -/
  | portSet (l : ReqLink) (tag : Byte) (body : Option PortSetBody)
  /-- PORT_OPEN -/
  | portOpen (l : ReqLink) (tag : Byte) (body : Option Nat)
  /-- PORT_CLOSE -/
  | portClose (l : ReqLink) (tag : Byte) (body : Option Nat)
  /-- TIMING_SET -/
  | timingSet (l : ReqLink) (tag : Byte) (body : Option TimingBody)
  /-- SET_SLOT_EMPTY -/
  | setSlotEmpty (l : ReqLink) (tag : Byte) (body : Option Nat)
  /-- SET_SLOT_RETICLE -/
  | setSlotReticle (l : ReqLink) (tag : Byte) (body : Option SetSlotBody)
  /-- FORGET -/
  | forget (l : ReqLink) (tag : Byte) (body : Option Ident)
  /-- SET_CONDITION -/
  | setCondition (l : ReqLink) (tag : Byte) (body : Option SetConditionBody)
  /-- RESUME -/
  | resume (l : ReqLink) (tag : Byte) (body : Option Unit)
  /-- RESOLVE_AT_TARGET -/
  | resolveAtTarget (l : ReqLink) (tag : Byte) (body : Option Unit)
  /-- RESOLVE_AT_SOURCE -/
  | resolveAtSource (l : ReqLink) (tag : Byte) (body : Option Unit)
  /-- RESOLVE_REMOVED -/
  | resolveRemoved (l : ReqLink) (tag : Byte) (body : Option Unit)
  /-- RESTART -/
  | restart (l : ReqLink) (tag : Byte) (body : Option Unit)
  /-- UNKNOWN_REQUEST_KIND: a good frame on a request link whose kind byte is no request kind. -/
  | unknownRequestKind (l : ReqLink) (tag : Byte) (kind : Byte)
  /-- BODY_LENGTH_EXCESS -/
  | bodyLengthExcess (l : Link)
  /-- CRC_FAILURE -/
  | crcFailure (l : Link)
  /-- BYTE_GAP_TIMEOUT -/
  | byteGapTimeout (l : Link)
  /-- HANDLER_FRAME_NOT_TAKEN -/
  | handlerFrameNotTaken
  /-- PICKED, with the order number the report carries in its tag (R208). -/
  | picked (number : Byte) (read : ReadId)
  /-- SOURCE_EMPTY -/
  | sourceEmpty (number : Byte)
  /-- PLACED -/
  | placed (number : Byte)
  /-- OCCUPIED -/
  | occupied (number : Byte)
  /-- SCANNED, with the eight results in slot order. -/
  | scanned (number : Byte) (results : Vector ScanResult 8)
  /-- FAULT, with the fault code and whether the gripper is loaded. -/
  | faultReport (number : Byte) (code : Byte) (loaded : Bool)
  /-- RESTARTED, whose number is not read (R145). -/
  | restarted (number : Byte) (loaded : Bool)
  /-- PHASE_TIMEOUT: the running pick, scan or place timer expires. -/
  | phaseTimeout
  /-- LIVENESS_EXPIRY of port p. -/
  | livenessExpiry (p : Port)
  /-- COLLECT_WINDOW_EXPIRY of port p. -/
  | collectWindowExpiry (p : Port)
  /-- RETURN_WAIT_EXPIRY of port p. -/
  | returnWaitExpiry (p : Port)
  /-- GAP_TIMER_EXPIRY of one notice link. -/
  | gapTimerExpiry (l : NoticeLink)
  /-- MINUTE_TICK -/
  | minuteTick
  /-- TBUSY_ASSERTED at nest Tp. -/
  | tbusyAsserted (p : Port)
  /-- TBUSY_RELEASED at nest Tp. -/
  | tbusyReleased (p : Port)
  /-- PRES_T_FULL: PRES_Tp goes full. -/
  | presTFull (p : Port)
  /-- PRES_T_EMPTY: PRES_Tp goes empty. -/
  | presTEmpty (p : Port)
  /-- PRES_BI_FULL -/
  | presBiFull
  /-- PRES_BI_EMPTY -/
  | presBiEmpty
  /-- PRES_BO_FULL -/
  | presBoFull
  /-- PRES_BO_EMPTY -/
  | presBoEmpty
  /-- PRES_IN_FULL -/
  | presInFull
  /-- PRES_IN_EMPTY -/
  | presInEmpty
  deriving DecidableEq, Repr

end Sys2Proof
end

