-- ==== Sys2Proof/Decode.lean ====
section
/-! DEFINITION. From bytes to commands: the frame kinds and their kind bytes, the CRC, the field forms, and the command a
received frame spells (R204, R205, R208). Total: a frame whose body is out of form spells its request with no body, a kind
byte that is no request kind spells UNKNOWN_REQUEST_KIND, and a report out of form spells HANDLER_FRAME_NOT_TAKEN. No row
of the command table gives bits, so `decodeTableWord` reads none. -/

namespace Sys2Proof

/-- The command a table word spells. No row of spec/opcode_table.json gives a bit pattern, so no word spells a command. -/
def decodeTableWord (_nbits _w : Nat) : Option Instr := none

/-! ## Frame kinds (R204) -/

/-- The 54 frame kinds, in the order in which R204 numbers them. -/
inductive FrameKind where
  | hello | alive | call | cancel | ahead | returnLots | portState
  | announce | unannounce | exportOut | hold | release | setClass | inspect | verdict
  | census | censusStop | interceptSet | ack | mask
  | qReticle | qSlot | qZone | qPort | qQueue | qIntercept
  | zoneSet | classSet | portSet | portOpen | portClose | timingSet | setSlot | forget | setCondition
  | resume | resolve | restart
  | answer | notice | ready | lapsed | withdrawn | moveEnd | move | place | scan
  | picked | sourceEmpty | placed | occupied | scanned | fault | restarted
  deriving DecidableEq, Repr

/-- The kinds 0x01 to 0x36 in order (R204). -/
def allFrameKinds : List FrameKind :=
  [.hello, .alive, .call, .cancel, .ahead, .returnLots, .portState, .announce, .unannounce, .exportOut, .hold, .release,
   .setClass, .inspect, .verdict, .census, .censusStop, .interceptSet, .ack, .mask, .qReticle, .qSlot, .qZone, .qPort,
   .qQueue, .qIntercept, .zoneSet, .classSet, .portSet, .portOpen, .portClose, .timingSet, .setSlot, .forget,
   .setCondition, .resume, .resolve, .restart, .answer, .notice, .ready, .lapsed, .withdrawn, .moveEnd, .move, .place,
   .scan, .picked, .sourceEmpty, .placed, .occupied, .scanned, .fault, .restarted]

/-- The kind byte of a frame kind: its place in the list, from 0x01 (R204). -/
def FrameKind.byte (k : FrameKind) : Byte := BitVec.ofNat 8 (allFrameKinds.idxOf k + 1)

/-- The frame kind of a kind byte, none outside 0x01 to 0x36 (R204). -/
def frameKindOf (b : Byte) : Option FrameKind := if b = 0 then none else allFrameKinds[b.toNat - 1]?

/-- The request kinds are the first 38 of the list (R204, R209). -/
def isRequestKind (b : Byte) : Bool := decide (1 ≤ b.toNat) && decide (b.toNat ≤ 38)

/-! ## The CRC (R204) -/

/-- One bit of the CRC: polynomial x^16+x^12+x^5+1, most significant bit first (R204). -/
def crcBit (c : BitVec 16) : BitVec 16 := if c.msb then (c <<< 1) ^^^ 0x1021#16 else c <<< 1

/-- One byte of the CRC (R204). -/
def crcByte (c : BitVec 16) (b : Byte) : BitVec 16 :=
  crcBit (crcBit (crcBit (crcBit (crcBit (crcBit (crcBit (crcBit (c ^^^ (b.setWidth 16 <<< 8)))))))))

/-- The CRC-16 of a byte sequence, initial value 0xFFFF, no final inversion (R204). -/
def crc16 (bs : List Byte) : BitVec 16 := bs.foldl crcByte 0xFFFF#16

/-! ## Field forms (R204)

A reader takes a field off the front of a body, or refuses it as out of form. -/

/-- What reads a field of a body. -/
abbrev Reader (α : Type) := List Byte → Option (α × List Byte)

/-- One byte. -/
def readByte : Reader Byte
  | [] => none
  | b :: bs => some (b, bs)

/-- A field and then what follows from it. -/
def Reader.andThen {α β : Type} (p : Reader α) (f : α → Reader β) : Reader β := fun bs =>
  match p bs with
  | some (a, rest) => f a rest
  | none => none

/-- A value without bytes. -/
def readDone {α : Type} (a : α) : Reader α := fun bs => some (a, bs)

/-- A field out of form. -/
def readFail {α : Type} : Reader α := fun _ => none

/-- A small number, 1 byte (R204). -/
def readSmall : Reader Nat := readByte.andThen fun b => readDone b.toNat

/-- A flag, 0x00 or 0x01 (R204). -/
def readFlag : Reader Bool := readByte.andThen fun b =>
  if b = 0 then readDone false else if b = 1 then readDone true else readFail

/-- A choice among listed values, numbered from 0 (R204). -/
def readChoice {α : Type} (xs : List α) : Reader α := readByte.andThen fun b =>
  match xs[b.toNat]? with
  | some x => readDone x
  | none => readFail

/-- A number, 2 bytes, most significant first (R204). -/
def readNumber : Reader Nat := readByte.andThen fun h => readByte.andThen fun l => readDone (256 * h.toNat + l.toNat)

/-- The characters of an identifier. -/
def readChars : Nat → Reader Ident
  | 0 => readDone []
  | n + 1 => readByte.andThen fun b => (readChars n).andThen fun bs => readDone (b :: bs)

/-- An identifier or a name: a length byte, then that many characters; whether it is well formed is tested by `identOk`
and `nameOk` (R204). -/
def readIdent : Reader Ident := readByte.andThen fun n => readChars n.toNat

/-- A set of w members in 2 bytes; a bit above the last member is out of form (R204). -/
def readSet (w : Nat) : Reader (BitVec w) := readNumber.andThen fun n =>
  if n < 2 ^ w then readDone (BitVec.ofNat w n) else readFail

/-- An optional field: a flag, and the field only when it is set (R204). -/
def readOptional {α : Type} (p : Reader α) : Reader (Option α) := readFlag.andThen fun f =>
  if f then p.andThen fun a => readDone (some a) else readDone none

/-- So many items. -/
def readItems {α : Type} (p : Reader α) : Nat → Reader (List α)
  | 0 => readDone []
  | n + 1 => p.andThen fun a => (readItems p n).andThen fun as => readDone (a :: as)

/-- A list: a number giving the item count, then the items (R204). -/
def readList {α : Type} (p : Reader α) : Reader (List α) := readNumber.andThen fun n => readItems p n

/-- A body holds exactly the kind's fields (R205, check 3): nothing may follow them. -/
def wholeBody {α : Type} (p : Reader α) (body : List Byte) : Option α :=
  match p body with
  | some (a, []) => some a
  | _ => none

/-! ## Request bodies

Each request carries its fields in the order of its parentheses (R204). -/

def readUnit : Reader Unit := readDone ()

def readHello : Reader HelloBody := readIdent.andThen fun n => readSmall.andThen fun b =>
  readNumber.andThen fun f => readNumber.andThen fun g => readDone ⟨n, b, f, g⟩

def readAhead : Reader AheadBody := readFlag.andThen fun f => (readList readIdent).andThen fun ids => readDone ⟨f, ids⟩

def readReturn : Reader ReturnBody := readIdent.andThen fun i => readNumber.andThen fun n => readDone ⟨i, n⟩

def readAnnounce : Reader AnnounceBody := readIdent.andThen fun i => readSmall.andThen fun c =>
  readFlag.andThen fun h => readDone ⟨i, c, h⟩

def readWithdraw : Reader WithdrawBody := readIdent.andThen fun i => readFlag.andThen fun w => readDone ⟨i, w⟩

def readSetClass : Reader SetClassBody := readIdent.andThen fun i => readSmall.andThen fun c => readDone ⟨i, c⟩

def readVerdict : Reader VerdictBody := readIdent.andThen fun i =>
  (readChoice [.pass, .fail]).andThen fun o => readDone ⟨i, o⟩

def readCensus : Reader CensusBody := readSmall.andThen fun a => readSmall.andThen fun b => readDone ⟨a, b⟩

/-- Match mode, then prefix, or base slot and length (R182, R183). DESIGN CHOICE (log entry 11): the fields of the mode follow
it bare, and those of the other mode are not carried. -/
def readMatch : Reader MatchField := (readChoice [false, true]).andThen fun slots =>
  if slots then readNumber.andThen fun b => readNumber.andThen fun n => readDone (.bySlots b n)
  else readIdent.andThen fun p => readDone (.byPrefix p)

def readIntercept : Reader InterceptBody := readSmall.andThen fun e => (readSet 3).andThen fun r =>
  (readSet 10).andThen fun k => readMatch.andThen fun m =>
    (readChoice [.note, .hold, .divert]).andThen fun a => readDone ⟨e, r, k, m, a⟩

def readZone : Reader ZoneBody := readSmall.andThen fun e => readSmall.andThen fun b => readSmall.andThen fun l =>
  (readSet 8).andThen fun c => (readSet 6).andThen fun v => readSmall.andThen fun p => readDone ⟨e, b, l, c, v, p⟩

def readClass : Reader ClassBody := readSmall.andThen fun c => (readOptional readNumber).andThen fun d =>
  (readOptional readNumber).andThen fun l => (readOptional readNumber).andThen fun a => readDone ⟨c, d, l, a⟩

def readPortSet : Reader PortSetBody := readSmall.andThen fun p => readSmall.andThen fun w => readFlag.andThen fun y =>
  readSmall.andThen fun r => readNumber.andThen fun t => readSmall.andThen fun a => readNumber.andThen fun c =>
    readDone ⟨p, w, y, r, t, a, c⟩

def readTiming : Reader TimingBody := (readOptional readNumber).andThen fun s => (readOptional readSmall).andThen fun w =>
  (readOptional readSmall).andThen fun r => (readOptional readSmall).andThen fun b =>
    (readOptional readSmall).andThen fun i => (readOptional readNumber).andThen fun pk =>
      (readOptional readNumber).andThen fun pl => (readOptional readNumber).andThen fun g =>
        readDone ⟨s, w, r, b, i, pk, pl, g⟩

def readSetCondition : Reader SetConditionBody := readIdent.andThen fun i =>
  (readChoice [.ready, .due, .quarantine]).andThen fun c => readDone ⟨i, c⟩

/-! ## Requests of two or three rows

QZONE, QINTERCEPT, SET_SLOT and RESOLVE choose their row by a choice field. A body out of form spells the first row with no
body, which is answered as any row of the kind is. -/

def readQZone (l : ReqLink) (tag : Byte) : Reader Instr := (readChoice [false, true]).andThen fun slot =>
  if slot then readNumber.andThen fun n => readDone (.qZoneSlot l tag (some n))
  else readSmall.andThen fun n => readDone (.qZoneEntry l tag (some n))

def readQIntercept (l : ReqLink) (tag : Byte) : Reader Instr := (readChoice [false, true]).andThen fun all =>
  if all then readDone (.qInterceptAll l tag (some ()))
  else readSmall.andThen fun n => readDone (.qInterceptEntry l tag (some n))

def readSetSlot (l : ReqLink) (tag : Byte) : Reader Instr := readNumber.andThen fun n =>
  (readChoice [false, true]).andThen fun fill =>
    if fill then readIdent.andThen fun i => readSmall.andThen fun c => readDone (.setSlotReticle l tag (some ⟨n, i, c⟩))
    else readDone (.setSlotEmpty l tag (some n))

def readResolve (l : ReqLink) (tag : Byte) : Reader Instr :=
  readChoice [.resolveAtTarget l tag (some ()), .resolveAtSource l tag (some ()), .resolveRemoved l tag (some ())]

/-- The command a good frame on a request link spells (R205). -/
def decodeRequest (l : ReqLink) (kind tag : Byte) (body : List Byte) : Instr :=
  match frameKindOf kind with
  | some .hello => .hello l tag (wholeBody readHello body)
  | some .alive => .alive l tag (wholeBody readUnit body)
  | some .call => .call l tag (wholeBody readIdent body)
  | some .cancel => .cancel l tag (wholeBody readIdent body)
  | some .ahead => .ahead l tag (wholeBody readAhead body)
  | some .returnLots => .returnLots l tag (wholeBody readReturn body)
  | some .portState => .portState l tag (wholeBody readUnit body)
  | some .announce => .announce l tag (wholeBody readAnnounce body)
  | some .unannounce => .unannounce l tag (wholeBody readIdent body)
  | some .exportOut => .exportOut l tag (wholeBody readWithdraw body)
  | some .hold => .hold l tag (wholeBody readIdent body)
  | some .release => .release l tag (wholeBody readIdent body)
  | some .setClass => .setClass l tag (wholeBody readSetClass body)
  | some .inspect => .inspect l tag (wholeBody readWithdraw body)
  | some .verdict => .verdict l tag (wholeBody readVerdict body)
  | some .census => .census l tag (wholeBody readCensus body)
  | some .censusStop => .censusStop l tag (wholeBody readUnit body)
  | some .interceptSet => .interceptSet l tag (wholeBody readIntercept body)
  | some .ack => .ack l tag (wholeBody (readSet 16) body)
  | some .mask => .mask l tag (wholeBody (readSet 16) body)
  | some .qReticle => .qReticle l tag (wholeBody readIdent body)
  | some .qSlot => .qSlot l tag (wholeBody readNumber body)
  | some .qZone => (wholeBody (readQZone l tag) body).getD (.qZoneEntry l tag none)
  | some .qPort => .qPort l tag (wholeBody readSmall body)
  | some .qQueue => .qQueue l tag (wholeBody readUnit body)
  | some .qIntercept => (wholeBody (readQIntercept l tag) body).getD (.qInterceptEntry l tag none)
  | some .zoneSet => .zoneSet l tag (wholeBody readZone body)
  | some .classSet => .classSet l tag (wholeBody readClass body)
  | some .portSet => .portSet l tag (wholeBody readPortSet body)
  | some .portOpen => .portOpen l tag (wholeBody readSmall body)
  | some .portClose => .portClose l tag (wholeBody readSmall body)
  | some .timingSet => .timingSet l tag (wholeBody readTiming body)
  | some .setSlot => (wholeBody (readSetSlot l tag) body).getD (.setSlotEmpty l tag none)
  | some .forget => .forget l tag (wholeBody readIdent body)
  | some .setCondition => .setCondition l tag (wholeBody readSetCondition body)
  | some .resume => .resume l tag (wholeBody readUnit body)
  | some .resolve => (wholeBody (readResolve l tag) body).getD (.resolveAtTarget l tag none)
  | some .restart => .restart l tag (wholeBody readUnit body)
  | _ => .unknownRequestKind l tag kind

/-! ## Reports (R145, R208) -/

/-- One result of a SCANNED report. -/
def readScanResult : Reader ScanResult := readByte.andThen fun b =>
  if b = 0 then readDone .empty
  else if b = 1 then readIdent.andThen fun i => readDone (.ident i)
  else if b = 2 then readDone .unreadable
  else readFail

/-- The eight results of a SCANNED report in slot order. -/
def readResults : Reader (Vector ScanResult 8) := readScanResult.andThen fun a => readScanResult.andThen fun b =>
  readScanResult.andThen fun c => readScanResult.andThen fun d => readScanResult.andThen fun e =>
    readScanResult.andThen fun f => readScanResult.andThen fun g => readScanResult.andThen fun h =>
      readDone #v[a, b, c, d, e, f, g, h]

/-- The identifier read at a pick, or NOREAD. -/
def readPick : Reader ReadId := (readOptional readIdent).andThen fun x =>
  readDone (match x with
    | some i => .ident i
    | none => .noread)

/-- The fault code and the gripper of a FAULT. -/
def readFault : Reader (Byte × Bool) := readByte.andThen fun c => readFlag.andThen fun g => readDone (c, g)

/-- A report, or HANDLER_FRAME_NOT_TAKEN when its body is out of form (R145, R208). -/
def reportOr {α : Type} (f : α → Instr) : Option α → Instr
  | some a => f a
  | none => .handlerFrameNotTaken

/-- The command a good frame on the handler link spells (R208). -/
def decodeReport (kind number : Byte) (body : List Byte) : Instr :=
  match frameKindOf kind with
  | some .picked => reportOr (.picked number) (wholeBody readPick body)
  | some .sourceEmpty => reportOr (fun _ => .sourceEmpty number) (wholeBody readUnit body)
  | some .placed => reportOr (fun _ => .placed number) (wholeBody readUnit body)
  | some .occupied => reportOr (fun _ => .occupied number) (wholeBody readUnit body)
  | some .scanned => reportOr (.scanned number) (wholeBody readResults body)
  | some .fault => reportOr (fun x => .faultReport number x.1 x.2) (wholeBody readFault body)
  | some .restarted => reportOr (.restarted number) (wholeBody readFlag body)
  | _ => .handlerFrameNotTaken

/-- The command a good frame on a link spells. -/
def decodeFrame (l : Link) (kind tag : Byte) (body : List Byte) : Instr :=
  match l with
  | .request r => decodeRequest r kind tag body
  | .handler => decodeReport kind tag body

end Sys2Proof
end

