-- ==== Sys2Proof/Machine/Types.lean ====
section
/-! DEFINITION. The types of the machine's state: slot entries, catalogue records, zone, port, call-ahead, nest, move,
handler, life, intercept, census and notice records, each with the fields the spec gives it. -/

namespace Sys2Proof.Machine

/-! ## Positions -/

/-- A position as notices, orders and answers name it (R144, R204): a slot, a nest, or a shelf. -/
inductive Position where
  | slot (n : Slot)
  | nest (x : Nest)
  | shelf (n : Shelf)
  deriving DecidableEq, Repr

/-- The location kinds of a record with their index (chapter 0, Location kinds; R10). -/
inductive Location where
  | slot (n : Slot)
  | gripper
  | nest (x : Nest)
  | tool (p : Port)
  | inspection
  | unlocated
  deriving DecidableEq, Repr

/-! ## Inventory (chapter 1) -/

/-- A slot entry: its state and the fields that state carries, as the two tables of R3 give. -/
inductive SlotEntry where
  | empty
  | filled (id : Ident)
  | inbound (expected : Option Ident) (move : Seq)
  | outbound (id : Ident) (move : Seq)
  | unknown
  | fault (found : Option Ident)
  deriving DecidableEq, Repr

/-- A catalogue record (R10). The three counters hold 0 to 65535 (R18). -/
structure Rec where
  id : Ident
  cls : ClassNo
  location : Location
  condition : Condition
  held : Bool
  suspect : Bool
  verdictOwed : Bool
  binding : Option Seq
  home : Option (Fin 384)
  deliveries : Fin 65536
  lots : Fin 65536
  air : Fin 65536
  deriving DecidableEq, Repr

/-! ## Zones (chapter 2) -/

/-- A zone entry (R31). -/
structure ZoneEntry where
  base : Shelf
  limit : Shelf
  classMask : BitVec 8
  serveMask : BitVec 6
  purge : Fin 4
  deriving DecidableEq, Repr

/-- The resolution of a shelf's slots before R35 is applied: the entries matched, the two unions, and the one purge
class, absent when the matches disagree (R34). -/
structure Resolution where
  matched : List (Fin 8)
  classMask : BitVec 8
  serveUnion : BitVec 6
  purge : Option (Fin 4)
  deriving DecidableEq, Repr

/-! ## Tool ports (chapter 3) -/

/-- Port states (R48). -/
inductive PortState where
  | closed
  | silent
  | attached
  deriving DecidableEq, Repr

/-- The seven states of nest Tp (R56). -/
inductive ToolNest where
  | empty
  | inbound
  | outWait
  | outLapsed
  | returned
  | outbound
  | blocked
  deriving DecidableEq, Repr

/-- The two uses of a port's window timer (R48). -/
inductive WindowUse where
  | collect
  | returnWait
  deriving DecidableEq, Repr

/-- A running window timer: its use and the seconds left. -/
structure WindowTimer where
  use : WindowUse
  left : Nat
  deriving DecidableEq, Repr

/-- The liveness values HELLO stores: the base (set for 1 s, clear for 0.1 s) and the two factors (R48, R51). -/
structure Liveness where
  oneSecond : Bool
  f1 : Nat
  f2 : Nat
  deriving DecidableEq, Repr

/-- The settings PORT_SET writes (R48, R49). -/
structure PortSettings where
  weight : Fin 8
  priority : Bool
  agingRate : Fin 16
  tenureLimit : Fin 4
  anchor : Shelf
  windowCount : Fin 256
  deriving DecidableEq, Repr

/-- A lot report that waits for its pod (R68). -/
structure PendingReturn where
  id : Ident
  lots : Nat
  deriving DecidableEq, Repr

/-- A port record (R48). `livenessLeft` is the liveness timer in tenths of a second, absent when idle; `window` is the
window timer, absent when idle. -/
structure PortRec where
  state : PortState
  name : Option Ident
  settings : PortSettings
  liveness : Option Liveness
  pendingReturn : Option PendingReturn
  lateOpen : Bool
  lapseDeferred : Bool
  nest : ToolNest
  livenessLeft : Option Nat
  window : Option WindowTimer
  deriving DecidableEq, Repr

/-! ## Call-ahead lists (chapter 4) -/

/-- A list entry (R78). -/
structure AheadEntry where
  id : Ident
  consumed : Bool
  deriving DecidableEq, Repr

/-- The roles of a call-ahead buffer (R77). -/
inductive Role where
  | fill
  | next
  | active
  deriving DecidableEq, Repr

/-- The three call-ahead buffers of a port: which buffer holds each role, and each buffer's content, `none` for an empty
buffer and `some []` for a list of no entries (R77). -/
structure CallAhead where
  fill : Fin 3
  next : Fin 3
  active : Fin 3
  lists : Vector (Option (List AheadEntry)) 3
  deriving DecidableEq, Repr

/-! ## Fab side (chapter 5) -/

/-- An announcement list entry (R93). -/
structure Announcement where
  id : Ident
  cls : ClassNo
  hold : Bool
  deriving DecidableEq, Repr

/-- The four states of BI (R96). -/
inductive BiNest where
  | empty
  | arrived
  | outbound
  | blocked
  deriving DecidableEq, Repr

/-- The four states of BO (R101). -/
inductive BoNest where
  | empty
  | inbound
  | awayWait
  | blocked
  deriving DecidableEq, Repr

/-- The six states of IN (R108). -/
inductive InNest where
  | empty
  | inbound
  | awayWait
  | arrived
  | outbound
  | blocked
  deriving DecidableEq, Repr

/-! ## Moves (chapter 6) -/

/-- The ten move kinds in the order of the move kinds table (R116). -/
inductive MoveKind where
  | deliver
  | collect
  | reclaim
  | stockOut
  | stockIn
  | inspectOut
  | reshelve
  | prestage
  | destage
  | scan
  deriving DecidableEq, Repr

/-- The requesters of a move (R114). -/
inductive Requester where
  | material
  | tool (p : Port)
  | service
  | internal
  deriving DecidableEq, Repr

/-- The pick tests (R114). -/
inductive PickTest where
  | named
  | anyAtTool
  | anyAtInspection
  | stockIn
  | none
  deriving DecidableEq, Repr

/-- A move's target: a position, "to be selected", or none held after an occupied store target (R114, R157). -/
inductive Target where
  | pos (x : Position)
  | toSelect
  | noTarget
  deriving DecidableEq, Repr

/-- The states of a move entry (R115). -/
inductive MoveState where
  | waiting
  | executing
  deriving DecidableEq, Repr

/-- A move entry (R114). The beneficiary is a port, or `none` for the material side. -/
structure Move where
  seq : Seq
  kind : MoveKind
  requester : Requester
  beneficiary : Option Port
  reticle : Option Ident
  pickTest : PickTest
  source : Position
  target : Target
  listPosition : Option (Fin 2)
  enqueued : Clock
  state : MoveState
  diverted : Bool
  holdOnCompletion : Bool
  standDown : Bool
  deriving DecidableEq, Repr

/-- A move as a block offers it (R117). -/
structure Offer where
  kind : MoveKind
  requester : Requester
  beneficiary : Option Port
  reticle : Option Ident
  pickTest : PickTest
  source : Position
  target : Target
  listPosition : Option (Fin 2)
  deriving DecidableEq, Repr

/-- The tenure record (R135). -/
structure Tenure where
  port : Option Port
  count : Nat
  deriving DecidableEq, Repr

/-- The dispatch settings (R140). -/
structure DispatchSettings where
  starvation : Nat
  materialWeight : Fin 8
  materialRate : Fin 16
  bulkAnchor : Shelf
  inspectionAnchor : Shelf
  deriving DecidableEq, Repr

/-! ## Handler interface (chapter 7) -/

/-- The seven states of the handler interface (R147). -/
inductive HandlerState where
  | idle
  | picking
  | carrying
  | placing
  | putback
  | scanning
  | halted
  deriving DecidableEq, Repr

/-- The phases an execution record keeps (R147). -/
inductive Phase where
  | picking
  | carrying
  | placing
  | putback
  | scanning
  deriving DecidableEq, Repr

/-- The putback causes (R147). -/
inductive PutbackCause where
  | mismatch
  | occupiedNest
  | occupiedStaging
  deriving DecidableEq, Repr

/-- The execution record (R147). -/
structure ExecRecord where
  move : Option Seq
  phase : Option Phase
  cause : Option PutbackCause
  read : Option ReadId
  retargets : Fin 2
  deriving DecidableEq, Repr

/-- The halt codes (R147, R161). -/
inductive HaltCode where
  | timeout
  | restarted
  | unexpected
  | noTarget
  | occupiedTwice
  | robot (code : Byte)
  deriving DecidableEq, Repr

/-- What a halt record says of the gripper (R147). -/
inductive GripperState where
  | loaded
  | empty
  | unknown
  deriving DecidableEq, Repr

/-- The halt record (R147). -/
structure HaltRecord where
  code : HaltCode
  gripper : GripperState
  deriving DecidableEq, Repr

/-- The handler interface: its state, its two records, the number of the last order sent and whether no IDLE or HALTED has
followed it (R146), the seconds left on the running timer, the two timeouts (R148), and whether a RESTART is pending
(R168). -/
structure Handler where
  state : HandlerState
  exec : Option ExecRecord
  halt : Option HaltRecord
  orderNumber : Byte
  numberCurrent : Bool
  timer : Option Nat
  pickTimeout : Nat
  placeTimeout : Nat
  restartPending : Bool
  deriving DecidableEq, Repr

/-! ## Life accounting, intercepts, census (chapters 8 to 10) -/

/-- A class entry: the three limits, 0 for none (R170). -/
structure ClassLimits where
  delivery : Fin 65536
  lot : Fin 65536
  air : Fin 16384
  deriving DecidableEq, Repr

/-- What an intercept entry tests (R182, R185). -/
inductive InterceptMatch where
  | byPrefix (chars : Ident)
  | bySlots (base : Slot) (length : Nat)
  deriving DecidableEq, Repr

/-- An intercept entry (R182). Requester flags are MATERIAL 0, TOOL 1, INTERNAL 2; kinds are in the order of R116. -/
structure InterceptEntry where
  requesterMask : BitVec 3
  kindMask : BitVec 10
  matching : InterceptMatch
  action : InterceptAction
  hits : Fin 256
  deriving DecidableEq, Repr

/-- The state of an intercept entry as answers report it (R182). -/
inductive InterceptState where
  | active
  | disabled
  | invalid
  deriving DecidableEq, Repr

/-- Census states (R193). -/
inductive CensusState where
  | idle
  | running
  | stopping
  deriving DecidableEq, Repr

/-- The tally of the census now running or last run (R193). -/
structure Tally where
  scanned : Nat
  skipped : Nat
  created : Nat
  relocated : Nat
  faulted : Nat
  deriving DecidableEq, Repr

/-- The census record (R193). `lowestFaulted` is the model's own memory of the lowest slot this census left in FAULT,
which the CENSUS_DONE notice reports (R197). -/
structure Census where
  state : CensusState
  range : Option (Shelf × Shelf)
  nextShelf : Option Shelf
  scan : Option Seq
  tally : Tally
  lowestFaulted : Option Slot
  deriving DecidableEq, Repr

/-! ## Notices and links (chapter 11) -/

/-- The sixteen notice kinds in the order of their table (R210). -/
inductive NoticeKind where
  | halted
  | noSlot
  | nestBlocked
  | zoneConflict
  | catalogueFull
  | mismatch
  | slotFault
  | lapsed
  | unsanctioned
  | returnUnreported
  | portSilent
  | due
  | intercept
  | censusDone
  | exported
  | portAttached
  deriving DecidableEq, Repr

/-- A notice's detail (R211). `second` is the second identifier that MISMATCH carries beside the expected one (R155,
R201). -/
structure Detail where
  reticle : Option Ident
  second : Option Ident
  position : Option Position
  port : Option Port
  code : Option Nat
  deriving DecidableEq, Repr

/-- One entry of a notice set (R211). -/
structure NoticeEntry where
  pending : Bool
  masked : Bool
  fresh : Bool
  detail : Detail
  deriving DecidableEq, Repr

/-- A notice set: an entry per kind, and the gap timer in seconds left, absent when idle (R211, R213). -/
structure NoticeSet where
  entries : Vector NoticeEntry 16
  gap : Option Nat
  deriving DecidableEq, Repr

/-- The receiver of one link: hunting, or inside a frame with the bytes taken so far, start byte first (R205). -/
inductive RxState where
  | hunting
  | inFrame (taken : List Byte)
  deriving DecidableEq, Repr

/-- The levels of the input lines: TBUSY0 to 5, the nine presence sensors, and AUTOCEN as last sampled. `putT` is the model's
own memory of what R58 has recorded: that a pod has been set down on an EMPTY nest Tp in the handshake now under way. -/
structure Pins where
  tbusy : Vector Bool 6
  presT : Vector Bool 6
  putT : Vector Bool 6
  presBi : Bool
  presBo : Bool
  presIn : Bool
  autocen : Bool
  deriving DecidableEq, Repr

end Sys2Proof.Machine
end

