-- ==== Sys2Proof/Machine/Answers.lean ====
section
/-! DEFINITION. The frames the part sends: orders, unrequested frames, NOTICE and ANSWER frames, with the fields the
owning rules give each answer. -/

namespace Sys2Proof.Machine

/-- The answer codes (R207), in the table's order. -/
inductive AnswerCode where
  | ok
  | badForm
  | notHere
  | portState
  | unknownReticle
  | elsewhere
  | notReady
  | held
  | bound
  | limit
  | zone
  | queueFull
  | noRoom
  | duplicate
  | intercepted
  | diverted
  | notHeldHere
  | notInspecting
  | notFound
  | tooLate
  | busy
  | state
  deriving DecidableEq, Repr

/-- The reasons of a WITHDRAWN frame (R75). -/
inductive Reason where
  | held
  | notReady
  | preempted
  | unlocated
  | restart
  deriving DecidableEq, Repr

/-- The outcomes of a MOVE_END frame (R164). -/
inductive MoveOutcome where
  | placed
  | mismatch
  | removed
  deriving DecidableEq, Repr

/-- The answer of QRETICLE: the record, and its binding with the bound move's kind and state (R29). -/
structure ReticleAnswer where
  record : Rec
  bound : Option (Seq × MoveKind × MoveState)
  deriving DecidableEq, Repr

/-- Where QSLOT says a slot stands: its shelf, or its port and staging position (R30). -/
inductive SlotPlace where
  | shelf (n : Shelf)
  | staging (p : Port) (position : Fin 2)
  deriving DecidableEq, Repr

/-- The answer of QSLOT (R30). -/
structure SlotAnswer where
  slot : Slot
  entry : SlotEntry
  place : SlotPlace
  moveKind : Option MoveKind
  deriving DecidableEq, Repr

/-- The current number of conflicted slots and the lowest of them, carried by both forms of QZONE (R47). -/
structure ConflictSummary where
  count : Nat
  lowest : Option (Fin 384)
  deriving DecidableEq, Repr

/-- QZONE(ENTRY, n) (R47). -/
structure ZoneEntryAnswer where
  entry : ZoneEntry
  enabled : Bool
  conflicts : ConflictSummary
  deriving DecidableEq, Repr

/-- The resolution part of QZONE(SLOT, s): for a storage slot its shelf, matches, masks and purge class, with `none` for
CONFLICTED; or the word STAGING (R47). -/
inductive ZoneSlotPart where
  | storage (shelf : Shelf) (matched : List (Fin 8)) (classMask : BitVec 8) (serveMask : BitVec 6)
      (purge : Option (Fin 4))
  | staging
  deriving DecidableEq, Repr

/-- QZONE(SLOT, s) (R47). -/
structure ZoneSlotAnswer where
  part : ZoneSlotPart
  conflicts : ConflictSummary
  deriving DecidableEq, Repr

/-- What the window of PORTSTATE and QPORT says of an entry (R92). -/
inductive WindowStatus where
  | staged
  | boundPrestage (state : MoveState)
  | boundOther
  | waitingForSlot
  deriving DecidableEq, Repr

/-- One call-ahead buffer as answers report it: its role, and whether it is empty or holds a list (R92). -/
structure BufferAnswer where
  role : Role
  holdsList : Bool
  deriving DecidableEq, Repr

/-- One entry of the NEXT or ACTIVE list as answers report it, its list position counted from 0 (R78, R92). -/
structure ListEntryAnswer where
  id : Ident
  position : Nat
  consumed : Bool
  deriving DecidableEq, Repr

/-- The call-ahead state in PORTSTATE and QPORT (R92). -/
structure AheadAnswer where
  buffers : List BufferAnswer
  next : List ListEntryAnswer
  active : List ListEntryAnswer
  window : List (Ident × WindowStatus)
  destages : Nat
  deriving DecidableEq, Repr

/-- PORTSTATE and QPORT (R76, R92). The liveness period is held in tenths of a second (R52); putPeriod sends it. -/
structure PortAnswer where
  state : PortState
  name : Option Ident
  period : Option Nat
  settings : PortSettings
  nest : ToolNest
  prdy : Bool
  pfree : Bool
  tbusy : Bool
  pres : Bool
  onNest : Option Ident
  window : Option WindowTimer
  pendingReturn : Option PendingReturn
  lateOpen : Bool
  checkedOut : Nat
  staging0 : SlotEntry
  staging1 : SlotEntry
  ahead : AheadAnswer
  deriving DecidableEq, Repr

/-- The first condition of R124 that fails for a waiting move (R143); the set of values is the model's (log entry 12). -/
inductive Ineligible where
  | nestNotEmpty
  | toolBusy
  | notAttached
  | notAtSource
  | noCandidate
  | catalogueFull
  | stagingNotEmpty
  deriving DecidableEq, Repr

/-- What QQUEUE adds for a WAITING entry: the first failing condition (absent when eligible), its urgency, whether it is
overdue, and for a store move its candidate (R143). -/
structure WaitingAnswer where
  failing : Option Ineligible
  urgency : Nat
  overdue : Bool
  store : Bool
  candidate : Option Slot
  deriving DecidableEq, Repr

/-- One queue entry in QQUEUE (R143). -/
structure EntryAnswer where
  move : Move
  age : Nat
  waiting : Option WaitingAnswer
  deriving DecidableEq, Repr

/-- Whether QQUEUE reports the handler IDLE, HALTED or executing (R143). -/
inductive HandlerSummary where
  | idle
  | halted
  | executing
  deriving DecidableEq, Repr

/-- The dispatcher's part of QQUEUE (R143). -/
structure DispatcherAnswer where
  entries : List EntryAnswer
  linkCount : Nat
  internalCount : Nat
  tenure : Tenure
  settings : DispatchSettings
  nextSeq : Seq
  handler : HandlerSummary
  restartPending : Bool
  deriving DecidableEq, Repr

/-- The material request unit's part of QQUEUE (R113). -/
structure MaterialAnswer where
  announcements : List Announcement
  bi : BiNest
  bo : BoNest
  inn : InNest
  presBi : Bool
  presBo : Bool
  presIn : Bool
  bordy : Bool
  irdy : Bool
  onBo : Option Ident
  onIn : Option Ident
  accepted : Option Ident
  inspectionOut : Nat
  atInspection : Nat
  deriving DecidableEq, Repr

/-- The handler interface's part of QQUEUE (R169). -/
structure HandlerAnswer where
  state : HandlerState
  restartPending : Bool
  current : Option Byte
  timer : Option Nat
  exec : Option ExecRecord
  halt : Option HaltRecord
  deriving DecidableEq, Repr

/-- The census record in QQUEUE (R203): the next shelf and the scan only while a census runs. -/
structure CensusAnswer where
  state : CensusState
  range : Option (Shelf × Shelf)
  nextShelf : Option Shelf
  scan : Option Seq
  tally : Tally
  deriving DecidableEq, Repr

/-- QQUEUE (R143, R113, R169, R203). -/
structure QueueAnswer where
  dispatcher : DispatcherAnswer
  material : MaterialAnswer
  handler : HandlerAnswer
  census : CensusAnswer
  deriving DecidableEq, Repr

/-- An intercept entry as INTERCEPT_SET and QINTERCEPT answer it (R183, R192). -/
structure InterceptAnswer where
  entry : InterceptEntry
  state : InterceptState
  deriving DecidableEq, Repr

/-- What TIMING_SET answers: every value stored (R140). -/
structure TimingAnswer where
  settings : DispatchSettings
  pickTimeout : Nat
  placeTimeout : Nat
  noticeGap : Nat
  deriving DecidableEq, Repr

/-- One kind of a notice set as ACK and MASK answer it (R212). -/
structure NoticeSetItem where
  pending : Bool
  masked : Bool
  detail : Detail
  deriving DecidableEq, Repr

/-- What CENSUS_STOP's answer says (R199). -/
inductive StopWord where
  | idle
  | stopped
  | pending
  deriving DecidableEq, Repr

/-- The fields of an ANSWER after its code (R206). -/
inductive AnswerFields where
  | none
  | portState (state : PortState)
  | entryNumber (n : Fin 16)
  | ahead (kept dropped : Nat) (role : Role)
  | announced (position count : Nat)
  | remaining (count : Nat)
  | zoneStored (entry : ZoneEntry)
  | portStored (settings : PortSettings)
  | classLimits (limits : ClassLimits) (madeDue : Nat)
  | timing (values : TimingAnswer)
  | intercept (entry : InterceptAnswer)
  | intercepts (entries : List InterceptAnswer)
  | noticeSet (items : List NoticeSetItem)
  | censusRange (first last : Shelf)
  | censusStop (word : StopWord)
  | restart (pending : Bool)
  | reticle (a : ReticleAnswer)
  | slot (a : SlotAnswer)
  | zoneEntry (a : ZoneEntryAnswer)
  | zoneSlot (a : ZoneSlotAnswer)
  | port (a : PortAnswer)
  | queue (a : QueueAnswer)
  deriving DecidableEq, Repr

/-- One kind as a NOTICE frame carries it (R213). -/
structure NoticeItem where
  kind : NoticeKind
  detail : Detail
  fresh : Bool
  conditionHolds : Bool
  deriving DecidableEq, Repr

/-- A frame handed to a transmitter. Orders carry their number in the tag; unrequested frames carry tag 0 (R204, R208). -/
inductive OutFrame where
  | answer (tag : Byte) (kind : Byte) (code : AnswerCode) (fields : AnswerFields)
  | notice (items : List NoticeItem)
  | ready (id : Ident)
  | lapsed (id : Ident)
  | withdrawn (id : Ident) (reason : Reason)
  | moveEnd (id : Ident) (seq : Seq) (outcome : MoveOutcome)
  | move (number : Byte) (source target : Position) (expected : Option Ident)
  | place (number : Byte) (target : Position)
  | scan (number : Byte) (shelf : Shelf)
  deriving DecidableEq, Repr

end Sys2Proof.Machine
end

