-- ==== Sys2Proof/Machine/State.lean ====
section
/-! DEFINITION. The machine's state as plain data, its faults and refusals, and the state after reset. -/

namespace Sys2Proof.Machine

/-- Everything the spec gives the part. `choices` and `pending` are the model's own: how many free choices have been
drawn where the manual sets no order, and the commands that are waiting. `tx` holds, per link, the frames handed to the
transmitter, oldest first (R206). -/
structure State where
  clock : Clock
  tickPhase : Fin 60
  slots : Vector SlotEntry 396
  catalogue : List Rec
  zones : Vector ZoneEntry 8
  noSlot : Bool
  ports : Vector PortRec 6
  ahead : Vector CallAhead 6
  announcements : List Announcement
  bi : BiNest
  bo : BoNest
  inn : InNest
  queue : List Move
  nextSeq : Seq
  tenure : Tenure
  settings : DispatchSettings
  handler : Handler
  classes : Vector ClassLimits 8
  intercepts : Vector InterceptEntry 16
  census : Census
  materialNotices : NoticeSet
  serviceNotices : NoticeSet
  noticeGap : Nat
  pins : Pins
  rx : Vector RxState 9
  tx : Vector (List OutFrame) 9
  choices : Nat
  pending : List Instr
  deriving DecidableEq, Repr

/-- No command of the block faults: the manual gives every command an outcome in every state. The type has no
constructor, so no step can stop with a fault. -/
inductive Fault where
  deriving DecidableEq, Repr

/-- Why a command is refused by the model. -/
inductive Refusal where
  /-- Raised by exec for a row that has no meaning yet; safe, since the machine stops. -/
  | notModelled (mnemonic : String)
  deriving DecidableEq, Repr

/-- A zone entry at power-on, disabled (R32). -/
def resetZone : ZoneEntry := ⟨0, 0, 0, 0, 0⟩

/-- A port record at power-on with its nest empty: SILENT, with the settings of R48's last column; the anchor is 8p. -/
def resetPort (anchor : Shelf) : PortRec where
  state := .silent
  name := none
  settings := ⟨0, false, 4, 1, anchor, 30⟩
  liveness := none
  pendingReturn := none
  lateOpen := false
  lapseDeferred := false
  nest := .empty
  livenessLeft := none
  window := none

/-- Call-ahead buffers at power-on: buffer 0 FILL, 1 NEXT, 2 ACTIVE, all empty (R77). -/
def resetAhead : CallAhead := ⟨0, 1, 2, Vector.replicate 3 none⟩

/-- The handler interface at power-on (R146, R147, R148). -/
def resetHandler : Handler := ⟨.idle, none, none, 0, false, none, 30, 30, false⟩

/-- An intercept entry at power-on (R182). -/
def resetIntercept : InterceptEntry := ⟨0, 0, .bySlots 0 1, .note, 0⟩

/-- The census record at power-on with AUTOCEN low (R193, R196). -/
def resetCensus : Census := ⟨.idle, none, none, none, ⟨0, 0, 0, 0, 0⟩, none⟩

/-- A notice set at power-on (R214). -/
def resetNotices : NoticeSet := ⟨Vector.replicate 16 ⟨false, false, false, ⟨none, none, none, none, none⟩⟩, none⟩

/-- Every input line low (no pod on any nest, no loader working, AUTOCEN low). -/
def resetPins : Pins :=
  ⟨Vector.replicate 6 false, Vector.replicate 6 false, Vector.replicate 6 false, false, false, false, false⟩

/-- The part right after power-on reset with every nest empty and AUTOCEN low: the power-on value each chapter gives. -/
def State.reset : State where
  clock := 0
  tickPhase := 0
  slots := Vector.replicate 396 .unknown
  catalogue := []
  zones := Vector.replicate 8 resetZone
  noSlot := false
  ports := #v[resetPort 0, resetPort 8, resetPort 16, resetPort 24, resetPort 32, resetPort 40]
  ahead := Vector.replicate 6 resetAhead
  announcements := []
  bi := .empty
  bo := .empty
  inn := .empty
  queue := []
  nextSeq := 0
  tenure := ⟨none, 0⟩
  settings := ⟨600, 2, 4, 24, 47⟩
  handler := resetHandler
  classes := Vector.replicate 8 ⟨0, 0, 0⟩
  intercepts := Vector.replicate 16 resetIntercept
  census := resetCensus
  materialNotices := resetNotices
  serviceNotices := resetNotices
  noticeGap := 2
  pins := resetPins
  rx := Vector.replicate 9 .hunting
  tx := Vector.replicate 9 []
  choices := 0
  pending := []

end Sys2Proof.Machine
end

