-- ==== Sys2Proof/Machine/Operands.lean ====
section
/-! DEFINITION. The operand forms: identifiers and names, selectors that are checked, settings that are clamped, slot,
shelf and staging arithmetic, and the readings of the two wrapping counters. -/

namespace Sys2Proof.Machine

/-! ## Identifiers (R2, R204) -/

/-- The identifier characters: A to Z, 0 to 9, the hyphen and the full stop (R2, R204). -/
def identChar (b : Byte) : Bool :=
  (0x41 ≤ b.toNat && b.toNat ≤ 0x5A) || (0x30 ≤ b.toNat && b.toNat ≤ 0x39) || b.toNat == 0x2D || b.toNat == 0x2E

/-- An identifier is 1 to 12 identifier characters; any other is malformed (R2). -/
def identOk (id : Ident) : Bool := 1 ≤ id.length && id.length ≤ 12 && id.all identChar

/-- A tool name is 1 to 16 identifier characters (R51). -/
def nameOk (name : Ident) : Bool := 1 ≤ name.length && name.length ≤ 16 && name.all identChar

/-! ## Selectors and clamped settings (R209) -/

/-- A selector of n members: the member, or none when it is outside (R209: selectors are checked, not clamped). -/
def selector (n x : Nat) : Option (Fin n) := if h : x < n then some ⟨x, h⟩ else none

/-- A setting of range 0 to n, taken to the nearest end when it is out of range (R209). -/
def clampTo (n x : Nat) : Fin (n + 1) := ⟨min x n, by omega⟩

/-- A setting of range lo to hi, clamped (R148, R213). -/
def clampBetween (lo hi x : Nat) : Nat := max lo (min x hi)

/-- The starvation limit as stored: 0 is kept, 1 to 29 becomes 30, above 3600 becomes 3600 (R140). -/
def clampStarvation (x : Nat) : Nat := if x = 0 then 0 else clampBetween 30 3600 x

/-- A counter of a record after an addition, saturating at 65535 (R176). -/
def satAdd (c : Fin 65536) (n : Nat) : Fin 65536 := clampTo 65535 (c.val + n)

/-! ## Slots and shelves -/

/-- A storage slot is 0 to 383 (R3). -/
def isStorage (n : Slot) : Bool := n.val < 384

/-- The storage slot number as a home slot holds it, none for a staging slot (R15). -/
def toStorage (n : Slot) : Option (Fin 384) := if h : n.val < 384 then some ⟨n.val, h⟩ else none

/-- A home slot as a slot of the slot table. -/
def ofStorage (n : Fin 384) : Slot := ⟨n.val, by omega⟩

/-- The shelf of a storage slot, s div 8. -/
def shelfOf (n : Fin 384) : Shelf := ⟨n.val / 8, by omega⟩

/-- Slot k of a shelf, 8n + k. -/
def shelfSlot (n : Shelf) (k : Fin 8) : Slot := ⟨8 * n.val + k.val, by omega⟩

/-- Staging position k of port p is slot 384 + 2p + k. -/
def stagingSlot (p : Port) (k : Fin 2) : Slot := ⟨384 + 2 * p.val + k.val, by omega⟩

/-- The port that owns a staging slot and its staging position; none for a storage slot. -/
def stagingOwner (n : Slot) : Option (Port × Fin 2) :=
  if n.val < 384 then none else some (⟨(n.val - 384) / 2, by omega⟩, ⟨(n.val - 384) % 2, by omega⟩)

/-- Whether a slot is one of port p's two staging slots. -/
def isStagingOf (p : Port) (n : Slot) : Bool := decide (n = stagingSlot p 0) || decide (n = stagingSlot p 1)

/-- The ports in ascending order. -/
def allPorts : List Port := [0, 1, 2, 3, 4, 5]

/-- Distance between two shelves, |a − b|. -/
def shelfDistance (a b : Shelf) : Nat := (a.val - b.val) + (b.val - a.val)

/-! ## The wrapping counters (R1, R118) -/

/-- The age at reading b of the earlier reading a: b − a across the wrap (R1). -/
def ageAt (b a : BitVec 32) : Nat := (b - a).toNat

/-- Of two readings, a is the earlier when b − a is below 2,147,483,648 (R1); sequence numbers alike (R118). -/
def earlier (a b : BitVec 32) : Bool := ageAt b a < 2147483648

/-! ## Time values of a port (R48, R52) -/

/-- The window length c × 10 seconds, with c = 0 taken as 256 (R48). -/
def windowLength (c : Fin 256) : Nat := if c.val = 0 then 2560 else c.val * 10

/-- HELLO's factor: 0 is taken as 1 and above 255 as 255 (R51). -/
def clampFactor (x : Nat) : Nat := clampBetween 1 255 x

/-- The liveness period T = base × f1 × f2 in tenths of a second, f1 × f2 = 1 taken as 2 (R52). -/
def livenessPeriod (v : Liveness) : Nat :=
  (if v.oneSecond then 10 else 1) * (if v.f1 * v.f2 = 1 then 2 else v.f1 * v.f2)

/-! ## Positions -/

/-- The slot a position names, if it names one. -/
def Position.slot? : Position → Option Slot
  | .slot n => some n
  | _ => none

/-- The nest a position names, if it names one. -/
def Position.nest? : Position → Option Nest
  | .nest x => some x
  | _ => none

/-- The position a target holds, if it holds one (R114). -/
def Target.pos? : Target → Option Position
  | .pos x => some x
  | _ => none

/-- The slot a target holds, if it holds one. -/
def Target.slot? (t : Target) : Option Slot := t.pos?.bind Position.slot?

/-- The nest a target holds, if it holds one. -/
def Target.nest? (t : Target) : Option Nest := t.pos?.bind Position.nest?

/-- A storage slot as a target. -/
def storagePosition (n : Fin 384) : Position := .slot (ofStorage n)

/-! ## Move kinds (R116) -/

/-- The number of a move kind in the order of the move kinds table (R116, R204). -/
def MoveKind.number : MoveKind → Nat
  | .deliver => 0
  | .collect => 1
  | .reclaim => 2
  | .stockOut => 3
  | .stockIn => 4
  | .inspectOut => 5
  | .reshelve => 6
  | .prestage => 7
  | .destage => 8
  | .scan => 9

/-- The store moves, whose target is selected at grant; they are the inward moves (R116). -/
def MoveKind.isStore : MoveKind → Bool
  | .collect | .reclaim | .stockIn | .reshelve | .destage => true
  | _ => false

/-- The outward moves (R116). -/
def MoveKind.isOutward : MoveKind → Bool
  | .deliver | .stockOut | .inspectOut | .prestage => true
  | _ => false

/-- The base urgency B of a kind (R116). -/
def MoveKind.base : MoveKind → Nat
  | .deliver => 480
  | .collect => 360
  | .reclaim => 320
  | .stockOut => 280
  | .stockIn => 260
  | .inspectOut => 240
  | .reshelve => 220
  | .prestage => 160
  | .destage => 80
  | .scan => 40

/-- A link-originated move is one whose requester is not INTERNAL (R116). -/
def Requester.isLink : Requester → Bool
  | .internal => false
  | _ => true

/-- The link a requester is told on; none for INTERNAL (R137). -/
def Requester.link : Requester → Option ReqLink
  | .material => some .material
  | .tool p => some (.tool p)
  | .service => some .service
  | .internal => none

/-- The number of an intercept requester flag: MATERIAL covers SERVICE, TOOL the six ports, INTERNAL itself (R182). -/
def Requester.flag : Requester → Nat
  | .material => 0
  | .service => 0
  | .tool _ => 1
  | .internal => 2

/-! ## Links and notice kinds -/

/-- A link's place among the nine: material, tools 0 to 5, service, handler. -/
def linkIndex : Link → Fin 9
  | .request .material => 0
  | .request (.tool p) => ⟨p.val + 1, by omega⟩
  | .request .service => 7
  | .handler => 8

/-- The request link of a notice link. -/
def noticeLinkOf : NoticeLink → ReqLink
  | .material => .material
  | .service => .service

/-- The number of a notice kind in the order of the notice kinds table (R210). -/
def NoticeKind.number : NoticeKind → Fin 16
  | .halted => 0
  | .noSlot => 1
  | .nestBlocked => 2
  | .zoneConflict => 3
  | .catalogueFull => 4
  | .mismatch => 5
  | .slotFault => 6
  | .lapsed => 7
  | .unsanctioned => 8
  | .returnUnreported => 9
  | .portSilent => 10
  | .due => 11
  | .intercept => 12
  | .censusDone => 13
  | .exported => 14
  | .portAttached => 15

/-- The notice kinds in the order of their table (R210). -/
def allNoticeKinds : List NoticeKind :=
  [.halted, .noSlot, .nestBlocked, .zoneConflict, .catalogueFull, .mismatch, .slotFault, .lapsed, .unsanctioned,
   .returnUnreported, .portSilent, .due, .intercept, .censusDone, .exported, .portAttached]

/-- The condition kinds are the first five of the table; the others are event kinds (R210). -/
def NoticeKind.isCondition : NoticeKind → Bool
  | .halted | .noSlot | .nestBlocked | .zoneConflict | .catalogueFull => true
  | _ => false

/-- A detail with no part (R211). -/
def noDetail : Detail := ⟨none, none, none, none, none⟩

/-! ## Free choices

Where the manual says that things stand in no order among themselves (R89, R141, R142), the order is a free choice:
`Config.freeChoice` applied to the number of choices drawn so far, and nothing constrains it. -/

/-- List `xs` in the order that the number `k` names: k mod length picks the first, k div length orders the rest.
Every order of the list is named by some number. -/
def permuteBy {α : Type} : Nat → Nat → List α → List α
  | 0, _, xs => xs
  | fuel + 1, k, xs =>
    match xs[k % xs.length]? with
    | none => []
    | some x => x :: permuteBy fuel (k / xs.length) (xs.eraseIdx (k % xs.length))

/-- Take a free order for a list: a free choice names it when there are two or more members to order. -/
def freeOrder {α : Type} (xs : List α) (s : State) : List α × State :=
  match xs with
  | [] => ([], s)
  | [x] => ([x], s)
  | _ => (permuteBy xs.length (Config.freeChoice s.choices) xs, { s with choices := s.choices + 1 })

end Sys2Proof.Machine
end

