-- ==== Sys2Proof/Machine/Ops.lean ====
section
/-! DEFINITION. The named reads and writes over the state's parts, and the frames handed to a transmitter. Every meaning
reads and writes the slot table, the catalogue, the port records, the call-ahead buffers and the move queue through these. -/

namespace Sys2Proof.Machine

/-! ## Slot table (chapter 1.1) -/

/-- The entry of a slot (R3). -/
def State.slot (s : State) (n : Slot) : SlotEntry := s.slots.get n

/-- Write a slot's entry whole (R3: a field absent in the new state is discarded). -/
def State.setSlot (s : State) (n : Slot) (e : SlotEntry) : State := { s with slots := s.slots.set n.val e n.isLt }

/-- The identifier of the record located at a slot by its entry: present in FILLED and OUTBOUND (R3). -/
def SlotEntry.reticle : SlotEntry → Option Ident
  | .filled id => some id
  | .outbound id _ => some id
  | _ => none

/-- The reservation of a slot: present in INBOUND and OUTBOUND (R3). -/
def SlotEntry.move : SlotEntry → Option Seq
  | .inbound _ m => some m
  | .outbound _ m => some m
  | _ => none

/-! ## Catalogue (chapter 1.2) -/

/-- The record of an identifier (R9). -/
def State.record (s : State) (id : Ident) : Option Rec := s.catalogue.find? (fun r => r.id = id)

/-- Whether an identifier is in the catalogue. -/
def State.known (s : State) (id : Ident) : Bool := (s.record id).isSome

/-- Change the record of an identifier, if it is in the catalogue. -/
def State.updRecord (s : State) (id : Ident) (f : Rec → Rec) : State :=
  { s with catalogue := s.catalogue.map (fun r => if r.id = id then f r else r) }

/-- The record located at a place. DESIGN CHOICE (log entry 44): where a resolution at source has left a second record located
at a nest (R11, R108), the one created first. -/
def State.recordAt (s : State) (x : Location) : Option Rec := s.catalogue.find? (fun r => r.location = x)

/-- Whether the catalogue holds 480 records (R9, R21). -/
def State.catalogueFull (s : State) : Bool := Config.catalogueCapacity ≤ s.catalogue.length

/-- Whether the record of an identifier is located at a place. -/
def State.locatedAt (s : State) (id : Ident) (x : Location) : Bool :=
  match s.record id with
  | some r => r.location = x
  | none => false

/-- A record is fit for tool service when it is READY and not held (R12, R13). -/
def Rec.fit (r : Rec) : Bool := r.condition = .ready && !r.held

/-- A record's location changed, nothing else. -/
def Rec.moveTo (x : Location) (r : Rec) : Rec := { r with location := x }

/-- A record put in a slot: located there, the home slot following for a storage slot (R11, R15). -/
def Rec.putIn (n : Slot) (r : Rec) : Rec :=
  { r with location := .slot n, home := match toStorage n with | some h => some h | none => r.home }

/-- A record lost: UNLOCATED, QUARANTINE and suspect (R11, R12, R16). -/
def Rec.lose (r : Rec) : Rec := { r with location := .unlocated, condition := .quarantine, suspect := true }

/-- A record read where its pod should not be: QUARANTINE and suspect, its location kept (R16). -/
def Rec.doubt (r : Rec) : Rec := { r with condition := .quarantine, suspect := true }

/-- The life counters at 0 and the condition READY (R181). -/
def Rec.resetLife (r : Rec) : Rec := { r with deliveries := 0, lots := 0, air := 0, condition := .ready }

/-- A new record with the values of R19 and R20. -/
def newRecord (id : Ident) (loc : Location) (cls : ClassNo) (cond : Condition) (held : Bool) (binding : Option Seq)
    (home : Option (Fin 384)) : Rec where
  id := id
  cls := cls
  location := loc
  condition := cond
  held := held
  suspect := false
  verdictOwed := false
  binding := binding
  home := home
  deliveries := 0
  lots := 0
  air := 0

/-! ## Ports, nests and lines (chapter 3) -/

/-- The record of a port (R48). -/
def State.port (s : State) (p : Port) : PortRec := s.ports.get p

/-- Write a port's record. -/
def State.setPort (s : State) (p : Port) (r : PortRec) : State := { s with ports := s.ports.set p.val r p.isLt }

/-- Change a port's record. -/
def State.updPort (s : State) (p : Port) (f : PortRec → PortRec) : State := s.setPort p (f (s.port p))

/-- The state of nest Tp (R56). -/
def State.toolNest (s : State) (p : Port) : ToolNest := (s.port p).nest

/-- Set the state of nest Tp. -/
def State.setToolNest (s : State) (p : Port) (x : ToolNest) : State := s.updPort p (fun r => { r with nest := x })

/-- The level of TBUSY_p. -/
def State.tbusy (s : State) (p : Port) : Bool := s.pins.tbusy.get p

/-- The level of PRES_Tp, set when a pod is present. -/
def State.presT (s : State) (p : Port) : Bool := s.pins.presT.get p

/-- Whether a pod has been set down on the EMPTY nest Tp in the handshake now under way (R58, R166). -/
def State.putRecorded (s : State) (p : Port) : Bool := s.pins.putT.get p

/-- Take a new level of TBUSY_p: a handshake begins or ends, with no put recorded (R58). -/
def State.setTbusy (s : State) (p : Port) (v : Bool) : State :=
  { s with pins := { s.pins with
      tbusy := s.pins.tbusy.set p.val v p.isLt
      putT := s.pins.putT.set p.val false p.isLt } }

/-- Take a new level of PRES_Tp; a pod set down on an EMPTY nest while TBUSY_p is asserted is recorded as put (R58). -/
def State.setPresT (s : State) (p : Port) (v : Bool) : State :=
  { s with pins := { s.pins with
      presT := s.pins.presT.set p.val v p.isLt
      putT := s.pins.putT.set p.val (v && s.tbusy p && decide (s.toolNest p = .empty)) p.isLt } }

/-- The level of a nest's presence sensor. -/
def State.presAt (s : State) : Nest → Bool
  | .t p => s.presT p
  | .bi => s.pins.presBi
  | .bo => s.pins.presBo
  | .inn => s.pins.presIn

/-! ## Call-ahead buffers (chapter 4) -/

/-- The buffers of a port (R77). -/
def State.aheadOf (s : State) (p : Port) : CallAhead := s.ahead.get p

/-- Write a port's buffers. -/
def State.setAhead (s : State) (p : Port) (a : CallAhead) : State := { s with ahead := s.ahead.set p.val a p.isLt }

/-- The content of the buffer in the NEXT role. -/
def CallAhead.nextList (a : CallAhead) : Option (List AheadEntry) := a.lists.get a.next

/-- The content of the buffer in the ACTIVE role. -/
def CallAhead.activeList (a : CallAhead) : Option (List AheadEntry) := a.lists.get a.active

/-- The entries of the ACTIVE list, none for an empty buffer. -/
def CallAhead.activeEntries (a : CallAhead) : List AheadEntry := a.activeList.getD []

/-- Whether an identifier stands in the ACTIVE list. -/
def CallAhead.names (a : CallAhead) (id : Ident) : Bool := a.activeEntries.any (fun e => e.id = id)

/-- The role of a buffer. -/
def CallAhead.roleOf (a : CallAhead) (b : Fin 3) : Role :=
  if b = a.fill then .fill else if b = a.next then .next else .active

/-! ## Move queue (chapter 6.1) -/

/-- The move of a sequence number (R114). -/
def State.move? (s : State) (q : Seq) : Option Move := s.queue.find? (fun m => m.seq = q)

/-- Change the move of a sequence number. -/
def State.updMove (s : State) (q : Seq) (f : Move → Move) : State :=
  { s with queue := s.queue.map (fun m => if m.seq = q then f m else m) }

/-- Whether a move is WAITING (R115). -/
def Move.isWaiting (m : Move) : Bool := m.state = .waiting

/-- The move a record is bound to (R14). -/
def State.boundMove (s : State) (r : Rec) : Option Move := r.binding.bind s.move?

/-- Bind a record to a move (R14, R121). -/
def State.bind (s : State) (id : Ident) (q : Seq) : State := s.updRecord id (fun r => { r with binding := some q })

/-- Release the binding to a move (R14, R121). -/
def State.release (s : State) (q : Seq) : State :=
  { s with catalogue := s.catalogue.map (fun r => if r.binding = some q then { r with binding := none } else r) }

/-- Take a move out of the queue, its binding released (R115, R121). -/
def State.dropMove (s : State) (q : Seq) : State :=
  { s with queue := s.queue.filter (fun m => !decide (m.seq = q)) }.release q

/-- The move in execution: the one the execution record names (R147). -/
def State.execMove (s : State) : Option Move :=
  match s.handler.exec with
  | some e => e.move.bind s.move?
  | none => none

/-- The slot source of the move in execution (R24, R86). -/
def State.execSourceSlot (s : State) : Option Slot := s.execMove.bind (fun m => m.source.slot?)

/-- Whether some move in the queue satisfies a test. -/
def State.anyMove (s : State) (f : Move → Bool) : Bool := s.queue.any f

/-- Whether a move of a kind is EXECUTING (R96, R109). -/
def State.executing (s : State) (k : MoveKind) : Bool := s.anyMove (fun m => m.kind = k && m.state = .executing)

/-- The checked-out count of a port: records at TOOL(p), DELIVER moves for p, and one for a nest in OUT_WAIT or
OUT_LAPSED (R71). DEDUCED (log entry 46): the count is what this definition gives, which falls at the grant of a RECLAIM, so
that a RECLAIM resolved at source can bring it to 9. -/
def State.checkedOut (s : State) (p : Port) : Nat :=
  s.catalogue.countP (fun r => r.location = .tool p)
    + s.queue.countP (fun m => m.kind = .deliver && m.beneficiary = some p)
    + (if s.toolNest p = .outWait ∨ s.toolNest p = .outLapsed then 1 else 0)

/-- The number of records located INSPECTION (R106, R113). -/
def State.atInspection (s : State) : Nat := s.catalogue.countP (fun r => r.location = .inspection)

/-- The inspection-out count (R106), leaving out a move that the offer sets aside (R119). -/
def State.inspectionOut (s : State) (aside : Option Seq) : Nat :=
  s.atInspection + s.queue.countP (fun m => m.kind = .inspectOut && !decide (some m.seq = aside))
    + (if s.inn = .awayWait then 1 else 0)

/-- The link-originated moves in the queue, leaving out a move that the offer sets aside (R119). -/
def State.linkCount (s : State) (aside : Option Seq) : Nat :=
  s.queue.countP (fun m => m.requester.isLink && !decide (some m.seq = aside))

/-! ## Handler interface (chapter 7) -/

/-- Change the handler interface. -/
def State.updHandler (s : State) (f : Handler → Handler) : State := { s with handler := f s.handler }

/-- The number that is current: that of the last order, until the handler interface has entered IDLE or HALTED. A phase taken
up again without an order has none (R146). -/
def Handler.current (h : Handler) : Option Byte :=
  match h.state with
  | .idle | .halted => none
  | _ => if h.numberCurrent then some h.orderNumber else none

/-- The handler state in which a phase is worked (R147). -/
def Phase.handlerState : Phase → HandlerState
  | .picking => .picking
  | .carrying => .carrying
  | .placing => .placing
  | .putback => .putback
  | .scanning => .scanning

/-! ## Transmitters (R206) -/

/-- The frames handed to a link's transmitter, oldest first. -/
def State.sent (s : State) (l : Link) : List OutFrame := s.tx.get (linkIndex l)

/-- Hand a frame to a link's transmitter (R206). -/
def State.send (s : State) (l : Link) (f : OutFrame) : State :=
  { s with tx := s.tx.set (linkIndex l).val (s.sent l ++ [f]) (linkIndex l).isLt }

/-- Send an unrequested frame on tool link p: sent in SILENT and ATTACHED and not in CLOSED (R75, R164). -/
def State.sendTool (s : State) (p : Port) (f : OutFrame) : State :=
  if (s.port p).state = .closed then s else s.send (.request (.tool p)) f

/-- Send an unrequested frame on a requester's link; a tool link carries it only while its port is open, and a move with
requester INTERNAL is told nothing (R137, R164). -/
def State.sendRequester (s : State) (r : Requester) (f : OutFrame) : State :=
  match r.link with
  | none => s
  | some (.tool p) => s.sendTool p f
  | some l => s.send (.request l) f

/-- Tell a withdrawn move's requester why (R137). -/
def State.tellWithdrawn (s : State) (m : Move) (reason : Reason) : State :=
  match m.reticle with
  | some id => s.sendRequester m.requester (.withdrawn id reason)
  | none => s

/-- Tell the requester of an ended link-originated move its outcome; a DELIVER is told MISMATCH and REMOVED only (R164). -/
def State.tellEnd (s : State) (m : Move) (o : MoveOutcome) : State :=
  match m.reticle with
  | some id => if m.kind = .deliver ∧ o = .placed then s else s.sendRequester m.requester (.moveEnd id m.seq o)
  | none => s

/-- The receiver of a link (R205). -/
def State.rxOf (s : State) (l : Link) : RxState := s.rx.get (linkIndex l)

/-- Write a link's receiver. -/
def State.setRx (s : State) (l : Link) (x : RxState) : State :=
  { s with rx := s.rx.set (linkIndex l).val x (linkIndex l).isLt }

end Sys2Proof.Machine
end

