-- ==== Sys2Proof/Machine/Zones.lean ====
section
/-! DEFINITION. The zone unit: which entries are enabled, the resolution of storage slots, conflicted slots, the serve
masks, and store target selection (chapter 2). -/

namespace Sys2Proof.Machine

/-! ## Resolution (R31 to R36) -/

/-- The entry numbers of the zone table and of the class table. -/
def eightEntries : List (Fin 8) := [0, 1, 2, 3, 4, 5, 6, 7]

/-- An entry is disabled when its limit is below its base, or when both its masks are empty (R31). -/
def ZoneEntry.enabled (e : ZoneEntry) : Bool :=
  !decide (e.limit < e.base) && !(decide (e.classMask = 0) && decide (e.serveMask = 0))

/-- An enabled entry covers every shelf from its base to its limit (R31). -/
def ZoneEntry.covers (e : ZoneEntry) (n : Shelf) : Bool := e.enabled && decide (e.base ≤ n) && decide (n ≤ e.limit)

/-- The entries that match a shelf (R34). -/
def State.zoneMatches (s : State) (n : Shelf) : List (Fin 8) := eightEntries.filter (fun k => (s.zones.get k).covers n)

/-- The one purge class of a list of matches: 0 when there is none, absent when they disagree (R34, R35). -/
def commonPurge : List ZoneEntry → Option (Fin 4)
  | [] => some 0
  | e :: es => if es.all (fun f => f.purge = e.purge) then some e.purge else none

/-- The resolution of a shelf's slots: the unions of the matches' masks and their common purge class (R34). -/
def State.resolve (s : State) (n : Shelf) : Resolution :=
  let ks := s.zoneMatches n
  let es := ks.map (fun k => s.zones.get k)
  { matched := ks
    classMask := es.foldl (fun m e => m ||| e.classMask) 0
    serveUnion := es.foldl (fun m e => m ||| e.serveMask) 0
    purge := commonPurge es }

/-- A slot is conflicted when its matches do not all carry one purge class (R35). -/
def Resolution.conflicted (r : Resolution) : Bool := r.purge.isNone

/-- The serve mask in force: empty for a conflicted slot (R35). -/
def Resolution.serveMask (r : Resolution) : BitVec 6 := if r.conflicted then 0 else r.serveUnion

/-- The purge class in force: 0 for a conflicted slot (R35). -/
def Resolution.purgeClass (r : Resolution) : Fin 4 := r.purge.getD 0

/-- The shelves 0 to 47 in ascending order. -/
def allShelves : List Shelf := List.finRange 48

/-- The conflicted shelves in ascending order; the eight slots of a shelf resolve alike (R34). -/
def State.conflictedShelves (s : State) : List Shelf := allShelves.filter (fun n => (s.resolve n).conflicted)

/-- The number of conflicted slots and the lowest of them (R36, R37, R47). -/
def State.conflictSummary (s : State) : ConflictSummary :=
  { count := 8 * s.conflictedShelves.length
    lowest := s.conflictedShelves.head?.map (fun n => ⟨8 * n.val, by omega⟩) }

/-- The serve mask of a storage slot (R34, R35). -/
def State.slotServe (s : State) (n : Fin 384) : BitVec 6 := (s.resolve (shelfOf n)).serveMask

/-- The serve mask that applies to a record: that of its storage slot, or for a staging slot that of its home slot, empty
without one (R45). DEDUCED (log entry 45): a home slot that is conflicted serves no port, so a record in staging is then not
served either (R35). -/
def State.serveMaskFor (s : State) (r : Rec) : BitVec 6 :=
  match r.location with
  | .slot n =>
    match toStorage n with
    | some k => s.slotServe k
    | none =>
      match r.home with
      | some k => s.slotServe k
      | none => 0
  | _ => 0

/-! ## Store target selection (R38 to R40) -/

/-- A selection class: one class, any of a list, or any class (R39). -/
inductive SelectionClass where
  | one (c : ClassNo)
  | anyOf (cs : List ClassNo)
  | any
  deriving DecidableEq, Repr

/-- Whether a class mask admits a selection class (R39). -/
def SelectionClass.admits (c : SelectionClass) (m : BitVec 8) : Bool :=
  match c with
  | .one k => m.getLsbD k.val
  | .anyOf ks => ks.any (fun k => m.getLsbD k.val)
  | .any => !decide (m = 0)

/-- The selection class of a store move (R39): the class now held by the record it names; else class 0 or the classes of
the announcement list for a STOCK_IN, and any class for the moves that expect any identifier or record. A move that
names an identifier without a record has none. -/
def State.selectionClass (s : State) (m : Move) : Option SelectionClass :=
  match m.reticle with
  | some id => (s.record id).map (fun r => .one r.cls)
  | none =>
    if m.pickTest = .stockIn then
      some (if s.announcements = [] then .one 0 else .anyOf (s.announcements.map (·.cls)))
    else some .any

/-- The anchor shelf of a store move (R40). -/
def State.anchorOf (s : State) (m : Move) : Shelf :=
  match m.kind with
  | .stockIn => s.settings.bulkAnchor
  | .reshelve => s.settings.inspectionAnchor
  | _ =>
    match m.beneficiary with
    | some p => (s.port p).settings.anchor
    | none => s.settings.bulkAnchor

/-- The storage slots 0 to 383 in ascending order. -/
def allStorage : List (Fin 384) := List.finRange 384

/-- A storage slot is a candidate when it is EMPTY, not conflicted, and its class mask admits the class (R38). -/
def State.isCandidate (s : State) (c : SelectionClass) (n : Fin 384) : Bool :=
  decide (s.slot (ofStorage n) = .empty) &&
    (let r := s.resolve (shelfOf n); !r.conflicted && c.admits r.classMask)

/-- The nearer of two candidates by distance to the anchor, the earlier one staying on a tie (R40). -/
def nearer (anchor : Shelf) (best : Option (Fin 384)) (n : Fin 384) : Option (Fin 384) :=
  match best with
  | none => some n
  | some b => if shelfDistance (shelfOf n) anchor < shelfDistance (shelfOf b) anchor then some n else some b

/-- The candidate nearest an anchor, the lowest-numbered at the least distance (R40). -/
def State.nearestCandidate (s : State) (c : SelectionClass) (anchor : Shelf) : Option (Fin 384) :=
  (allStorage.filter (s.isCandidate c)).foldl (nearer anchor) none

/-- The selection by class, home slot first, then anchor distance (R40). -/
def State.selectBy (s : State) (c : SelectionClass) (home : Option (Fin 384)) (anchor : Shelf) : Option (Fin 384) :=
  match home with
  | some h => if s.isCandidate c h then some h else s.nearestCandidate c anchor
  | none => s.nearestCandidate c anchor

/-- The home slot a store move tries first: that of the record it names (R40). -/
def State.homeOf (s : State) (m : Move) : Option (Fin 384) := m.reticle.bind (fun id => (s.record id).bind (·.home))

/-- The store target selection of a move: one storage slot, or no candidate (R38, R40). -/
def State.selectTarget (s : State) (m : Move) : Option (Fin 384) :=
  match s.selectionClass m with
  | some c => s.selectBy c (s.homeOf m) (s.anchorOf m)
  | none => none

end Sys2Proof.Machine
end

