-- ==== Sys2Proof/Machine/Flags.lean ====
section
/-! DEFINITION. The levels and conditions that follow from the state: the output lines PRDY, PFREE, BORDY, IRDY and
ATTN_N, the five standing conditions, the life limits, and the state of an intercept entry. -/

namespace Sys2Proof.Machine

/-! ## Output lines -/

/-- PRDY_p is high exactly in OUT_WAIT (R56). -/
def State.prdy (s : State) (p : Port) : Bool := s.toolNest p = .outWait

/-- PFREE_p is high when nest Tp is EMPTY and the port is not CLOSED (R56). -/
def State.pfree (s : State) (p : Port) : Bool := s.toolNest p = .empty && !decide ((s.port p).state = .closed)

/-- BORDY is high exactly in AWAY_WAIT of BO (R101). -/
def State.bordy (s : State) : Bool := s.bo = .awayWait

/-- IRDY is high exactly in AWAY_WAIT of IN (R108). -/
def State.irdy (s : State) : Bool := s.inn = .awayWait

/-- The notice set of a link (R211). -/
def State.noticeSet (s : State) : NoticeLink → NoticeSet
  | .material => s.materialNotices
  | .service => s.serviceNotices

/-- Write the notice set of a link. -/
def State.setNoticeSet (s : State) (l : NoticeLink) (x : NoticeSet) : State :=
  match l with
  | .material => { s with materialNotices := x }
  | .service => { s with serviceNotices := x }

/-- The entry of a kind in a notice set. -/
def NoticeSet.entry (x : NoticeSet) (k : NoticeKind) : NoticeEntry := x.entries.get k.number

/-- An entry that a NOTICE frame carries: pending and not masked (R213). -/
def NoticeEntry.shown (e : NoticeEntry) : Bool := e.pending && !e.masked

/-- ATTN_N is low (the answer is true) while the material set holds a kind pending and not masked (R214). -/
def State.attention (s : State) : Bool := allNoticeKinds.any (fun k => (s.materialNotices.entry k).shown)

/-! ## Standing conditions (R210) -/

/-- Whether any of the nine nests is BLOCKED (R56). -/
def State.anyBlocked (s : State) : Bool :=
  allPorts.any (fun p => s.toolNest p = .blocked) || s.bi = .blocked || s.bo = .blocked || s.inn = .blocked

/-- Whether a condition kind's condition holds (R210); an event kind has none. NO_SLOT is as its last test left it (R44). -/
def State.conditionHolds (s : State) : NoticeKind → Bool
  | .halted => s.handler.state = .halted
  | .noSlot => s.noSlot
  | .nestBlocked => s.anyBlocked
  | .zoneConflict => !s.conflictedShelves.isEmpty
  | .catalogueFull => s.catalogueFull
  | _ => false

/-! ## Life limits (R177) -/

/-- Whether a counter has reached a limit, a limit of 0 never being reached (R170, R177). -/
def reaches (counter limit : Nat) : Bool := limit ≠ 0 && limit ≤ counter

/-- The lowest number of a limit that a record has reached: 1 deliveries, 2 lots, 3 air (R177, R179). -/
def limitReached (c : ClassLimits) (r : Rec) : Option Nat :=
  if reaches r.deliveries.val c.delivery.val then some 1
  else if reaches r.lots.val c.lot.val then some 2
  else if reaches r.air.val (4 * c.air.val) then some 3
  else none

/-- The limits of a record's class. -/
def State.limitsOf (s : State) (r : Rec) : ClassLimits := s.classes.get r.cls

/-- The air quarters a record gains at a minute tick, by its location (R173). -/
def State.airWeight (s : State) (r : Rec) : Nat :=
  match r.location with
  | .slot n =>
    match toStorage n with
    | some k =>
      match (s.resolve (shelfOf k)).purgeClass with
      | 3 => 0
      | 2 => 1
      | 1 => 2
      | _ => 4
    | none => 2
  | .tool _ => 0
  | _ => 4

/-! ## Intercept entries (R182) -/

/-- The state of an intercept entry: DISABLED with no requester flag, INVALID when a slot range exceeds 396 (R182). -/
def InterceptEntry.status (e : InterceptEntry) : InterceptState :=
  if e.requesterMask = 0 then .disabled
  else
    match e.matching with
    | .bySlots base length => if 396 < base.val + length then .invalid else .active
    | .byPrefix _ => .active

end Sys2Proof.Machine
end

