-- ==== Sys2Proof/Machine/Notices.lean ====
section
/-! DEFINITION. The notice unit: raising a kind, the NOTICE frame and its gap timer, ACK, MASK and the RESTART of the
notice sets (chapter 11.2). -/

namespace Sys2Proof.Machine

/-- The kind of a number (R210). -/
def kindOf (i : Fin 16) : NoticeKind := allNoticeKinds.getD i.val .halted

/-- Change every entry of a notice set, knowing its kind. -/
def NoticeSet.mapKinds (x : NoticeSet) (f : NoticeKind → NoticeEntry → NoticeEntry) : NoticeSet :=
  { x with entries := Vector.ofFn (fun i => f (kindOf i) (x.entries.get i)) }

/-- What a NOTICE frame carries: every kind pending and not masked, in the order of the table (R213). -/
def State.noticeItems (s : State) (l : NoticeLink) : List NoticeItem :=
  allNoticeKinds.filterMap fun k =>
    let e := (s.noticeSet l).entry k
    if e.shown then some ⟨k, e.detail, e.fresh, s.conditionHolds k⟩ else none

/-- Send a NOTICE frame: each kind carried loses its fresh flag, and the gap timer starts with the gap length (R213). -/
def State.sendNotice (s : State) (l : NoticeLink) : State :=
  let x := s.noticeSet l
  let cleared := x.mapKinds (fun _ e => if e.shown then { e with fresh := false } else e)
  (s.send (.request (noticeLinkOf l)) (.notice (s.noticeItems l))).setNoticeSet l { cleared with gap := some s.noticeGap }

/-- A kind has become fresh while pending and unmasked: a NOTICE is sent when the gap timer is idle (R213). -/
def State.pushNotice (s : State) (l : NoticeLink) : State :=
  match (s.noticeSet l).gap with
  | none => s.sendNotice l
  | some _ => s

/-- Raise a kind on one link: pending and fresh set, the detail replaced whole (R211). -/
def State.raiseOn (s : State) (l : NoticeLink) (k : NoticeKind) (d : Detail) : State :=
  let x := s.noticeSet l
  let e := x.entry k
  let s1 := s.setNoticeSet l
    { x with entries := x.entries.set k.number.val { e with pending := true, fresh := true, detail := d } k.number.isLt }
  if e.masked then s1 else s1.pushNotice l

/-- Raise a kind: the raise is applied to both notice sets (R211). -/
def State.raise (s : State) (k : NoticeKind) (d : Detail) : State := (s.raiseOn .material k d).raiseOn .service k d

/-- ACK of a set of kinds on a link (R212). -/
def State.ackKinds (s : State) (l : NoticeLink) (kinds : BitVec 16) : State :=
  s.setNoticeSet l <| (s.noticeSet l).mapKinds fun k e =>
    if kinds.getLsbD k.number.val then
      if s.conditionHolds k then { e with fresh := false } else { e with pending := false, fresh := false }
    else e

/-- The entry after MASK: a kind that goes from masked to unmasked while pending becomes fresh (R212). -/
def NoticeEntry.remask (e : NoticeEntry) (m : Bool) : NoticeEntry :=
  { e with masked := m, fresh := e.fresh || (e.masked && !m && e.pending) }

/-- MASK of a set of kinds on a link (R212). -/
def State.maskKinds (s : State) (l : NoticeLink) (kinds : BitVec 16) : State :=
  let x := s.noticeSet l
  let s1 := s.setNoticeSet l (x.mapKinds fun k e => e.remask (kinds.getLsbD k.number.val))
  let uncovered := allNoticeKinds.any fun k =>
    (x.entry k).masked && !kinds.getLsbD k.number.val && (x.entry k).pending
  if uncovered then s1.pushNotice l else s1

/-- The gap timer of a link expires: a NOTICE when a kind is pending, unmasked and fresh, else the timer is idle (R213). -/
def State.gapExpires (s : State) (l : NoticeLink) : State :=
  let x := s.noticeSet l
  if allNoticeKinds.any (fun k => (x.entry k).shown && (x.entry k).fresh) then s.sendNotice l
  else s.setNoticeSet l { x with gap := none }

/-- What ACK and MASK answer: each kind's pending and masked flags and its detail (R212). -/
def State.noticeSetItems (s : State) (l : NoticeLink) : List NoticeSetItem :=
  allNoticeKinds.map fun k =>
    let e := (s.noticeSet l).entry k
    ⟨e.pending, e.masked, e.detail⟩

/-- RESTART on one link: pending and fresh are cleared, then set for each kind whose condition holds; masks, details and
the gap timer stand (R214). -/
def State.restartNoticesOn (s : State) (l : NoticeLink) : State :=
  let x := s.noticeSet l
  let y := x.mapKinds fun k e => { e with pending := s.conditionHolds k, fresh := s.conditionHolds k }
  let s1 := s.setNoticeSet l y
  if allNoticeKinds.any (fun k => (y.entry k).shown) then s1.pushNotice l else s1

/-- RESTART of both notice sets (R214). -/
def State.restartNotices (s : State) : State := (s.restartNoticesOn .material).restartNoticesOn .service

end Sys2Proof.Machine
end

