-- ==== Sys2Proof/Machine/Moves.lean ====
section
/-! DEFINITION. Offers, admission, binding and withdrawal of moves (chapter 6.3, 6.4, 6.8), the intercept unit's
evaluation (chapter 9), and what a change of held flag or condition does to a delivery (R65, R103). -/

namespace Sys2Proof.Machine

/-! ## Intercepts (R184 to R190) -/

/-- The match mode test of an entry on an offer (R185). -/
def InterceptMatch.passes (x : InterceptMatch) (o : Offer) : Bool :=
  match x with
  | .byPrefix chars =>
    match o.reticle with
    | some id => chars.isPrefixOf id
    | none => false
  | .bySlots base length =>
    match o.source with
    | .slot n => base.val ≤ n.val && n.val < base.val + length
    | _ => false

/-- Whether an entry matches an offer (R184). -/
def InterceptEntry.catches (e : InterceptEntry) (o : Offer) : Bool :=
  e.status = .active && e.requesterMask.getLsbD o.requester.flag && e.kindMask.getLsbD o.kind.number
    && e.matching.passes o && (e.action ≠ .divert || o.kind = .deliver || o.kind = .stockOut)

/-- The entry numbers of the intercept table, highest priority first (R182). -/
def sixteenEntries : List (Fin 16) := [0, 1, 2, 3, 4, 5, 6, 7, 8, 9, 10, 11, 12, 13, 14, 15]

/-- The deciding entry of an offer: the matching entry with the lowest number (R186). -/
def State.deciding (s : State) (o : Offer) : Option (Fin 16) :=
  sixteenEntries.find? (fun n => (s.intercepts.get n).catches o)

/-- Count a hit on the deciding entry, saturating at 255, and raise INTERCEPT (R186). -/
def State.countHit (s : State) (n : Fin 16) (o : Offer) : State :=
  let e := s.intercepts.get n
  let s1 := { s with intercepts := s.intercepts.set n.val { e with hits := clampTo 255 (e.hits.val + 1) } n.isLt }
  s1.raise .intercept ⟨o.reticle, none, some o.source, o.beneficiary, some n.val⟩

/-! ## Admission (R117) -/

/-- The entry step of admission: the next sequence number, the present clock, WAITING, and the binding (R117, R118). -/
def State.enter (s : State) (o : Offer) (diverted hold : Bool) : State :=
  let m : Move :=
    { seq := s.nextSeq, kind := o.kind, requester := o.requester, beneficiary := o.beneficiary, reticle := o.reticle,
      pickTest := o.pickTest, source := o.source, target := o.target, listPosition := o.listPosition,
      enqueued := s.clock, state := .waiting, diverted := diverted, holdOnCompletion := hold, standDown := false }
  let s1 := { s with queue := s.queue ++ [m], nextSeq := s.nextSeq + 1 }
  match o.reticle with
  | some id => s1.bind id m.seq
  | none => s1

/-- Offer an inward move: an intercept HOLD sets hold-on-completion, a NOTE only counts (R187, R189). -/
def State.offerInward (s : State) (o : Offer) : State :=
  match s.deciding o with
  | none => s.enter o false false
  | some n => (s.countHit n o).enter o false ((s.intercepts.get n).action = .hold)

/-- The RECLAIM for the record on nest Tp (R60, R64, R65). -/
def reclaimOffer (p : Port) (id : Ident) : Offer :=
  ⟨.reclaim, .internal, some p, some id, .named, .nest (.t p), .toSelect, none⟩

/-- The COLLECT from nest Tp, with its expected identifier or expecting any (R68, R69). -/
def collectOffer (p : Port) (id : Option Ident) : Offer :=
  ⟨.collect, .internal, some p, id, if id.isSome then .named else .anyAtTool, .nest (.t p), .toSelect, none⟩

/-- The STOCK_IN from BI (R96). -/
def stockInOffer : Offer := ⟨.stockIn, .internal, none, none, .stockIn, .nest .bi, .toSelect, none⟩

/-- The RESHELVE from IN (R109). -/
def reshelveOffer : Offer := ⟨.reshelve, .internal, none, none, .anyAtInspection, .nest .inn, .toSelect, none⟩

/-- The SCAN of a shelf (R195). -/
def scanOffer (n : Shelf) : Offer := ⟨.scan, .internal, none, none, .none, .shelf n, .pos (.shelf n), none⟩

/-- Admit a STOCK_IN for BI, or defer it while a STOCK_IN is EXECUTING (R96). -/
def State.stockInArrives (s : State) : State :=
  if s.executing .stockIn then s else s.offerInward stockInOffer

/-- Admit a RESHELVE for IN, or defer it while a RESHELVE is EXECUTING (R109). -/
def State.reshelveArrives (s : State) : State :=
  if s.executing .reshelve then s else s.offerInward reshelveOffer

/-- The deferred admission in the change that ends an executing STOCK_IN or RESHELVE (R96, R109). -/
def State.deferredAdmission (s : State) (k : MoveKind) : State :=
  match k with
  | .stockIn => if s.bi = .arrived then s.stockInArrives else s
  | .reshelve => if s.inn = .arrived then s.reshelveArrives else s
  | _ => s

/-! ## Withdrawal (R136, R137) -/

/-- The census record after its SCAN has gone: the scan absent and the state IDLE (R198, R199). -/
def State.censusEnds (s : State) : State :=
  { s with census := { s.census with state := .idle, scan := none, nextShelf := none } }

/-- Withdraw a WAITING move, telling its link requester the reason when the cause gives a frame; a withdrawn SCAN ends
the census (R136, R137, R198). -/
def State.withdraw (s : State) (m : Move) (reason : Option Reason) : State :=
  let s1 := s.dropMove m.seq
  let s2 := if m.kind = .scan then s1.censusEnds else s1
  match reason with
  | some r => s2.tellWithdrawn m r
  | none => s2

/-- Withdraw each WAITING move that a test names, in admission order. -/
def State.withdrawWhere (s : State) (f : Move → Bool) (reason : Option Reason) : State :=
  (s.queue.filter (fun m => m.isWaiting && f m)).foldl (fun t m => t.withdraw m reason) s

/-! ## Fitness for tool service (R65, R103) -/

/-- Nest Tp leaves OUT_WAIT for OUT_LAPSED: PRDY drops, the collect window stops, a deferred lapse is cleared. -/
def State.lapseNest (s : State) (p : Port) : State :=
  s.updPort p (fun r => { r with nest := .outLapsed, window := none, lapseDeferred := false })

/-- The reason a record is unfit, HELD taking precedence (R60, R125). -/
def Rec.unfitReason (r : Rec) : Reason := if r.held then .held else .notReady

/-- A record on a nest in OUT_WAIT that has become held or not READY is reclaimed and its tool told (R65). -/
def State.reclaimIfUnfit (s : State) (id : Ident) : State :=
  match s.record id with
  | some r =>
    match r.location with
    | .nest (.t p) =>
      if s.toolNest p = .outWait ∧ r.fit = false then
        ((s.lapseNest p).offerInward (reclaimOffer p id)).sendTool p (.withdrawn id r.unfitReason)
      else s
    | _ => s
  | none => s

/-- Withdraw the WAITING DELIVER bound to a record, telling the tool HELD (R103). -/
def State.withdrawHeldDeliver (s : State) (r : Rec) : State :=
  match s.boundMove r with
  | some m => if m.kind = .deliver ∧ m.state = .waiting then s.withdraw m (some .held) else s
  | none => s

/-- Set a record's held flag with the effects R103 gives on a record not held before. -/
def State.setHeld (s : State) (id : Ident) : State :=
  match s.record id with
  | some r =>
    if r.held then s
    else ((s.updRecord id (fun x => { x with held := true })).withdrawHeldDeliver r).reclaimIfUnfit id
  | none => s

/-- A record read where its pod should not be becomes QUARANTINE and suspect, and leaves READY as any departure does. -/
def State.doubtRecord (s : State) (id : Ident) : State := (s.updRecord id Rec.doubt).reclaimIfUnfit id

/-- Offer a PRESTAGE: an intercept HOLD drops the offer and holds the record (R86, R188). -/
def State.offerPrestage (s : State) (o : Offer) : State :=
  match s.deciding o with
  | none => s.enter o false false
  | some n =>
    let s1 := s.countHit n o
    if (s.intercepts.get n).action = .hold then
      match o.reticle with
      | some id => s1.setHeld id
      | none => s1
    else s1.enter o false false

/-! ## The DUE check (R177 to R179) -/

/-- Whether a DUE check makes a record DUE: it is READY and a limit is reached (R177). -/
def State.comesDue (s : State) (r : Rec) : Bool := r.condition = .ready && (limitReached (s.limitsOf r) r).isSome

/-- Make a record DUE, which acts as any departure from READY does (R177). -/
def State.makeDue (s : State) (id : Ident) : State :=
  (s.updRecord id (fun r => { r with condition := .due })).reclaimIfUnfit id

/-- The detail of the DUE notice for one record: its slot or nest, its port at TOOL, and the limit reached (R179). -/
def State.dueDetail (s : State) (r : Rec) : Detail where
  reticle := some r.id
  second := none
  position := match r.location with
    | .slot n => some (.slot n)
    | .nest x => some (.nest x)
    | _ => none
  port := match r.location with
    | .tool p => some p
    | _ => none
  code := limitReached (s.limitsOf r) r

/-- The records of an event that its DUE checks make DUE (R178). -/
def State.newlyDue (s : State) (f : Rec → Bool) : List Rec := s.catalogue.filter (fun r => f r && s.comesDue r)

/-- The DUE checks of one event over the records a test names, and the one DUE notice when they are complete (R178, R179).
DESIGN CHOICE (log entry 50): records made DUE together are taken in the catalogue's order, so pods on OUT_WAIT nests get
their RECLAIMs in that order. -/
def State.dueCheck (s : State) (f : Rec → Bool) : State :=
  match s.newlyDue f with
  | [] => s
  | [r] => (s.makeDue r.id).raise .due (s.dueDetail r)
  | rs => (rs.foldl (fun t r => t.makeDue r.id) s).raise .due { noDetail with code := some 4 }

/-- Lots added to a record, with the DUE check (R175). -/
def State.addLots (s : State) (id : Ident) (n : Nat) : State :=
  (s.updRecord id (fun r => { r with lots := satAdd r.lots n })).dueCheck (fun r => r.id = id)

/-! ## Creation of records (R19 to R21, R93) -/

/-- Enter a record into the catalogue: an announcement of its identifier is removed, and CATALOGUE_FULL is raised when the
count reaches 480 (R21, R93). -/
def State.createRecord (s : State) (r : Rec) : State :=
  let s1 := { s with
    catalogue := s.catalogue ++ [r]
    announcements := s.announcements.filter (fun a => !decide (a.id = r.id)) }
  if s1.catalogue.length = Config.catalogueCapacity then s1.raise .catalogueFull noDetail else s1

/-- A creation refused because the catalogue is full raises CATALOGUE_FULL with the identifier and the place (R21). -/
def State.refuseCreation (s : State) (id : Ident) (x : Position) : State :=
  s.raise .catalogueFull { noDetail with reticle := some id, position := some x }

end Sys2Proof.Machine
end

