-- ==== Sys2Proof/Machine/Dispatcher.lean ====
section
/-! DEFINITION. The dispatcher: the NO_SLOT test (R44), eligibility (R124), urgency (R128 to R131), selection (R132 to
R135), the grant (R127) with its first order, and the grant test (R125). -/

namespace Sys2Proof.Machine

/-! ## The NO_SLOT test (R44) -/

/-- Whether a move is a WAITING store move with no candidate (R38, R44). -/
def State.lacksCandidate (s : State) (m : Move) : Bool :=
  m.isWaiting && m.kind.isStore && (s.selectTarget m).isNone

/-- The earlier admitted of a best so far and a move (R118). -/
def earliest (best : Option Move) (m : Move) : Option Move :=
  match best with
  | none => some m
  | some b => if earlier m.seq b.seq && !decide (m.seq = b.seq) then some m else some b

/-- The move with the lowest sequence number (R118). -/
def lowestSeq (ms : List Move) : Option Move := ms.foldl earliest none

/-- The NO_SLOT test: when it finds the condition newly holding it raises the notice for the lowest-numbered store move
without a candidate; when every store move has one it ends the condition (R44). -/
def State.testNoSlot (s : State) : State :=
  match lowestSeq (s.queue.filter s.lacksCandidate) with
  | none => { s with noSlot := false }
  | some m =>
    if s.noSlot then s
    else State.raise { s with noSlot := true } .noSlot ⟨m.reticle, none, some m.source, m.beneficiary, none⟩

/-! ## Eligibility (R124) -/

/-- Whether the record a move names is located at the move's source slot (R124). -/
def State.atSource (s : State) (m : Move) : Bool :=
  match m.reticle, m.source with
  | some id, .slot n => s.locatedAt id (.slot n)
  | _, _ => false

/-- The first condition of R124 that fails for a WAITING move, in the order of the table; none when it is eligible. -/
def State.ineligible (s : State) (m : Move) : Option Ineligible :=
  match m.kind with
  | .deliver =>
    match m.beneficiary with
    | some p =>
      if s.toolNest p ≠ .empty then some .nestNotEmpty
      else if s.tbusy p then some .toolBusy
      else if (s.port p).state ≠ .attached then some .notAttached
      else if s.atSource m then none else some .notAtSource
    | none => some .notAttached
  | .collect | .reclaim =>
    match m.source with
    | .nest (.t p) =>
      if s.tbusy p then some .toolBusy else if (s.selectTarget m).isSome then none else some .noCandidate
    | _ => some .noCandidate
  | .stockIn =>
    if s.catalogueFull then some .catalogueFull
    else if (s.selectTarget m).isSome then none else some .noCandidate
  | .reshelve | .destage => if (s.selectTarget m).isSome then none else some .noCandidate
  | .stockOut =>
    if s.bo ≠ .empty then some .nestNotEmpty else if s.atSource m then none else some .notAtSource
  | .inspectOut =>
    if s.inn ≠ .empty then some .nestNotEmpty else if s.atSource m then none else some .notAtSource
  | .prestage =>
    match m.target.slot? with
    | some n =>
      if s.slot n ≠ .empty then some .stagingNotEmpty else if s.atSource m then none else some .notAtSource
    | none => some .stagingNotEmpty
  | .scan => none

/-- Whether a move may be granted now: WAITING and eligible (R124). -/
def State.eligible (s : State) (m : Move) : Bool := m.isWaiting && (s.ineligible m).isNone

/-! ## Urgency (R128 to R131) -/

/-- The age of a move: now − enqueue time across the clock's wrap (R128). -/
def State.ageOf (s : State) (m : Move) : Nat := ageAt s.clock m.enqueued

/-- The aging rate of a move's beneficiary (R128). -/
def State.agingRate (s : State) (m : Move) : Nat :=
  match m.beneficiary with
  | some p => (s.port p).settings.agingRate.val
  | none => s.settings.materialRate.val

/-- The aging term A, the age capped at 1023 (R128). -/
def State.agingTerm (s : State) (m : Move) : Nat := min (s.ageOf m) 1023 * s.agingRate m / 16

/-- The weight term W (R129). -/
def State.weightTerm (s : State) (m : Move) : Nat :=
  match m.beneficiary with
  | some p => 16 * (s.port p).settings.weight.val + (if (s.port p).settings.priority then 128 else 0)
  | none => 16 * s.settings.materialWeight.val

/-- Whether a DELIVER with beneficiary port p is WAITING (R130). -/
def State.deliverWaiting (s : State) (p : Port) : Bool :=
  s.anyMove (fun m => m.kind = .deliver && m.beneficiary = some p && m.isWaiting)

/-- The coupling term K (R130). -/
def State.couplingTerm (s : State) (m : Move) : Nat :=
  match m.kind with
  | .collect | .reclaim =>
    match m.source with
    | .nest (.t p) => if s.deliverWaiting p then 200 else 0
    | _ => 0
  | .prestage =>
    match m.listPosition with
    | some 0 => 96
    | some 1 => 48
    | _ => 0
  | _ => 0

/-- The urgency U = min(1023, B + A + W + K) (R131). -/
def State.urgency (s : State) (m : Move) : Nat :=
  min 1023 (m.kind.base + s.agingTerm m + s.weightTerm m + s.couplingTerm m)

/-! ## Selection (R132 to R134) -/

/-- Whether an eligible move is overdue: the limit is not 0 and the uncapped age has reached it (R132). -/
def State.overdue (s : State) (m : Move) : Bool :=
  s.settings.starvation ≠ 0 && decide (s.settings.starvation ≤ s.ageOf m) && s.eligible m

/-- The more urgent of a best so far and a move, ties going to the lowest sequence number (R133, R134). -/
def State.moreUrgent (s : State) (best : Option Move) (m : Move) : Option Move :=
  match best with
  | none => some m
  | some b =>
    if s.urgency b < s.urgency m then some m
    else if s.urgency b = s.urgency m then earliest (some b) m
    else some b

/-- The most urgent of a list of moves (R133, R134). -/
def State.mostUrgent (s : State) (ms : List Move) : Option Move := ms.foldl s.moreUrgent none

/-- The port whose tenure runs on: named by the record, its limit not 0 and the count below it (R133). -/
def State.tenurePort (s : State) : Option Port :=
  match s.tenure.port with
  | some p =>
    let limit := (s.port p).settings.tenureLimit.val
    if limit ≠ 0 ∧ s.tenure.count < limit then some p else none
  | none => none

/-- The choice by tenure (R133). -/
def State.chooseByTenure (s : State) (ms : List Move) : Option Move :=
  match s.tenurePort with
  | some p => s.mostUrgent (ms.filter (fun m => m.beneficiary = some p))
  | none => none

/-- The move a grant point chooses, with whether tenure chose it: overdue, then tenure, then urgency (R132 to R134). -/
def State.choose (s : State) : Option (Move × Bool) :=
  let es := s.queue.filter s.eligible
  match lowestSeq (es.filter s.overdue) with
  | some m => some (m, false)
  | none =>
    match s.chooseByTenure es with
    | some m => some (m, true)
    | none => (s.mostUrgent es).map (fun m => (m, false))

/-- The tenure record after a grant (R135). -/
def tenureAfter (t : Tenure) (m : Move) (byTenure : Bool) : Tenure :=
  if byTenure then { t with count := t.count + 1 } else ⟨m.beneficiary, 0⟩

/-! ## Orders (R144, R146) -/

/-- Send an order with the next number: the handler enters a state and its timer starts (R146, R148). -/
def State.order (s : State) (f : Byte → OutFrame) (st : HandlerState) (seconds : Nat) : State :=
  let n := s.handler.orderNumber + 1
  (s.send .handler (f n)).updHandler (fun h => { h with orderNumber := n, numberCurrent := true, state := st, timer := some seconds })

/-- Record the phase the handler works in. -/
def State.setPhase (s : State) (ph : Phase) : State :=
  s.updHandler (fun h => { h with exec := h.exec.map (fun e => { e with phase := some ph }) })

/-- The expected identifier of a MOVE: the reticle ID when the pick test is NAMED (R144). -/
def Move.expected (m : Move) : Option Ident := if m.pickTest = .named then m.reticle else none

/-- Send the MOVE order of a move: PICKING (R150, R165). -/
def State.sendMove (s : State) (m : Move) : State :=
  (s.order (fun n => .move n m.source (m.target.pos?.getD m.source) m.expected) .picking s.handler.pickTimeout).setPhase
    .picking

/-- Send the SCAN order of a move: SCANNING at twice the pick timeout (R148, R150). -/
def State.sendScan (s : State) (n : Shelf) : State :=
  (s.order (fun k => .scan k n) .scanning (2 * s.handler.pickTimeout)).setPhase .scanning

/-- Send PLACE to a position, in PLACING or PUTBACK (R144). -/
def State.sendPlace (s : State) (x : Position) (ph : Phase) : State :=
  (s.order (fun n => .place n x) ph.handlerState s.handler.placeTimeout).setPhase ph

/-- The first order of a granted move (R150). -/
def State.firstOrder (s : State) (m : Move) : State :=
  match m.kind, m.source with
  | .scan, .shelf n => s.sendScan n
  | _, _ => s.sendMove m

/-! ## The grant (R127) -/

/-- Reserve a source slot: FILLED to OUTBOUND (R5). -/
def State.reserveSource (s : State) (m : Move) : State :=
  match m.source.slot? with
  | some n =>
    match s.slot n with
    | .filled id => s.setSlot n (.outbound id m.seq)
    | _ => s
  | none => s

/-- Reserve a target slot: EMPTY to INBOUND (R5). -/
def State.reserveTarget (s : State) (m : Move) : State :=
  match m.target.slot? with
  | some n =>
    match s.slot n with
    | .empty => s.setSlot n (.inbound m.reticle m.seq)
    | _ => s
  | none => s

/-- Reserve the slots of a granted move, a target only when the move holds one (R5). -/
def State.reserve (s : State) (m : Move) : State := (s.reserveSource m).reserveTarget m

/-- The grant state of a source nest: OUTBOUND (R66, R98, R110). -/
def State.nestGranted (s : State) : Option Nest → State
  | some (.t p) => s.setToolNest p .outbound
  | some .bi => { s with bi := .outbound }
  | some .inn => { s with inn := .outbound }
  | _ => s

/-- The grant state of a target nest: INBOUND; at Tp it closes the late-return window (R60, R70, R101, R108). -/
def State.nestTargeted (s : State) : Option Nest → State
  | some (.t p) => s.updPort p (fun r => { r with nest := .inbound, lateOpen := false })
  | some .bo => { s with bo := .inbound }
  | some .inn => { s with inn := .inbound }
  | _ => s

/-- The target of a granted move: the zone unit's selection for a store move (R41). -/
def State.grantTarget (s : State) (m : Move) : Target :=
  if m.kind.isStore then
    match s.selectTarget m with
    | some k => .pos (storagePosition k)
    | none => m.target
  else m.target

/-- Grant a move in one change (R127): EXECUTING, its slots reserved, its nests in their grant states, the tenure record
updated, and the handler handed the move with its first order (R150). -/
def State.grant (s : State) (m : Move) (byTenure : Bool) : State :=
  let g := { m with state := .executing, target := s.grantTarget m }
  let s1 := s.updMove m.seq (fun _ => g)
  let s2 := s1.reserve g
  let s3 := (s2.nestGranted g.source.nest?).nestTargeted g.target.nest?
  let s4 := { s3 with tenure := tenureAfter s3.tenure m byTenure }
  let s5 := s4.updHandler (fun h => { h with exec := some ⟨some m.seq, none, none, none, 0⟩ })
  s5.firstOrder g

/-! ## The grant test (R125) -/

/-- Whether the sweep withdraws a move: a WAITING DELIVER whose record is not READY or is held (R125). -/
def State.sweeps (s : State) (m : Move) : Option Reason :=
  if m.isWaiting && m.kind = .deliver then
    match m.reticle.bind s.record with
    | some r => if r.fit then none else some r.unfitReason
    | none => none
  else none

/-- The sweep of a grant test, in admission order (R125). -/
def State.sweep (s : State) : State :=
  s.queue.foldl (fun t m => match s.sweeps m with
    | some r => t.withdraw m (some r)
    | none => t) s

/-- The grant test: when the handler is IDLE and no RESTART is pending, the sweep, then the choice and its grant (R125). -/
def State.grantTest (s : State) : State :=
  if s.handler.state = .idle ∧ s.handler.restartPending = false then
    let s1 := s.sweep
    match s1.choose with
    | some (m, byTenure) => s1.grant m byTenure
    | none => s1
  else s

end Sys2Proof.Machine
end

