-- ==== Sys2Proof/Machine/Events.lean ====
section
/-! DEFINITION. The events of a change that lead to the NO_SLOT test (R44) and to a grant test (R126), found by comparing the
state before the change with the state after it, and the tests themselves. -/

namespace Sys2Proof.Machine

/-- Events of a change that the two states need not show: a zone write, a class write to a record, an ANNOUNCE or
UNANNOUNCE taken, a RESTART that took effect (R44, R89, R126). -/
structure Touch where
  zone : Bool
  classOf : Option Ident
  announced : Bool
  restarted : Bool
  deriving DecidableEq, Repr

/-- A change with no such event. -/
def noTouch : Touch := ⟨false, none, false, false⟩

/-! ## The events of R44 -/

/-- A store move was admitted, withdrawn or granted (R44). -/
def storeMoveChanged (a b : State) : Bool :=
  b.queue.any (fun m => m.kind.isStore && (a.move? m.seq).isNone)
    || a.queue.any (fun m => m.kind.isStore && m.isWaiting && !(b.move? m.seq).any (fun x => x.isWaiting))

/-- A storage slot entered or left EMPTY (R44). -/
def emptinessChanged (a b : State) : Bool :=
  (List.zip a.slots.toList b.slots.toList).take 384 |>.any
    (fun x => !decide (decide (x.1 = .empty) = decide (x.2 = .empty)))

/-- Whether a change makes the NO_SLOT test (R44, R93). -/
def noSlotEvent (a b : State) (t : Touch) : Bool :=
  t.zone || storeMoveChanged a b || emptinessChanged a b
    || t.classOf.any (fun id => b.anyMove (fun m => m.isWaiting && m.kind.isStore && m.reticle = some id))
    || ((t.announced || !decide (a.announcements = b.announcements))
        && b.anyMove (fun m => m.isWaiting && m.kind = .stockIn))

/-- The NO_SLOT test of a change (R44). -/
def State.noSlotStep (b : State) (a : State) (t : Touch) : State := if noSlotEvent a b t then b.testNoSlot else b

/-! ## The events of R126 -/

/-- An admission, the end of a move, a move going back to WAITING, or a withdrawal (R126). -/
def queueChanged (a b : State) : Bool :=
  b.queue.any (fun m => (a.move? m.seq).isNone)
    || a.queue.any (fun m => match b.move? m.seq with
        | none => true
        | some x => !m.isWaiting && x.isWaiting)

/-- A nest entered EMPTY, TBUSY was released, or a port became ATTACHED (R126). -/
def portOpened (a b : State) (p : Port) : Bool :=
  (!decide (a.toolNest p = .empty) && decide (b.toolNest p = .empty)) || (a.tbusy p && !b.tbusy p)
    || (!decide ((a.port p).state = .attached) && decide ((b.port p).state = .attached))

/-- BI, BO or IN entered EMPTY (R126). -/
def fabNestOpened (a b : State) : Bool :=
  (!decide (a.bi = .empty) && decide (b.bi = .empty)) || (!decide (a.bo = .empty) && decide (b.bo = .empty))
    || (!decide (a.inn = .empty) && decide (b.inn = .empty))

/-- A slot entered EMPTY, or its record changed (R126). -/
def slotChanged (a b : State) : Bool :=
  (List.zip a.slots.toList b.slots.toList).any
    (fun x => (!decide (x.1 = .empty) && decide (x.2 = .empty)) || !decide (x.1.reticle = x.2.reticle))

/-- A record was removed, or changed its condition or held flag (R126). -/
def recordChanged (a b : State) : Bool :=
  a.catalogue.any fun r =>
    match b.record r.id with
    | none => true
    | some x => !decide (x.condition = r.condition) || !decide (x.held = r.held)

/-- Whether a change makes the grant test (R126). -/
def grantEvent (a b : State) (t : Touch) : Bool :=
  t.zone || t.classOf.isSome || t.announced || t.restarted || queueChanged a b
    || (!decide (a.handler.state = .idle) && decide (b.handler.state = .idle))
    || allPorts.any (portOpened a b) || fabNestOpened a b || slotChanged a b || recordChanged a b

/-! ## The tests of a change -/

/-- The tests of a change from `a` to `b` once it has been applied whole: its NO_SLOT test, its grant test, and the NO_SLOT
test of the grant (R44, R126, R127). -/
def State.serve (b a : State) (t : Touch) : State :=
  let c := b.noSlotStep a t
  if grantEvent a b t then c.grantTest.noSlotStep c noTouch else c

/-- A change with no event but those the states show, followed by its own tests. -/
def State.served (s : State) (f : State → State) : State := (f s).serve s noTouch

end Sys2Proof.Machine
end

