-- ==== Sys2Proof/Machine/Forecast.lean ====
section
/-! DEFINITION. The forecast unit: the roles of the call-ahead buffers, exchange and consumption (chapter 4.2, 4.3), the
prestage window and its re-evaluation (chapter 4.4). -/

namespace Sys2Proof.Machine

/-! ## Buffers and roles (R77 to R84) -/

/-- Identifiers in frame order, a repeat of an earlier one dropped (R80). -/
def dropRepeats (ids : List Ident) : List Ident :=
  ids.foldl (fun kept id => if kept.contains id then kept else kept ++ [id]) []

/-- The FILL buffer written and swapped into NEXT; the buffer that was NEXT takes FILL and is emptied (R80). -/
def CallAhead.fillSwap (a : CallAhead) (ids : List Ident) : CallAhead :=
  { a with
    fill := a.next
    next := a.fill
    lists := (a.lists.set a.fill.val (some (ids.map (fun id => ⟨id, false⟩))) a.fill.isLt).set a.next.val none a.next.isLt }

/-- An exchange: NEXT and ACTIVE swap roles and the new NEXT is emptied (R81). -/
def CallAhead.exchange (a : CallAhead) : CallAhead :=
  { a with next := a.active, active := a.next, lists := a.lists.set a.active.val none a.active.isLt }

/-- ACTIVE is used up: NEXT holds a list, and ACTIVE is empty or every entry of its list is consumed (R81, point a). -/
def CallAhead.usedUp (a : CallAhead) : Bool := a.nextList.isSome && a.activeEntries.all (fun e => e.consumed)

/-- The exchange test of R81, point a. -/
def CallAhead.exchangeTest (a : CallAhead) : CallAhead := if a.usedUp then a.exchange else a

/-- Change the ACTIVE list, if the ACTIVE buffer holds one. -/
def CallAhead.mapActive (a : CallAhead) (f : List AheadEntry → List AheadEntry) : CallAhead :=
  { a with lists := a.lists.set a.active.val (a.activeList.map f) a.active.isLt }

/-- Mark every entry before an identifier consumed (R82). -/
def markBefore (id : Ident) : List AheadEntry → List AheadEntry
  | [] => []
  | e :: es => if e.id = id then e :: es else { e with consumed := true } :: markBefore id es

/-- Mark the entry of an identifier consumed (R82, R83). -/
def markOwn (id : Ident) (es : List AheadEntry) : List AheadEntry :=
  es.map (fun e => if e.id = id then { e with consumed := true } else e)

/-- Whether an identifier stands in the NEXT list. -/
def CallAhead.namesNext (a : CallAhead) (id : Ident) : Bool := (a.nextList.getD []).any (fun e => e.id = id)

/-- A CALL answered OK or DIVERTED, applied to the port's lists (R82). -/
def CallAhead.called (a : CallAhead) (id : Ident) (diverted : Bool) : CallAhead :=
  let b :=
    if a.names id then a.mapActive (markBefore id)
    else if a.namesNext id then a.exchange.mapActive (markBefore id)
    else a
  (if diverted then b.mapActive (markOwn id) else b).exchangeTest

/-- A DELIVER's placement, applied to the port's lists (R83). -/
def CallAhead.placed (a : CallAhead) (id : Ident) : CallAhead := (a.mapActive (markOwn id)).exchangeTest

/-- The NEXT and ACTIVE buffers emptied, the roles left as they stand (R84). -/
def CallAhead.emptied (a : CallAhead) : CallAhead :=
  { a with lists := (a.lists.set a.next.val none a.next.isLt).set a.active.val none a.active.isLt }

/-- Change a port's buffers. -/
def State.updAhead (s : State) (p : Port) (f : CallAhead → CallAhead) : State := s.setAhead p (f (s.aheadOf p))

/-! ## The prestage window (R85 to R88) -/

/-- The window of a port: the first two entries of the ACTIVE list not consumed and known to the catalogue (R85). -/
def State.window (s : State) (p : Port) : List Ident :=
  (((s.aheadOf p).activeEntries.filter (fun e => !e.consumed && s.known e.id)).take 2).map (·.id)

/-- The window position of an identifier (R85). -/
def windowPosition (w : List Ident) (id : Ident) : Option (Fin 2) :=
  if w[0]? = some id then some 0 else if w[1]? = some id then some 1 else none

/-- A PRESTAGE or DESTAGE that names a slot as its source or target (R86). -/
def Move.stages (m : Move) (n : Slot) : Bool :=
  (m.kind = .prestage || m.kind = .destage) && (m.source = .slot n || m.target = .pos (.slot n))

/-- Whether a staging slot is free for prestaging (R86). -/
def State.stagingFree (s : State) (n : Slot) : Bool :=
  decide (s.slot n = .empty) && !decide (s.execSourceSlot = some n) && !s.anyMove (fun m => m.stages n)

/-- The lower-numbered free staging slot of a port (R86). -/
def State.freeStaging (s : State) (p : Port) : Option Slot :=
  [stagingSlot p 0, stagingSlot p 1].find? s.stagingFree

/-- The storage slot a window entry's record may be prestaged from: every condition of R86 but the free staging slot. -/
def State.prestageSource (s : State) (p : Port) (id : Ident) : Option Slot :=
  match s.record id with
  | some r =>
    match r.location with
    | .slot n =>
      match toStorage n with
      | some k =>
        if (s.port p).state = .attached ∧ r.fit = true ∧ r.binding = none ∧ (s.slotServe k).getLsbD p.val = true then some n
        else none
      | none => none
    | _ => none
  | none => none

/-- The PRESTAGE of a window entry (R86). -/
def prestageOffer (p : Port) (id : Ident) (pos : Fin 2) (source target : Slot) : Offer :=
  ⟨.prestage, .internal, some p, some id, .named, .slot source, .pos (.slot target), some pos⟩

/-- The DESTAGE of a staging slot (R87). -/
def destageOffer (p : Port) (id : Ident) (source : Slot) : Offer :=
  ⟨.destage, .internal, some p, some id, .named, .slot source, .toSelect, none⟩

/-- Whether the review withdraws a WAITING PRESTAGE: out of the window, its record unfit or gone from the source, or its
target no longer EMPTY (R88). -/
def State.prestageUnwanted (s : State) (w : List Ident) (m : Move) : Bool :=
  match m.reticle, m.target.slot? with
  | some id, some n =>
    (windowPosition w id).isNone || !((s.record id).any (fun r => r.fit)) || !s.atSource m || !decide (s.slot n = .empty)
  | _, _ => true

/-- The review of one WAITING move of a port (R88). -/
def State.reviewMove (s : State) (p : Port) (w : List Ident) (m : Move) : State :=
  if m.isWaiting && m.beneficiary = some p then
    match m.kind with
    | .prestage =>
      if s.prestageUnwanted w m then s.withdraw m none
      else
        let pos := m.reticle.bind (windowPosition w)
        if m.listPosition = pos then s else s.updMove m.seq (fun x => { x with listPosition := pos })
    | .destage => if m.reticle.any (fun id => w.contains id) then s.withdraw m none else s
    | _ => s
  else s

/-- The review of a port's WAITING PRESTAGE and DESTAGE moves (R88). -/
def State.review (s : State) (p : Port) : State :=
  s.queue.foldl (fun t m => t.reviewMove p (s.window p) m) s

/-- Ask for a PRESTAGE of one window entry when every condition holds (R86). -/
def State.askPrestage (s : State) (p : Port) (id : Ident) (pos : Fin 2) : State :=
  match s.prestageSource p id, s.freeStaging p with
  | some n, some t => s.offerPrestage (prestageOffer p id pos n t)
  | _, _ => s

/-- The window entries in window order, position 0 first, each request followed by its own tests (R86, R117, R126). -/
def State.askPrestages (s : State) (p : Port) : State :=
  match s.window p with
  | [] => s
  | [a] => s.served (·.askPrestage p a 0)
  | a :: b :: _ => (s.served (·.askPrestage p a 0)).served (·.askPrestage p b 1)

/-- The window entries left wanting after R86: every condition but the last (R87). -/
def State.wanting (s : State) (p : Port) : Nat :=
  (s.window p).countP (fun id => (s.prestageSource p id).isSome && (s.freeStaging p).isNone)

/-- The DESTAGE moves of a port's staging slots in the queue (R87, R92). -/
def State.destages (s : State) (p : Port) : Nat :=
  s.queue.countP (fun m => m.kind = .destage && m.source.slot?.any (isStagingOf p))

/-- The reticle of a staging slot that may be destaged: FILLED, in no window entry, unbound (R87). -/
def State.destageable (s : State) (p : Port) (n : Slot) : Option Ident :=
  match s.slot n with
  | .filled id =>
    if !(s.window p).contains id && (s.record id).any (fun r => r.binding.isNone) then some id else none
  | _ => none

/-- Ask for a DESTAGE of one staging slot while fewer DESTAGE moves than wanting entries are in the queue (R87). -/
def State.askDestage (s : State) (p : Port) (wanted : Nat) (n : Slot) : State :=
  match s.destageable p n with
  | some id => if s.destages p < wanted then s.offerInward (destageOffer p id n) else s
  | none => s

/-- The DESTAGE requests of a re-evaluation, in ascending slot number, each followed by its own tests (R87, R117, R126). -/
def State.askDestages (s : State) (p : Port) : State :=
  (s.served (·.askDestage p (s.wanting p) (stagingSlot p 0))).served (·.askDestage p (s.wanting p) (stagingSlot p 1))

/-- The re-evaluation of a port's window: R88, then R86, then R87, only while the port is ATTACHED (R89). The review and each
request are changes of their own, each with its NO_SLOT test and its grant test (R44, R126). -/
def State.reevaluate (s : State) (p : Port) : State :=
  if (s.port p).state = .attached then ((s.served (·.review p)).askPrestages p).askDestages p else s

end Sys2Proof.Machine
end

