-- ==== Sys2Proof/Machine/Settle.lean ====
section
/-! DEFINITION. What follows a change once it has been applied whole: its NO_SLOT test (R44) and its grant test (R126), then
the window re-evaluations it leads to (R89), each request of which is a change with tests of its own. -/

namespace Sys2Proof.Machine

/-! ## The events of R89 -/

/-- The fields of a record that R89 follows. -/
def Rec.forecastView (r : Rec) : Location × Condition × Bool × Option Seq := (r.location, r.condition, r.held, r.binding)

/-- A record named in a port's ACTIVE list was created or removed, or changed its location, condition, held flag or
binding (R89). -/
def listedRecordChanged (a b : State) (p : Port) : Bool :=
  (b.aheadOf p).activeEntries.any fun e =>
    !decide ((a.record e.id).map Rec.forecastView = (b.record e.id).map Rec.forecastView)

/-- A move from one of the port's staging slots. -/
def Move.leavesStaging (m : Move) (p : Port) : Bool := m.source.slot?.any (isStagingOf p)

/-- A PRESTAGE or DESTAGE of a port. -/
def Move.stagesFor (m : Move) (p : Port) : Bool := (m.kind = .prestage || m.kind = .destage) && m.beneficiary = some p

/-- A move that ended or was withdrawn was bound to a record in the port's ACTIVE list or at its staging slots. A PRESTAGE or
DESTAGE of the port counts whatever its ACTIVE list names by then: the window is re-evaluated at the end of a putback from an
occupied staging slot and after each withdrawal (R91, R158). A move from a staging slot counts although its record has left
the slot, so that the end of a DESTAGE offers the freed slot (R89, R90). -/
def listedMoveEnded (a b : State) (p : Port) : Bool :=
  a.queue.any fun m =>
    (b.move? m.seq).isNone && (m.stagesFor p || m.leavesStaging p || m.reticle.any fun id =>
      (b.aheadOf p).names id || b.locatedAt id (.slot (stagingSlot p 0)) || b.locatedAt id (.slot (stagingSlot p 1)))

/-- Whether a change from `a` to `b` makes port p's window be re-evaluated (R89). DESIGN CHOICE (log entry 54): a PRESTAGE
resolved at source frees its staging slot, so the window is re-evaluated at once and the review may withdraw the move (R88),
although the table of R90 has the forecast do nothing until the move's state next changes. -/
def windowEvent (a b : State) (t : Touch) (p : Port) : Bool :=
  decide ((b.port p).state = .attached) &&
    (t.zone || !decide ((a.port p).state = .attached)
      || !decide ((a.aheadOf p).active = (b.aheadOf p).active)
      || !decide ((a.aheadOf p).activeList = (b.aheadOf p).activeList)
      || !decide (a.slot (stagingSlot p 0) = b.slot (stagingSlot p 0))
      || !decide (a.slot (stagingSlot p 1) = b.slot (stagingSlot p 1))
      || listedMoveEnded a b p || listedRecordChanged a b p)

/-- Whether the re-evaluation of port p, from `s` to `t`, makes port q's window be re-evaluated. For port p itself only a grant
made in it does: its own requests it has already seen (R86, R89, R127). -/
def windowFollows (s t : State) (p q : Port) : Bool :=
  (!decide (q = p) || !decide (s.handler = t.handler)) && windowEvent s t noTouch q

/-- Re-evaluate a list of ports, one after the other; a port that another's re-evaluation reaches is re-evaluated after it, in
a free order among those that wait, since the ports are not ordered among themselves (R89; log entry 6). The number bounds the
re-evaluations of one change (log entry 16). -/
def reevaluateAll : Nat → List Port → State → State
  | 0, _, s => s
  | _, [], s => s
  | fuel + 1, p :: ps, s =>
    let t := s.reevaluate p
    let more := allPorts.filter (fun q => !ps.contains q && windowFollows s t p q)
    let x := if more = [] then (ps, t) else freeOrder (ps ++ more) t
    reevaluateAll fuel x.1 x.2

/-- The bound on the re-evaluations of one change: each of the six ports re-evaluated for itself and for every move the
re-evaluations can withdraw or ask for (R120: twelve PRESTAGE and DESTAGE moves). -/
def reevaluationBound : Nat := 48

/-- The window re-evaluations of a change, the ports standing in no order among themselves (R89). -/
def State.forecastStep (b : State) (a : State) (t : Touch) : State :=
  let x := freeOrder (allPorts.filter (windowEvent a b t)) b
  reevaluateAll reevaluationBound x.1 x.2

/-- Everything that follows a change from `a` to `b` once it has been applied whole. DEDUCED (log entry 15): the change's own
grant test comes before the re-evaluations it leads to, which are later events; the first test that finds an eligible move
grants it (R126). -/
def State.settle (b : State) (a : State) (t : Touch) : State := (b.serve a t).forecastStep a t

end Sys2Proof.Machine
end

