-- ==== Sys2Proof/Machine/ToolNests.lean ====
section
/-! DEFINITION. The tool port controllers' shared operations: liveness, the window timer, takes, lapses, returns,
stand-down and the placement test (chapter 3), and the nest outcomes of a move's execution (R60, R66, R98, R101, R108). -/

namespace Sys2Proof.Machine

/-! ## Liveness (R52) -/

/-- A good frame on a link: on the tool link of an ATTACHED port the liveness timer restarts with the period stored
(R52, R205). -/
def State.goodFrame (s : State) (l : ReqLink) : State :=
  match l with
  | .tool p =>
    if (s.port p).state = .attached then
      s.updPort p (fun r => { r with livenessLeft := r.liveness.map livenessPeriod })
    else s
  | _ => s

/-! ## Nest operations -/

/-- The record located on nest Tp. -/
def State.onNest (s : State) (p : Port) : Option Rec := s.recordAt (.nest (.t p))

/-- Start the window timer of a port with the length of R48. -/
def State.startWindow (s : State) (p : Port) (use : WindowUse) : State :=
  s.updPort p (fun r => { r with window := some ⟨use, windowLength r.settings.windowCount⟩ })

/-- Raise UNSANCTIONED for nest Tp (R58, R59, R62). -/
def State.raiseUnsanctioned (s : State) (p : Port) (id : Option Ident) (code : Option Nat) : State :=
  s.raise .unsanctioned ⟨id, none, some (.nest (.t p)), none, code⟩

/-- Nest Tp becomes EMPTY with nothing left of a delivery at it: window stopped, deferred lapse cleared (R61, R62). -/
def State.clearNest (s : State) (p : Port) : State :=
  s.updPort p (fun r => { r with nest := .empty, window := none, lapseDeferred := false })

/-- A complete take: the record is at TOOL(p), one delivery is counted and the DUE check made, the nest is EMPTY (R61, R174). -/
def State.takeCompletes (s : State) (p : Port) : State :=
  match s.onNest p with
  | some r =>
    ((s.clearNest p).updRecord r.id
      (fun x => { x with location := .tool p, deliveries := satAdd x.deliveries 1 })).dueCheck (fun x => x.id = r.id)
  | none => s.clearNest p

/-- An unsanctioned take: the record is at TOOL(p) in QUARANTINE, no delivery is counted, a WAITING RECLAIM is withdrawn
(R62). -/
def State.unsanctionedTake (s : State) (p : Port) : State :=
  let s1 := (s.clearNest p).withdrawWhere (fun m => m.kind = .reclaim && m.source = .nest (.t p)) none
  match s.onNest p with
  | some r =>
    (s1.updRecord r.id (fun x => { x with location := .tool p, condition := .quarantine })).raiseUnsanctioned p
      (some r.id) none
  | none => s1.raiseUnsanctioned p none none

/-- Offer the RECLAIM of the record on nest Tp (R53, R55, R64, R74). -/
def State.reclaimNest (s : State) (p : Port) : State :=
  match s.onNest p with
  | some r => s.offerInward (reclaimOffer p r.id)
  | none => s

/-- The lapse of a collect window (R64). -/
def State.lapse (s : State) (p : Port) : State :=
  let s1 := (s.lapseNest p).reclaimNest p
  let id := (s.onNest p).map (·.id)
  let s2 := match id with
    | some i => s1.sendTool p (.lapsed i)
    | none => s1
  s2.raise .lapsed ⟨id, none, some (.nest (.t p)), some p, none⟩

/-! ## Returns (R68, R70) -/

/-- A complete return: the COLLECT expecting the identifier is admitted, the lots are added with the DUE check, and the
pending return becomes absent (R68). -/
def State.completeReturn (s : State) (p : Port) (id : Ident) (lots : Nat) : State :=
  ((s.updPort p (fun r => { r with pendingReturn := none, window := none })).offerInward
    (collectOffer p (some id))).addLots id lots

/-- Nest Tp becomes RETURNED other than by a resolution at source: the late-return window closes, and the return is
complete with a usable pending return or the return wait starts (R68, R69, R70). -/
def State.enterReturned (s : State) (p : Port) : State :=
  let s1 := s.updPort p (fun r => { r with nest := .returned, lateOpen := false })
  match (s.port p).pendingReturn with
  | some x =>
    if s.locatedAt x.id (.tool p) then s1.completeReturn p x.id x.lots
    else (s1.updPort p (fun r => { r with pendingReturn := none })).startWindow p .returnWait
  | none => s1.startWindow p .returnWait

/-- Whether nest Tp is RETURNED with no COLLECT admitted for the pod on it: a RETURN frame then pairs at once (R68). -/
def State.awaitsReport (s : State) (p : Port) : Bool :=
  s.toolNest p = .returned && !s.anyMove (fun m => m.kind = .collect && m.source = .nest (.t p) && m.isWaiting)

/-! ## Stand-down (R53) -/

/-- A port's NEXT and ACTIVE lists emptied (R84). -/
def State.emptyLists (s : State) (p : Port) : State := s.updAhead p CallAhead.emptied

/-- The port's WAITING DELIVER and PRESTAGE moves withdrawn without a frame (R51, R53). -/
def State.dropToolWork (s : State) (p : Port) : State :=
  s.withdrawWhere (fun m => (m.kind = .deliver || m.kind = .prestage) && m.beneficiary = some p) none

/-- Mark an EXECUTING DELIVER for port p for stand-down (R53, R74). -/
def State.markStandDown (s : State) (p : Port) : State :=
  { s with queue := s.queue.map (fun m =>
      if m.kind = .deliver ∧ m.beneficiary = some p ∧ m.state = .executing then { m with standDown := true } else m) }

/-- An OUT_WAIT nest becomes OUT_LAPSED with a RECLAIM, without LAPSED frame or notice (R53, R74). -/
def State.lapseQuietly (s : State) (p : Port) : State :=
  if s.toolNest p = .outWait then (s.lapseNest p).reclaimNest p else s

/-- The stand-down of a port (R53). -/
def State.standDown (s : State) (p : Port) : State :=
  (((s.dropToolWork p).emptyLists p).markStandDown p).lapseQuietly p

/-! ## Placement at a tool nest (R60) -/

/-- The port controller's test at a DELIVER's placement: PRDY is raised and READY sent, or the nest lapses and a RECLAIM
is admitted, the tool told WITHDRAWN when the record is unfit and no stand-down mark was set (R60, R164). -/
def State.placementTest (s : State) (p : Port) (id : Ident) (standDown : Bool) : State :=
  match s.record id with
  | some r =>
    if (s.port p).state = .attached ∧ standDown = false ∧ r.fit = true then
      (((s.setToolNest p .outWait).sendTool p (.ready id)).startWindow p .collect)
    else
      let s1 := (s.lapseNest p).offerInward (reclaimOffer p id)
      if r.fit = false ∧ standDown = false then s1.sendTool p (.withdrawn id r.unfitReason) else s1
  | none => s

/-! ## Nest outcomes of a move (R60, R66, R98, R101, R108, R110) -/

/-- A nest becomes EMPTY by a move's outcome. -/
def State.nestEmptied (s : State) : Nest → State
  | .t p => s.setToolNest p .empty
  | .bi => { s with bi := .empty }
  | .bo => { s with bo := .empty }
  | .inn => { s with inn := .empty }

/-- A nest enters BLOCKED and NEST_BLOCKED is raised with it and the identifier read, if any (R56, R113). -/
def State.nestBlocks (s : State) (x : Nest) (id : Option Ident) : State :=
  let s1 := match x with
    | .t p => s.setToolNest p .blocked
    | .bi => { s with bi := .blocked }
    | .bo => { s with bo := .blocked }
    | .inn => { s with inn := .blocked }
  s1.raise .nestBlocked ⟨id, none, some (.nest x), none, none⟩

/-- A nest returns to the state it had before the grant of a move from it (R66, R98, R110). -/
def State.nestRestored (s : State) (x : Nest) (k : MoveKind) : State :=
  match x with
  | .t p => s.setToolNest p (if k = .reclaim then .outLapsed else .returned)
  | .bi => { s with bi := .arrived }
  | .bo => s
  | .inn => { s with inn := .arrived }

/-- A target nest found occupied (R60, R101, R108). -/
def State.nestOccupied (s : State) : Nest → State
  | .t p => if s.presT p = true ∧ s.tbusy p = false then s.enterReturned p else s.setToolNest p .empty
  | .bo => if s.pins.presBo then s.nestBlocks .bo none else { s with bo := .empty }
  | .inn => if s.pins.presIn then State.reshelveArrives { s with inn := .arrived } else { s with inn := .empty }
  | .bi => s

/-- Whether a source nest is in the state its owner gave it at the grant (R166). -/
def State.nestAsGranted (s : State) : Nest → Bool
  | .t p => s.toolNest p = .outbound
  | .bi => s.bi = .outbound
  | .bo => false
  | .inn => s.inn = .outbound

/-- Whether a target nest is in the state its owner gave it at the grant (R60, R101, R108). -/
def State.nestIsInbound (s : State) : Nest → Bool
  | .t p => s.toolNest p = .inbound
  | .bi => false
  | .bo => s.bo = .inbound
  | .inn => s.inn = .inbound

/-- Whether a nest is EMPTY. -/
def State.nestIsEmpty (s : State) : Nest → Bool
  | .t p => s.toolNest p = .empty
  | .bi => s.bi = .empty
  | .bo => s.bo = .empty
  | .inn => s.inn = .empty

end Sys2Proof.Machine
end

