-- ==== Sys2Proof/Machine/Restart.lean ====
section
/-! DEFINITION. The RESTART taking effect across the blocks (R55, R84, R112, R142, R168, R193, R214). -/

namespace Sys2Proof.Machine

/-- The dispatcher's part: every WAITING move withdrawn, its requester told RESTART, and the tenure record cleared (R142). -/
def State.restartQueue (s : State) : State :=
  let s1 := s.withdrawWhere (fun m => m.kind ≠ .scan) (some .restart)
  { s1.withdrawWhere (fun _ => true) none with tenure := ⟨none, 0⟩ }

/-- A port's part: SILENT unless CLOSED, its liveness timer stopped, its lists emptied, OUT_WAIT to OUT_LAPSED (R55, R84). -/
def State.restartPort (s : State) (p : Port) : State :=
  let s1 := (s.updPort p (fun r =>
    if r.state = .closed then r else { r with state := .silent, livenessLeft := none })).emptyLists p
  if s1.toolNest p = .outWait then s1.lapseNest p else s1

/-- The census's part: STOPPING with its SCAN EXECUTING, else IDLE (R193). -/
def State.restartCensus (s : State) : State :=
  if s.census.state = .idle then s
  else if s.executing .scan then { s with census := { s.census with state := .stopping } }
  else s.censusEnds

/-- A fresh internal move a RESTART admits (R55, R112). -/
inductive FreshMove where
  | reclaim (p : Port)
  | collect (p : Port) (id : Option Ident)
  | stockIn
  | reshelve
  deriving DecidableEq, Repr

/-- The fresh moves of the tool nests: a RECLAIM for OUT_LAPSED, and for RETURNED the COLLECT its withdrawn one carried;
`before` is the state before the withdrawals (R55). -/
def State.freshOfPort (s before : State) (p : Port) : List FreshMove :=
  match s.toolNest p with
  | .outLapsed => [.reclaim p]
  | .returned =>
    match before.queue.find? (fun m => m.kind = .collect && m.source = .nest (.t p) && m.isWaiting) with
    | some m => [.collect p m.reticle]
    | none => []
  | _ => []

/-- All fresh moves of a RESTART (R55, R112). -/
def State.freshMoves (s before : State) : List FreshMove :=
  allPorts.flatMap (s.freshOfPort before) ++ (if s.bi = .arrived then [.stockIn] else [])
    ++ (if s.inn = .arrived then [.reshelve] else [])

/-- Admit one fresh move (R55, R112). DESIGN CHOICE (log entry 56): the STOCK_IN names no reticle, as R96 and R112 give it, also
where the pod on BI has its record at NEST(BI) already, whose pick R98 would not have go through R97 again. -/
def State.admitFresh (s : State) : FreshMove → State
  | .reclaim p => s.reclaimNest p
  | .collect p id => s.offerInward (collectOffer p id)
  | .stockIn => s.stockInArrives
  | .reshelve => s.reshelveArrives

/-- The RESTART taking effect, each block's part in the order of R168, then the fresh admissions in a free order. The
NO_SLOT test follows the withdrawals (R44). -/
def State.restartEffect (s : State) : State :=
  let s1 := s.restartQueue
  let s2 := s1.noSlotStep s noTouch
  let s3 := allPorts.foldl State.restartPort s2
  let s4 := { s3 with announcements := [] }
  let s5 := s4.restartCensus
  let s6 := s5.restartNotices
  let x := freeOrder (s6.freshMoves s) s6
  let s7 := x.1.foldl State.admitFresh x.2
  s7.updHandler (fun h => { h with restartPending := false })

/-- A pending RESTART takes effect when the handler has entered IDLE or HALTED (R168); then the consequences follow. -/
def State.settleHandler (b : State) (a : State) : State :=
  if b.handler.restartPending = true ∧ (b.handler.state = .idle ∨ b.handler.state = .halted) then
    b.restartEffect.settle a { noTouch with restarted := true }
  else b.settle a noTouch

end Sys2Proof.Machine
end

