-- ==== Sys2Proof/Machine/Execution.lean ====
section
/-! DEFINITION. The handler interface's shared operations: the pick and its judgement (R97, R110, R150, R151), the pick
check (R42), completion (R154), mismatch and the other ends (R155 to R159), re-target (R157), and halting (R161). -/

namespace Sys2Proof.Machine

/-! ## Halting (R161) -/

/-- The code part of the HALTED notice (R161). -/
def HaltCode.number : HaltCode → Nat
  | .timeout => 0
  | .restarted => 1
  | .unexpected => 2
  | .noTarget => 3
  | .occupiedTwice => 4
  | .robot c => 256 + c.toNat

/-- The position a phase works at: the source in PICKING and PUTBACK, the target in PLACING and CARRYING, the shelf in
SCANNING (R161). -/
def phasePosition (m : Move) : Phase → Option Position
  | .picking => some m.source
  | .putback => some m.source
  | .placing => m.target.pos?
  | .carrying => m.target.pos?
  | .scanning => some m.source

/-- The position the handler is working at. -/
def State.workPosition (s : State) : Option Position :=
  match s.execMove, s.handler.exec.bind (·.phase) with
  | some m, some ph => phasePosition m ph
  | _, _ => none

/-- Enter HALTED: the timer stops, no number is current, a halt record is made, HALTED is raised (R161). -/
def State.haltAt (s : State) (code : HaltCode) (g : GripperState) (x : Option Position) : State :=
  let s1 := s.updHandler (fun h => { h with state := .halted, halt := some ⟨code, g⟩, numberCurrent := false, timer := none })
  s1.raise .halted ⟨s.execMove.bind (·.reticle), none, x, none, some code.number⟩

/-- Enter HALTED at the position the phase was working at (R161). -/
def State.halt (s : State) (code : HaltCode) (g : GripperState) : State := s.haltAt code g s.workPosition

/-- The handler returns to IDLE, both records discarded, no number current, its timer stopped (R146, R147). -/
def State.handlerIdle (s : State) : State :=
  s.updHandler (fun h => { h with state := .idle, exec := none, halt := none, numberCurrent := false, timer := none })

/-! ## The accepted pick (R151) -/

/-- Take the reticle ID and binding from a WAITING COLLECT that expected a record accepted elsewhere (R123). -/
def State.robCollect (s : State) (id : Ident) : State :=
  match (s.record id).bind s.boundMove with
  | some c =>
    if c.kind = .collect ∧ c.state = .waiting then
      s.updMove c.seq (fun m => { m with reticle := none, pickTest := .anyAtTool })
    else s
  | none => s

/-- A move that named no reticle takes the identifier accepted, the pick test NAMED, and the binding (R123, R151). -/
def State.nameMove (s : State) (m : Move) (id : Ident) : State :=
  if m.pickTest = .named then s
  else ((s.robCollect id).updMove m.seq (fun x => { x with reticle := some id, pickTest := .named })).bind id m.seq

/-- The source freed by an accepted pick (R6, R66, R98, R110). -/
def State.freeSource (s : State) : Position → State
  | .slot n => s.setSlot n .empty
  | .nest x => s.nestEmptied x
  | .shelf _ => s

/-- The target slot takes the identifier as its expected ID where it had none (R6, R151). -/
def State.expectAt (s : State) (n : Option Slot) (id : Ident) : State :=
  match n with
  | some n =>
    match s.slot n with
    | .inbound none q => s.setSlot n (.inbound (some id) q)
    | _ => s
  | none => s

/-- An accepted pick: the record in the gripper, the source freed, an unnamed move named and bound, the target's
expected ID filled (R151). -/
def State.acceptPick (s : State) (m : Move) (id : Ident) : State :=
  (((s.updRecord id (Rec.moveTo .gripper)).freeSource m.source).nameMove m id).expectAt m.target.slot? id

/-- The pick check of an unnamed store move: a target whose class mask does not admit the record's class is replaced when
a candidate is found, and stands otherwise (R42). -/
def State.pickCheck (s : State) (m : Move) (id : Ident) : State :=
  match m.target.slot?, s.record id with
  | some n, some r =>
    match toStorage n with
    | some k =>
      if (s.resolve (shelfOf k)).classMask.getLsbD r.cls.val then s
      else
        match s.selectBy (.one r.cls) r.home (s.anchorOf m) with
        | some j =>
          ((s.setSlot n .empty).setSlot (ofStorage j) (.inbound (some id) m.seq)).updMove m.seq
            (fun x => { x with target := .pos (storagePosition j) })
        | none => s
    | none => s
  | _, _ => s

/-- What the identifier read at a pick leads to. -/
inductive PickOutcome where
  /-- Accepted for a record of the catalogue. -/
  | accept (id : Ident)
  /-- Accepted, creating a record. -/
  | create (r : Rec)
  /-- Refused as a mismatch. -/
  | refuse
  /-- Refused because the catalogue is full (R21). -/
  | full (id : Ident)
  deriving DecidableEq, Repr

/-- A creation at pick, refused when the catalogue is full (R20, R21). -/
def State.createAtPick (s : State) (id : Ident) (cls : ClassNo) (cond : Condition) (held : Bool) : PickOutcome :=
  if s.catalogueFull then .full id else .create (newRecord id .gripper cls cond held none none)

/-- The stock-in pick (R97). -/
def State.judgeStockIn (s : State) (id : Ident) : PickOutcome :=
  if s.known id then .refuse
  else
    match s.announcements.find? (fun a => a.id = id) with
    | some a => s.createAtPick id a.cls .ready a.hold
    | none => if s.announcements = [] then s.createAtPick id 0 .ready true else .refuse

/-- The pick of a COLLECT expecting any identifier (R69). -/
def State.judgeAnyAtTool (s : State) (id : Ident) : PickOutcome :=
  match s.record id with
  | some r =>
    match r.location with
    | .tool _ => .accept id
    | _ => .refuse
  | none => s.createAtPick id 0 .quarantine true

/-- The pick test of a move on the identifier read (R150). -/
def State.judgePick (s : State) (m : Move) : ReadId → PickOutcome
  | .noread => .refuse
  | .ident id =>
    match m.pickTest with
    | .named => if m.reticle = some id then .accept id else .refuse
    | .anyAtTool => s.judgeAnyAtTool id
    | .anyAtInspection => if s.locatedAt id .inspection then .accept id else .refuse
    | .stockIn => s.judgeStockIn id
    | .none => .refuse

/-- PLACE the pod at the move's target, or withhold PLACE from a DELIVER whose TBUSY is asserted: CARRYING (R151, R153). -/
def State.carryOn (s : State) (m : Move) : State :=
  let busy := match m.kind, m.beneficiary with
    | .deliver, some p => s.tbusy p
    | _, _ => false
  if busy then
    (s.updHandler (fun h => { h with state := .carrying, timer := some h.placeTimeout })).setPhase .carrying
  else
    match (s.move? m.seq).bind (fun x => x.target.pos?) with
    | some x => s.sendPlace x .placing
    | none => s

/-- The accepted pick taken in PICKING: R151 with the pick check of R42 for an unnamed store move, then PLACE or CARRYING. -/
def State.picks (s : State) (m : Move) (id : Ident) : State :=
  let s1 := s.acceptPick m id
  let s2 := if m.kind.isStore ∧ m.pickTest ≠ .named then s1.pickCheck m id else s1
  s2.carryOn m

/-- Keep what a pick decides for its putback. -/
def State.setCause (s : State) (c : PutbackCause) : State :=
  s.updHandler (fun h => { h with exec := h.exec.map (fun e => { e with cause := some c }) })

/-- A mismatch at pick: PLACE to the source, PUTBACK with cause MISMATCH, nothing else changed (R155). -/
def State.mismatch (s : State) (m : Move) : State := (s.sendPlace m.source .putback).setCause .mismatch

/-- PICKED taken in PICKING: the identifier is stored and judged (R150, R151, R155). -/
def State.takePicked (s : State) (m : Move) (read : ReadId) : State :=
  let s1 := s.updHandler (fun h => { h with exec := h.exec.map (fun e => { e with read := some read }) })
  match s1.judgePick m read with
  | .accept id => s1.picks m id
  | .create r => (s1.createRecord r).picks m r.id
  | .refuse => s1.mismatch m
  | .full id => (s1.refuseCreation id m.source).mismatch m

/-! ## Ends of a move -/

/-- A target released at a move's end: a slot INBOUND to EMPTY, a nest INBOUND to EMPTY; a target that an occupied
outcome has already given another state stands (R60, R101, R108, R155, R156, R166, R167). -/
def State.releaseTarget (s : State) (t : Target) : State :=
  match t.pos? with
  | some (.slot n) =>
    match s.slot n with
    | .inbound _ _ => s.setSlot n .empty
    | _ => s
  | some (.nest x) => if s.nestIsInbound x then s.nestEmptied x else s
  | _ => s

/-- The end of a move: out of the queue, the handler IDLE, a deferred admission made (R96, R109, R115). -/
def State.endMove (s : State) (m : Move) : State := ((s.dropMove m.seq).handlerIdle).deferredAdmission m.kind

/-- The identifier of a read, if one was read. -/
def identRead : Option ReadId → Option Ident
  | some (.ident id) => some id
  | _ => none

/-- The records of a failed pick: the record a NAMED move expected is lost, and the record the read names, if another, is
doubted (R155, R167). -/
def State.loseExpected (s : State) (m : Move) (read : Option Ident) : State :=
  let expected := if m.pickTest = .named then m.reticle else none
  let s1 := match expected with
    | some id => s.updRecord id Rec.lose
    | none => s
  match read with
  | some id => if expected = some id then s1 else s1.doubtRecord id
  | none => s1

/-- The MISMATCH notice of a move: the expected identifier if any, the identifier read if any, and the source (R155). -/
def mismatchDetail (m : Move) (read : Option Ident) : Detail :=
  match m.expected with
  | some id => ⟨some id, read, some m.source, none, none⟩
  | none => ⟨read, none, some m.source, none, none⟩

/-- The source after a mismatch: a slot in FAULT with the identifier read, a nest BLOCKED (R155). -/
def State.faultSource (s : State) (m : Move) (read : Option Ident) : State :=
  match m.source with
  | .slot n => s.setSlot n (.fault read)
  | .nest x => s.nestBlocks x read
  | .shelf _ => s

/-- The mismatch end (R155). DESIGN CHOICE (log entry 53): each raise carries the condition flags as they stand at the raise, so
NEST_BLOCKED of a putback resolved from a halt still shows HALTED as holding. -/
def State.mismatchEnd (s : State) (m : Move) : State :=
  let read := identRead (s.handler.exec.bind (·.read))
  let s1 := (s.faultSource m read).releaseTarget m.target
  let s2 := ((s1.dropMove m.seq).handlerIdle).loseExpected m read
  let s3 := (s2.tellEnd m .mismatch).raise .mismatch (mismatchDetail m read)
  s3.deferredAdmission m.kind

/-- The source found empty: a slot in FAULT with no found ID, a nest EMPTY (R156). -/
def State.emptySource (s : State) : Position → State
  | .slot n => s.setSlot n (.fault none)
  | .nest x => s.nestEmptied x
  | .shelf _ => s

/-- SOURCE_EMPTY taken in PICKING (R156). -/
def State.sourceEmptyEnd (s : State) (m : Move) : State :=
  let s1 := (s.emptySource m.source).releaseTarget m.target
  let s2 := ((s1.dropMove m.seq).handlerIdle).loseExpected m none
  let s3 := (s2.tellEnd m .mismatch).raise .slotFault ⟨m.reticle, none, some m.source, none, none⟩
  s3.deferredAdmission m.kind

/-- The record placed at a move's target, with the target's new state (R154). Tp's own state follows the removal (R60). -/
def State.placeAt (s : State) (x : Position) (id : Ident) : State :=
  match x with
  | .slot n => (s.setSlot n (.filled id)).updRecord id (Rec.putIn n)
  | .nest .bo => { s.updRecord id (Rec.moveTo (.nest .bo)) with bo := .awayWait }
  | .nest .inn =>
    { s.updRecord id (fun r => { r with location := .nest .inn, verdictOwed := true }) with inn := .awayWait }
  | .nest y => s.updRecord id (Rec.moveTo (.nest y))
  | .shelf _ => s

/-- A completion's work at a tool nest: the call-ahead entry is consumed and the port controller tests the placement
(R60, R83). -/
def State.delivered (s : State) (m : Move) (id : Ident) : State :=
  match m.kind, m.beneficiary with
  | .deliver, some p => (s.updAhead p (fun a => a.placed id)).placementTest p id m.standDown
  | _, _ => s

/-- Completion of a move at its target (R154). -/
def State.complete (s : State) (m : Move) : State :=
  match m.reticle, m.target.pos? with
  | some id, some x =>
    let s1 := s.placeAt x id
    let s2 := if m.holdOnCompletion then s1.setHeld id else s1
    let s3 := ((s2.dropMove m.seq).tellEnd m .placed).handlerIdle
    (s3.delivered m id).deferredAdmission m.kind
  | _, _ => s

/-- The pod back in a move's source: a slot FILLED with the record there; at a nest, the state before the grant, a record
in the gripper being located at it (R158, R159, R166). -/
def State.backAtSource (s : State) (m : Move) : State :=
  match m.source, m.reticle with
  | .slot n, some id => (s.setSlot n (.filled id)).updRecord id (Rec.putIn n)
  | .nest x, some id =>
    let s1 := s.nestRestored x m.kind
    if s.locatedAt id .gripper then s1.updRecord id (Rec.moveTo (.nest x)) else s1
  | .nest x, none => s.nestRestored x m.kind
  | _, _ => s

/-- A move goes back to WAITING, its store target "to be selected" again; a DELIVER marked for stand-down is withdrawn
instead with no frame (R115, R159). -/
def State.backToWaiting (s : State) (m : Move) : State :=
  let s1 := (s.updMove m.seq (fun x =>
    { x with state := .waiting, target := if x.kind.isStore then .toSelect else x.target })).handlerIdle
  if m.kind = .deliver ∧ m.standDown = true then s1.withdraw m none else s1

/-- The end of a putback, by its cause (R155, R158, R159). -/
def State.putbackEnds (s : State) (m : Move) (c : PutbackCause) : State :=
  match c with
  | .mismatch => s.mismatchEnd m
  | .occupiedNest => (s.backAtSource m).backToWaiting m
  | .occupiedStaging => (s.backAtSource m).endMove m

/-! ## Occupied targets (R157 to R160) -/

/-- The occupied store or staging target goes to FAULT and SLOT_FAULT is raised (R157, R158). -/
def State.faultTarget (s : State) (m : Move) : State :=
  match m.target.slot? with
  | some n => (s.setSlot n (.fault none)).raise .slotFault ⟨m.reticle, none, some (.slot n), none, none⟩
  | none => s

/-- The pod goes back: the source slot INBOUND for it, PLACE to the source, PUTBACK with its cause (R158, R159). -/
def State.putBack (s : State) (m : Move) (c : PutbackCause) : State :=
  let s1 := match m.source.slot? with
    | some n => s.setSlot n (.inbound m.reticle m.seq)
    | none => s
  (s1.sendPlace m.source .putback).setCause c

/-- OCCUPIED for a store move: the target faulted, then one re-target, or a halt (R43, R157). -/
def State.storeOccupied (s : State) (m : Move) : State :=
  let s1 := (s.faultTarget m).updMove m.seq (fun x => { x with target := .noTarget })
  if (s.handler.exec.map (·.retargets)) = some 0 then
    match s1.selectTarget m with
    | some k =>
      let s2 := (s1.setSlot (ofStorage k) (.inbound m.reticle m.seq)).updMove m.seq
        (fun x => { x with target := .pos (storagePosition k) })
      (s2.updHandler (fun h => { h with exec := h.exec.map (fun e => { e with retargets := 1 }) })).sendPlace
        (storagePosition k) .placing
    | none => s1.haltAt .noTarget .loaded m.target.pos?
  else s1.haltAt .occupiedTwice .loaded m.target.pos?

/-- OCCUPIED taken in PLACING, by the kind of the move (R157, R158, R159). -/
def State.takeOccupied (s : State) (m : Move) : State :=
  if m.kind.isStore then s.storeOccupied m
  else if m.kind = .prestage then (s.faultTarget m).putBack m .occupiedStaging
  else
    match m.target.nest? with
    | some x => (s.nestOccupied x).putBack m .occupiedNest
    | none => s

/-! ## Taking a report (R146, R149) -/

/-- Take a report that carries an order number: stale unless the number is current; handed to `f` with the move in
execution in the states that expect it, and a halt with UNEXPECTED in any other (R146, R149). -/
def State.takeReport (s : State) (number : Byte) (expects : List HandlerState) (f : State → Move → State) : State :=
  if s.handler.current = some number then
    if s.handler.state ∈ expects then
      match s.execMove with
      | some m => (f s m).settleHandler s
      | none => s
    else (s.halt .unexpected .unknown).settleHandler s
  else s

end Sys2Proof.Machine
end

