-- ==== Sys2Proof/Machine/Frames.lean ====
section
/-! DEFINITION. The request placement (R209), and what every request has in
common: the liveness report of a good frame, the checks of R205 in their order, and the one answer handed over last
(R205, R206). -/

namespace Sys2Proof.Machine

/-! ## Placement (R209)

Each function answers what the owner needs to know of the link when the request is placed there, and none when it is not. -/

/-- A request of the tool links: the port of the link. -/
def onTool : ReqLink → Option Port
  | .tool p => some p
  | _ => none

/-- A request of the material link alone. -/
def onMaterial : ReqLink → Option Unit
  | .material => some ()
  | _ => none

/-- A request of the material link and the service line: which of the two. -/
def onEither : ReqLink → Option NoticeLink
  | .material => some .material
  | .service => some .service
  | .tool _ => none

/-- A request of the service line alone. -/
def onService : ReqLink → Option Unit
  | .service => some ()
  | _ => none

/-! ## Answers (R206) -/

/-- Hand an answer to a request link's transmitter, with the request's tag and kind byte (R206). -/
def State.answer (s : State) (l : ReqLink) (tag kind : Byte) (code : AnswerCode) (fields : AnswerFields) : State :=
  s.send (.request l) (.answer tag kind code fields)

/-- What an owner does with a request that has passed the link interface: a change that nothing follows (a refusal, a
query or a setting), a change with the consequences of R44, R89 and R126, or a change of the handler interface, after which
a pending RESTART may take effect (R168). The fields of the answer show the state the request has left (R206). -/
inductive Reply where
  | quiet (s : State) (code : AnswerCode) (fields : AnswerFields)
  | change (s : State) (t : Touch) (code : AnswerCode) (fields : State → AnswerFields)
  | handler (s : State) (fields : AnswerFields)

/-- A refusal or other answer that changes nothing. -/
def refuse (s : State) (code : AnswerCode) : Reply := .quiet s code .none

/-- A change answered OK with no fields. -/
def changed (s : State) : Reply := .change s noTouch .ok (fun _ => .none)

/-- Finish a request taken in state `a`: the consequences of its change, then the answer, handed over last (R206). -/
def Reply.finish (r : Reply) (a : State) (l : ReqLink) (tag kind : Byte) : State :=
  match r with
  | .quiet s code fields => s.answer l tag kind code fields
  | .change s t code fields => let z := s.settle a t; z.answer l tag kind code (fields z)
  | .handler s fields => (s.settleHandler a).answer l tag kind .ok fields

/-- A request frame: reported to the port controller as a good frame, answered NOT_HERE where it is not placed, BAD_FORM
when its body is out of form, and otherwise handed to its owner (R205, checks 2 to 4). -/
def State.request {α β : Type} (s : State) (l : ReqLink) (tag : Byte) (kind : FrameKind) (place : Option β)
    (body : Option α) (owner : State → β → α → Reply) : State :=
  let a := s.goodFrame l
  match place, body with
  | none, _ => a.answer l tag kind.byte .notHere .none
  | some _, none => a.answer l tag kind.byte .badForm .none
  | some b, some x => (owner a b x).finish a l tag kind.byte

/-! ## Offers of link requests (R117, R119, R121, R186 to R190) -/

/-- How a record's binding stands to an offer: none, one that the offer sets aside, or one that refuses it (R121). -/
inductive Claim where
  | free
  | aside (m : Move)
  | bound
  deriving DecidableEq, Repr

/-- The number of the move an offer sets aside. -/
def Claim.seq : Claim → Option Seq
  | .aside m => some m.seq
  | _ => none

/-- The binding test: free without a binding; set aside when the bound move is WAITING and the offering rule's own test
allows it; bound otherwise (R73, R100, R121). -/
def State.claim (s : State) (r : Rec) (allowed : Move → Bool) : Claim :=
  match r.binding with
  | none => .free
  | some _ =>
    match s.boundMove r with
    | some m => if m.isWaiting && allowed m then .aside m else .bound
    | none => .bound

/-- Withdraw the move an admitted offer sets aside (R121). -/
def State.takeAside (s : State) (c : Claim) (reason : Option Reason) : State :=
  match c with
  | .aside m => s.withdraw m reason
  | _ => s

/-- An offer as a DIVERT changes it: INSPECT_OUT to IN for the material side (R190). -/
def Offer.divert (o : Offer) : Offer := { o with kind := .inspectOut, beneficiary := none, target := .pos (.nest .inn) }

/-- What a link offer comes to: the state, the answer code and the answer's fields. -/
structure Verdict where
  state : State
  code : AnswerCode
  fields : AnswerFields

/-- Hold the record an offer names (R188). -/
def State.holdOffered (s : State) (o : Offer) : State :=
  match o.reticle with
  | some id => s.setHeld id
  | none => s

/-- The intercept and entry steps of a link offer that has passed its binding and budget tests (R117, R187 to R190). -/
def State.offerLink (s : State) (o : Offer) (c : Claim) (reason : Option Reason) : Verdict :=
  match s.deciding o with
  | none => ⟨(s.takeAside c reason).enter o false false, .ok, .none⟩
  | some n =>
    let h := s.countHit n o
    match (s.intercepts.get n).action with
    | .note => ⟨(h.takeAside c reason).enter o false false, .ok, .none⟩
    | .hold => ⟨h.holdOffered o, .intercepted, .entryNumber n⟩
    | .divert =>
      if Config.inspectionLimit ≤ s.inspectionOut c.seq then ⟨h, .limit, .none⟩
      else ⟨(h.takeAside c reason).enter o.divert true false, .diverted, .entryNumber n⟩

/-- The slot of a record located at a storage or staging slot. -/
def Rec.slotOf (r : Rec) : Option Slot :=
  match r.location with
  | .slot n => some n
  | _ => none

end Sys2Proof.Machine
end

