-- ==== Sys2Proof/Machine/Census.lean ====
section
/-! DEFINITION. The census unit: CENSUS and CENSUS_STOP, the results of a scan, and the end of each SCAN (chapter 10). -/

namespace Sys2Proof.Machine

/-! ## Starting and stopping (R194 to R199) -/

/-- Change the census record. -/
def State.updCensus (s : State) (f : Census → Census) : State := { s with census := f s.census }

/-- Offer the SCAN of a shelf, admitted without budget or intercept, its number stored (R195). -/
def State.offerScan (s : State) (n : Shelf) : State :=
  (s.updCensus (fun c => { c with nextShelf := some n, scan := some s.nextSeq })).enter (scanOffer n) false false

/-- Start a census of a range: the tally is cleared, and the last shelf is scanned first (R194, R195). -/
def State.startCensus (s : State) (first last : Shelf) : State :=
  (s.updCensus (fun c =>
    { c with state := .running, range := some (first, last), tally := ⟨0, 0, 0, 0, 0⟩, lowestFaulted := none })).offerScan last

/-- CENSUS (R194). -/
def replyCensus (s : State) (b : CensusBody) : Reply :=
  let first : Shelf := clampTo 47 b.first
  let last : Shelf := clampTo 47 b.last
  if last < first then refuse s .badForm
  else if s.census.state ≠ .idle then refuse s .busy
  else .change (s.startCensus first last) noTouch .ok (fun _ => .censusRange first last)

def execCensus (l : ReqLink) (tag : Byte) (body : Option CensusBody) (s : State) : Host.Outcome State Fault Refusal :=
  .next (s.request l tag .census (onEither l) body (fun a _ b => replyCensus a b))

/-- The census stopped while its SCAN waits: the SCAN is withdrawn (R199). -/
def State.stopCensus (s : State) : State := (s.withdrawWhere (fun m => m.kind = .scan) none).censusEnds

/-- CENSUS_STOP (R199). -/
def replyCensusStop (s : State) : Reply :=
  match s.census.state with
  | .idle => .quiet s .ok (.censusStop .idle)
  | .stopping => .quiet s .ok (.censusStop .pending)
  | .running =>
    if s.executing .scan then .quiet (s.updCensus (fun c => { c with state := .stopping })) .ok (.censusStop .pending)
    else .change s.stopCensus noTouch .ok (fun _ => .censusStop .stopped)

def execCensusStop (l : ReqLink) (tag : Byte) (body : Option Unit) (s : State) : Host.Outcome State Fault Refusal :=
  .next (s.request l tag .censusStop (onEither l) body (fun a _ _ => replyCensusStop a))

/-! ## Moving on (R197, R198) -/

/-- Count in the tally. -/
def State.countTally (s : State) (f : Tally → Tally) : State := s.updCensus (fun c => { c with tally := f c.tally })

/-- The census is complete: IDLE, and CENSUS_DONE with the count of slots faulted and the lowest of them (R197). -/
def State.censusDone (s : State) : State :=
  s.censusEnds.raise .censusDone
    { noDetail with position := s.census.lowestFaulted.map .slot, code := some s.census.tally.faulted }

/-- What follows the end of a SCAN of a shelf, by the census state (R197, R198). -/
def State.censusMovesOn (s : State) (n : Shelf) : State :=
  match s.census.state, s.census.range with
  | .running, some (first, _) =>
    if first < n then s.offerScan ⟨n.val - 1, by omega⟩ else s.censusDone
  | .idle, _ => s
  | _, _ => s.censusEnds

/-! ## Scan results (R200 to R202) -/

/-- The fold of a scan: the state, the first detail raised of each kind, and the records made UNLOCATED and those doubted, in
order, which the neighbours are told of once the change is whole (R202). -/
structure ScanFold where
  state : State
  full : Option Detail
  mismatch : Option Detail
  slotFault : Option Detail
  lost : List Ident
  doubted : List Ident

/-- Keep the first detail of a kind: that of the lowest-numbered slot (R202). -/
def firstDetail (old : Option Detail) (d : Detail) : Option Detail :=
  match old with
  | some x => some x
  | none => some d

/-- A result that leaves a slot in FAULT: its found ID replaced, one faulted counted (R7, R200, R201). -/
def State.scanFaults (s : State) (n : Slot) (found : Option Ident) : State :=
  ((s.setSlot n (.fault found)).countTally (fun t => { t with faulted := t.faulted + 1 })).updCensus (fun c =>
    { c with lowestFaulted := some (match c.lowestFaulted with | some k => if n < k then n else k | none => n) })

/-- A record found at a slot: located there with the slot FILLED, its suspect flag cleared (R15, R16, R200). -/
def State.relocate (s : State) (n : Slot) (id : Ident) : State :=
  (s.setSlot n (.filled id)).updRecord id (fun r => { Rec.putIn n r with suspect := false })

/-- A record created at a slot (R19, R20, R200). -/
def State.createAt (s : State) (n : Slot) (id : Ident) (cls : ClassNo) : State :=
  (s.createRecord (newRecord id (.slot n) cls .ready true none (toStorage n))).setSlot n (.filled id)

/-- A record read where its pod should not be becomes QUARANTINE and suspect (R200, R201). -/
def ScanFold.doubts (f : ScanFold) (id : Ident) : ScanFold :=
  { f with state := f.state.updRecord id Rec.doubt, doubted := f.doubted ++ [id] }

/-- An identifier read in a slot that holds no record (R200). -/
def ScanFold.found (f : ScanFold) (n : Slot) (id : Ident) : ScanFold :=
  match f.state.record id with
  | none =>
    if f.state.catalogueFull then
      { f with
        state := f.state.scanFaults n (some id)
        full := firstDetail f.full { noDetail with reticle := some id, position := some (.slot n) } }
    else
      { f with state := (f.state.createAt n id 0).countTally (fun t => { t with created := t.created + 1 }) }
  | some r =>
    if r.location = .unlocated then
      { f with state := (f.state.relocate n id).countTally (fun t => { t with relocated := t.relocated + 1 }) }
    else
      { ScanFold.doubts { f with state := f.state.scanFaults n (some id) } id with
        mismatch := firstDetail f.mismatch { noDetail with reticle := some id, position := some (.slot n) } }

/-- The result of a slot found UNKNOWN, FAULT or EMPTY (R200). -/
def ScanFold.bare (f : ScanFold) (n : Slot) : ScanResult → ScanFold
  | .empty => { f with state := f.state.setSlot n .empty }
  | .ident id => f.found n id
  | .unreadable =>
    { f with
      state := f.state.scanFaults n none
      slotFault := firstDetail f.slotFault { noDetail with position := some (.slot n) } }

/-- The slot's record lost and the slot faulted (R201). -/
def ScanFold.loses (f : ScanFold) (n : Slot) (id : Ident) (found : Option Ident) : ScanFold :=
  { f with state := (f.state.scanFaults n found).updRecord id Rec.lose, lost := f.lost ++ [id] }

/-- The result of a slot found FILLED with a record (R201). -/
def ScanFold.held (f : ScanFold) (n : Slot) (id : Ident) : ScanResult → ScanFold
  | .empty =>
    { f.loses n id none with
      slotFault := firstDetail f.slotFault { noDetail with reticle := some id, position := some (.slot n) } }
  | .unreadable =>
    { f.loses n id none with
      mismatch := firstDetail f.mismatch { noDetail with reticle := some id, position := some (.slot n) } }
  | .ident x =>
    if x = id then { f with state := f.state.updRecord id (fun r => { Rec.putIn n r with suspect := false }) }
    else
      { (f.loses n id (some x)).doubts x with
        mismatch := firstDetail f.mismatch
          { noDetail with reticle := some id, second := some x, position := some (.slot n) } }

/-- A malformed identifier of a scan is taken as UNREADABLE (chapter 10.4). -/
def scanReading : ScanResult → ScanResult
  | .ident id => if identOk id then .ident id else .unreadable
  | r => r

/-- One result set against the state in which it finds its slot (R200, R201). A slot reserved for a move cannot stand on a
shelf being scanned (R195); it would be left as it is. -/
def ScanFold.apply (f : ScanFold) (n : Slot) (r : ScanResult) : ScanFold :=
  match f.state.slot n with
  | .filled id => f.held n id (scanReading r)
  | .inbound _ _ => f
  | .outbound _ _ => f
  | _ => f.bare n (scanReading r)

/-- The eight places of a shelf in ascending order. -/
def eightPlaces : List (Fin 8) := [0, 1, 2, 3, 4, 5, 6, 7]

/-- The eight results applied in ascending slot order (R202). -/
def State.scanFold (s : State) (n : Shelf) (results : Vector ScanResult 8) : ScanFold :=
  eightPlaces.foldl (fun f k => f.apply (shelfSlot n k) (results.get k)) ⟨s, none, none, none, [], []⟩

/-- Withdraw the WAITING move bound to a record that a scan made UNLOCATED (R16, R139). -/
def State.withdrawLost (s : State) (id : Ident) : State :=
  match (s.record id).bind s.boundMove with
  | some m => if m.isWaiting then s.withdraw m (some .unlocated) else s
  | none => s

/-- Raise a kind when there is a detail to raise it with. -/
def State.raiseIf (s : State) (k : NoticeKind) : Option Detail → State
  | some d => s.raise k d
  | none => s

/-- A scan's change told to the neighbours once it is whole: the moves of the records it made UNLOCATED are withdrawn, and a
doubted record on an OUT_WAIT nest is reclaimed (R139, R202, R65). DESIGN CHOICE (log entry 52): the withdrawals come first,
each in the order of the slots. -/
def ScanFold.told (f : ScanFold) (s : State) : State :=
  f.doubted.foldl State.reclaimIfUnfit (f.lost.foldl State.withdrawLost s)

/-- SCANNED taken in SCANNING: in one change the results are applied, the SCAN ends, each kind is raised once and the census
moves on; then the neighbours are told (R163, R197, R202). -/
def State.takeScanned (s : State) (m : Move) (results : Vector ScanResult 8) : State :=
  match m.source with
  | .shelf n =>
    let f := s.scanFold n results
    let s1 := (f.state.dropMove m.seq).handlerIdle
    let s2 := ((s1.raiseIf .catalogueFull f.full).raiseIf .mismatch f.mismatch).raiseIf .slotFault f.slotFault
    let s3 := (s2.countTally (fun t => { t with scanned := t.scanned + 1 })).censusMovesOn n
    f.told s3
  | _ => s

/-- The SCAN of a shelf ends without result: the shelf is skipped (R198). -/
def State.scanSkipped (s : State) (n : Shelf) : State :=
  match s.census.state with
  | .running => (s.countTally (fun t => { t with skipped := t.skipped + 1 })).censusMovesOn n
  | _ => s.censusEnds

/-- The SCAN goes back to WAITING, and a census no longer RUNNING withdraws it (R166, R198). -/
def State.scanPutBack (s : State) (m : Move) : State :=
  let s1 := (s.updMove m.seq (fun x => { x with state := .waiting })).handlerIdle
  match s.census.state with
  | .running => s1
  | _ => s1.withdraw m none

/-- SCANNED (R163): taken with the current number in SCANNING alone (R149). -/
def execScanned (number : Byte) (results : Vector ScanResult 8) (s : State) : Host.Outcome State Fault Refusal :=
  .next (s.takeReport number [.scanning] (fun a m => a.takeScanned m results))

end Sys2Proof.Machine
end

