-- ==== Sys2Proof/Machine/Corrections.lean ====
section
/-! DEFINITION. The service corrections SET_SLOT, FORGET and SET_CONDITION (chapter 1.6). -/

namespace Sys2Proof.Machine

/-- The gate of R24: a slot in UNKNOWN, FAULT or EMPTY that is not the source slot of the move in execution. -/
def State.correctable (s : State) (n : Slot) : Bool :=
  !decide (s.execSourceSlot = some n) &&
    (match s.slot n with
      | .unknown | .fault _ | .empty => true
      | _ => false)

/-- SET_SLOT(slot, EMPTY) (R24, R25). -/
def replySetSlotEmpty (s : State) (x : Nat) : Reply :=
  match selector 396 x with
  | some n => if s.correctable n then changed (s.setSlot n .empty) else refuse s .state
  | none => refuse s .badForm

def execSetSlotEmpty (l : ReqLink) (tag : Byte) (body : Option Nat) (s : State) : Host.Outcome State Fault Refusal :=
  .next (s.request l tag .setSlot (onService l) body (fun a _ x => replySetSlotEmpty a x))

/-- SET_SLOT(slot, ID, class) past the gate: a new record, a relocation, or a refusal; a creation that a full catalogue
refuses raises CATALOGUE_FULL with the identifier and the slot (R21, R26). -/
def State.fillSlot (s : State) (n : Slot) (id : Ident) (c : ClassNo) : Reply :=
  match s.record id with
  | none => if s.catalogueFull then refuse (s.refuseCreation id (.slot n)) .noRoom else changed (s.createAt n id c)
  | some r => if r.location = .unlocated then changed (s.relocate n id) else refuse s .elsewhere

/-- SET_SLOT(slot, ID, class) (R24, R26). -/
def replySetSlotReticle (s : State) (b : SetSlotBody) : Reply :=
  match selector 396 b.slot, identOk b.id, selector 8 b.cls with
  | some n, true, some c => if s.correctable n then s.fillSlot n b.id c else refuse s .state
  | _, _, _ => refuse s .badForm

def execSetSlotReticle (l : ReqLink) (tag : Byte) (body : Option SetSlotBody) (s : State) :
    Host.Outcome State Fault Refusal :=
  .next (s.request l tag .setSlot (onService l) body (fun a _ b => replySetSlotReticle a b))

/-- Remove a record from the catalogue (R22). -/
def State.removeRecord (s : State) (id : Ident) : State :=
  { s with catalogue := s.catalogue.filter (fun r => !decide (r.id = id)) }

/-- Whether a record may be forgotten where it stands (R27, check 2). -/
def Rec.forgettable (r : Rec) : Bool :=
  match r.location with
  | .unlocated | .tool _ | .inspection => true
  | _ => false

/-- FORGET (R27). -/
def replyForget (s : State) (id : Ident) : Reply :=
  if !identOk id then refuse s .badForm
  else
    match s.record id with
    | none => refuse s .unknownReticle
    | some r =>
      if !r.forgettable then refuse s .elsewhere
      else if r.binding.isSome then refuse s .bound
      else changed (s.removeRecord id)

def execForget (l : ReqLink) (tag : Byte) (body : Option Ident) (s : State) : Host.Outcome State Fault Refusal :=
  .next (s.request l tag .forget (onService l) body (fun a _ id => replyForget a id))

/-- SET_CONDITION(id, READY): the life reset and the suspect flag cleared. The DUE check that follows finds every counter
at 0 (R28, R181). -/
def State.resetCondition (s : State) (id : Ident) : State :=
  s.updRecord id (fun r => { r.resetLife with suspect := false })

/-- SET_CONDITION (R28); a condition other than READY is refused (chapter 1.6). -/
def replySetCondition (s : State) (b : SetConditionBody) : Reply :=
  if !identOk b.id || !decide (b.condition = .ready) then refuse s .badForm
  else if s.known b.id then changed (s.resetCondition b.id)
  else refuse s .unknownReticle

def execSetCondition (l : ReqLink) (tag : Byte) (body : Option SetConditionBody) (s : State) :
    Host.Outcome State Fault Refusal :=
  .next (s.request l tag .setCondition (onService l) body (fun a _ b => replySetCondition a b))

end Sys2Proof.Machine
end

