-- ==== Sys2Proof/Machine/HandlerReports.lean ====
section
/-! DEFINITION. The reports of the robot controller: PICKED, SOURCE_EMPTY, PLACED, OCCUPIED, FAULT and RESTARTED, and the
expiry of the phase timer (chapter 7). SCANNED stands with the census unit. -/

namespace Sys2Proof.Machine

/-- The gripper a FAULT or RESTARTED reports. -/
def gripperOf (loaded : Bool) : GripperState := if loaded then .loaded else .empty

/-- A read in its form: NOREAD or a well-formed identifier; a report out of form is not taken (R145, R208). -/
def readOk : ReadId → Bool
  | .ident id => identOk id
  | .noread => true

/-- PICKED, taken in PICKING (R149, R150). -/
def execPicked (number : Byte) (read : ReadId) (s : State) : Host.Outcome State Fault Refusal :=
  .next (if readOk read then s.takeReport number [.picking] (fun a m => a.takePicked m read) else s)

/-- SOURCE_EMPTY, taken in PICKING (R149, R156). -/
def execSourceEmpty (number : Byte) (s : State) : Host.Outcome State Fault Refusal :=
  .next (s.takeReport number [.picking] State.sourceEmptyEnd)

/-- PLACED: the completion in PLACING, the end of the putback by its cause in PUTBACK (R154, R155, R158, R159). -/
def State.takePlaced (s : State) (m : Move) : State :=
  match s.handler.state, s.handler.exec.bind (·.cause) with
  | .putback, some c => s.putbackEnds m c
  | .putback, none => s
  | _, _ => s.complete m

def execPlaced (number : Byte) (s : State) : Host.Outcome State Fault Refusal :=
  .next (s.takeReport number [.placing, .putback] State.takePlaced)

/-- OCCUPIED: by the kind of the move in PLACING, a halt in PUTBACK (R157 to R160). -/
def State.takeOccupiedReport (s : State) (m : Move) : State :=
  if s.handler.state = .putback then s.halt .occupiedTwice .loaded else s.takeOccupied m

def execOccupied (number : Byte) (s : State) : Host.Outcome State Fault Refusal :=
  .next (s.takeReport number [.placing, .putback] State.takeOccupiedReport)

/-- FAULT with the current number halts the handler interface in every state with a number current (R149, R161). -/
def execFaultReport (number : Byte) (code : Byte) (loaded : Bool) (s : State) : Host.Outcome State Fault Refusal :=
  .next (if s.handler.current = some number then (s.halt (.robot code) (gripperOf loaded)).settleHandler s else s)

/-- RESTARTED in IDLE with the gripper loaded: a halt without a move (R162). -/
def State.haltWithoutMove (s : State) : State :=
  (s.updHandler (fun h => { h with exec := some ⟨none, none, none, none, 0⟩ })).haltAt .restarted .loaded none

/-- RESTARTED while HALTED replaces the halt record's gripper (R161, R162). -/
def State.regrip (s : State) (g : GripperState) : State :=
  s.updHandler (fun h => { h with halt := h.halt.map (fun x => { x with gripper := g }) })

/-- RESTARTED, taken in every state whatever its number (R146, R162). -/
def State.takeRestarted (s : State) (loaded : Bool) : State :=
  match s.handler.state with
  | .idle => if loaded then s.haltWithoutMove else s
  | .halted => s.regrip (gripperOf loaded)
  | _ => s.halt .restarted (gripperOf loaded)

def execRestarted (_number : Byte) (loaded : Bool) (s : State) : Host.Outcome State Fault Refusal :=
  .next ((s.takeRestarted loaded).settleHandler s)

/-- The gripper of a timeout: LOADED in CARRYING, else UNKNOWN (R161). -/
def timeoutGripper (st : HandlerState) : GripperState := if st = .carrying then .loaded else .unknown

/-- PHASE_TIMEOUT: the running timer expires and the handler interface halts with TIMEOUT (R148, R161). -/
def execPhaseTimeout (s : State) : Host.Outcome State Fault Refusal :=
  .next (if s.handler.timer.isSome then
      (s.halt .timeout (timeoutGripper s.handler.state)).settleHandler s
    else s)

end Sys2Proof.Machine
end

