-- ==== Sys2Proof/Machine/Lines.lean ====
section
/-! DEFINITION. The input lines: TBUSY of the six tool loaders and the nine presence sensors (chapter 3, chapter 5). An edge
is taken only when it changes the line's level. -/

namespace Sys2Proof.Machine

/-! ## TBUSY (R58, R59, R61, R153) -/

/-- The move at nest Tp: the DELIVER granted to it, the move granted from it, or the COLLECT waiting on it. -/
def State.moveAtNest (s : State) (p : Port) : Option Move :=
  match s.toolNest p with
  | .inbound => s.queue.find? (fun m => m.target = .pos (.nest (.t p)) && m.state = .executing)
  | .outbound => s.queue.find? (fun m => m.source = .nest (.t p) && m.state = .executing)
  | .returned => s.queue.find? (fun m => m.source = .nest (.t p) && m.isWaiting)
  | _ => none

/-- The identifier of the record on nest Tp, or the one the move at the nest expects (R59). -/
def State.nestIdent (s : State) (p : Port) : Option Ident :=
  match s.onNest p with
  | some r => some r.id
  | none => (s.moveAtNest p).bind (·.reticle)

/-- Whether TBUSY_p asserted is a handoff violation (R59). -/
def State.violates (s : State) (p : Port) : Bool :=
  !s.pfree p && !decide (s.toolNest p = .outWait) && !decide (s.toolNest p = .blocked)

/-- TBUSY_p asserted: a put or a take begins, or UNSANCTIONED is raised with code 1 (R58, R59, R61). -/
def State.busyAsserted (s : State) (p : Port) : State :=
  let s1 := s.setTbusy p true
  if s.violates p then s1.raiseUnsanctioned p (s.nestIdent p) (some 1) else s1

def execTbusyAsserted (p : Port) (s : State) : Host.Outcome State Fault Refusal :=
  .next (if s.tbusy p then s else (s.busyAsserted p).settle s noTouch)

/-- What the release of TBUSY_p decides at nest Tp: a put, a take, a deferred lapse, or a take completed after the pod was
withdrawn from tool service (R58, R61, R63, R65). -/
def State.releaseAtNest (s : State) (p : Port) : State :=
  match s.toolNest p, s.presT p with
  | .empty, true => s.enterReturned p
  | .outWait, false => s.takeCompletes p
  | .outWait, true => if (s.port p).lapseDeferred then s.lapse p else s
  | .outLapsed, false => s.unsanctionedTake p
  | _, _ => s

/-- A DELIVER for port p in CARRYING is sent its PLACE (R153). -/
def State.releaseCarried (s : State) (p : Port) : State :=
  match s.execMove with
  | some m =>
    if s.handler.state = .carrying ∧ m.beneficiary = some p then
      match m.target.pos? with
      | some x => s.sendPlace x .placing
      | none => s
    else s
  | none => s

def execTbusyReleased (p : Port) (s : State) : Host.Outcome State Fault Refusal :=
  .next (if s.tbusy p then (((s.setTbusy p false).releaseAtNest p).releaseCarried p).settle s noTouch else s)

/-! ## PRES_T (R58, R60, R62) -/

/-- PRES_Tp goes full: a put without handshake at an EMPTY nest, or recorded (R58, R60). -/
def State.tFull (s : State) (p : Port) : State :=
  let s1 := s.setPresT p true
  if s.tbusy p then s1
  else
    match s.toolNest p with
    | .empty => (s1.enterReturned p).raiseUnsanctioned p none none
    | .inbound => s1.raiseUnsanctioned p none none
    | _ => s1

def execPresTFull (p : Port) (s : State) : Host.Outcome State Fault Refusal :=
  .next (if s.presT p then s else (s.tFull p).settle s noTouch)

/-- A returned pod lifted back: the nest is EMPTY, its COLLECT withdrawn, the return wait stopped, the pending return kept
(R62). -/
def State.liftedBack (s : State) (p : Port) : State :=
  ((s.clearNest p).withdrawWhere (fun m => m.kind = .collect && m.source = .nest (.t p)) none).raiseUnsanctioned p none none

/-- PRES_Tp goes empty (R58, R60, R61, R62, R66). -/
def State.tEmpty (s : State) (p : Port) : State :=
  let s1 := s.setPresT p false
  match s.toolNest p with
  | .outWait => if s.tbusy p then s1 else s1.unsanctionedTake p
  | .outLapsed => s1.unsanctionedTake p
  | .returned => s1.liftedBack p
  | .blocked => s1.setToolNest p .empty
  | _ => s1

def execPresTEmpty (p : Port) (s : State) : Host.Outcome State Fault Refusal :=
  .next (if s.presT p then (s.tEmpty p).settle s noTouch else s)

/-! ## PRES_BI (R96) -/

/-- PRES_BI goes full: an EMPTY BI becomes ARRIVED and its STOCK_IN is admitted or deferred (R96). -/
def State.biFull (s : State) : State :=
  let s1 := { s with pins := { s.pins with presBi := true } }
  match s.bi with
  | .empty => State.stockInArrives { s1 with bi := .arrived }
  | _ => s1

def execPresBiFull (s : State) : Host.Outcome State Fault Refusal :=
  .next (if s.pins.presBi then s else s.biFull.settle s noTouch)

/-- PRES_BI goes empty: an ARRIVED BI loses its WAITING STOCK_IN, a BLOCKED BI is cleared (R96). -/
def State.biEmpty (s : State) : State :=
  let s1 := { s with pins := { s.pins with presBi := false } }
  match s.bi with
  | .arrived => State.withdrawWhere { s1 with bi := .empty } (fun m => m.kind = .stockIn) none
  | .blocked => { s1 with bi := .empty }
  | _ => s1

def execPresBiEmpty (s : State) : Host.Outcome State Fault Refusal :=
  .next (if s.pins.presBi then s.biEmpty.settle s noTouch else s)

/-! ## PRES_BO (R102) -/

/-- PRES_BO goes full: an EMPTY BO becomes BLOCKED (R102). -/
def State.boFull (s : State) : State :=
  let s1 := { s with pins := { s.pins with presBo := true } }
  match s.bo with
  | .empty => s1.nestBlocks .bo none
  | _ => s1

def execPresBoFull (s : State) : Host.Outcome State Fault Refusal :=
  .next (if s.pins.presBo then s else s.boFull.settle s noTouch)

/-- The take by fab transport: the record on BO is removed, BO is EMPTY, EXPORTED is raised (R22, R102). -/
def State.exported (s : State) : State :=
  let id := (s.recordAt (.nest .bo)).map (·.id)
  State.raise
    { s with bo := .empty, catalogue := s.catalogue.filter (fun r => !decide (some r.id = id)) }
    .exported { noDetail with reticle := id, position := some (.nest .bo) }

/-- PRES_BO goes empty (R102). -/
def State.boEmpty (s : State) : State :=
  let s1 := { s with pins := { s.pins with presBo := false } }
  match s.bo with
  | .awayWait => s1.exported
  | .blocked => { s1 with bo := .empty }
  | _ => s1

def execPresBoEmpty (s : State) : Host.Outcome State Fault Refusal :=
  .next (if s.pins.presBo then s.boEmpty.settle s noTouch else s)

/-! ## PRES_IN (R108, R109) -/

/-- PRES_IN goes full: an EMPTY IN becomes ARRIVED and its RESHELVE is admitted or deferred (R109). -/
def State.inFull (s : State) : State :=
  let s1 := { s with pins := { s.pins with presIn := true } }
  match s.inn with
  | .empty => State.reshelveArrives { s1 with inn := .arrived }
  | _ => s1

def execPresInFull (s : State) : Host.Outcome State Fault Refusal :=
  .next (if s.pins.presIn then s else s.inFull.settle s noTouch)

/-- The inspection cell's take: the record on IN is at INSPECTION, IN is EMPTY (R108). DESIGN CHOICE (log entry 44): with two
records located at IN, the one created first is moved. -/
def State.inspectionTake (s : State) : State :=
  let s1 := { s with inn := .empty }
  match s.recordAt (.nest .inn) with
  | some r => s1.updRecord r.id (Rec.moveTo .inspection)
  | none => s1

/-- PRES_IN goes empty (R108, R109). DEDUCED (log entry 49): a pod lifted off an ARRIVED IN only loses its WAITING RESHELVE; a
record that a resolution at source left located at IN stays there. -/
def State.inEmpty (s : State) : State :=
  let s1 := { s with pins := { s.pins with presIn := false } }
  match s.inn with
  | .awayWait => s1.inspectionTake
  | .arrived => State.withdrawWhere { s1 with inn := .empty } (fun m => m.kind = .reshelve) none
  | .blocked => { s1 with inn := .empty }
  | _ => s1

def execPresInEmpty (s : State) : Host.Outcome State Fault Refusal :=
  .next (if s.pins.presIn then s.inEmpty.settle s noTouch else s)

end Sys2Proof.Machine
end

