-- ==== Sys2Proof/Machine/MaterialRequests.lean ====
section
/-! DEFINITION. The material request unit's requests: ANNOUNCE, UNANNOUNCE, EXPORT, HOLD, RELEASE, SETCLASS, INSPECT and
VERDICT (chapter 5). -/

namespace Sys2Proof.Machine

/-- A change that is an announcement write (R44, R126). -/
def announceTouch : Touch := { noTouch with announced := true }

/-! ## The announcement list (R93 to R95) -/

/-- The position of an identifier in the announcement list, counted from 0 (R94). -/
def State.announcedAt (s : State) (id : Ident) : Option Nat := s.announcements.findIdx? (fun a => a.id = id)

/-- An entry's class and hold flag replaced in place (R94). -/
def State.reannounce (s : State) (id : Ident) (c : ClassNo) (hold : Bool) : State :=
  { s with announcements := s.announcements.map (fun a => if a.id = id then ⟨id, c, hold⟩ else a) }

/-- ANNOUNCE (R94). -/
def replyAnnounce (s : State) (b : AnnounceBody) : Reply :=
  match identOk b.id, selector 8 b.cls with
  | true, some c =>
    if s.known b.id then refuse s .duplicate
    else
      match s.announcedAt b.id with
      | some i =>
        .change (s.reannounce b.id c b.hold) announceTouch .ok (fun z => .announced i z.announcements.length)
      | none =>
        if Config.announcementCapacity ≤ s.announcements.length then refuse s .noRoom
        else
          .change { s with announcements := s.announcements ++ [⟨b.id, c, b.hold⟩] } announceTouch .ok
            (fun z => .announced s.announcements.length z.announcements.length)
  | _, _ => refuse s .badForm

def execAnnounce (l : ReqLink) (tag : Byte) (body : Option AnnounceBody) (s : State) : Host.Outcome State Fault Refusal :=
  .next (s.request l tag .announce (onMaterial l) body (fun a _ b => replyAnnounce a b))

/-- UNANNOUNCE (R95). -/
def replyUnannounce (s : State) (id : Ident) : Reply :=
  if !identOk id then refuse s .badForm
  else if (s.announcedAt id).isNone then refuse s .notFound
  else
    .change { s with announcements := s.announcements.filter (fun a => !decide (a.id = id)) } announceTouch .ok
      (fun z => .remaining z.announcements.length)

def execUnannounce (l : ReqLink) (tag : Byte) (body : Option Ident) (s : State) : Host.Outcome State Fault Refusal :=
  .next (s.request l tag .unannounce (onMaterial l) body (fun a _ id => replyUnannounce a id))

/-! ## EXPORT and INSPECT (R99, R100, R107) -/

/-- The STOCK_OUT an EXPORT offers (R99). -/
def stockOutOffer (id : Ident) (n : Slot) : Offer :=
  ⟨.stockOut, .material, none, some id, .named, .slot n, .pos (.nest .bo), none⟩

/-- The INSPECT_OUT an INSPECT offers, with the requester of its link (R107). -/
def inspectOutOffer (l : NoticeLink) (id : Ident) (n : Slot) : Offer :=
  ⟨.inspectOut, match l with
    | .material => .material
    | .service => .service, none, some id, .named, .slot n, .pos (.nest .inn), none⟩

/-- An outward offer with its withdraw option, its tests done: the intercept and entry steps (R99, R100, R107). -/
def State.withdrawOffer (s : State) (o : Offer) (c : Claim) : Reply :=
  let v := s.offerLink o c (some .preempted)
  .change v.state noTouch v.code (fun _ => v.fields)

/-- EXPORT (R99). -/
def replyExport (s : State) (b : WithdrawBody) : Reply :=
  if !identOk b.id then refuse s .badForm
  else
    match s.record b.id with
    | none => refuse s .unknownReticle
    | some r =>
      match r.slotOf with
      | none => refuse s .elsewhere
      | some n =>
        let c := s.claim r (fun _ => b.withdraw)
        if c = .bound then refuse s .bound
        else if Config.linkBudget ≤ s.linkCount c.seq then refuse s .queueFull
        else s.withdrawOffer (stockOutOffer b.id n) c

def execExportOut (l : ReqLink) (tag : Byte) (body : Option WithdrawBody) (s : State) : Host.Outcome State Fault Refusal :=
  .next (s.request l tag .exportOut (onMaterial l) body (fun a _ b => replyExport a b))

/-- INSPECT (R107). -/
def replyInspect (s : State) (l : NoticeLink) (b : WithdrawBody) : Reply :=
  if !identOk b.id then refuse s .badForm
  else
    match s.record b.id with
    | none => refuse s .unknownReticle
    | some r =>
      match r.slotOf with
      | none => refuse s .elsewhere
      | some n =>
        let c := s.claim r (fun _ => b.withdraw)
        if c = .bound then refuse s .bound
        else if Config.inspectionLimit ≤ s.inspectionOut c.seq then refuse s .limit
        else if Config.linkBudget ≤ s.linkCount c.seq then refuse s .queueFull
        else s.withdrawOffer (inspectOutOffer l b.id n) c

def execInspect (l : ReqLink) (tag : Byte) (body : Option WithdrawBody) (s : State) : Host.Outcome State Fault Refusal :=
  .next (s.request l tag .inspect (onEither l) body replyInspect)

/-! ## HOLD, RELEASE and SETCLASS (R103 to R105) -/

/-- HOLD (R103). -/
def replyHold (s : State) (id : Ident) : Reply :=
  if !identOk id then refuse s .badForm
  else if s.known id then changed (s.setHeld id)
  else refuse s .unknownReticle

def execHold (l : ReqLink) (tag : Byte) (body : Option Ident) (s : State) : Host.Outcome State Fault Refusal :=
  .next (s.request l tag .hold (onEither l) body (fun a _ id => replyHold a id))

/-- RELEASE (R104). -/
def replyRelease (s : State) (id : Ident) : Reply :=
  if !identOk id then refuse s .badForm
  else if s.known id then changed (s.updRecord id (fun r => { r with held := false }))
  else refuse s .unknownReticle

def execRelease (l : ReqLink) (tag : Byte) (body : Option Ident) (s : State) : Host.Outcome State Fault Refusal :=
  .next (s.request l tag .release (onEither l) body (fun a _ id => replyRelease a id))

/-- A record's class replaced, with the DUE check (R105, R178). -/
def State.setClassOf (s : State) (id : Ident) (c : ClassNo) : State :=
  (s.updRecord id (fun r => { r with cls := c })).dueCheck (fun r => r.id = id)

/-- SETCLASS (R105). -/
def replySetClass (s : State) (b : SetClassBody) : Reply :=
  match identOk b.id, selector 8 b.cls with
  | true, some c =>
    if s.known b.id then .change (s.setClassOf b.id c) { noTouch with classOf := some b.id } .ok (fun _ => .none)
    else refuse s .unknownReticle
  | _, _ => refuse s .badForm

def execSetClass (l : ReqLink) (tag : Byte) (body : Option SetClassBody) (s : State) : Host.Outcome State Fault Refusal :=
  .next (s.request l tag .setClass (onEither l) body (fun a _ b => replySetClass a b))

/-! ## VERDICT (R111) -/

/-- Whether a verdict is taken for a record, by where it stands (R111). -/
def State.awaitsVerdict (s : State) (r : Rec) : Bool :=
  match r.location with
  | .nest .inn => true
  | .inspection => true
  | .gripper => (s.boundMove r).any (fun m => m.kind = .reshelve)
  | .slot _ => r.verdictOwed
  | _ => false

/-- VERDICT PASS: the life is reset and the verdict no longer owed. The DUE check that follows finds every counter at 0
(R111, R181). -/
def State.passVerdict (s : State) (id : Ident) : State :=
  s.updRecord id (fun r => { r.resetLife with verdictOwed := false })

/-- VERDICT FAIL: QUARANTINE and held, with the effects of both on a delivery (R65, R111). -/
def State.failVerdict (s : State) (id : Ident) : State :=
  ((s.updRecord id (fun r => { r with condition := .quarantine, verdictOwed := false })).setHeld id).reclaimIfUnfit id

/-- VERDICT (R111). -/
def replyVerdict (s : State) (b : VerdictBody) : Reply :=
  if !identOk b.id then refuse s .badForm
  else
    match s.record b.id with
    | none => refuse s .unknownReticle
    | some r =>
      if s.awaitsVerdict r then
        match b.outcome with
        | .pass => changed (s.passVerdict b.id)
        | .fail => changed (s.failVerdict b.id)
      else refuse s .notInspecting

def execVerdict (l : ReqLink) (tag : Byte) (body : Option VerdictBody) (s : State) : Host.Outcome State Fault Refusal :=
  .next (s.request l tag .verdict (onEither l) body (fun a _ b => replyVerdict a b))

end Sys2Proof.Machine
end

