-- ==== Sys2Proof/Machine/PowerOn.lean ====
section
/-! DEFINITION. POWER_ON_RESET (R8, R57, R96, R102, R109, R141, R196) and the frame with an unknown request kind (R205). -/

namespace Sys2Proof.Machine

/-- The input lines after reset: the levels sampled, and TBUSY as its loaders hold it. -/
def resetLines (x : Straps) (tbusy : Vector Bool 6) : Pins :=
  ⟨tbusy, x.presT, Vector.replicate 6 false, x.presBi, x.presBo, x.presIn, x.autocen⟩

/-- A port at reset: its nest EMPTY or, with presence full, RETURNED (R57). -/
def portAtReset (r : PortRec) (full : Bool) : PortRec := if full then { r with nest := .returned } else r

/-- Every block at its power-on value, with the nests as their sensors show them; the commands still waiting and the
count of free choices are the model's own and stand. -/
def State.powerOnBase (s : State) (x : Straps) : State :=
  { State.reset with
    ports := Vector.ofFn (fun p => portAtReset (State.reset.port p) (x.presT.get p))
    bi := if x.presBi then .arrived else .empty
    inn := if x.presIn then .arrived else .empty
    pins := resetLines x s.pins.tbusy
    choices := s.choices
    pending := s.pending }

/-- A pod found on BO: BLOCKED, and NEST_BLOCKED raised (R102, R214). -/
def State.blockBo (s : State) (x : Straps) : State := if x.presBo then s.nestBlocks .bo none else s

/-- One of the first admissions after reset (R141). -/
inductive FirstMove where
  | nest (f : FreshMove)
  | census
  deriving DecidableEq, Repr

/-- The first admissions that the nests and the strap give (R141). -/
def firstMoves (x : Straps) : List FirstMove :=
  (allPorts.filter (fun p => x.presT.get p)).map (fun p => .nest (.collect p none))
    ++ (if x.presBi then [.nest .stockIn] else []) ++ (if x.presIn then [.nest .reshelve] else [])
    ++ (if x.autocen then [.census] else [])

/-- Admit one of the first moves (R57, R96, R109, R196). -/
def State.admitFirst (s : State) : FirstMove → State
  | .nest f => s.admitFresh f
  | .census => s.startCensus 0 47

/-- One first admission with the grant test it leads to (R141). -/
def State.firstAdmission (s : State) (m : FirstMove) : State := (s.admitFirst m).settle s noTouch

/-- POWER_ON_RESET: the power-on state, then the first admissions in a free order, each with its own grant test (R141). -/
def State.powerOn (s : State) (x : Straps) : State :=
  let s1 := (s.powerOnBase x).blockBo x
  let ms := freeOrder (firstMoves x) s1
  ms.1.foldl State.firstAdmission ms.2

def execPowerOnReset (x : Straps) (s : State) : Host.Outcome State Fault Refusal := .next (s.powerOn x)

/-- A good frame on a request link whose kind byte is no request kind: reported for liveness, answered BAD_FORM with that
kind (R205, check 1). -/
def execUnknownRequestKind (l : ReqLink) (tag kind : Byte) (s : State) : Host.Outcome State Fault Refusal :=
  .next ((s.goodFrame l).answer l tag kind .badForm .none)

end Sys2Proof.Machine
end

