-- ==== Sys2Proof/Machine/Queries.lean ====
section
/-! DEFINITION. The queries (R29, R30, R47, R76, R92, R113, R143, R169, R192, R203): what each answers, and the meanings of
PORTSTATE, QRETICLE, QSLOT, QZONE, QPORT, QQUEUE and QINTERCEPT. They change nothing but the liveness timer of the link. -/

namespace Sys2Proof.Machine

/-! ## Inventory (R29, R30) -/

/-- QRETICLE's answer: the record and its bound move's kind and state (R29). -/
def State.reticleAnswer (s : State) (r : Rec) : ReticleAnswer :=
  ⟨r, (s.boundMove r).map (fun m => (m.seq, m.kind, m.state))⟩

/-- Where a slot stands (R30). -/
def slotPlace (n : Slot) : SlotPlace :=
  match toStorage n, stagingOwner n with
  | some k, _ => .shelf (shelfOf k)
  | none, some (p, k) => .staging p k
  | none, none => .shelf 0

/-- QSLOT's answer: the entry, its place, and the kind of the move that reserved it (R30). -/
def State.slotAnswer (s : State) (n : Slot) : SlotAnswer where
  slot := n
  entry := s.slot n
  place := slotPlace n
  moveKind := ((s.slot n).move.bind s.move?).map (·.kind)

/-! ## Zones (R47) -/

/-- QZONE(ENTRY, n)'s answer (R47). -/
def State.zoneEntryAnswer (s : State) (k : Fin 8) : ZoneEntryAnswer :=
  ⟨s.zones.get k, (s.zones.get k).enabled, s.conflictSummary⟩

/-- The resolution part of QZONE(SLOT, s) (R47). -/
def State.zoneSlotPart (s : State) (n : Slot) : ZoneSlotPart :=
  match toStorage n with
  | some k => let r := s.resolve (shelfOf k); .storage (shelfOf k) r.matched r.classMask r.serveMask r.purge
  | none => .staging

/-- QZONE(SLOT, s)'s answer (R47). -/
def State.zoneSlotAnswer (s : State) (n : Slot) : ZoneSlotAnswer := ⟨s.zoneSlotPart n, s.conflictSummary⟩

/-! ## Ports (R76, R92) -/

/-- What the window of a port says of one entry (R92). DESIGN CHOICE (log entry 48): an entry that is both staged at the port and
bound to a move is reported as staged. -/
def State.windowStatus (s : State) (p : Port) (id : Ident) : WindowStatus :=
  match s.record id with
  | some r =>
    if r.slotOf.any (isStagingOf p) then .staged
    else
      match r.binding, s.boundMove r with
      | some _, some m => if m.kind = .prestage ∧ m.beneficiary = some p then .boundPrestage m.state else .boundOther
      | some _, none => .boundOther
      | none, _ => .waitingForSlot
  | none => .waitingForSlot

/-- The three buffers of a port as answers report them, in buffer order (R92). -/
def CallAhead.report (a : CallAhead) : List BufferAnswer :=
  ([0, 1, 2] : List (Fin 3)).map (fun b => ⟨a.roleOf b, (a.lists.get b).isSome⟩)

/-- A list as answers report it, its positions counted from 0; an empty buffer has no entry (R78, R92). -/
def reportList (x : Option (List AheadEntry)) : List ListEntryAnswer :=
  (x.getD []).zipIdx.map (fun e => ⟨e.1.id, e.2, e.1.consumed⟩)

/-- The call-ahead part of PORTSTATE and QPORT (R92). -/
def State.aheadAnswer (s : State) (p : Port) : AheadAnswer where
  buffers := (s.aheadOf p).report
  next := reportList (s.aheadOf p).nextList
  active := reportList (s.aheadOf p).activeList
  window := (s.window p).map (fun id => (id, s.windowStatus p id))
  destages := s.destages p

/-- The liveness period that answers carry, in ATTACHED only (R76). -/
def PortRec.period (r : PortRec) : Option Nat :=
  if r.state = .attached then r.liveness.map livenessPeriod else none

/-- The answer of PORTSTATE and QPORT (R76, R92). DEDUCED (log entry 47): the settings it carries are the six that PORT_SET
stores (R49); of HELLO's values it carries the name and the period. -/
def State.portAnswer (s : State) (p : Port) : PortAnswer where
  state := (s.port p).state
  name := (s.port p).name
  period := (s.port p).period
  settings := (s.port p).settings
  nest := s.toolNest p
  prdy := s.prdy p
  pfree := s.pfree p
  tbusy := s.tbusy p
  pres := s.presT p
  onNest := (s.recordAt (.nest (.t p))).map (·.id)
  window := (s.port p).window
  pendingReturn := (s.port p).pendingReturn
  lateOpen := (s.port p).lateOpen
  checkedOut := s.checkedOut p
  staging0 := s.slot (stagingSlot p 0)
  staging1 := s.slot (stagingSlot p 1)
  ahead := s.aheadAnswer p

/-! ## The queue (R143, R113, R169, R203) -/

/-- What QQUEUE adds for a WAITING entry (R143). -/
def State.waitingAnswer (s : State) (m : Move) : WaitingAnswer where
  failing := s.ineligible m
  urgency := s.urgency m
  overdue := s.overdue m
  store := m.kind.isStore
  candidate := if m.kind.isStore then (s.selectTarget m).map ofStorage else none

/-- One entry of QQUEUE (R143). -/
def State.entryAnswer (s : State) (m : Move) : EntryAnswer :=
  ⟨m, s.ageOf m, if m.isWaiting then some (s.waitingAnswer m) else none⟩

/-- The entries in ascending sequence number: the queue keeps admission order (R118, R143). -/
def State.entryAnswers (s : State) : List EntryAnswer := s.queue.map s.entryAnswer

/-- IDLE, HALTED or executing (R143). -/
def Handler.summary (h : Handler) : HandlerSummary :=
  match h.state with
  | .idle => .idle
  | .halted => .halted
  | _ => .executing

/-- The dispatcher's part of QQUEUE (R143). -/
def State.dispatcherAnswer (s : State) : DispatcherAnswer where
  entries := s.entryAnswers
  linkCount := s.linkCount none
  internalCount := s.queue.length - s.linkCount none
  tenure := s.tenure
  settings := s.settings
  nextSeq := s.nextSeq
  handler := s.handler.summary
  restartPending := s.handler.restartPending

/-- The identifier an executing STOCK_IN or RESHELVE has accepted (R113). -/
def State.acceptedIdent (s : State) : Option Ident :=
  (s.queue.find? (fun m => (m.kind = .stockIn || m.kind = .reshelve) && m.state = .executing)).bind (·.reticle)

/-- The material request unit's part of QQUEUE (R113). -/
def State.materialAnswer (s : State) : MaterialAnswer where
  announcements := s.announcements
  bi := s.bi
  bo := s.bo
  inn := s.inn
  presBi := s.pins.presBi
  presBo := s.pins.presBo
  presIn := s.pins.presIn
  bordy := s.bordy
  irdy := s.irdy
  onBo := (s.recordAt (.nest .bo)).map (·.id)
  onIn := (s.recordAt (.nest .inn)).map (·.id)
  accepted := s.acceptedIdent
  inspectionOut := s.inspectionOut none
  atInspection := s.atInspection

/-- The handler interface's part of QQUEUE (R169). -/
def State.handlerAnswer (s : State) : HandlerAnswer where
  state := s.handler.state
  restartPending := s.handler.restartPending
  current := s.handler.current
  timer := s.handler.timer
  exec := s.handler.exec
  halt := s.handler.halt

/-- The census record in QQUEUE (R203). -/
def State.censusAnswer (s : State) : CensusAnswer where
  state := s.census.state
  range := s.census.range
  nextShelf := if s.census.state = .idle then none else s.census.nextShelf
  scan := if s.census.state = .idle then none else s.census.scan
  tally := s.census.tally

/-- QQUEUE's answer (R143, R113, R169, R203). -/
def State.queueAnswer (s : State) : QueueAnswer :=
  ⟨s.dispatcherAnswer, s.materialAnswer, s.handlerAnswer, s.censusAnswer⟩

/-! ## Intercepts (R192) -/

/-- One intercept entry as answers give it (R183, R192). -/
def State.interceptAnswer (s : State) (n : Fin 16) : InterceptAnswer := ⟨s.intercepts.get n, (s.intercepts.get n).status⟩

/-! ## Meanings -/

/-- PORTSTATE (R76, R92). -/
def replyPortState (s : State) (p : Port) : Reply := .quiet s .ok (.port (s.portAnswer p))

def execPortState (l : ReqLink) (tag : Byte) (body : Option Unit) (s : State) : Host.Outcome State Fault Refusal :=
  .next (s.request l tag .portState (onTool l) body (fun a p _ => replyPortState a p))

/-- QRETICLE (R29). -/
def replyQReticle (s : State) (id : Ident) : Reply :=
  if identOk id then
    match s.record id with
    | some r => .quiet s .ok (.reticle (s.reticleAnswer r))
    | none => refuse s .unknownReticle
  else refuse s .badForm

def execQReticle (l : ReqLink) (tag : Byte) (body : Option Ident) (s : State) : Host.Outcome State Fault Refusal :=
  .next (s.request l tag .qReticle (onEither l) body (fun a _ id => replyQReticle a id))

/-- QSLOT (R30); a slot is a selector (R209). -/
def replyQSlot (s : State) (x : Nat) : Reply :=
  match selector 396 x with
  | some n => .quiet s .ok (.slot (s.slotAnswer n))
  | none => refuse s .badForm

def execQSlot (l : ReqLink) (tag : Byte) (body : Option Nat) (s : State) : Host.Outcome State Fault Refusal :=
  .next (s.request l tag .qSlot (onEither l) body (fun a _ x => replyQSlot a x))

/-- QZONE(ENTRY, n) (R47). -/
def replyQZoneEntry (s : State) (x : Nat) : Reply :=
  match selector 8 x with
  | some k => .quiet s .ok (.zoneEntry (s.zoneEntryAnswer k))
  | none => refuse s .badForm

def execQZoneEntry (l : ReqLink) (tag : Byte) (body : Option Nat) (s : State) : Host.Outcome State Fault Refusal :=
  .next (s.request l tag .qZone (onEither l) body (fun a _ x => replyQZoneEntry a x))

/-- QZONE(SLOT, s) (R47). -/
def replyQZoneSlot (s : State) (x : Nat) : Reply :=
  match selector 396 x with
  | some n => .quiet s .ok (.zoneSlot (s.zoneSlotAnswer n))
  | none => refuse s .badForm

def execQZoneSlot (l : ReqLink) (tag : Byte) (body : Option Nat) (s : State) : Host.Outcome State Fault Refusal :=
  .next (s.request l tag .qZone (onEither l) body (fun a _ x => replyQZoneSlot a x))

/-- QPORT (R76, R92). -/
def replyQPort (s : State) (x : Nat) : Reply :=
  match selector 6 x with
  | some p => .quiet s .ok (.port (s.portAnswer p))
  | none => refuse s .badForm

def execQPort (l : ReqLink) (tag : Byte) (body : Option Nat) (s : State) : Host.Outcome State Fault Refusal :=
  .next (s.request l tag .qPort (onEither l) body (fun a _ x => replyQPort a x))

/-- QQUEUE (R143, R113, R169, R203). -/
def replyQQueue (s : State) : Reply := .quiet s .ok (.queue s.queueAnswer)

def execQQueue (l : ReqLink) (tag : Byte) (body : Option Unit) (s : State) : Host.Outcome State Fault Refusal :=
  .next (s.request l tag .qQueue (onEither l) body (fun a _ _ => replyQQueue a))

/-- QINTERCEPT(entry) (R192). -/
def replyQInterceptEntry (s : State) (x : Nat) : Reply :=
  match selector 16 x with
  | some n => .quiet s .ok (.intercept (s.interceptAnswer n))
  | none => refuse s .badForm

def execQInterceptEntry (l : ReqLink) (tag : Byte) (body : Option Nat) (s : State) : Host.Outcome State Fault Refusal :=
  .next (s.request l tag .qIntercept (onEither l) body (fun a _ x => replyQInterceptEntry a x))

/-- QINTERCEPT(ALL) (R192). -/
def replyQInterceptAll (s : State) : Reply := .quiet s .ok (.intercepts (sixteenEntries.map s.interceptAnswer))

def execQInterceptAll (l : ReqLink) (tag : Byte) (body : Option Unit) (s : State) : Host.Outcome State Fault Refusal :=
  .next (s.request l tag .qIntercept (onEither l) body (fun a _ _ => replyQInterceptAll a))

end Sys2Proof.Machine
end

