-- ==== Sys2Proof/Machine/Receive.lean ====
section
/-! DEFINITION. The receivers of the nine links, byte by byte (R205), and the frames they discard in silence: the meanings
of BODY_LENGTH_EXCESS, CRC_FAILURE and BYTE_GAP_TIMEOUT. -/

namespace Sys2Proof.Machine

/-- The body length of a frame whose length bytes have been taken, start byte first (R204). -/
def bodyLength (taken : List Byte) : Nat := 256 * (taken.getD 1 0).toNat + (taken.getD 2 0).toNat

/-- The whole length of a frame: start byte, length, kind, tag, body and CRC (R204). -/
def frameLength (taken : List Byte) : Nat := 7 + bodyLength taken

/-- Whether the CRC carried at the end of a whole frame is the CRC of its length, kind, tag and body (R204, R205). -/
def crcGood (taken : List Byte) : Bool :=
  let n := bodyLength taken
  decide (crc16 ((taken.drop 1).take (4 + n)) = (taken.getD (5 + n) 0) ++ (taken.getD (6 + n) 0))

/-- The command a whole good frame spells on its link. -/
def decodeTaken (l : Link) (taken : List Byte) : Instr :=
  decodeFrame l (taken.getD 3 0) (taken.getD 4 0) ((taken.drop 5).take (bodyLength taken))

/-- Queue a command behind those that are waiting. -/
def State.enqueue (s : State) (i : Instr) : State := { s with pending := s.pending ++ [i] }

/-- A byte taken inside a frame: the frame is discarded when its length exceeds 320 or its CRC differs, spells its command
when it is whole and good, and otherwise goes on (R205). -/
def State.takeInFrame (s : State) (l : Link) (taken : List Byte) : State :=
  if taken.length = 3 ∧ Config.receivedBodyLimit < bodyLength taken then s.setRx l .hunting
  else if 7 ≤ taken.length ∧ taken.length = frameLength taken then
    let s1 := s.setRx l .hunting
    if crcGood taken then s1.enqueue (decodeTaken l taken) else s1
  else s.setRx l (.inFrame taken)

/-- A byte arriving on a link: discarded while hunting unless it is the start byte 0xC3 (R205). -/
def State.receiveByte (s : State) (l : Link) (b : Byte) : State :=
  match s.rxOf l with
  | .hunting => if b = Config.startByte then s.setRx l (.inFrame [b]) else s
  | .inFrame taken => s.takeInFrame l (taken ++ [b])

/-- Bytes arriving on a link one after the other. -/
def State.receive (s : State) (l : Link) (bs : List Byte) : State := bs.foldl (fun t b => t.receiveByte l b) s

/-- A frame discarded in silence: the receiver hunts, nothing is answered (R205). -/
def State.discardFrame (s : State) (l : Link) : State := s.setRx l .hunting

/-- BODY_LENGTH_EXCESS (R205). -/
def execBodyLengthExcess (l : Link) (s : State) : Host.Outcome State Fault Refusal := .next (s.discardFrame l)

/-- CRC_FAILURE (R205). -/
def execCrcFailure (l : Link) (s : State) : Host.Outcome State Fault Refusal := .next (s.discardFrame l)

/-- BYTE_GAP_TIMEOUT (R205). -/
def execByteGapTimeout (l : Link) (s : State) : Host.Outcome State Fault Refusal := .next (s.discardFrame l)

/-- HANDLER_FRAME_NOT_TAKEN: the effect of a report that never came; the phase timer governs (R145, R208). -/
def execHandlerFrameNotTaken (s : State) : Host.Outcome State Fault Refusal := .next s

end Sys2Proof.Machine
end

