-- ==== Sys2Proof/Machine/Recovery.lean ====
section
/-! DEFINITION. Recovery from a halt and the RESTART request: RESUME, RESOLVE and RESTART (chapter 7.11, 7.12). -/

namespace Sys2Proof.Machine

/-! ## RESUME (R165) -/

/-- The halt record discarded as a phase is taken up again (R165). -/
def State.clearHalt (s : State) : State := s.updHandler (fun h => { h with halt := none })

/-- CARRYING taken up again: PLACE at once when TBUSY_p is not asserted, else CARRYING with its timer afresh (R165). -/
def State.resumeCarrying (s : State) (m : Move) (x : Position) : State :=
  if m.beneficiary.any s.tbusy then
    (s.updHandler (fun h => { h with state := .carrying, timer := some h.placeTimeout })).setPhase .carrying
  else s.sendPlace x .placing

/-- The order of a recorded phase sent again; none when there is no position to place at (R165). -/
def State.resumed (s : State) (m : Move) (ph : Phase) : Option State :=
  match ph with
  | .picking => some (s.sendMove m)
  | .placing => m.target.pos?.map (fun x => s.sendPlace x .placing)
  | .putback => some (s.sendPlace m.source .putback)
  | .carrying => m.target.pos?.map (s.resumeCarrying m)
  | .scanning =>
    match m.source with
    | .shelf n => some (s.sendScan n)
    | _ => none

/-- The move and phase a halt holds: none unless the handler interface is HALTED with a move. -/
def State.haltedAt (s : State) : Option (Move × Phase) :=
  if s.handler.state = .halted then
    match s.execMove, s.handler.exec.bind (·.phase) with
    | some m, some ph => some (m, ph)
    | _, _ => none
  else none

/-- RESUME (R165). -/
def replyResume (s : State) : Reply :=
  match s.haltedAt with
  | some (m, ph) =>
    match s.clearHalt.resumed m ph with
    | some z => .handler z .none
    | none => refuse s .state
  | none => refuse s .state

def execResume (l : ReqLink) (tag : Byte) (body : Option Unit) (s : State) : Host.Outcome State Fault Refusal :=
  .next (s.request l tag .resume (onService l) body (fun a _ _ => replyResume a))

/-! ## RESOLVE(AT_TARGET) (R166) -/

/-- The move resolved at its target: the accepted pick first when it had not been accepted, without the zone check, then
the completion (R166). -/
def State.resolvedAtTarget (s : State) (m : Move) (ph : Phase) (id : Ident) : State :=
  let s1 := if ph = .picking then s.acceptPick m id else s
  s1.complete m

/-- RESOLVE(AT_TARGET) (R166). -/
def replyResolveAtTarget (s : State) : Reply :=
  match s.haltedAt with
  | some (m, ph) =>
    match m.reticle, m.target.pos? with
    | some id, some _ =>
      if m.kind = .scan ∨ ph = .putback then refuse s .state else .handler (s.resolvedAtTarget m ph id) .none
    | _, _ => refuse s .state
  | none => refuse s .state

def execResolveAtTarget (l : ReqLink) (tag : Byte) (body : Option Unit) (s : State) : Host.Outcome State Fault Refusal :=
  .next (s.request l tag .resolve (onService l) body (fun a _ _ => replyResolveAtTarget a))

/-! ## RESOLVE(AT_SOURCE) (R166) -/

/-- Whether a pod has been put on an EMPTY nest, or has arrived there, since its pick was accepted: at Tp in the handshake now
under way, since a put that is complete makes the nest RETURNED; a pod arriving at BI or IN makes it ARRIVED at once (R58,
R96, R109, R166). -/
def State.podSince (s : State) : Nest → Bool
  | .t p => s.presT p && s.putRecorded p
  | _ => false

/-- Whether a source nest refuses a resolution at source: it is neither in its grant state nor EMPTY, or it is EMPTY with a pod
since taken as put or arrived; a sensor that has shown the pod ever since the pick refuses nothing (R166). -/
def State.nestRefuses (s : State) (x : Nest) : Bool := !s.nestAsGranted x && !(s.nestIsEmpty x && !s.podSince x)

/-- Whether a source refuses a resolution at source (R166). -/
def State.sourceRefuses (s : State) (x : Position) : Bool :=
  match x with
  | .nest y => s.nestRefuses y
  | _ => false

/-- The move resolved at its source, by the phase (R166). -/
def State.resolvedAtSource (s : State) (m : Move) (ph : Phase) (cause : Option PutbackCause) : State :=
  match ph, cause with
  | .scanning, _ => s.scanPutBack m
  | .putback, some c => s.putbackEnds m c
  | _, _ => ((s.backAtSource m).releaseTarget m.target).backToWaiting m

/-- RESOLVE(AT_SOURCE) (R166). -/
def replyResolveAtSource (s : State) : Reply :=
  match s.haltedAt with
  | some (m, ph) =>
    if s.sourceRefuses m.source then refuse s .state
    else .handler (s.resolvedAtSource m ph (s.handler.exec.bind (·.cause))) .none
  | none => refuse s .state

def execResolveAtSource (l : ReqLink) (tag : Byte) (body : Option Unit) (s : State) : Host.Outcome State Fault Refusal :=
  .next (s.request l tag .resolve (onService l) body (fun a _ _ => replyResolveAtSource a))

/-! ## RESOLVE(REMOVED) (R167) -/

/-- Whether the pick had been accepted when the handler halted: the phase has passed PICKING, and is no putback of a
refused pick (R151, R155). -/
def ExecRecord.pickAccepted (e : ExecRecord) : Bool :=
  match e.phase with
  | some .carrying => true
  | some .placing => true
  | some .putback => !decide (e.cause = some .mismatch)
  | _ => false

/-- The source of a removed move: a slot still OUTBOUND is faulted and otherwise EMPTY; a nest before an accepted pick is
BLOCKED when its presence shows a pod and EMPTY otherwise, and stands after one (R167). -/
def State.removedSource (s : State) (x : Position) (accepted : Bool) (read : Option Ident) : State :=
  match x with
  | .slot n =>
    match s.slot n with
    | .outbound _ _ => s.setSlot n (.fault none)
    | _ => s.setSlot n .empty
  | .nest y =>
    if accepted then s else if s.presAt y then s.nestBlocks y read else s.nestEmptied y
  | .shelf _ => s

/-- The named record of a removed move is lost, and the record that the read names, if another, is doubted (R167). -/
def State.removedRecords (s : State) (m : Move) (read : Option Ident) : State :=
  let s1 := match m.reticle with
    | some id => s.updRecord id Rec.lose
    | none => s
  match read with
  | some id => if m.reticle = some id then s1 else s1.doubtRecord id
  | none => s1

/-- The move resolved as removed (R167); a SCAN ends without result (R198). DESIGN CHOICE (log entry 53): NEST_BLOCKED is raised
while HALTED still holds, and its NOTICE shows that. -/
def State.resolvedRemoved (s : State) (m : Move) (e : ExecRecord) : State :=
  match m.source with
  | .shelf n => ((s.dropMove m.seq).handlerIdle).scanSkipped n
  | x =>
    let read := identRead e.read
    let s1 := (s.removedSource x e.pickAccepted read).releaseTarget m.target
    let s2 := ((s1.dropMove m.seq).handlerIdle).removedRecords m read
    (s2.tellEnd m .removed).deferredAdmission m.kind

/-- RESOLVE(REMOVED) (R167). -/
def replyResolveRemoved (s : State) : Reply :=
  if s.handler.state = .halted then
    match s.execMove, s.handler.exec with
    | some m, some e => .handler (s.resolvedRemoved m e) .none
    | _, _ => .handler s.handlerIdle .none
  else refuse s .state

def execResolveRemoved (l : ReqLink) (tag : Byte) (body : Option Unit) (s : State) : Host.Outcome State Fault Refusal :=
  .next (s.request l tag .resolve (onService l) body (fun a _ _ => replyResolveRemoved a))

/-! ## RESTART (R168) -/

/-- Whether the handler interface has an order outstanding or withheld, so that a RESTART is pending (R168). -/
def Handler.busy (h : Handler) : Bool := !decide (h.state = .idle) && !decide (h.state = .halted)

/-- RESTART: it takes effect at once in IDLE and HALTED (TAKEN), and is pending otherwise (PENDING) (R168). -/
def replyRestart (s : State) : Reply :=
  .handler (s.updHandler (fun h => { h with restartPending := true })) (.restart s.handler.busy)

def execRestart (l : ReqLink) (tag : Byte) (body : Option Unit) (s : State) : Host.Outcome State Fault Refusal :=
  .next (s.request l tag .restart (onService l) body (fun a _ _ => replyRestart a))

end Sys2Proof.Machine
end

