-- ==== Sys2Proof/Machine/SettingRequests.lean ====
section
/-! DEFINITION. The requests that write settings, and the notice requests: INTERCEPT_SET, ACK, MASK, ZONE_SET, CLASS_SET,
PORT_SET, PORT_OPEN, PORT_CLOSE and TIMING_SET. -/

namespace Sys2Proof.Machine

/-! ## INTERCEPT_SET (R183) -/

/-- The match fields as stored: selectors, checked and not clamped (R183). -/
def matchOf : MatchField → Option InterceptMatch
  | .byPrefix chars => if identOk chars then some (.byPrefix chars) else none
  | .bySlots base length =>
    match selector 396 base with
    | some n => if 1 ≤ length ∧ length ≤ 396 then some (.bySlots n length) else none
    | none => none

/-- INTERCEPT_SET writes one entry whole and zeroes its hit count (R183). -/
def replyInterceptSet (s : State) (b : InterceptBody) : Reply :=
  match selector 16 b.entry, matchOf b.matching with
  | some n, some m =>
    let e : InterceptEntry := ⟨b.requesterMask, b.kindMask, m, b.action, 0⟩
    .quiet { s with intercepts := s.intercepts.set n.val e n.isLt } .ok (.intercept ⟨e, e.status⟩)
  | _, _ => refuse s .badForm

def execInterceptSet (l : ReqLink) (tag : Byte) (body : Option InterceptBody) (s : State) :
    Host.Outcome State Fault Refusal :=
  .next (s.request l tag .interceptSet (onEither l) body (fun a _ b => replyInterceptSet a b))

/-! ## ACK and MASK (R212) -/

/-- A notice request: the set is answered as the request leaves it (R212). -/
def noticeReply (s : State) (l : NoticeLink) : Reply := .quiet s .ok (.noticeSet (s.noticeSetItems l))

/-- ACK on the notice set of its link (R212). -/
def replyAck (s : State) (l : NoticeLink) (kinds : BitVec 16) : Reply := noticeReply (s.ackKinds l kinds) l

def execAck (l : ReqLink) (tag : Byte) (body : Option (BitVec 16)) (s : State) : Host.Outcome State Fault Refusal :=
  .next (s.request l tag .ack (onEither l) body replyAck)

/-- MASK on the notice set of its link (R212). -/
def replyMask (s : State) (l : NoticeLink) (kinds : BitVec 16) : Reply := noticeReply (s.maskKinds l kinds) l

def execMask (l : ReqLink) (tag : Byte) (body : Option (BitVec 16)) (s : State) : Host.Outcome State Fault Refusal :=
  .next (s.request l tag .mask (onEither l) body replyMask)

/-! ## ZONE_SET (R33, R36, R37) -/

/-- A zone entry as stored, the shelves and the purge class clamped (R33). -/
def storedZone (b : ZoneBody) : ZoneEntry :=
  ⟨clampTo 47 b.base, clampTo 47 b.limit, b.classMask, b.serveMask, clampTo 3 b.purge⟩

/-- ZONE_CONFLICT raised when the recomputation finds a conflicted slot (R37). -/
def State.raiseConflict (s : State) : State :=
  let c := s.conflictSummary
  match c.lowest with
  | some n => s.raise .zoneConflict { noDetail with position := some (storagePosition n), code := some c.count }
  | none => s

/-- A zone entry written whole, followed by the recomputation (R33, R36). -/
def State.writeZone (s : State) (k : Fin 8) (e : ZoneEntry) : State :=
  State.raiseConflict { s with zones := s.zones.set k.val e k.isLt }

/-- ZONE_SET (R33). -/
def replyZoneSet (s : State) (b : ZoneBody) : Reply :=
  match selector 8 b.entry with
  | some k => .change (s.writeZone k (storedZone b)) { noTouch with zone := true } .ok (fun _ => .zoneStored (storedZone b))
  | none => refuse s .badForm

def execZoneSet (l : ReqLink) (tag : Byte) (body : Option ZoneBody) (s : State) : Host.Outcome State Fault Refusal :=
  .next (s.request l tag .zoneSet (onService l) body (fun a _ b => replyZoneSet a b))

/-! ## CLASS_SET (R171) -/

/-- The limits after a CLASS_SET: an absent field leaves its limit, the air limit clamped (R171). -/
def ClassLimits.write (c : ClassLimits) (b : ClassBody) : ClassLimits where
  delivery := (b.deliveryLimit.map (clampTo 65535)).getD c.delivery
  lot := (b.lotLimit.map (clampTo 65535)).getD c.lot
  air := (b.airLimit.map (clampTo 16383)).getD c.air

/-- Whether a CLASS_SET carries no limit field (R171). -/
def readsLimits (b : ClassBody) : Bool := b.deliveryLimit.isNone && b.lotLimit.isNone && b.airLimit.isNone

/-- The records of a class (R178). -/
def ofClass (k : ClassNo) (r : Rec) : Bool := r.cls = k

/-- CLASS_SET (R171). -/
def replyClassSet (s : State) (b : ClassBody) : Reply :=
  match selector 8 b.cls with
  | some k =>
    if readsLimits b then .quiet s .ok (.classLimits (s.classes.get k) 0)
    else
      let c := (s.classes.get k).write b
      let s1 := { s with classes := s.classes.set k.val c k.isLt }
      .change (s1.dueCheck (ofClass k)) noTouch .ok (fun _ => .classLimits c (s1.newlyDue (ofClass k)).length)
  | none => refuse s .badForm

def execClassSet (l : ReqLink) (tag : Byte) (body : Option ClassBody) (s : State) : Host.Outcome State Fault Refusal :=
  .next (s.request l tag .classSet (onService l) body (fun a _ b => replyClassSet a b))

/-! ## PORT_SET (R49) -/

/-- The settings as stored, each clamped to its maximum (R49). -/
def storedSettings (b : PortSetBody) : PortSettings :=
  ⟨clampTo 7 b.weight, b.priority, clampTo 15 b.agingRate, clampTo 3 b.tenureLimit, clampTo 47 b.anchor,
   clampTo 255 b.windowCount⟩

/-- A port's settings written; a priority flag set clears that of every other port in the same change (R49). -/
def State.writeSettings (s : State) (p : Port) (x : PortSettings) : State :=
  { s with ports := Vector.ofFn fun q =>
      let r := s.port q
      if q = p then { r with settings := x }
      else if x.priority then { r with settings := { r.settings with priority := false } }
      else r }

/-- PORT_SET (R49). -/
def replyPortSet (s : State) (b : PortSetBody) : Reply :=
  match selector 6 b.port with
  | some p => .quiet (s.writeSettings p (storedSettings b)) .ok (.portStored (storedSettings b))
  | none => refuse s .badForm

def execPortSet (l : ReqLink) (tag : Byte) (body : Option PortSetBody) (s : State) : Host.Outcome State Fault Refusal :=
  .next (s.request l tag .portSet (onService l) body (fun a _ b => replyPortSet a b))

/-! ## PORT_OPEN and PORT_CLOSE (R54) -/

/-- A CLOSED port becomes SILENT; any other is left as it is (R54). -/
def State.openPort (s : State) (p : Port) : State :=
  s.updPort p (fun r => if r.state = .closed then { r with state := .silent } else r)

/-- PORT_OPEN (R54). -/
def replyPortOpen (s : State) (x : Nat) : Reply :=
  match selector 6 x with
  | some p => .quiet (s.openPort p) .ok .none
  | none => refuse s .badForm

def execPortOpen (l : ReqLink) (tag : Byte) (body : Option Nat) (s : State) : Host.Outcome State Fault Refusal :=
  .next (s.request l tag .portOpen (onService l) body (fun a _ x => replyPortOpen a x))

/-- An open port becomes CLOSED, its liveness timer stopped and the stand-down applied (R53, R54). -/
def State.closePort (s : State) (p : Port) : State :=
  (s.updPort p (fun r => { r with state := .closed, livenessLeft := none })).standDown p

/-- PORT_CLOSE (R54). -/
def replyPortClose (s : State) (x : Nat) : Reply :=
  match selector 6 x with
  | some p => if (s.port p).state = .closed then .quiet s .ok .none else changed (s.closePort p)
  | none => refuse s .badForm

def execPortClose (l : ReqLink) (tag : Byte) (body : Option Nat) (s : State) : Host.Outcome State Fault Refusal :=
  .next (s.request l tag .portClose (onService l) body (fun a _ x => replyPortClose a x))

/-! ## TIMING_SET (R140, R148, R213) -/

/-- The dispatch settings after a TIMING_SET: the fields present, clamped (R140). -/
def DispatchSettings.write (d : DispatchSettings) (b : TimingBody) : DispatchSettings where
  starvation := (b.starvation.map clampStarvation).getD d.starvation
  materialWeight := (b.materialWeight.map (clampTo 7)).getD d.materialWeight
  materialRate := (b.materialRate.map (clampTo 15)).getD d.materialRate
  bulkAnchor := (b.bulkAnchor.map (clampTo 47)).getD d.bulkAnchor
  inspectionAnchor := (b.inspectionAnchor.map (clampTo 47)).getD d.inspectionAnchor

/-- The handler timeouts after a TIMING_SET, 5 to 255 s (R148). -/
def Handler.write (h : Handler) (b : TimingBody) : Handler :=
  { h with
    pickTimeout := (b.pickTimeout.map (clampBetween 5 255)).getD h.pickTimeout
    placeTimeout := (b.placeTimeout.map (clampBetween 5 255)).getD h.placeTimeout }

/-- The three owners' parts of a TIMING_SET (R140, R148, R209, R213). -/
def State.writeTiming (s : State) (b : TimingBody) : State :=
  { s with
    settings := s.settings.write b
    handler := s.handler.write b
    noticeGap := (b.noticeGap.map (clampBetween 1 60)).getD s.noticeGap }

/-- All values stored after clamping (R140). -/
def State.timingAnswer (s : State) : TimingAnswer :=
  ⟨s.settings, s.handler.pickTimeout, s.handler.placeTimeout, s.noticeGap⟩

/-- TIMING_SET (R140). -/
def replyTimingSet (s : State) (b : TimingBody) : Reply :=
  let z := s.writeTiming b
  .quiet z .ok (.timing z.timingAnswer)

def execTimingSet (l : ReqLink) (tag : Byte) (body : Option TimingBody) (s : State) : Host.Outcome State Fault Refusal :=
  .next (s.request l tag .timingSet (onService l) body (fun a _ b => replyTimingSet a b))

end Sys2Proof.Machine
end

