-- ==== Sys2Proof/Machine/Timers.lean ====
section
/-! DEFINITION. The timer expiries of the ports and the notice unit, and the minute tick (R53, R63, R69, R172, R213). An
expiry is taken only while its timer runs; with the timer idle nothing has expired. -/

namespace Sys2Proof.Machine

/-- The liveness timer of an ATTACHED port expires: SILENT, PORT_SILENT raised, the stand-down applied (R53). -/
def State.goSilent (s : State) (p : Port) : State :=
  ((s.updPort p (fun r => { r with state := .silent, livenessLeft := none })).raise .portSilent
    { noDetail with port := some p }).standDown p

def execLivenessExpiry (p : Port) (s : State) : Host.Outcome State Fault Refusal :=
  .next (if (s.port p).state = .attached ∧ (s.port p).livenessLeft.isSome then (s.goSilent p).settle s noTouch else s)

/-- Whether a port's window timer runs in a use. -/
def State.windowRuns (s : State) (p : Port) (u : WindowUse) : Bool := (s.port p).window.any (fun w => w.use = u)

/-- The collect window expires: the lapse at once, or deferred while TBUSY_p is asserted (R63, R64). -/
def State.collectExpires (s : State) (p : Port) : State :=
  if s.tbusy p then s.updPort p (fun r => { r with lapseDeferred := true, window := none }) else s.lapse p

def execCollectWindowExpiry (p : Port) (s : State) : Host.Outcome State Fault Refusal :=
  .next (if s.windowRuns p .collect ∧ s.toolNest p = .outWait then (s.collectExpires p).settle s noTouch else s)

/-- The return wait expires unpaired: a COLLECT expecting any identifier, the late-return window open, RETURN_UNREPORTED
raised (R69). -/
def State.returnWaitExpires (s : State) (p : Port) : State :=
  ((s.updPort p (fun r => { r with window := none, lateOpen := true })).offerInward (collectOffer p none)).raise
    .returnUnreported { noDetail with position := some (.nest (.t p)), port := some p }

def execReturnWaitExpiry (p : Port) (s : State) : Host.Outcome State Fault Refusal :=
  .next (if s.windowRuns p .returnWait ∧ s.toolNest p = .returned then (s.returnWaitExpires p).settle s noTouch else s)

def execGapTimerExpiry (l : NoticeLink) (s : State) : Host.Outcome State Fault Refusal :=
  .next (if (s.noticeSet l).gap.isSome then s.gapExpires l else s)

/-- The accrual of a minute tick: every record gains its location's air quarters (R172, R173). -/
def State.accrue (s : State) : State :=
  { s with tickPhase := 0, catalogue := s.catalogue.map (fun r => { r with air := satAdd r.air (s.airWeight r) }) }

/-- Whether a record is at a place where a minute tick adds air quarters (R172, R173). -/
def State.gainsAir (s : State) (r : Rec) : Bool := decide (0 < s.airWeight r)

/-- The minute tick: the accrual, then the DUE check of every record with an addition, one at 65535 too (R172, R176, R178). -/
def State.minute (s : State) : State := s.accrue.dueCheck s.gainsAir

def execMinuteTick (s : State) : Host.Outcome State Fault Refusal := .next (s.minute.settle s noTouch)

/-! ## A second of station time (R1, R48, R52, R148, R172, R213)

The command table has no row for the passing of time. With no command waiting the block lets one second of station time
pass: the clock and the tick phase advance, the running timers run down, and the commands of the timers that reach their
end, with the minute tick, are queued in a free order. -/

/-- Seconds run down by one. -/
def countDown (t : Option Nat) : Option Nat := t.map (· - 1)

/-- A timer that reaches its end within the next `n` of its units. -/
def runsOut (n : Nat) (t : Option Nat) : Bool := t.any (fun x => x ≤ n)

/-- A port's timers one second on: the liveness timer counts tenths of a second (R52). -/
def PortRec.second (r : PortRec) : PortRec :=
  { r with livenessLeft := r.livenessLeft.map (· - 10), window := r.window.map (fun w => { w with left := w.left - 1 }) }

/-- The expiries of a port within the next second. -/
def State.portExpiries (s : State) (p : Port) : List Instr :=
  (if runsOut 10 (s.port p).livenessLeft then [.livenessExpiry p] else []) ++
    (match (s.port p).window with
      | some ⟨.collect, n⟩ => if n ≤ 1 then [.collectWindowExpiry p] else []
      | some ⟨.returnWait, n⟩ => if n ≤ 1 then [.returnWaitExpiry p] else []
      | none => [])

/-- Every expiry within the next second, and the minute tick when the phase would reach 60 (R172). -/
def State.expiries (s : State) : List Instr :=
  allPorts.flatMap s.portExpiries ++ (if runsOut 1 s.handler.timer then [.phaseTimeout] else [])
    ++ (if runsOut 1 s.materialNotices.gap then [.gapTimerExpiry .material] else [])
    ++ (if runsOut 1 s.serviceNotices.gap then [.gapTimerExpiry .service] else [])
    ++ (if s.tickPhase = 59 then [.minuteTick] else [])

/-- One second of station time. -/
def State.idleSecond (s : State) : State :=
  let es := freeOrder s.expiries s
  let t := es.2
  { t with
    clock := t.clock + 1
    tickPhase := t.tickPhase + 1
    ports := t.ports.map PortRec.second
    handler := { t.handler with timer := countDown t.handler.timer }
    materialNotices := { t.materialNotices with gap := countDown t.materialNotices.gap }
    serviceNotices := { t.serviceNotices with gap := countDown t.serviceNotices.gap }
    pending := t.pending ++ es.1 }

end Sys2Proof.Machine
end

