-- ==== Sys2Proof/Machine/ToolRequests.lean ====
section
/-! DEFINITION. The requests of the tool links that change state: HELLO, ALIVE, CALL, CANCEL, AHEAD and RETURN (chapter 3,
chapter 4). -/

namespace Sys2Proof.Machine

/-! ## HELLO and ALIVE (R50, R51) -/

/-- The liveness values a HELLO carries: the base 0 for 0.1 s or 1 for 1 s, the factors clamped (R51). -/
def livenessOf (b : HelloBody) : Liveness := ⟨b.base = 1, clampFactor b.f1, clampFactor b.f2⟩

/-- Store a HELLO's liveness values and start the liveness timer with the new period (R51, R52). -/
def PortRec.withLiveness (v : Liveness) (r : PortRec) : PortRec :=
  { r with liveness := some v, livenessLeft := some (livenessPeriod v) }

/-- Raise PORT_ATTACHED for port p (R51). -/
def State.raiseAttached (s : State) (p : Port) : State := s.raise .portAttached { noDetail with port := some p }

/-- HELLO taken in SILENT: the port attaches (R51). -/
def State.attach (s : State) (p : Port) (b : HelloBody) : State :=
  (s.updPort p (fun r => { r.withLiveness (livenessOf b) with state := .attached, name := some b.name })).raiseAttached p

/-- HELLO taken in ATTACHED: the liveness values are replaced, and a new name drops the previous tool's work (R51). -/
def State.rehello (s : State) (p : Port) (b : HelloBody) : State :=
  let s1 := s.updPort p (PortRec.withLiveness (livenessOf b))
  if (s.port p).name = some b.name then s1
  else (((s1.updPort p (fun r => { r with name := some b.name })).emptyLists p).dropToolWork p).raiseAttached p

/-- HELLO (R50, R51). -/
def replyHello (s : State) (p : Port) (b : HelloBody) : Reply :=
  if nameOk b.name ∧ b.base ≤ 1 then
    match (s.port p).state with
    | .closed => refuse s .portState
    | .silent => changed (s.attach p b)
    | .attached => changed (s.rehello p b)
  else refuse s .badForm

def execHello (l : ReqLink) (tag : Byte) (body : Option HelloBody) (s : State) : Host.Outcome State Fault Refusal :=
  .next (s.request l tag .hello (onTool l) body replyHello)

/-- ALIVE is answered OK with the port state in every port state (R50). -/
def replyAlive (s : State) (p : Port) : Reply := .quiet s .ok (.portState (s.port p).state)

def execAlive (l : ReqLink) (tag : Byte) (body : Option Unit) (s : State) : Host.Outcome State Fault Refusal :=
  .next (s.request l tag .alive (onTool l) body (fun a p _ => replyAlive a p))

/-! ## CALL (R72, R73) -/

/-- The binding a CALL by port p sets aside: a PRESTAGE for p or a DESTAGE of one of p's staging slots (R73). -/
def callSetsAside (p : Port) (m : Move) : Bool :=
  (m.kind = .prestage && m.beneficiary = some p) || (m.kind = .destage && m.source.slot?.any (isStagingOf p))

/-- The DELIVER a CALL offers (R72). -/
def deliverOffer (p : Port) (id : Ident) (n : Slot) : Offer :=
  ⟨.deliver, .tool p, some p, some id, .named, .slot n, .pos (.nest (.t p)), none⟩

/-- Checks 4 to 9 of a CALL on a record at a slot, the first that fails (R72). -/
def State.callRefusal (s : State) (p : Port) (r : Rec) (c : Claim) : Option AnswerCode :=
  if r.condition ≠ .ready then some .notReady
  else if r.held then some .held
  else if c = .bound then some .bound
  else if Config.checkedOutLimit ≤ s.checkedOut p then some .limit
  else if !(s.serveMaskFor r).getLsbD p.val then some .zone
  else if Config.linkBudget ≤ s.linkCount c.seq then some .queueFull
  else none

/-- A CALL answered OK or DIVERTED is reported to the forecast unit (R72, R82). -/
def State.reportCall (s : State) (p : Port) (id : Ident) (code : AnswerCode) : State :=
  if code = .ok ∨ code = .diverted then s.updAhead p (fun a => a.called id (code = .diverted)) else s

/-- A CALL whose checks 1 to 9 have passed: check 10 and the admission (R72, R117). -/
def State.callOffer (s : State) (p : Port) (id : Ident) (n : Slot) (c : Claim) : Reply :=
  let v := s.offerLink (deliverOffer p id n) c none
  .change (v.state.reportCall p id v.code) noTouch v.code (fun _ => v.fields)

/-- CALL (R72). -/
def replyCall (s : State) (p : Port) (id : Ident) : Reply :=
  if !identOk id then refuse s .badForm
  else if (s.port p).state ≠ .attached then refuse s .portState
  else
    match s.record id with
    | none => refuse s .unknownReticle
    | some r =>
      match r.slotOf with
      | none => refuse s .elsewhere
      | some n =>
        let c := s.claim r (callSetsAside p)
        match s.callRefusal p r c with
        | some code => refuse s code
        | none => s.callOffer p id n c

def execCall (l : ReqLink) (tag : Byte) (body : Option Ident) (s : State) : Host.Outcome State Fault Refusal :=
  .next (s.request l tag .call (onTool l) body replyCall)

/-! ## CANCEL (R74) -/

/-- The DELIVER of a reticle to a port, if one is in the queue (R74). -/
def State.deliverOf (s : State) (p : Port) (id : Ident) : Option Move :=
  s.queue.find? (fun m => m.kind = .deliver && m.beneficiary = some p && m.reticle = some id)

/-- Mark a move for stand-down (R74, R114). -/
def State.markMove (s : State) (q : Seq) : State := s.updMove q (fun m => { m with standDown := true })

/-- CANCEL (R74). -/
def replyCancel (s : State) (p : Port) (id : Ident) : Reply :=
  if !identOk id then refuse s .badForm
  else if (s.port p).state = .closed then refuse s .portState
  else
    match s.deliverOf p id with
    | some m =>
      if m.isWaiting then changed (s.withdraw m none)
      else .quiet (s.markMove m.seq) .tooLate .none
    | none =>
      if s.toolNest p = .outWait ∧ s.locatedAt id (.nest (.t p)) = true then
        if s.tbusy p then refuse s .tooLate else changed (s.lapseQuietly p)
      else refuse s .notFound

def execCancel (l : ReqLink) (tag : Byte) (body : Option Ident) (s : State) : Host.Outcome State Fault Refusal :=
  .next (s.request l tag .cancel (onTool l) body replyCancel)

/-! ## AHEAD (R79, R80) -/

/-- The buffers after an AHEAD is taken: fill, FILL/NEXT swap, and the exchange of point c or the test of point a (R80). -/
def CallAhead.taken (a : CallAhead) (replaceNow : Bool) (ids : List Ident) : CallAhead :=
  let b := a.fillSwap (dropRepeats ids)
  if replaceNow then b.exchange else b.exchangeTest

/-- The role of the list an AHEAD has given, held by the buffer that was FILL (R79). -/
def CallAhead.newRole (a b : CallAhead) : Role := b.roleOf a.fill

/-- AHEAD (R79, R80). -/
def replyAhead (s : State) (p : Port) (b : AheadBody) : Reply :=
  if !b.ids.all identOk then refuse s .badForm
  else if (s.port p).state ≠ .attached then refuse s .portState
  else if Config.aheadCapacity < b.ids.length then refuse s .noRoom
  else
    let kept := (dropRepeats b.ids).length
    let old := s.aheadOf p
    let new := old.taken b.replaceNow b.ids
    .change (s.setAhead p new) noTouch .ok (fun _ => .ahead kept (b.ids.length - kept) (old.newRole new))

def execAhead (l : ReqLink) (tag : Byte) (body : Option AheadBody) (s : State) : Host.Outcome State Fault Refusal :=
  .next (s.request l tag .ahead (onTool l) body replyAhead)

/-! ## RETURN (R67, R68, R70) -/

/-- Lots of a RETURN taken in the late-return window: added when the identifier is in the catalogue (R70, R175). -/
def State.lateLots (s : State) (id : Ident) (lots : Nat) : State := if s.known id then s.addLots id lots else s

/-- An accepted RETURN: the return is complete, or the report waits for its pod (R68). -/
def State.acceptReturn (s : State) (p : Port) (id : Ident) (lots : Nat) : State :=
  if s.awaitsReport p then s.completeReturn p id lots
  else s.updPort p (fun r => { r with pendingReturn := some ⟨id, lots⟩ })

/-- RETURN (R67). -/
def replyReturn (s : State) (p : Port) (b : ReturnBody) : Reply :=
  if !identOk b.id then refuse s .badForm
  else if (s.port p).state = .closed then refuse s .portState
  else if (s.port p).lateOpen then changed (s.lateLots b.id b.lots)
  else if s.locatedAt b.id (.tool p) then changed (s.acceptReturn p b.id b.lots)
  else refuse s .notHeldHere

def execReturnLots (l : ReqLink) (tag : Byte) (body : Option ReturnBody) (s : State) : Host.Outcome State Fault Refusal :=
  .next (s.request l tag .returnLots (onTool l) body replyReturn)

end Sys2Proof.Machine
end

