-- ==== Sys2Proof/Machine/Dispatch.lean ====
section
/-! DEFINITION. The dispatch of each command to its meaning, one arm per row of the command table. -/

namespace Sys2Proof.Machine

/-- The effect of a command on everything but the queue of commands. -/
def exec (i : Instr) (s : State) : Host.Outcome State Fault Refusal :=
  match i with
  | .powerOnReset straps => Sys2Proof.Machine.execPowerOnReset straps s
  | .hello l tag body => Sys2Proof.Machine.execHello l tag body s
  | .alive l tag body => Sys2Proof.Machine.execAlive l tag body s
  | .call l tag body => Sys2Proof.Machine.execCall l tag body s
  | .cancel l tag body => Sys2Proof.Machine.execCancel l tag body s
  | .ahead l tag body => Sys2Proof.Machine.execAhead l tag body s
  | .returnLots l tag body => Sys2Proof.Machine.execReturnLots l tag body s
  | .portState l tag body => Sys2Proof.Machine.execPortState l tag body s
  | .announce l tag body => Sys2Proof.Machine.execAnnounce l tag body s
  | .unannounce l tag body => Sys2Proof.Machine.execUnannounce l tag body s
  | .exportOut l tag body => Sys2Proof.Machine.execExportOut l tag body s
  | .hold l tag body => Sys2Proof.Machine.execHold l tag body s
  | .release l tag body => Sys2Proof.Machine.execRelease l tag body s
  | .setClass l tag body => Sys2Proof.Machine.execSetClass l tag body s
  | .inspect l tag body => Sys2Proof.Machine.execInspect l tag body s
  | .verdict l tag body => Sys2Proof.Machine.execVerdict l tag body s
  | .census l tag body => Sys2Proof.Machine.execCensus l tag body s
  | .censusStop l tag body => Sys2Proof.Machine.execCensusStop l tag body s
  | .interceptSet l tag body => Sys2Proof.Machine.execInterceptSet l tag body s
  | .ack l tag body => Sys2Proof.Machine.execAck l tag body s
  | .mask l tag body => Sys2Proof.Machine.execMask l tag body s
  | .qReticle l tag body => Sys2Proof.Machine.execQReticle l tag body s
  | .qSlot l tag body => Sys2Proof.Machine.execQSlot l tag body s
  | .qZoneEntry l tag body => Sys2Proof.Machine.execQZoneEntry l tag body s
  | .qZoneSlot l tag body => Sys2Proof.Machine.execQZoneSlot l tag body s
  | .qPort l tag body => Sys2Proof.Machine.execQPort l tag body s
  | .qQueue l tag body => Sys2Proof.Machine.execQQueue l tag body s
  | .qInterceptEntry l tag body => Sys2Proof.Machine.execQInterceptEntry l tag body s
  | .qInterceptAll l tag body => Sys2Proof.Machine.execQInterceptAll l tag body s
  | .zoneSet l tag body => Sys2Proof.Machine.execZoneSet l tag body s
  | .classSet l tag body => Sys2Proof.Machine.execClassSet l tag body s
  | .portSet l tag body => Sys2Proof.Machine.execPortSet l tag body s
  | .portOpen l tag body => Sys2Proof.Machine.execPortOpen l tag body s
  | .portClose l tag body => Sys2Proof.Machine.execPortClose l tag body s
  | .timingSet l tag body => Sys2Proof.Machine.execTimingSet l tag body s
  | .setSlotEmpty l tag body => Sys2Proof.Machine.execSetSlotEmpty l tag body s
  | .setSlotReticle l tag body => Sys2Proof.Machine.execSetSlotReticle l tag body s
  | .forget l tag body => Sys2Proof.Machine.execForget l tag body s
  | .setCondition l tag body => Sys2Proof.Machine.execSetCondition l tag body s
  | .resume l tag body => Sys2Proof.Machine.execResume l tag body s
  | .resolveAtTarget l tag body => Sys2Proof.Machine.execResolveAtTarget l tag body s
  | .resolveAtSource l tag body => Sys2Proof.Machine.execResolveAtSource l tag body s
  | .resolveRemoved l tag body => Sys2Proof.Machine.execResolveRemoved l tag body s
  | .restart l tag body => Sys2Proof.Machine.execRestart l tag body s
  | .unknownRequestKind l tag kind => Sys2Proof.Machine.execUnknownRequestKind l tag kind s
  | .bodyLengthExcess l => Sys2Proof.Machine.execBodyLengthExcess l s
  | .crcFailure l => Sys2Proof.Machine.execCrcFailure l s
  | .byteGapTimeout l => Sys2Proof.Machine.execByteGapTimeout l s
  | .handlerFrameNotTaken => Sys2Proof.Machine.execHandlerFrameNotTaken s
  | .picked number read => Sys2Proof.Machine.execPicked number read s
  | .sourceEmpty number => Sys2Proof.Machine.execSourceEmpty number s
  | .placed number => Sys2Proof.Machine.execPlaced number s
  | .occupied number => Sys2Proof.Machine.execOccupied number s
  | .scanned number results => Sys2Proof.Machine.execScanned number results s
  | .faultReport number code loaded => Sys2Proof.Machine.execFaultReport number code loaded s
  | .restarted number loaded => Sys2Proof.Machine.execRestarted number loaded s
  | .phaseTimeout => Sys2Proof.Machine.execPhaseTimeout s
  | .livenessExpiry p => Sys2Proof.Machine.execLivenessExpiry p s
  | .collectWindowExpiry p => Sys2Proof.Machine.execCollectWindowExpiry p s
  | .returnWaitExpiry p => Sys2Proof.Machine.execReturnWaitExpiry p s
  | .gapTimerExpiry l => Sys2Proof.Machine.execGapTimerExpiry l s
  | .minuteTick => Sys2Proof.Machine.execMinuteTick s
  | .tbusyAsserted p => Sys2Proof.Machine.execTbusyAsserted p s
  | .tbusyReleased p => Sys2Proof.Machine.execTbusyReleased p s
  | .presTFull p => Sys2Proof.Machine.execPresTFull p s
  | .presTEmpty p => Sys2Proof.Machine.execPresTEmpty p s
  | .presBiFull => Sys2Proof.Machine.execPresBiFull s
  | .presBiEmpty => Sys2Proof.Machine.execPresBiEmpty s
  | .presBoFull => Sys2Proof.Machine.execPresBoFull s
  | .presBoEmpty => Sys2Proof.Machine.execPresBoEmpty s
  | .presInFull => Sys2Proof.Machine.execPresInFull s
  | .presInEmpty => Sys2Proof.Machine.execPresInEmpty s

end Sys2Proof.Machine
end

