-- ==== Sys2Proof/Machine/Step.lean ====
section
/-! DEFINITION. One step: the command at the front of the queue, or a second of station time when none waits. -/

namespace Sys2Proof.Machine

/-- A step takes the command at the front and runs its meaning with the queue's rest; with no command waiting, one second
of station time passes. -/
def step (s : State) : Host.Outcome State Fault Refusal :=
  match s.pending with
  | [] => .next s.idleSecond
  | c :: rest => exec c { s with pending := rest }

/-- The state with the command that a table word spells put at the front of its queue, unchanged where it spells none. -/
def State.withFetchWord (s : State) (nbits w : Nat) : State :=
  match decodeTableWord nbits w with
  | some c => { s with pending := c :: s.pending }
  | none => s

end Sys2Proof.Machine
end

