-- ==== Sys2Proof/Machine/Transmit.lean ====
section
/-! DEFINITION. The bytes of the frames the part sends (R204, R206, R208): the envelope, the field forms, and each frame's
fields in the order in which their owning rules name them. Where R204's forms do not fix how a field is sent, the form is
the model's choice, marked in the docstring or named in log entry 12. -/

namespace Sys2Proof.Machine

/-! ## Field forms (R204) -/

/-- A small number. -/
def putSmall (n : Nat) : List Byte := [BitVec.ofNat 8 n]

/-- A number, most significant byte first. -/
def putNumber (n : Nat) : List Byte := [BitVec.ofNat 8 (n / 256), BitVec.ofNat 8 n]

/-- A long number, most significant byte first. -/
def putLong (n : Nat) : List Byte := putNumber (n / 65536) ++ putNumber n

/-- A flag. -/
def putFlag (b : Bool) : List Byte := if b then [1] else [0]

/-- A choice, by its place in the list of its values. -/
def putChoice (n : Nat) : List Byte := putSmall n

/-- An identifier or a name: its length, then its characters. -/
def putIdent (i : Ident) : List Byte := BitVec.ofNat 8 i.length :: i

/-- A set in 2 bytes. -/
def putSet {w : Nat} (m : BitVec w) : List Byte := putNumber m.toNat

/-- An optional field: a flag, and the field when it is present. -/
def putOptional {α : Type} (f : α → List Byte) : Option α → List Byte
  | some a => 1 :: f a
  | none => [0]

/-- A list: its count, then its items. -/
def putList {α : Type} (f : α → List Byte) (xs : List α) : List Byte := putNumber xs.length ++ xs.flatMap f

/-- The number of a nest among positions: T0 to T5 400 to 405, BI 406, BO 407, IN 408 (R204). -/
def nestNumber : Nest → Nat
  | .t p => 400 + p.val
  | .bi => 406
  | .bo => 407
  | .inn => 408

/-- The number of a position: slots 0 to 395, nests 400 to 408, shelves 416 to 463 (R204). -/
def positionNumber : Position → Nat
  | .slot n => n.val
  | .nest x => nestNumber x
  | .shelf n => 416 + n.val

/-- A liveness period of so many tenths of a second (R52, R76): a time value, so a number of whole seconds (R204, 00_scope Time
values). DESIGN CHOICE (log entry 55): where the period is no whole number of seconds the number is a free value. -/
def putPeriod (tenths : Nat) : List Byte :=
  if tenths % 10 = 0 then putNumber (tenths / 10) else putNumber (Config.fractionPeriod tenths).toNat

/-- A position. -/
def putPosition (x : Position) : List Byte := putNumber (positionNumber x)

/-! ## Choices, numbered as the manual lists them -/

def reasonNumber : Reason → Nat
  | .held => 0 | .notReady => 1 | .preempted => 2 | .unlocated => 3 | .restart => 4

def outcomeNumber : MoveOutcome → Nat
  | .placed => 0 | .mismatch => 1 | .removed => 2

def codeNumber : AnswerCode → Nat
  | .ok => 0 | .badForm => 1 | .notHere => 2 | .portState => 3 | .unknownReticle => 4 | .elsewhere => 5
  | .notReady => 6 | .held => 7 | .bound => 8 | .limit => 9 | .zone => 10 | .queueFull => 11 | .noRoom => 12
  | .duplicate => 13 | .intercepted => 14 | .diverted => 15 | .notHeldHere => 16 | .notInspecting => 17
  | .notFound => 18 | .tooLate => 19 | .busy => 20 | .state => 21

def portStateNumber : PortState → Nat
  | .closed => 0 | .silent => 1 | .attached => 2

def toolNestNumber : ToolNest → Nat
  | .empty => 0 | .inbound => 1 | .outWait => 2 | .outLapsed => 3 | .returned => 4 | .outbound => 5 | .blocked => 6

def biNumber : BiNest → Nat
  | .empty => 0 | .arrived => 1 | .outbound => 2 | .blocked => 3

def boNumber : BoNest → Nat
  | .empty => 0 | .inbound => 1 | .awayWait => 2 | .blocked => 3

def innNumber : InNest → Nat
  | .empty => 0 | .inbound => 1 | .awayWait => 2 | .arrived => 3 | .outbound => 4 | .blocked => 5

def conditionNumber : Condition → Nat
  | .ready => 0 | .due => 1 | .quarantine => 2

/-- The roles of a buffer in the order of R77. -/
def roleNumber : Role → Nat
  | .fill => 0 | .next => 1 | .active => 2

/-- The roles a new list can hold in AHEAD's answer, in the order of R79: NEXT, ACTIVE. -/
def newRoleNumber : Role → Nat
  | .active => 1
  | _ => 0

def moveStateNumber : MoveState → Nat
  | .waiting => 0 | .executing => 1

def requesterNumber : Requester → Nat
  | .material => 0 | .tool p => 1 + p.val | .service => 7 | .internal => 8

def pickTestNumber : PickTest → Nat
  | .named => 0 | .anyAtTool => 1 | .anyAtInspection => 2 | .stockIn => 3 | .none => 4

def handlerStateNumber : HandlerState → Nat
  | .idle => 0 | .picking => 1 | .carrying => 2 | .placing => 3 | .putback => 4 | .scanning => 5 | .halted => 6

def phaseNumber : Phase → Nat
  | .picking => 0 | .carrying => 1 | .placing => 2 | .putback => 3 | .scanning => 4

def causeNumber : PutbackCause → Nat
  | .mismatch => 0 | .occupiedNest => 1 | .occupiedStaging => 2

def gripperNumber : GripperState → Nat
  | .loaded => 0 | .empty => 1 | .unknown => 2

def censusStateNumber : CensusState → Nat
  | .idle => 0 | .running => 1 | .stopping => 2

def actionNumber : InterceptAction → Nat
  | .note => 0 | .hold => 1 | .divert => 2

def interceptStateNumber : InterceptState → Nat
  | .active => 0 | .disabled => 1 | .invalid => 2

/-- The first failing condition in QQUEUE's answer (R143). DESIGN CHOICE (log entry 12): R124 lists conditions for each kind of
move and gives no one set of values. The model makes seven, numbered by first appearance in R124's table: nest Tp, BO or IN not
EMPTY (one value for all three), TBUSY asserted, port not ATTACHED, record not at the source, no candidate, catalogue full,
staging slot not EMPTY. -/
def ineligibleNumber : Ineligible → Nat
  | .nestNotEmpty => 0 | .toolBusy => 1 | .notAttached => 2 | .notAtSource => 3 | .noCandidate => 4
  | .catalogueFull => 5 | .stagingNotEmpty => 6

/-! ## Records and entries -/

/-- The location kind and, where it has one, its index (R10, R29). DESIGN CHOICE (log entry 12): the index follows its kind
bare, a slot as a number, a nest as a position, a tool port as a small number. -/
def putLocation : Location → List Byte
  | .slot n => putChoice 0 ++ putNumber n.val
  | .gripper => putChoice 1
  | .nest x => putChoice 2 ++ putPosition (.nest x)
  | .tool p => putChoice 3 ++ putSmall p.val
  | .inspection => putChoice 4
  | .unlocated => putChoice 5

/-- QRETICLE's fields (R29). -/
def putReticle (a : ReticleAnswer) : List Byte :=
  putIdent a.record.id ++ putSmall a.record.cls.val ++ putLocation a.record.location
    ++ putChoice (conditionNumber a.record.condition) ++ putFlag a.record.held ++ putFlag a.record.suspect
    ++ putFlag a.record.verdictOwed ++ putOptional (fun h => putNumber h.val) a.record.home
    ++ putNumber a.record.deliveries.val ++ putNumber a.record.lots.val ++ putNumber a.record.air.val
    ++ putOptional (fun b => putLong b.1.toNat ++ putChoice b.2.1.number ++ putChoice (moveStateNumber b.2.2)) a.bound

/-- The state of a slot entry (R3). -/
def slotStateNumber : SlotEntry → Nat
  | .empty => 0 | .filled _ => 1 | .inbound _ _ => 2 | .outbound _ _ => 3 | .unknown => 4 | .fault _ => 5

/-- The four optional fields of a slot entry (R3, R30). DESIGN CHOICE (log entry 12): all four stand in the optional field
form, also those that the state always or never carries. -/
def putSlotFields (e : SlotEntry) : List Byte :=
  putOptional putIdent e.reticle
    ++ putOptional putIdent (match e with | .inbound x _ => x | _ => none)
    ++ putOptional putIdent (match e with | .fault x => x | _ => none)
    ++ putOptional (fun q => putLong q.toNat) e.move

/-- Where a slot stands: the shelf of a storage slot, the port and staging position of a staging slot (R30). DESIGN CHOICE (log
entry 12): R204 names no sort for a staging position and no form for the alternative. The staging position is sent as a small
number, as shelf and port are, and the fields of the slot's sort stand bare: the slot number before them tells the two sorts
apart. -/
def putPlace : SlotPlace → List Byte
  | .shelf n => putSmall n.val
  | .staging p k => putSmall p.val ++ putSmall k.val

/-- QSLOT's fields (R30). -/
def putSlot (a : SlotAnswer) : List Byte :=
  putNumber a.slot.val ++ putChoice (slotStateNumber a.entry) ++ putPlace a.place ++ putSlotFields a.entry
    ++ putOptional (fun k => putChoice k.number) a.moveKind

/-- A zone entry's stored fields (R31). -/
def putZone (e : ZoneEntry) : List Byte :=
  putSmall e.base.val ++ putSmall e.limit.val ++ putSet e.classMask ++ putSet e.serveMask ++ putSmall e.purge.val

/-- The conflict summary (R47). -/
def putConflicts (c : ConflictSummary) : List Byte := putNumber c.count ++ putOptional (fun n => putNumber n.val) c.lowest

/-- The resolution part of QZONE(SLOT, s) (R47). DESIGN CHOICE (log entry 12): a choice, 0 for a storage slot and 1 for
STAGING, comes first, the storage slot's fields follow it bare, and a conflicted purge class is an absent optional field. -/
def putResolution : ZoneSlotPart → List Byte
  | .storage n ks c v p =>
    putChoice 0 ++ putSmall n.val ++ putList (fun k => putSmall k.val) ks ++ putSet c ++ putSet v
      ++ putOptional (fun x => putSmall x.val) p
  | .staging => putChoice 1

/-- A port's settings (R48, R49). -/
def putSettings (x : PortSettings) : List Byte :=
  putSmall x.weight.val ++ putFlag x.priority ++ putSmall x.agingRate.val ++ putNumber x.tenureLimit.val
    ++ putSmall x.anchor.val ++ putNumber x.windowCount.val

/-- The window timer's seconds left and use (R76). -/
def putWindowTimer (w : WindowTimer) : List Byte :=
  putNumber w.left ++ putChoice (match w.use with | .collect => 0 | .returnWait => 1)

/-- What the window says of an entry (R92). DESIGN CHOICE (log entry 12): the state of a PRESTAGE follows its choice bare. -/
def putWindowStatus : WindowStatus → List Byte
  | .staged => putChoice 0
  | .boundPrestage st => putChoice 1 ++ putChoice (moveStateNumber st)
  | .boundOther => putChoice 2
  | .waitingForSlot => putChoice 3

/-- A buffer's role, and whether it is empty or holds a list (R92). -/
def putBuffer (b : BufferAnswer) : List Byte := putChoice (roleNumber b.role) ++ putChoice (if b.holdsList then 1 else 0)

/-- An entry of a list: its identifier, list position and consumed flag (R92). -/
def putEntryAnswer (e : ListEntryAnswer) : List Byte := putIdent e.id ++ putNumber e.position ++ putFlag e.consumed

/-- The call-ahead part of PORTSTATE and QPORT, in the order of R92: the three buffers, the NEXT and ACTIVE lists, the window,
the DESTAGE moves. -/
def putAhead (a : AheadAnswer) : List Byte :=
  a.buffers.flatMap putBuffer ++ putList putEntryAnswer a.next ++ putList putEntryAnswer a.active
    ++ putList (fun (w : Ident × WindowStatus) => putIdent w.1 ++ putWindowStatus w.2) a.window ++ putNumber a.destages

/-- The state and reticle of a staging slot (R76). -/
def putStaging (e : SlotEntry) : List Byte := putChoice (slotStateNumber e) ++ putOptional putIdent e.reticle

/-- PORTSTATE's and QPORT's fields (R76, R92). -/
def putPort (a : PortAnswer) : List Byte :=
  putChoice (portStateNumber a.state) ++ putOptional putIdent a.name ++ putOptional putPeriod a.period
    ++ putSettings a.settings ++ putChoice (toolNestNumber a.nest) ++ putFlag a.prdy ++ putFlag a.pfree
    ++ putFlag a.tbusy ++ putFlag a.pres ++ putOptional putIdent a.onNest ++ putOptional putWindowTimer a.window
    ++ putOptional (fun (x : PendingReturn) => putIdent x.id ++ putNumber x.lots) a.pendingReturn
    ++ putFlag a.lateOpen ++ putNumber a.checkedOut ++ putStaging a.staging0 ++ putStaging a.staging1 ++ putAhead a.ahead

/-! ## QQUEUE (R143, R113, R169, R203) -/

/-- A target: "to be selected" and no target held carry no position (R114, R157). DESIGN CHOICE (log entry 12): a choice comes
first, 0 a position, 1 "to be selected", 2 none held, and the position follows it bare. -/
def putTarget : Target → List Byte
  | .pos x => putChoice 0 ++ putPosition x
  | .toSelect => putChoice 1
  | .noTarget => putChoice 2

/-- A beneficiary: a port, or the material side (R114). DESIGN CHOICE (log entry 12): an optional small number, absent for the
material side; the tenure record's port is sent the same way, absent for none (R135). -/
def putBeneficiary (b : Option Port) : List Byte := putOptional (fun (p : Port) => putSmall p.val) b

/-- A move entry's fields (R114). -/
def putMove (m : Move) : List Byte :=
  putLong m.seq.toNat ++ putChoice m.kind.number ++ putChoice (requesterNumber m.requester) ++ putBeneficiary m.beneficiary
    ++ putOptional putIdent m.reticle ++ putChoice (pickTestNumber m.pickTest) ++ putPosition m.source
    ++ putTarget m.target ++ putOptional (fun (k : Fin 2) => putNumber k.val) m.listPosition ++ putLong m.enqueued.toNat
    ++ putChoice (moveStateNumber m.state) ++ putFlag m.diverted ++ putFlag m.holdOnCompletion ++ putFlag m.standDown

/-- What QQUEUE adds for a WAITING entry (R143). DESIGN CHOICE (log entry 12): an eligible move is an absent failing condition;
the candidate is an optional number, sent for store moves alone. -/
def putWaiting (w : WaitingAnswer) : List Byte :=
  putOptional (fun c => putChoice (ineligibleNumber c)) w.failing ++ putNumber w.urgency ++ putFlag w.overdue
    ++ (if w.store then putOptional (fun (n : Slot) => putNumber n.val) w.candidate else [])

/-- One entry of QQUEUE (R143). -/
def putEntry (e : EntryAnswer) : List Byte := putMove e.move ++ putLong e.age ++ putOptional putWaiting e.waiting

/-- The tenure record (R135). -/
def putTenure (t : Tenure) : List Byte := putBeneficiary t.port ++ putNumber t.count

/-- The dispatch settings (R140). -/
def putDispatch (d : DispatchSettings) : List Byte :=
  putNumber d.starvation ++ putSmall d.materialWeight.val ++ putSmall d.materialRate.val ++ putSmall d.bulkAnchor.val
    ++ putSmall d.inspectionAnchor.val

/-- The dispatcher's part (R143). -/
def putDispatcher (a : DispatcherAnswer) : List Byte :=
  putList putEntry a.entries ++ putNumber a.linkCount ++ putNumber a.internalCount ++ putTenure a.tenure
    ++ putDispatch a.settings ++ putLong a.nextSeq.toNat
    ++ putChoice (match a.handler with | .idle => 0 | .halted => 1 | .executing => 2) ++ putFlag a.restartPending

/-- The material request unit's part (R113). -/
def putMaterial (a : MaterialAnswer) : List Byte :=
  putList (fun (x : Announcement) => putIdent x.id ++ putSmall x.cls.val ++ putFlag x.hold) a.announcements
    ++ putChoice (biNumber a.bi) ++ putChoice (boNumber a.bo) ++ putChoice (innNumber a.inn)
    ++ putFlag a.presBi ++ putFlag a.presBo ++ putFlag a.presIn ++ putFlag a.bordy ++ putFlag a.irdy
    ++ putOptional putIdent a.onBo ++ putOptional putIdent a.onIn ++ putOptional putIdent a.accepted
    ++ putNumber a.inspectionOut ++ putNumber a.atInspection

/-- A read: an identifier, or NOREAD (R147). DESIGN CHOICE (log entry 12): an optional identifier, absent for NOREAD. -/
def putRead : ReadId → List Byte
  | .ident i => putOptional putIdent (some i)
  | .noread => putOptional putIdent none

/-- The execution record (R147). -/
def putExec (e : ExecRecord) : List Byte :=
  putOptional (fun (q : Seq) => putLong q.toNat) e.move ++ putOptional (fun p => putChoice (phaseNumber p)) e.phase
    ++ putOptional (fun c => putChoice (causeNumber c)) e.cause ++ putOptional putRead e.read ++ putNumber e.retargets.val

/-- A halt code: the five names, then ROBOT with its fault code (R147). DESIGN CHOICE (log entry 12): the fault code follows
its choice bare. -/
def putHaltCode : HaltCode → List Byte
  | .timeout => putChoice 0
  | .restarted => putChoice 1
  | .unexpected => putChoice 2
  | .noTarget => putChoice 3
  | .occupiedTwice => putChoice 4
  | .robot c => putChoice 5 ++ [c]

/-- The handler interface's part (R169). DESIGN CHOICE (log entry 12): the current order number is an optional byte, as in a tag. -/
def putHandler (a : HandlerAnswer) : List Byte :=
  putChoice (handlerStateNumber a.state) ++ putFlag a.restartPending ++ putOptional (fun b => [b]) a.current
    ++ putOptional putNumber a.timer ++ putOptional putExec a.exec
    ++ putOptional (fun (h : HaltRecord) => putHaltCode h.code ++ putChoice (gripperNumber h.gripper)) a.halt

/-- The five tally counts (R193). -/
def putTally (t : Tally) : List Byte :=
  putNumber t.scanned ++ putNumber t.skipped ++ putNumber t.created ++ putNumber t.relocated ++ putNumber t.faulted

/-- The census record (R203). -/
def putCensus (a : CensusAnswer) : List Byte :=
  putChoice (censusStateNumber a.state)
    ++ putOptional (fun (r : Shelf × Shelf) => putSmall r.1.val ++ putSmall r.2.val) a.range
    ++ putOptional (fun (n : Shelf) => putSmall n.val) a.nextShelf
    ++ putOptional (fun (q : Seq) => putLong q.toNat) a.scan ++ putTally a.tally

/-! ## Answers and notices -/

/-- An intercept entry with its state (R182, R183, R192). DESIGN CHOICE (log entry 51): the state comes before the hit count in
both answers, as R192 lists them. DESIGN CHOICE (log entry 12): R192 and R204 do not say how the fields present by match mode
are sent; the match mode is followed by those of the mode alone, bare, the identifier characters in PREFIX mode, base slot and
length in SLOTS mode, as INTERCEPT_SET carries them. -/
def putIntercept (a : InterceptAnswer) : List Byte :=
  putSet a.entry.requesterMask ++ putSet a.entry.kindMask
    ++ (match a.entry.matching with
      | .byPrefix c => putChoice 0 ++ putIdent c
      | .bySlots b n => putChoice 1 ++ putNumber b.val ++ putNumber n)
    ++ putChoice (actionNumber a.entry.action) ++ putChoice (interceptStateNumber a.state) ++ putNumber a.entry.hits.val

/-- A notice's detail (R211). DESIGN CHOICE (log entry 17): R211 lists four parts, but MISMATCH carries two identifiers (R155,
R201); the detail of every kind is sent with five optional parts, the second identifier after the first. -/
def putDetail (d : Detail) : List Byte :=
  putOptional putIdent d.reticle ++ putOptional putIdent d.second ++ putOptional putPosition d.position
    ++ putOptional (fun (p : Port) => putSmall p.val) d.port ++ putOptional putNumber d.code

/-- The fields of an answer after its code (R206). DESIGN CHOICE (log entry 12): a sequence whose length the manual fixes (the
sixteen intercept entries, the sixteen notice kinds, the three buffers) is sent without a count, every other with one. -/
def putFields : AnswerFields → List Byte
  | .none => []
  | .portState st => putChoice (portStateNumber st)
  | .entryNumber n => putSmall n.val
  | .ahead kept dropped role => putNumber kept ++ putNumber dropped ++ putChoice (newRoleNumber role)
  | .announced position count => putNumber position ++ putNumber count
  | .remaining count => putNumber count
  | .zoneStored e => putZone e
  | .portStored x => putSettings x
  | .classLimits c n => putNumber c.delivery.val ++ putNumber c.lot.val ++ putNumber c.air.val ++ putNumber n
  | .timing t => putDispatch t.settings ++ putNumber t.pickTimeout ++ putNumber t.placeTimeout ++ putNumber t.noticeGap
  | .intercept a => putIntercept a
  | .intercepts xs => xs.flatMap putIntercept
  | .noticeSet xs => xs.flatMap (fun (i : NoticeSetItem) => putFlag i.pending ++ putFlag i.masked ++ putDetail i.detail)
  | .censusRange first last => putSmall first.val ++ putSmall last.val
  | .censusStop w => putChoice (match w with | .idle => 0 | .stopped => 1 | .pending => 2)
  | .restart pending => putChoice (if pending then 0 else 1)
  | .reticle a => putReticle a
  | .slot a => putSlot a
  | .zoneEntry a => putZone a.entry ++ putChoice (if a.enabled then 0 else 1) ++ putConflicts a.conflicts
  | .zoneSlot a => putResolution a.part ++ putConflicts a.conflicts
  | .port a => putPort a
  | .queue a => putDispatcher a.dispatcher ++ putMaterial a.material ++ putHandler a.handler ++ putCensus a.census

/-- One kind of a NOTICE frame (R213). -/
def putNotice (i : NoticeItem) : List Byte :=
  putChoice i.kind.number.val ++ putDetail i.detail ++ putFlag i.fresh ++ putFlag i.conditionHolds

/-- The kind of a sent frame (R204). -/
def OutFrame.kind : OutFrame → FrameKind
  | .answer _ _ _ _ => .answer
  | .notice _ => .notice
  | .ready _ => .ready
  | .lapsed _ => .lapsed
  | .withdrawn _ _ => .withdrawn
  | .moveEnd _ _ _ => .moveEnd
  | .move _ _ _ _ => .move
  | .place _ _ => .place
  | .scan _ _ => .scan

/-- The tag of a sent frame: the request's in an answer, the order number in an order, 0 in an unrequested frame (R204,
R206, R208). -/
def OutFrame.tag : OutFrame → Byte
  | .answer tag _ _ _ => tag
  | .move number _ _ _ => number
  | .place number _ => number
  | .scan number _ => number
  | _ => 0

/-- The body of a sent frame: its fields in their order (R204). -/
def OutFrame.body : OutFrame → List Byte
  | .answer _ kind code fields => kind :: putChoice (codeNumber code) ++ putFields fields
  | .notice items => putList putNotice items
  | .ready id => putIdent id
  | .lapsed id => putIdent id
  | .withdrawn id reason => putIdent id ++ putChoice (reasonNumber reason)
  | .moveEnd id q o => putIdent id ++ putLong q.toNat ++ putChoice (outcomeNumber o)
  | .move _ source target expected => putPosition source ++ putPosition target ++ putOptional putIdent expected
  | .place _ target => putPosition target
  | .scan _ shelf => putSmall shelf.val

/-- The bytes of a frame: start byte, length, kind, tag, body and CRC (R204). -/
def frameBytes (kind tag : Byte) (body : List Byte) : List Byte :=
  let covered := putNumber body.length ++ (kind :: tag :: body)
  Config.startByte :: covered ++ putNumber (crc16 covered).toNat

/-- The bytes a transmitter sends for a frame (R204, R206). -/
def OutFrame.bytes (f : OutFrame) : List Byte := frameBytes f.kind.byte f.tag f.body

end Sys2Proof.Machine
end

