-- ==== Sys2Proof/Safety.lean ====
section
/-! DEFINITION. What counts as a sound state of the block: the invariants that every command keeps, each by itself; the
parts of the state that no re-evaluation and no grant test touches; and the request placement of R209, written again from
its table so that statements can speak of it. -/

namespace Sys2Proof.Machine

/-! ## Invariants -/

/-- The catalogue is a map of at most 480 records, one to an identifier (R9). -/
def State.CatalogueSound (s : State) : Prop :=
  (s.catalogue.map (·.id)).Nodup ∧ s.catalogue.length ≤ Config.catalogueCapacity

/-- The announcement list holds at most 8 entries, no identifier twice and none that the catalogue holds (R93). -/
def State.AnnouncementsSound (s : State) : Prop :=
  s.announcements.length ≤ Config.announcementCapacity ∧ (s.announcements.map (·.id)).Nodup
    ∧ ∀ a ∈ s.announcements, s.known a.id = false

/-- At most 24 link-originated moves stand in the queue (R119). -/
def State.BudgetSound (s : State) : Prop := s.linkCount none ≤ Config.linkBudget

/-- A call-ahead list: at most 16 entries, no identifier twice (R77, R80). -/
def listSound (x : Option (List AheadEntry)) : Prop :=
  ∀ es, x = some es → es.length ≤ Config.aheadCapacity ∧ (es.map (·.id)).Nodup

/-- The three buffers hold three different roles, the FILL buffer is empty, and every list is a list of R77. -/
def CallAhead.Sound (a : CallAhead) : Prop :=
  a.fill ≠ a.next ∧ a.next ≠ a.active ∧ a.fill ≠ a.active ∧ a.lists.get a.fill = none ∧ ∀ b, listSound (a.lists.get b)

/-- Every port's buffers are sound (R77). -/
def State.AheadSound (s : State) : Prop := ∀ p, (s.aheadOf p).Sound

/-- Liveness values as HELLO stores them (R51). -/
def Liveness.Sound (v : Liveness) : Prop := 1 ≤ v.f1 ∧ v.f1 ≤ 255 ∧ 1 ≤ v.f2 ∧ v.f2 ≤ 255

/-- A port: its liveness timer runs exactly in ATTACHED, and its lists are empty unless it is ATTACHED (R52, R84, R85). -/
def State.PortSound (s : State) (p : Port) : Prop :=
  ((s.port p).livenessLeft.isSome ↔ (s.port p).state = .attached)
    ∧ ((s.port p).state = .attached → (s.port p).liveness.isSome)
    ∧ (∀ v, (s.port p).liveness = some v → v.Sound)
    ∧ ((s.port p).state ≠ .attached → (s.aheadOf p).nextList = none ∧ (s.aheadOf p).activeList = none)

/-- Every port is sound and at most one is the priority port (R49, R52, R84). -/
def State.PortsSound (s : State) : Prop :=
  (∀ p, s.PortSound p)
    ∧ ∀ p q, (s.port p).settings.priority = true → (s.port q).settings.priority = true → p = q

/-- The handler interface: no record, no timer and no number current in IDLE; both records, no timer and no number current in
HALTED; an execution record and a running timer in every other state, with the number of the last order current in all of
them but CARRYING, which a RESUME enters without an order (R146, R147, R148). -/
def Handler.Sound (h : Handler) : Prop :=
  match h.state with
  | .idle => h.exec = none ∧ h.halt = none ∧ h.timer = none ∧ h.numberCurrent = false
  | .halted => h.exec.isSome ∧ h.halt.isSome ∧ h.timer = none ∧ h.numberCurrent = false
  | .carrying => h.exec.isSome ∧ h.halt = none ∧ h.timer.isSome
  | _ => h.exec.isSome ∧ h.halt = none ∧ h.timer.isSome ∧ h.numberCurrent = true

/-- The settings and the tenure record are in their ranges (R135, R140, R148, R213). -/
def State.SettingsSound (s : State) : Prop :=
  (s.settings.starvation = 0 ∨ (30 ≤ s.settings.starvation ∧ s.settings.starvation ≤ 3600))
    ∧ (5 ≤ s.handler.pickTimeout ∧ s.handler.pickTimeout ≤ 255)
    ∧ (5 ≤ s.handler.placeTimeout ∧ s.handler.placeTimeout ≤ 255)
    ∧ (1 ≤ s.noticeGap ∧ s.noticeGap ≤ 60) ∧ s.tenure.count ≤ 3

/-- On both notice links a condition kind stays pending as long as its condition holds, and no kind is fresh without being
pending (R211, R212). The condition of CATALOGUE_FULL reads a catalogue within its capacity. -/
def State.NoticesSound (s : State) : Prop :=
  s.catalogue.length ≤ Config.catalogueCapacity
    ∧ ∀ l k, (s.conditionHolds k = true → ((s.noticeSet l).entry k).pending = true)
      ∧ (((s.noticeSet l).entry k).fresh = true → ((s.noticeSet l).entry k).pending = true)

/-- The sequence numbers in the queue are different (R118). -/
def State.SeqsDistinct (s : State) : Prop := (s.queue.map (·.seq)).Nodup

/-- What a move's kind fixes of its source and target: a store move has a storage slot as target or none yet, an outward move
a slot as source, a SCAN its shelf; only a DELIVER goes to a tool nest, its beneficiary's, and only an INSPECT_OUT to IN
(R116, R117). -/
def Move.Shaped (m : Move) : Prop :=
  (m.kind.isStore = true → m.target = .toSelect ∨ m.target = .noTarget ∨ ∃ k, m.target = .pos (storagePosition k))
    ∧ (m.kind.isOutward = true → ∃ n, m.source = .slot n)
    ∧ (m.kind = .scan → ∃ n, m.source = .shelf n)
    ∧ (∀ p, m.target = .pos (.nest (.t p)) → m.kind = .deliver ∧ m.beneficiary = some p)
    ∧ (m.target = .pos (.nest .inn) → m.kind = .inspectOut)

/-- The queue: its sequence numbers differ and its moves are shaped by their kinds; at most one move is EXECUTING, the one that
the execution record names; every binding names an entry of the queue; and a store move is put back for a mismatch only
(R115, R118, R121, R155, R158, R159). -/
structure State.QueueSound (s : State) : Prop where
  distinct : s.SeqsDistinct
  shaped : ∀ m ∈ s.queue, m.Shaped
  executing : ∀ m ∈ s.queue, m.state = .executing → s.handler.exec.bind (·.move) = some m.seq
  named : ∀ q, s.handler.exec.bind (·.move) = some q → ∃ m ∈ s.queue, m.seq = q ∧ m.state = .executing
  bound : ∀ r ∈ s.catalogue, ∀ q, r.binding = some q → ∃ m ∈ s.queue, m.seq = q
  cause : ∀ m c, s.execMove = some m → m.kind.isStore = true → s.handler.exec.bind (·.cause) = some c → c = .mismatch

/-- Every invariant together. -/
structure State.Sound (s : State) : Prop where
  catalogue : s.CatalogueSound
  announcements : s.AnnouncementsSound
  budget : s.BudgetSound
  ahead : s.AheadSound
  ports : s.PortsSound
  handler : s.handler.Sound
  settings : s.SettingsSound
  notices : s.NoticesSound
  queue : s.QueueSound

/-- The entries of the queue lie close together in admission order, as R118 says of every queue: each was admitted less than
half the counter's range ago, so that no number now given out stands in the queue. -/
def State.SeqsFresh (s : State) : Prop :=
  ∀ m ∈ s.queue, 1 ≤ ageAt s.nextSeq m.seq ∧ ageAt s.nextSeq m.seq ≤ 2147483648

/-- The states that a run from reset reaches with any commands whatever, as long as R118's entries lie close together. -/
inductive Reached : State → Prop where
  | reset : Reached State.reset
  | step {s t : State} (commands : List Instr) : Reached s → s.SeqsFresh →
      step { s with pending := commands } = .next t → Reached t

/-! ## The steady part of a state

A change is followed by window re-evaluations, the NO_SLOT test and the grant test (R44, R89, R126). They admit, withdraw
and grant moves, reserve slots, take nests to their grant states, bind and release records, and may hold a record by an
intercept. They touch nothing else: the rest of the state is its steady part. -/

/-- What a slot holds, its reservation apart (R5: a grant takes FILLED to OUTBOUND and EMPTY to INBOUND). -/
inductive SlotContent where
  | free
  | holds (id : Ident)
  | unknown
  | fault (found : Option Ident)
  deriving DecidableEq, Repr

/-- The content of a slot entry. -/
def SlotEntry.content : SlotEntry → SlotContent
  | .empty => .free
  | .inbound _ _ => .free
  | .filled id => .holds id
  | .outbound id _ => .holds id
  | .unknown => .unknown
  | .fault x => .fault x

/-- A record without its binding and held flag. -/
def Rec.steady (r : Rec) : Rec := { r with held := false, binding := none }

/-- A port record without its nest, window timer and the two flags of the nest's visits. -/
def PortRec.steady (r : PortRec) : PortRec :=
  { r with nest := .empty, window := none, lateOpen := false, lapseDeferred := false }

/-- The part of a state that nothing following a change touches. -/
structure Steady where
  clock : Clock
  tickPhase : Fin 60
  slots : Vector SlotContent 396
  records : List Rec
  zones : Vector ZoneEntry 8
  ports : Vector PortRec 6
  ahead : Vector CallAhead 6
  announcements : List Announcement
  settings : DispatchSettings
  classes : Vector ClassLimits 8
  census : Census
  noticeGap : Nat
  pins : Pins
  rx : Vector RxState 9
  pending : List Instr
  deriving DecidableEq, Repr

/-- The steady part of a state. -/
def State.steady (s : State) : Steady where
  clock := s.clock
  tickPhase := s.tickPhase
  slots := s.slots.map SlotEntry.content
  records := s.catalogue.map Rec.steady
  zones := s.zones
  ports := s.ports.map PortRec.steady
  ahead := s.ahead
  announcements := s.announcements
  settings := s.settings
  classes := s.classes
  census := s.census
  noticeGap := s.noticeGap
  pins := s.pins
  rx := s.rx
  pending := s.pending

/-- Change the content of a slot. -/
def Steady.setSlot (x : Steady) (n : Slot) (c : SlotContent) : Steady := { x with slots := x.slots.set n.val c n.isLt }

/-- Change the record of an identifier. -/
def Steady.updRecord (x : Steady) (id : Ident) (f : Rec → Rec) : Steady :=
  { x with records := x.records.map (fun r => if r.id = id then f r else r) }

/-- Change a port's record. -/
def Steady.updPort (x : Steady) (p : Port) (f : PortRec → PortRec) : Steady :=
  { x with ports := x.ports.set p.val (f (x.ports.get p)) p.isLt }

/-- Change a port's call-ahead buffers. -/
def Steady.setAhead (x : Steady) (p : Port) (a : CallAhead) : Steady := { x with ahead := x.ahead.set p.val a p.isLt }

end Sys2Proof.Machine

namespace Sys2Proof

/-! ## Requests (R205, R206, R209) -/

/-- The link, the tag and the kind of a request; none for a command that is no request of R209. -/
def Instr.request? : Instr → Option (ReqLink × Byte × FrameKind)
  | .powerOnReset _ => none
  | .hello l t _ => some (l, t, .hello)
  | .alive l t _ => some (l, t, .alive)
  | .call l t _ => some (l, t, .call)
  | .cancel l t _ => some (l, t, .cancel)
  | .ahead l t _ => some (l, t, .ahead)
  | .returnLots l t _ => some (l, t, .returnLots)
  | .portState l t _ => some (l, t, .portState)
  | .announce l t _ => some (l, t, .announce)
  | .unannounce l t _ => some (l, t, .unannounce)
  | .exportOut l t _ => some (l, t, .exportOut)
  | .hold l t _ => some (l, t, .hold)
  | .release l t _ => some (l, t, .release)
  | .setClass l t _ => some (l, t, .setClass)
  | .inspect l t _ => some (l, t, .inspect)
  | .verdict l t _ => some (l, t, .verdict)
  | .census l t _ => some (l, t, .census)
  | .censusStop l t _ => some (l, t, .censusStop)
  | .interceptSet l t _ => some (l, t, .interceptSet)
  | .ack l t _ => some (l, t, .ack)
  | .mask l t _ => some (l, t, .mask)
  | .qReticle l t _ => some (l, t, .qReticle)
  | .qSlot l t _ => some (l, t, .qSlot)
  | .qZoneEntry l t _ => some (l, t, .qZone)
  | .qZoneSlot l t _ => some (l, t, .qZone)
  | .qPort l t _ => some (l, t, .qPort)
  | .qQueue l t _ => some (l, t, .qQueue)
  | .qInterceptEntry l t _ => some (l, t, .qIntercept)
  | .qInterceptAll l t _ => some (l, t, .qIntercept)
  | .zoneSet l t _ => some (l, t, .zoneSet)
  | .classSet l t _ => some (l, t, .classSet)
  | .portSet l t _ => some (l, t, .portSet)
  | .portOpen l t _ => some (l, t, .portOpen)
  | .portClose l t _ => some (l, t, .portClose)
  | .timingSet l t _ => some (l, t, .timingSet)
  | .setSlotEmpty l t _ => some (l, t, .setSlot)
  | .setSlotReticle l t _ => some (l, t, .setSlot)
  | .forget l t _ => some (l, t, .forget)
  | .setCondition l t _ => some (l, t, .setCondition)
  | .resume l t _ => some (l, t, .resume)
  | .resolveAtTarget l t _ => some (l, t, .resolve)
  | .resolveAtSource l t _ => some (l, t, .resolve)
  | .resolveRemoved l t _ => some (l, t, .resolve)
  | .restart l t _ => some (l, t, .restart)
  | .unknownRequestKind _ _ _ => none
  | .bodyLengthExcess _ => none
  | .crcFailure _ => none
  | .byteGapTimeout _ => none
  | .handlerFrameNotTaken => none
  | .picked _ _ => none
  | .sourceEmpty _ => none
  | .placed _ => none
  | .occupied _ => none
  | .scanned _ _ => none
  | .faultReport _ _ _ => none
  | .restarted _ _ => none
  | .phaseTimeout => none
  | .livenessExpiry _ => none
  | .collectWindowExpiry _ => none
  | .returnWaitExpiry _ => none
  | .gapTimerExpiry _ => none
  | .minuteTick => none
  | .tbusyAsserted _ => none
  | .tbusyReleased _ => none
  | .presTFull _ => none
  | .presTEmpty _ => none
  | .presBiFull => none
  | .presBiEmpty => none
  | .presBoFull => none
  | .presBoEmpty => none
  | .presInFull => none
  | .presInEmpty => none

/-- Whether a request carries no body of its kind's form. -/
def Instr.outOfForm : Instr → Bool
  | .hello _ _ b => b.isNone
  | .alive _ _ b => b.isNone
  | .call _ _ b => b.isNone
  | .cancel _ _ b => b.isNone
  | .ahead _ _ b => b.isNone
  | .returnLots _ _ b => b.isNone
  | .portState _ _ b => b.isNone
  | .announce _ _ b => b.isNone
  | .unannounce _ _ b => b.isNone
  | .exportOut _ _ b => b.isNone
  | .hold _ _ b => b.isNone
  | .release _ _ b => b.isNone
  | .setClass _ _ b => b.isNone
  | .inspect _ _ b => b.isNone
  | .verdict _ _ b => b.isNone
  | .census _ _ b => b.isNone
  | .censusStop _ _ b => b.isNone
  | .interceptSet _ _ b => b.isNone
  | .ack _ _ b => b.isNone
  | .mask _ _ b => b.isNone
  | .qReticle _ _ b => b.isNone
  | .qSlot _ _ b => b.isNone
  | .qZoneEntry _ _ b => b.isNone
  | .qZoneSlot _ _ b => b.isNone
  | .qPort _ _ b => b.isNone
  | .qQueue _ _ b => b.isNone
  | .qInterceptEntry _ _ b => b.isNone
  | .qInterceptAll _ _ b => b.isNone
  | .zoneSet _ _ b => b.isNone
  | .classSet _ _ b => b.isNone
  | .portSet _ _ b => b.isNone
  | .portOpen _ _ b => b.isNone
  | .portClose _ _ b => b.isNone
  | .timingSet _ _ b => b.isNone
  | .setSlotEmpty _ _ b => b.isNone
  | .setSlotReticle _ _ b => b.isNone
  | .forget _ _ b => b.isNone
  | .setCondition _ _ b => b.isNone
  | .resume _ _ b => b.isNone
  | .resolveAtTarget _ _ b => b.isNone
  | .resolveAtSource _ _ b => b.isNone
  | .resolveRemoved _ _ b => b.isNone
  | .restart _ _ b => b.isNone
  | _ => false

end Sys2Proof

namespace Sys2Proof.Machine

/-- The links on which a request kind is taken: the tool links, the material link, the material link and the service line,
or the service line (R209). -/
inductive Placement where
  | tools
  | material
  | both
  | service
  deriving DecidableEq, Repr

/-- The request placement table (R209). -/
def placementOf : FrameKind → Placement
  | .hello | .alive | .call | .cancel | .ahead | .returnLots | .portState => .tools
  | .announce | .unannounce | .exportOut => .material
  | .zoneSet | .classSet | .portSet | .portOpen | .portClose | .timingSet | .setSlot | .forget | .setCondition
  | .resume | .resolve | .restart => .service
  | _ => .both

/-- Whether a placement includes a link. -/
def Placement.includes : Placement → ReqLink → Bool
  | .tools, .tool _ => true
  | .material, .material => true
  | .both, .material => true
  | .both, .service => true
  | .service, .service => true
  | _, _ => false

/-- Whether a frame is an answer. -/
def OutFrame.isAnswer : OutFrame → Bool
  | .answer _ _ _ _ => true
  | _ => false

/-- The first admissions of POWER_ON_RESET, as kind and source: a COLLECT for each tool nest found full, a STOCK_IN for BI, a
RESHELVE for IN, and the first SCAN with AUTOCEN high (R141). -/
def kindsAtReset (x : Straps) : List (MoveKind × Position) :=
  ((allPorts.filter (fun p => x.presT.get p)).map (fun p => (MoveKind.collect, Position.nest (.t p))))
    ++ (if x.presBi then [(.stockIn, .nest .bi)] else []) ++ (if x.presIn then [(.reshelve, .nest .inn)] else [])
    ++ (if x.autocen then [(.scan, .shelf 47)] else [])

/-- A WAITING move of a kind from a nest. -/
def Move.waitsAt (m : Move) (k : MoveKind) (x : Nest) : Bool := m.kind = k && m.source = .nest x && m.isWaiting

/-- The moves that a RESTART admits afresh, as kind and source: a RECLAIM for each nest in OUT_WAIT or OUT_LAPSED with a record
on it, a COLLECT for each in RETURNED whose COLLECT waited, and a STOCK_IN and a RESHELVE for an ARRIVED BI and IN unless one
is EXECUTING (R55, R112). -/
def State.freshAtRestart (s : State) : List (MoveKind × Position) :=
  allPorts.flatMap (fun p =>
      if (s.toolNest p = .outWait ∨ s.toolNest p = .outLapsed) ∧ (s.recordAt (.nest (.t p))).isSome then
        [(MoveKind.reclaim, Position.nest (.t p))]
      else if s.toolNest p = .returned ∧ s.anyMove (fun m => m.waitsAt .collect (.t p)) then
        [(.collect, .nest (.t p))]
      else [])
    ++ (if s.bi = .arrived ∧ s.executing .stockIn = false then [(.stockIn, .nest .bi)] else [])
    ++ (if s.inn = .arrived ∧ s.executing .reshelve = false then [(.reshelve, .nest .inn)] else [])

/-- What a link is sent by a request taken in `s`: unrequested frames first, then the one answer (R206). -/
def State.Answered (s t : State) (l : ReqLink) (tag : Byte) (k : FrameKind) (code : AnswerCode) (fields : AnswerFields) :
    Prop :=
  ∃ fs : List OutFrame, (∀ f ∈ fs, f.isAnswer = false)
    ∧ t.sent (.request l) = s.sent (.request l) ++ fs ++ [.answer tag k.byte code fields]

/-- A kind stands pending on both notice links with a detail, as a raise leaves it (R211). -/
def State.Raised (t : State) (k : NoticeKind) (d : Detail) : Prop :=
  ∀ l, ((t.noticeSet l).entry k).pending = true ∧ ((t.noticeSet l).entry k).detail = d

/-- The sequence numbers in the queue lie within half the counter's range, so that `earlier` orders them (R1, R118). -/
def State.SeqsComparable (s : State) : Prop :=
  ∃ base : Seq, ∀ m ∈ s.queue, ageAt m.seq base < 2147483648

/-- A record as the DUE check against a class's limits leaves it (R177). -/
def Rec.checked (c : ClassLimits) (r : Rec) : Rec :=
  if r.condition = .ready ∧ (limitReached c r).isSome then { r with condition := .due } else r

/-- The handler interface back in IDLE, both records discarded, no number current and no timer running (R146, R147). -/
def Handler.idled (h : Handler) : Handler :=
  { h with state := .idle, exec := none, halt := none, numberCurrent := false, timer := none }

/-- The handler interface works on a move: the execution record that names it, and its phase (R147). -/
def State.WorksOn (s : State) (m : Move) (e : ExecRecord) (ph : Phase) : Prop :=
  s.handler.exec = some e ∧ e.move = some m.seq ∧ s.move? m.seq = some m ∧ e.phase = some ph

/-- The handler interface waits for a report with a number, in the state of a phase (R146, R147). -/
def State.Awaits (s : State) (number : Byte) (m : Move) (e : ExecRecord) (ph : Phase) : Prop :=
  s.WorksOn m e ph ∧ s.handler.state = ph.handlerState ∧ s.handler.orderNumber = number ∧ s.handler.numberCurrent = true

/-- The handler interface is HALTED with a move and the phase it was in (R161). -/
def State.HaltedWith (s : State) (m : Move) (e : ExecRecord) (ph : Phase) : Prop :=
  s.WorksOn m e ph ∧ s.handler.state = .halted

/-- What an accepted pick of an unnamed store move from a nest leaves in `u`, in a change from `b` with the target slot `k`
reserved: the record in the gripper as given, the nest EMPTY, the move named, the announcement of the identifier gone when the
record was created, and PLACE sent to the target, which is another slot when `k` does not admit the record's class and the zone
unit's selection finds one (R42, R151). -/
def State.TakesUp (b u : State) (m : Move) (e : ExecRecord) (x : Nest) (k : Fin 384) (r : Rec) : Prop :=
  u.record r.id = some r ∧ u.nestIsEmpty x = true
    ∧ (b.known r.id = false → u.announcements = b.announcements.filter (fun a => !decide (a.id = r.id)))
    ∧ ∃ j : Fin 384,
      ((b.resolve (shelfOf k)).classMask.getLsbD r.cls.val = true → j = k)
      ∧ ((b.resolve (shelfOf k)).classMask.getLsbD r.cls.val = false →
          j = (b.selectBy (.one r.cls) r.home (b.anchorOf m)).getD k)
      ∧ u.slot (ofStorage j) = .inbound (some r.id) m.seq ∧ (j ≠ k → u.slot (ofStorage k) = .empty)
      ∧ { m with reticle := some r.id, pickTest := .named, target := .pos (storagePosition j) } ∈ u.queue
      ∧ u.handler = { b.handler with
          state := .placing, timer := some b.handler.placeTimeout, orderNumber := b.handler.orderNumber + 1
          numberCurrent := true
          exec := some { e with read := some (.ident r.id), phase := some .placing } }
      ∧ u.sent .handler = b.sent .handler ++ [.place (b.handler.orderNumber + 1) (storagePosition j)]

/-- What a refused pick leaves in `u`, in a change from `b`: PLACE sent to the source with cause MISMATCH, and slots, nests,
records and moves as they were (R155). -/
def State.TurnsBack (b u : State) (m : Move) (e : ExecRecord) (read : ReadId) : Prop :=
  u.handler = { b.handler with
      state := .putback, timer := some b.handler.placeTimeout, orderNumber := b.handler.orderNumber + 1
      numberCurrent := true
      exec := some { e with read := some read, phase := some .putback, cause := some .mismatch } }
    ∧ u.sent .handler = b.sent .handler ++ [.place (b.handler.orderNumber + 1) m.source]
    ∧ u.slots = b.slots ∧ u.catalogue = b.catalogue ∧ u.queue = b.queue ∧ u.ports = b.ports
    ∧ u.bi = b.bi ∧ u.bo = b.bo ∧ u.inn = b.inn ∧ u.steady = b.steady

/-- What a nest Tp that becomes RETURNED in a change from `b` leaves in `u`: with a pending return whose record is at the tool
the return is complete, with its COLLECT admitted and its lots counted; otherwise the pending return is discarded and the return
wait runs (R68, R69, R70). -/
def State.TurnsReturned (b u : State) (p : Port) : Prop :=
  u.toolNest p = .returned ∧ (u.port p).lateOpen = false
    ∧ (∀ x, (b.port p).pendingReturn = some x → b.locatedAt x.id (.tool p) = true →
        u.steady = (b.steady.updPort p (fun r => { r with pendingReturn := none })).updRecord x.id
          (fun r => ({ r with lots := satAdd r.lots x.lots }).checked (b.limitsOf r))
        ∧ (u.port p).window = none
        ∧ ∃ m, u.queue = b.queue ++ [m] ∧ m.seq = b.nextSeq ∧ m.kind = .collect ∧ m.reticle = some x.id
            ∧ m.pickTest = .named ∧ m.source = .nest (.t p) ∧ m.beneficiary = some p)
    ∧ ((∀ x, (b.port p).pendingReturn = some x → b.locatedAt x.id (.tool p) = false) →
        u.steady = b.steady.updPort p (fun r => { r with pendingReturn := none }) ∧ u.queue = b.queue
        ∧ (u.port p).window = some ⟨.returnWait, windowLength (b.port p).settings.windowCount⟩)

/-- A move is an offer as admitted: the offer's own fields, the next sequence number, the present clock, WAITING, and neither
diverted nor marked for stand-down (R117). -/
def Offer.Becomes (o : Offer) (m : Move) (seq : Seq) (now : Clock) : Prop :=
  m.seq = seq ∧ m.kind = o.kind ∧ m.requester = o.requester ∧ m.beneficiary = o.beneficiary ∧ m.reticle = o.reticle
    ∧ m.pickTest = o.pickTest ∧ m.source = o.source ∧ m.target = o.target ∧ m.listPosition = o.listPosition
    ∧ m.enqueued = now ∧ m.state = .waiting ∧ m.diverted = false ∧ m.standDown = false

/-- What the reclaim of an unfit record on an OUT_WAIT nest Tp leaves in `u`, in a change from `b` (R65). -/
def State.Reclaims (b u : State) (p : Port) (id : Ident) (why : Reason) : Prop :=
  u.toolNest p = .outLapsed ∧ u.prdy p = false ∧ (u.port p).window = none ∧ (u.port p).lapseDeferred = false
    ∧ (∃ m, u.queue = b.queue ++ [m] ∧ (reclaimOffer p id).Becomes m b.nextSeq b.clock)
    ∧ u.sent (.request (.tool p))
        = b.sent (.request (.tool p)) ++ (if (b.port p).state = .closed then [] else [.withdrawn id why])
    ∧ u.slots = b.slots ∧ u.handler = b.handler

/-- What the lapse of a collect window at nest Tp with a record on it leaves in `u`, in a change from `b` (R64). -/
def State.Lapses (b u : State) (p : Port) (r : Rec) : Prop :=
  u.steady = b.steady ∧ u.toolNest p = .outLapsed ∧ (u.port p).window = none ∧ (u.port p).lapseDeferred = false
    ∧ (∃ m, u.queue = b.queue ++ [m] ∧ m.seq = b.nextSeq ∧ m.kind = .reclaim ∧ m.reticle = some r.id
        ∧ m.source = .nest (.t p) ∧ m.beneficiary = some p)
    ∧ u.sent (.request (.tool p)) = b.sent (.request (.tool p)) ++ (if (b.port p).state = .closed then [] else [.lapsed r.id])
    ∧ u.Raised .lapsed ⟨some r.id, none, some (.nest (.t p)), some p, none⟩

/-- The end of a move leaves neither its entry in the queue nor a record bound to it (R115, R121); the queue's entries lie close
together, as R118 says of every queue. -/
def State.DropsMove (b u : State) (m : Move) : Prop :=
  b.SeqsFresh → (∀ y ∈ u.queue, y.seq ≠ m.seq) ∧ ∀ r ∈ u.catalogue, r.binding ≠ some m.seq

/-- What the end of a move with an outcome leaves in `u`, in a change from `b`: the move and its binding gone, its source and
target slots reserved no longer and no slot reserved anew, and the one MOVE_END that R164 gives, on the requester's link with
the identifier, the number and the outcome: none for a DELIVER placed, an INTERNAL requester, a CLOSED port or a move that names
no reticle, and no other on any link. -/
def State.EndsMove (b u : State) (m : Move) (x : MoveOutcome) : Prop :=
  b.DropsMove u m
    ∧ (∀ n q, (u.slot n).move = some q → u.slot n = b.slot n)
    ∧ (∀ n z q, m.target = .pos (.slot n) → b.slot n = .inbound z q → (u.slot n).move = none)
    ∧ (∀ n z q, m.source = .slot n → x ≠ .placed → b.slot n = .outbound z q → (u.slot n).move = none)
    ∧ ∀ (l : ReqLink) (id : Ident) (q : Seq) (y : MoveOutcome),
      .moveEnd id q y ∈ (u.sent (.request l)).drop (b.sent (.request l)).length ↔
        m.reticle = some id ∧ q = m.seq ∧ y = x ∧ m.requester.link = some l ∧ ¬(m.kind = .deliver ∧ x = .placed)
        ∧ ∀ p, l = .tool p → (b.port p).state ≠ .closed

/-- A nest is BLOCKED in `u`, NEST_BLOCKED raised with it and the identifier read, if any (R56, R113). -/
def State.BlockedAt (u : State) (x : Nest) (read : Option Ident) : Prop :=
  (∀ p, x = .t p → u.toolNest p = .blocked) ∧ (x = .bi → u.bi = .blocked) ∧ (x = .bo → u.bo = .blocked)
    ∧ (x = .inn → u.inn = .blocked) ∧ u.Raised .nestBlocked ⟨read, none, some (.nest x), none, none⟩

/-- The records of an identifier are UNLOCATED, in QUARANTINE and suspect in `u` (R16). -/
def State.Lost (u : State) (id : Ident) : Prop :=
  ∀ r ∈ u.catalogue, r.id = id → r.location = .unlocated ∧ r.condition = .quarantine ∧ r.suspect = true

/-- The record of an identifier of `b` is in QUARANTINE and suspect in `u`, its location kept (R155, R167). -/
def State.Doubts (b u : State) (id : Ident) : Prop :=
  ∀ r, b.record id = some r → ∃ y, u.record id = some y ∧ y.location = r.location ∧ y.condition = .quarantine ∧ y.suspect = true

/-- The identifier that an execution record holds, if one was read (R147, R150). -/
def ExecRecord.ReadIs (e : ExecRecord) (read : Option Ident) : Prop := ∀ z, read = some z ↔ e.read = some (.ident z)

/-- What the end of a putback leaves in `u` by its cause, in a change from `b`. A mismatch faults a slot source with the
identifier read and blocks a nest source, loses the record expected, doubts the one read, and raises MISMATCH; an occupied nest
leaves the source FILLED and the move WAITING, or withdrawn when it is a DELIVER marked for stand-down; an occupied staging
slot leaves the source FILLED and the PRESTAGE removed (R155, R158, R159). -/
def State.EndsPutback (b u : State) (m : Move) (e : ExecRecord) : Prop :=
  u.handler = b.handler.idled
    ∧ (e.cause = some .mismatch → b.EndsMove u m .mismatch ∧ ∀ read, e.ReadIs read →
      (∀ n, m.source = .slot n → u.slot n = .fault read) ∧ (∀ x, m.source = .nest x → u.BlockedAt x read)
      ∧ (∀ id, m.expected = some id → u.Lost id ∧ u.Raised .mismatch ⟨some id, read, some m.source, none, none⟩)
      ∧ (m.expected = none → u.Raised .mismatch ⟨read, none, some m.source, none, none⟩)
      ∧ (b.CatalogueSound → ∀ z, read = some z → m.expected ≠ some z → b.Doubts u z))
    ∧ ∀ n id, m.source = .slot n → m.reticle = some id → e.cause = some .occupiedNest ∨ e.cause = some .occupiedStaging →
      u.slot n = .filled id ∧ (∀ r ∈ u.catalogue, r.id = id → r.location = .slot n)
      ∧ (e.cause = some .occupiedNest → ¬(m.kind = .deliver ∧ m.standDown = true) →
          ∃ y ∈ u.queue, y.seq = m.seq ∧ y.state = .waiting)
      ∧ (e.cause = some .occupiedStaging ∨ (m.kind = .deliver ∧ m.standDown = true) → b.DropsMove u m
          ∧ (m.kind = .prestage ∨ m.kind = .deliver → ∀ y ∈ u.queue, y.seq ≠ m.seq))

/-- What a RESTART that takes effect leaves in `u`, in a change from `b` (R55, R84, R93, R112, R142, R168, R193, R214). -/
structure State.RestartsTo (b u : State) : Prop where
  tenure : u.tenure = ⟨none, 0⟩
  announcements : u.announcements = []
  handler : u.handler = { b.handler with restartPending := false }
  slots : u.slots = b.slots
  records : u.catalogue.map Rec.steady = b.catalogue.map Rec.steady
  ports : ∀ p, (u.port p).state = (if (b.port p).state = .closed then .closed else .silent)
    ∧ ((b.port p).state ≠ .closed → (u.port p).livenessLeft = none)
    ∧ (u.aheadOf p).nextList = none ∧ (u.aheadOf p).activeList = none
    ∧ u.toolNest p = (if b.toolNest p = .outWait then .outLapsed else b.toolNest p)
  waiting : ∀ m ∈ u.queue, m.state = .waiting →
    m.enqueued = b.clock ∧ m.requester = .internal
    ∧ (m.kind = .reclaim ∨ m.kind = .collect ∨ m.kind = .stockIn ∨ m.kind = .reshelve)
  queue : b.SeqsDistinct →
    u.queue.filter (fun m => m.state = .executing) = b.queue.filter (fun m => m.state = .executing)
    ∧ ((u.queue.filter (·.isWaiting)).map (fun m => (m.kind, m.source))).Perm b.freshAtRestart
    ∧ u.nextSeq = b.nextSeq + BitVec.ofNat 32 b.freshAtRestart.length
  reclaims : ∀ p r, b.toolNest p = .outWait ∨ b.toolNest p = .outLapsed → b.recordAt (.nest (.t p)) = some r →
    ∃ m ∈ u.queue, m.kind = .reclaim ∧ m.source = .nest (.t p) ∧ m.reticle = some r.id ∧ m.isWaiting = true
  collects : ∀ p x, b.toolNest p = .returned → b.queue.find? (fun m => m.waitsAt .collect (.t p)) = some x →
    ∃ m ∈ u.queue, m.waitsAt .collect (.t p) = true ∧ m.reticle = x.reticle
      ∧ m.pickTest = (if x.reticle = none then .anyAtTool else .named)
  told : ∀ m ∈ b.queue, ∀ id, m.isWaiting = true → m.kind ≠ .scan → m.reticle = some id →
    ∀ l : ReqLink, m.requester.link = some l → (∀ q, l = .tool q → (b.port q).state ≠ .closed) →
      .withdrawn id .restart ∈ (u.sent (.request l)).drop (b.sent (.request l)).length
  notices : ∀ l k, ((u.noticeSet l).entry k).masked = ((b.noticeSet l).entry k).masked
    ∧ (k ≠ .intercept → ((u.noticeSet l).entry k).pending = u.conditionHolds k
        ∧ ((u.noticeSet l).entry k).detail = ((b.noticeSet l).entry k).detail)
  tally : u.census.tally = b.census.tally
  range : u.census.range = b.census.range
  censusIdle : (∀ m ∈ b.queue, ¬(m.kind = .scan ∧ m.state = .executing)) → u.census.state = .idle
  censusStopping : b.SeqsDistinct → b.census.state ≠ .idle → (∃ m ∈ b.queue, m.kind = .scan ∧ m.state = .executing) →
    (∀ m ∈ b.queue, m.kind = .scan → m.state = .executing) → u.census.state = .stopping

end Sys2Proof.Machine
end

