-- ==== Sys2Proof/Certificates/Slice0/Obligations.lean ====
section
/-! DEFINITION. The statements for the provers, each a proposition about the block. A statement that rests on a choice of the
model says so and names its log entry. -/

open Sys2Proof Sys2Proof.Machine

/-! ## The block as a whole -/

/-- A step takes the command at the front of the queue and runs it with the queue's rest. -/
def Obligations.StepRunsFrontCommand : Prop :=
  ∀ (s : State) (c : Instr) (rest : List Instr), s.pending = c :: rest → step s = exec c { s with pending := rest }

/-- With no command waiting one second of station time passes (the model's choice, log entries 1, 2 and 3): the clock and the
tick phase advance, every running timer runs down, the expiries and the minute tick that fall in the second are queued, each
once and nothing else, and the rest of the state stands. -/
def Obligations.IdleStepIsOneSecond : Prop :=
  ∀ s : State, s.pending = [] → ∃ t, step s = .next t
    ∧ t = { s with
        clock := s.clock + 1
        tickPhase := s.tickPhase + 1
        ports := s.ports.map (fun r =>
          { r with
            livenessLeft := r.livenessLeft.map (· - 10)
            window := r.window.map (fun w => { w with left := w.left - 1 }) })
        handler := { s.handler with timer := s.handler.timer.map (· - 1) }
        materialNotices := { s.materialNotices with gap := s.materialNotices.gap.map (· - 1) }
        serviceNotices := { s.serviceNotices with gap := s.serviceNotices.gap.map (· - 1) }
        pending := t.pending
        choices := t.choices }
    ∧ t.pending.Nodup
    ∧ ∀ c, c ∈ t.pending ↔
        (∃ p n, c = .livenessExpiry p ∧ (s.port p).livenessLeft = some n ∧ n ≤ 10)
        ∨ (∃ p n, c = .collectWindowExpiry p ∧ (s.port p).window = some ⟨.collect, n⟩ ∧ n ≤ 1)
        ∨ (∃ p n, c = .returnWaitExpiry p ∧ (s.port p).window = some ⟨.returnWait, n⟩ ∧ n ≤ 1)
        ∨ (∃ n, c = .phaseTimeout ∧ s.handler.timer = some n ∧ n ≤ 1)
        ∨ (∃ l n, c = .gapTimerExpiry l ∧ (s.noticeSet l).gap = some n ∧ n ≤ 1)
        ∨ (c = .minuteTick ∧ s.tickPhase = 59)

/-- Every command completes in every state, a command of the outside world taken where it cannot arise too (the model's reading,
log entry 37), and leaves the commands behind it in the queue as they are, POWER_ON_RESET too (the model's choice, log
entry 8). -/
def Obligations.EveryCommandCompletes : Prop :=
  ∀ (c : Instr) (s : State), ∃ t, exec c s = .next t ∧ t.pending = s.pending

/-- POWER_ON_RESET gives every block its power-on value whatever the state before it, takes the nests from their presence
sensors, and admits the first moves, whose number is the next sequence number; with the zone table disabled only the SCAN of a
census can be granted. A pod on BO raises NEST_BLOCKED, and a store move admitted, which finds no candidate, NO_SLOT; no other
kind is pending, none is masked, and the gap timers run when a kind was raised. The census tally is zero, no tenure is held and
no RESTART is pending. The transmitters' lists are emptied and the TBUSY levels kept (the model's choices, log entry 8). -/
def Obligations.PowerOnResetStartsThePart : Prop :=
  ∀ (x : Straps) (s : State), ∃ t, exec (.powerOnReset x) s = .next t
    ∧ (∀ n, t.slot n = .unknown) ∧ t.catalogue = [] ∧ (∀ k, (t.zones.get k).enabled = false)
    ∧ (∀ p, t.port p = { State.reset.port p with nest := if x.presT.get p then .returned else .empty })
    ∧ (∀ p, (t.port p).state = .silent ∧ (t.port p).settings.anchor.val = 8 * p.val)
    ∧ (∀ p, t.aheadOf p = ⟨0, 1, 2, Vector.replicate 3 none⟩)
    ∧ t.announcements = []
    ∧ t.bi = (if x.presBi then .arrived else .empty)
    ∧ t.bo = (if x.presBo then .blocked else .empty)
    ∧ t.inn = (if x.presIn then .arrived else .empty)
    ∧ (t.queue.map (fun m => (m.kind, m.source))).Perm (kindsAtReset x)
    ∧ (∀ m ∈ t.queue, m.reticle = none ∧ m.requester = .internal ∧ (m.state = .executing ↔ m.kind = .scan))
    ∧ t.settings = ⟨600, 2, 4, 24, 47⟩ ∧ t.noticeGap = 2
    ∧ t.handler.pickTimeout = 30 ∧ t.handler.placeTimeout = 30
    ∧ t.handler.state = (if x.autocen then .scanning else .idle)
    ∧ t.handler.orderNumber = (if x.autocen then 1 else 0)
    ∧ t.sent .handler = (if x.autocen then [.scan 1 47] else [])
    ∧ (∀ k, t.classes.get k = ⟨0, 0, 0⟩) ∧ (∀ n, (t.intercepts.get n).status = .disabled)
    ∧ t.census.state = (if x.autocen then .running else .idle)
    ∧ (∀ l, t.rxOf l = .hunting)
    ∧ t.clock = 0 ∧ t.tickPhase = 0
    ∧ t.pins = ⟨s.pins.tbusy, x.presT, Vector.replicate 6 false, x.presBi, x.presBo, x.presIn, x.autocen⟩
    ∧ t.nextSeq = BitVec.ofNat 32 (kindsAtReset x).length ∧ t.tenure = ⟨none, 0⟩
    ∧ t.census.tally = ⟨0, 0, 0, 0, 0⟩ ∧ t.census.range = (if x.autocen then some (0, 47) else none)
    ∧ t.handler.restartPending = false ∧ (∀ p, t.sent (.request (.tool p)) = [])
    ∧ (t.noSlot = true ↔ ∃ k ∈ kindsAtReset x, k.1.isStore = true)
    ∧ (∀ l k, ((t.noticeSet l).entry k).masked = false
        ∧ (((t.noticeSet l).entry k).pending = true ↔
            (k = .nestBlocked ∧ x.presBo = true) ∨ (k = .noSlot ∧ t.noSlot = true)))
    ∧ ∀ l, (t.noticeSet l).gap = (if x.presBo = true ∨ t.noSlot = true then some 2 else none)

/-! ## Invariants -/

/-- The state after reset meets every invariant. -/
def Obligations.ResetIsSound : Prop := State.reset.Sound

/-- Every step keeps the catalogue a map of at most 480 records (R9) and the announcement list within R93. -/
def Obligations.StepKeepsCatalogueForm : Prop :=
  ∀ s t : State, s.CatalogueSound → s.AnnouncementsSound → step s = .next t → t.CatalogueSound ∧ t.AnnouncementsSound

/-- Every step keeps at most 24 link-originated moves in the queue. From a queue in its form whose entries lie close together,
as R118 says of every queue, every step keeps an inspection-out count of at most 16, and every step but a RESOLVE(AT_SOURCE) a
checked-out count of at most 8 at each port; the step left out is where the count that the definition gives can rise (the
model's reading, log entry 46) (R71, R106, R119). -/
def Obligations.StepKeepsCountLimits : Prop :=
  (∀ s t : State, s.BudgetSound → step s = .next t → t.BudgetSound)
  ∧ ∀ s t : State, s.QueueSound → s.CatalogueSound → s.SeqsFresh → step s = .next t →
      (s.inspectionOut none ≤ 16 → t.inspectionOut none ≤ 16)
      ∧ ((∀ l tag b, s.pending.head? ≠ some (.resolveAtSource l tag b)) →
          ∀ p, s.checkedOut p ≤ 8 → t.checkedOut p ≤ 8)

/-- Every step keeps the three call-ahead roles apart, the FILL buffer empty and every list a list of R77; and it keeps the
liveness timer running exactly in ATTACHED, the lists empty outside it, and at most one priority port (R49, R52, R77, R84). -/
def Obligations.StepKeepsPortAndCallAheadForm : Prop :=
  (∀ s t : State, s.AheadSound → step s = .next t → t.AheadSound)
  ∧ (∀ s t : State, s.PortsSound → step s = .next t → t.PortsSound)

/-- Every step keeps the records, the timer and the current number that the handler interface's state calls for, and the
settings and the tenure count in their ranges. With the handler interface in its form, every step keeps the queue in its form
too: at most one move is EXECUTING, the one that the execution record names, and every binding names an entry of the queue;
the entries of the queue before it lie close together, as R118 says of every queue (R115, R118, R121, R135, R140, R146, R147,
R148, R213). -/
def Obligations.StepKeepsHandlerQueueAndSettingsForm : Prop :=
  (∀ s t : State, s.handler.Sound → step s = .next t → t.handler.Sound)
  ∧ (∀ s t : State, s.SettingsSound → step s = .next t → t.SettingsSound)
  ∧ ∀ s t : State, s.handler.Sound → s.QueueSound → s.SeqsFresh → step s = .next t → t.QueueSound

/-- In every state that a run from reset reaches, with any commands, while the queue's entries lie close together (R118): a
slot holds a reticle exactly when that reticle's record is located at the slot; a record in the gripper is that of the move in
execution; a move names a reticle exactly when the reticle's record is bound to the move; and a slot is reserved for the move
in execution only (R3, R5, R11, R14, R121). -/
def Obligations.SlotsAgreeWithRecords : Prop :=
  ∀ s : State, Reached s →
    (∀ n id, (s.slot n).reticle = some id ↔ s.locatedAt id (.slot n) = true)
    ∧ (∀ id, s.locatedAt id .gripper = true → ∃ m, s.execMove = some m ∧ m.reticle = some id)
    ∧ (∀ m ∈ s.queue, ∀ id, m.reticle = some id → ∃ r, s.record id = some r ∧ r.binding = some m.seq)
    ∧ (∀ r ∈ s.catalogue, ∀ q, r.binding = some q → ∃ m ∈ s.queue, m.seq = q ∧ m.reticle = some r.id)
    ∧ ∀ n q, (s.slot n).move = some q → s.handler.exec.bind (·.move) = some q

/-- Every step keeps a condition kind pending on both notice links while its condition holds, and no kind fresh without being
pending (R211). -/
def Obligations.StepKeepsConditionsPending : Prop := ∀ s t : State, s.NoticesSound → step s = .next t → t.NoticesSound

/-- No command lowers a counter of a record that stays in the catalogue, but for a PASS verdict, a SET_CONDITION and a
power-on reset (R176). -/
def Obligations.CountersNeverDecrease : Prop :=
  ∀ (c : Instr) (s t : State), exec c s = .next t →
    (∀ x, c ≠ .powerOnReset x) → (∀ l g id, c ≠ .verdict l g (some ⟨id, .pass⟩)) → (∀ l g b, c ≠ .setCondition l g b) →
    ∀ id r r', s.record id = some r → t.record id = some r' →
      r.deliveries ≤ r'.deliveries ∧ r.lots ≤ r'.lots ∧ r.air ≤ r'.air

/-! ## Links -/

/-- The first three checks of a good frame on a request link: an unknown kind is answered BAD_FORM, a request not placed on
the link NOT_HERE, and one out of form BAD_FORM; nothing but the liveness timer of the link changes. That the liveness timer
is restarted also by a frame refused is the model's reading (log entry 35) (R205, R209). -/
def Obligations.LinkChecksComeFirst : Prop :=
  (∀ (s : State) (l : ReqLink) (tag kind : Byte), exec (.unknownRequestKind l tag kind) s
      = .next ((s.goodFrame l).send (.request l) (.answer tag kind .badForm .none)))
  ∧ ∀ (c : Instr) (s : State) (l : ReqLink) (tag : Byte) (k : FrameKind), c.request? = some (l, tag, k) →
    ((placementOf k).includes l = false →
      exec c s = .next ((s.goodFrame l).send (.request l) (.answer tag k.byte .notHere .none)))
    ∧ ((placementOf k).includes l = true → c.outOfForm = true →
      exec c s = .next ((s.goodFrame l).send (.request l) (.answer tag k.byte .badForm .none)))

/-- Every request is answered exactly once on its link, after every unrequested frame its change sends there; the other links
are sent no answer (R205, R206). -/
def Obligations.EveryRequestAnsweredOnceLast : Prop :=
  ∀ (c : Instr) (s t : State) (l : ReqLink) (tag : Byte) (k : FrameKind), c.request? = some (l, tag, k) →
    exec c s = .next t →
    (∃ code fields, s.Answered t l tag k code fields)
    ∧ ∀ l' : Link, l' ≠ .request l →
      ∃ fs : List OutFrame, (∀ f ∈ fs, f.isAnswer = false) ∧ t.sent l' = s.sent l' ++ fs

/-- Every good frame on the tool link of an ATTACHED port restarts its liveness timer with the period stored, whatever its
kind and its answer. That a frame refused counts too is the model's reading (log entry 35) (R52). -/
def Obligations.GoodFrameRestartsLiveness : Prop :=
  ∀ (c : Instr) (s t : State) (p : Port),
    ((∃ tag k, c.request? = some (.tool p, tag, k)) ∨ ∃ tag k, c = .unknownRequestKind (.tool p) tag k) →
    (s.port p).state = .attached → exec c s = .next t →
    (t.port p).state = .attached ∧ (t.port p).livenessLeft = (t.port p).liveness.map livenessPeriod

/-- The bytes of a frame, taken one after the other by a hunting receiver, queue the one command the frame spells (behind
those waiting: the model's choice, log entry 5); with another CRC, or a length above 320, they leave the state as it was, the
receiver hunting again. The commands that stand for a frame discarded for its length, its CRC or a byte gap leave the receiver
of their link hunting and change nothing else; a frame not taken on the handler link changes nothing (R204, R205, R208). -/
def Obligations.ReceiverTakesGoodFramesAlone : Prop :=
  (∀ (s : State) (l : Link), s.rxOf l = .hunting →
    (∀ (kind tag : Byte) (body : List Byte), body.length ≤ 320 →
      s.receive l (frameBytes kind tag body) = { s with pending := s.pending ++ [decodeFrame l kind tag body] }
      ∧ ∀ hi lo : Byte, hi ++ lo ≠ crc16 (putNumber body.length ++ kind :: tag :: body) →
        s.receive l (0xC3 :: putNumber body.length ++ kind :: tag :: body ++ [hi, lo]) = s)
    ∧ ∀ hi lo : Byte, 320 < 256 * hi.toNat + lo.toNat → s.receive l [0xC3, hi, lo] = s)
  ∧ (∀ s : State, exec .handlerFrameNotTaken s = .next s)
  ∧ ∀ (s : State) (l : Link), ∃ t, exec (.bodyLengthExcess l) s = .next t ∧ exec (.crcFailure l) s = .next t
    ∧ exec (.byteGapTimeout l) s = .next t ∧ t.rxOf l = .hunting ∧ (∀ l', l' ≠ l → t.rxOf l' = s.rxOf l')
    ∧ t = { s with rx := t.rx }

/-! ## What follows a change, and the dispatcher -/

/-- The window re-evaluations, the NO_SLOT test and the grant test that follow a change leave its steady part. A slot is only
reserved (FILLED to OUTBOUND, EMPTY to INBOUND), and only when the handler interface was IDLE with no RESTART pending; a record
is never released from hold and keeps everything but its binding; every frame sent before stays sent. -/
def Obligations.ConsequencesKeepSteadyPart : Prop :=
  ∀ (a b : State) (t : Touch), (b.settle a t).steady = b.steady
    ∧ (∀ n, (b.settle a t).slot n = b.slot n
        ∨ (∃ id q, b.slot n = .filled id ∧ (b.settle a t).slot n = .outbound id q)
        ∨ (b.slot n = .empty ∧ ∃ x q, (b.settle a t).slot n = .inbound x q))
    ∧ (b.handler.state ≠ .idle ∨ b.handler.restartPending = true →
        (b.settle a t).handler = b.handler ∧ (b.settle a t).slots = b.slots
          ∧ (b.settle a t).sent .handler = b.sent .handler)
    ∧ (∀ id r, b.record id = some r →
        ∃ r', (b.settle a t).record id = some r' ∧ r'.steady = r.steady ∧ (r.held = true → r'.held = true))
    ∧ ∀ l, b.sent l <+: (b.settle a t).sent l

/-- Every event of R126 leads to a grant test. The test does nothing unless the handler interface is IDLE with no RESTART
pending. Else its sweep withdraws exactly the WAITING DELIVERs whose record is held or not READY, each tool with an open port
told WITHDRAWN, HELD before NOT_READY; slots, handler interface and every steady part stand; and the move then chosen is
granted. A change with such an event has its NO_SLOT test and its grant test at once, so that the first move eligible is
granted, and nothing that follows takes the grant back; with no event of any kind nothing follows but the NO_SLOT test. That the
change's own tests come before the window re-evaluations it leads to, whose review and requests are changes with tests of their
own, is the model's reading (log entry 15), and so is the bound on the re-evaluations of one change (log entry 16) (R125, R126,
R127). -/
def Obligations.GrantTestSweepsAndGrants : Prop :=
  (∀ s : State, s.handler.state ≠ .idle ∨ s.handler.restartPending = true → s.grantTest = s)
  ∧ (∀ (s : State) (unfit : Move → Ident → Reason → Prop), s.SeqsDistinct →
    (∀ m id why, unfit m id why ↔ m ∈ s.queue ∧ m.kind = .deliver ∧ m.state = .waiting ∧ m.reticle = some id
      ∧ ∃ r, s.record id = some r ∧ ((r.held = true ∧ why = .held) ∨ (r.held = false ∧ r.condition ≠ .ready ∧ why = .notReady))) →
    s.handler.state = .idle → s.handler.restartPending = false →
    ∀ u : State, u = s.sweep → u.steady = s.steady ∧ u.slots = s.slots ∧ u.handler = s.handler
      ∧ u.queue.Sublist s.queue ∧ (∀ m ∈ s.queue, m ∈ u.queue ↔ ∀ id why, ¬ unfit m id why)
      ∧ (∀ m id why q, unfit m id why → m.requester = .tool q → (s.port q).state ≠ .closed →
          .withdrawn id why ∈ (u.sent (.request (.tool q))).drop (s.sent (.request (.tool q))).length)
      ∧ (∀ m byTenure, u.choose = some (m, byTenure) → s.grantTest = u.grant m byTenure)
      ∧ (u.choose = none → s.grantTest = u))
  ∧ (∀ (a b c : State) (t : Touch), c = b.noSlotStep a t →
    (grantEvent a b t = false → b.serve a t = c ∧ ((∀ q, windowEvent a c t q = false) → b.settle a t = c))
    ∧ (grantEvent a b t = true → b.serve a t = c.grantTest.noSlotStep c noTouch)
    ∧ ∀ m byTenure, grantEvent a b t = true → c.handler.state = .idle → c.handler.restartPending = false →
        c.sweep.choose = some (m, byTenure) → ∀ u : State, u = b.serve a t ∨ u = b.settle a t →
        u.handler = (c.sweep.grant m byTenure).handler ∧ u.sent .handler = (c.sweep.grant m byTenure).sent .handler)
  ∧ (∀ (s : State) (f : State → State), s.served f = (f s).serve s noTouch)
  ∧ ∀ (a b : State) (t : Touch),
    t.zone = true ∨ t.classOf ≠ none ∨ t.announced = true ∨ t.restarted = true
      ∨ (∃ m ∈ b.queue, a.move? m.seq = none) ∨ (∃ m ∈ a.queue, b.move? m.seq = none)
      ∨ (∃ m ∈ a.queue, m.state = .executing ∧ ∃ x, b.move? m.seq = some x ∧ x.state = .waiting)
      ∨ (a.handler.state ≠ .idle ∧ b.handler.state = .idle)
      ∨ (∃ p, a.toolNest p ≠ .empty ∧ b.toolNest p = .empty) ∨ (∃ p, a.tbusy p = true ∧ b.tbusy p = false)
      ∨ (∃ p, (a.port p).state ≠ .attached ∧ (b.port p).state = .attached)
      ∨ (a.bi ≠ .empty ∧ b.bi = .empty) ∨ (a.bo ≠ .empty ∧ b.bo = .empty) ∨ (a.inn ≠ .empty ∧ b.inn = .empty)
      ∨ (∃ n, a.slot n ≠ .empty ∧ b.slot n = .empty) ∨ (∃ n, (a.slot n).reticle ≠ (b.slot n).reticle)
      ∨ (∃ r ∈ a.catalogue, b.record r.id = none)
      ∨ (∃ r ∈ a.catalogue, ∃ x, b.record r.id = some x ∧ (x.condition ≠ r.condition ∨ x.held ≠ r.held)) →
    grantEvent a b t = true

/-- The move a grant point chooses is an eligible move of the queue: an overdue one with the lowest sequence number if there is
any (R132); else the most urgent of the port whose tenure runs on, if it has any (R133); else the most urgent of all (R134),
ties going to the lowest sequence number. None is chosen only when none is eligible. The urgency is min(1023, B + A + W + K):
the sum lies between B, whose least value is 40, and 1759 = 360 + 959 + 240 + 200, which a COLLECT reaches, and of two moves at
1023 the sequence number alone decides (R131). -/
def Obligations.GrantChoiceFollowsSelection : Prop :=
  (∀ s : State, s.SeqsComparable →
    (s.choose = none → ∀ m ∈ s.queue, s.eligible m = false)
    ∧ ∀ (m : Move) (byTenure : Bool), s.choose = some (m, byTenure) →
      m ∈ s.queue ∧ s.eligible m = true
      ∧ ((∃ x ∈ s.queue, s.overdue x = true) →
          byTenure = false ∧ s.overdue m = true ∧ ∀ x ∈ s.queue, s.overdue x = true → earlier m.seq x.seq = true)
      ∧ ((∀ x ∈ s.queue, s.overdue x = false) →
          ∀ p, s.tenurePort = some p → (∃ x ∈ s.queue, s.eligible x = true ∧ x.beneficiary = some p) →
            byTenure = true ∧ m.beneficiary = some p
            ∧ ∀ x ∈ s.queue, s.eligible x = true → x.beneficiary = some p →
                s.urgency x ≤ s.urgency m ∧ (s.urgency x = s.urgency m → earlier m.seq x.seq = true))
      ∧ ((∀ x ∈ s.queue, s.overdue x = false) →
          (∀ p, s.tenurePort = some p → ∀ x ∈ s.queue, s.eligible x = true → x.beneficiary ≠ some p) →
            byTenure = false
            ∧ ∀ x ∈ s.queue, s.eligible x = true →
                s.urgency x ≤ s.urgency m ∧ (s.urgency x = s.urgency m → earlier m.seq x.seq = true)))
  ∧ (∀ (s : State) (m : Move),
    s.urgency m = min 1023 (m.kind.base + s.agingTerm m + s.weightTerm m + s.couplingTerm m)
    ∧ s.urgency m ≤ 1023
    ∧ 40 ≤ m.kind.base ∧ m.kind.base ≤ m.kind.base + s.agingTerm m + s.weightTerm m + s.couplingTerm m
    ∧ m.kind.base + s.agingTerm m + s.weightTerm m + s.couplingTerm m ≤ 1759
    ∧ (1023 ≤ m.kind.base + s.agingTerm m + s.weightTerm m + s.couplingTerm m → s.urgency m = 1023))
  ∧ (∃ k : MoveKind, k.base = 40)
  ∧ (∃ (s : State) (m : Move), m.kind = .collect ∧ m.kind.base = 360 ∧ s.agingTerm m = 959
      ∧ s.weightTerm m = 240 ∧ s.couplingTerm m = 200)
  ∧ ∀ (s : State) (m x : Move), s.urgency m = 1023 → s.urgency x = 1023 →
      s.moreUrgent (some m) x = some (if earlier x.seq m.seq = true ∧ x.seq ≠ m.seq then x else m)

/-- A grant makes the move EXECUTING with its target, reserves a FILLED source slot and an EMPTY target slot and no other slot,
takes the nests to their grant states, writes the tenure record, and sends the first order with the next number (R5, R127,
R135, R150). -/
def Obligations.GrantReservesAndOrders : Prop :=
  ∀ (s : State) (m : Move) (byTenure : Bool),
    (s.grant m byTenure).queue
        = s.queue.map (fun x => if x.seq = m.seq then { m with state := .executing, target := s.grantTarget m } else x)
    ∧ (∀ n id, m.source = .slot n → s.slot n = .filled id → (s.grant m byTenure).slot n = .outbound id m.seq)
    ∧ (∀ n, s.grantTarget m = .pos (.slot n) → s.slot n = .empty →
        (s.grant m byTenure).slot n = .inbound m.reticle m.seq)
    ∧ (∀ n, m.source ≠ .slot n → s.grantTarget m ≠ .pos (.slot n) → (s.grant m byTenure).slot n = s.slot n)
    ∧ (∀ p, s.grantTarget m = .pos (.nest (.t p)) →
        (s.grant m byTenure).toolNest p = .inbound ∧ ((s.grant m byTenure).port p).lateOpen = false)
    ∧ (∀ p, m.source = .nest (.t p) → s.grantTarget m ≠ .pos (.nest (.t p)) →
        (s.grant m byTenure).toolNest p = .outbound)
    ∧ (m.source = .nest .bi → (s.grant m byTenure).bi = .outbound)
    ∧ (s.grantTarget m = .pos (.nest .bo) → (s.grant m byTenure).bo = .inbound)
    ∧ (s.grantTarget m = .pos (.nest .inn) → (s.grant m byTenure).inn = .inbound)
    ∧ (m.source = .nest .inn → s.grantTarget m ≠ .pos (.nest .inn) → (s.grant m byTenure).inn = .outbound)
    ∧ (s.grant m byTenure).tenure
        = (if byTenure then ⟨s.tenure.port, s.tenure.count + 1⟩ else ⟨m.beneficiary, 0⟩)
    ∧ (m.kind.isStore = true → ∀ k, s.selectTarget m = some k → s.grantTarget m = .pos (.slot (ofStorage k)))
    ∧ (m.kind.isStore = false → s.grantTarget m = m.target)
    ∧ (m.kind ≠ .scan → ∀ x, s.grantTarget m = .pos x →
        (s.grant m byTenure).handler = { s.handler with
          state := .picking
          exec := some ⟨some m.seq, some .picking, none, none, 0⟩
          orderNumber := s.handler.orderNumber + 1
          numberCurrent := true
          timer := some s.handler.pickTimeout }
        ∧ (s.grant m byTenure).sent .handler
            = s.sent .handler ++ [.move (s.handler.orderNumber + 1) m.source x m.expected])
    ∧ (m.kind = .scan → ∀ n, m.source = .shelf n →
        (s.grant m byTenure).handler = { s.handler with
          state := .scanning
          exec := some ⟨some m.seq, some .scanning, none, none, 0⟩
          orderNumber := s.handler.orderNumber + 1
          numberCurrent := true
          timer := some (2 * s.handler.pickTimeout) }
        ∧ (s.grant m byTenure).sent .handler = s.sent .handler ++ [.scan (s.handler.orderNumber + 1) n])

/-! ## Zones -/

/-- The resolution of a shelf: the unions of the masks of the enabled entries that cover it and their common purge class; a
shelf whose matches disagree on the purge class is conflicted, serves no port and counts as purge class 0 (R31, R34, R35). -/
def Obligations.ShelfResolution : Prop :=
  ∀ (s : State) (n : Shelf) (covers : Fin 8 → Prop),
    (∀ k, covers k ↔ ((s.zones.get k).base ≤ n ∧ n ≤ (s.zones.get k).limit
      ∧ ¬((s.zones.get k).classMask = 0 ∧ (s.zones.get k).serveMask = 0))) →
    (∀ c : Fin 8, (s.resolve n).classMask.getLsbD c = true ↔
      ∃ k, covers k ∧ (s.zones.get k).classMask.getLsbD c = true)
    ∧ ((s.resolve n).conflicted = true ↔ ∃ j k, covers j ∧ covers k ∧ (s.zones.get j).purge ≠ (s.zones.get k).purge)
    ∧ (∀ p : Fin 6, (s.resolve n).serveMask.getLsbD p = true ↔
      (s.resolve n).conflicted = false ∧ ∃ k, covers k ∧ (s.zones.get k).serveMask.getLsbD p = true)
    ∧ (∀ k, covers k → (s.resolve n).conflicted = false → (s.resolve n).purgeClass = (s.zones.get k).purge)
    ∧ ((∀ k, ¬ covers k) → (s.resolve n).purgeClass = 0 ∧ (s.resolve n).conflicted = false)
    ∧ ((s.resolve n).conflicted = true → (s.resolve n).purgeClass = 0)

/-- Store target selection: the home slot when it is a candidate; else the candidate nearest the anchor shelf, and of those at
the least distance the lowest-numbered; no slot exactly when there is no candidate. A candidate is EMPTY, not conflicted and of
a class mask that admits the selection class (R38, R40). -/
def Obligations.StoreTargetIsNearestCandidate : Prop :=
  ∀ (s : State) (m : Move) (c : SelectionClass), s.selectionClass m = some c →
    (∀ n, s.isCandidate c n = true ↔
      s.slot (ofStorage n) = .empty ∧ (s.resolve (shelfOf n)).conflicted = false
        ∧ c.admits (s.resolve (shelfOf n)).classMask = true)
    ∧ (∀ h, s.homeOf m = some h → s.isCandidate c h = true → s.selectTarget m = some h)
    ∧ (∀ n, s.selectTarget m = some n → s.isCandidate c n = true)
    ∧ (∀ n, s.selectTarget m = some n → (∀ h, s.homeOf m = some h → s.isCandidate c h = false) →
        ∀ k, s.isCandidate c k = true →
          shelfDistance (shelfOf n) (s.anchorOf m) < shelfDistance (shelfOf k) (s.anchorOf m)
          ∨ (shelfDistance (shelfOf n) (s.anchorOf m) = shelfDistance (shelfOf k) (s.anchorOf m) ∧ n ≤ k))
    ∧ (s.selectTarget m = none ↔ ∀ n, s.isCandidate c n = false)

/-- ZONE_SET writes one entry whole, its shelves and purge class clamped, and changes no other steady part. ZONE_CONFLICT is
raised with the number of conflicted slots and the lowest of them when the new table has any (R33, R36, R37). -/
def Obligations.ZoneSetWritesOneEntry : Prop :=
  ∀ (s : State) (tag : Byte) (b : ZoneBody) (k : Fin 8), b.entry = k.val →
    ∃ (t : State) (e : ZoneEntry), exec (.zoneSet .service tag (some b)) s = .next t
      ∧ e.base.val = min b.base 47 ∧ e.limit.val = min b.limit 47 ∧ e.purge.val = min b.purge 3
      ∧ e.classMask = b.classMask ∧ e.serveMask = b.serveMask
      ∧ t.steady = { s.steady with zones := s.zones.set k.val e k.isLt }
      ∧ s.Answered t .service tag .zoneSet .ok (.zoneStored e)
      ∧ (∀ n : Shelf, (t.resolve n).conflicted = true → (∀ j : Shelf, j < n → (t.resolve j).conflicted = false) →
          t.Raised .zoneConflict
            ⟨none, none, some (.slot (shelfSlot n 0)), none,
              some (8 * ((List.finRange 48).countP (fun j => (t.resolve j).conflicted)))⟩)

/-! ## Life accounting -/

/-- The DUE checks of one event: each READY record among those checked that has reached a limit of its class becomes DUE, every
other record stands, and one DUE notice is raised exactly when some record became DUE: with the record's identifier and the
limit reached for one record, with code 4 and no identifier for more (R177, R178, R179). -/
def Obligations.DueCheckMakesRecordsDue : Prop :=
  ∀ (s : State) (f : Rec → Bool), s.CatalogueSound →
    (s.dueCheck f).steady = { s.steady with
      records := s.catalogue.map (fun r => (if f r then r.checked (s.limitsOf r) else r).steady) }
    ∧ ((∀ r ∈ s.catalogue, f r = true → s.comesDue r = false) → s.dueCheck f = s)
    ∧ (∀ r, s.newlyDue f = [r] → ∃ d, (s.dueCheck f).Raised .due d ∧ d.reticle = some r.id
        ∧ d.code = limitReached (s.limitsOf r) r
        ∧ (∀ n, r.location = .slot n → d.position = some (.slot n))
        ∧ (∀ x, r.location = .nest x → d.position = some (.nest x)) ∧ (∀ p, r.location = .tool p → d.port = some p))
    ∧ (2 ≤ (s.newlyDue f).length → (s.dueCheck f).Raised .due ⟨none, none, none, none, some 4⟩)

/-- At a minute tick each record gains the air quarters of its location as it stands, saturating at 65535, and each record with
an addition, one at 65535 too, is made DUE when it has reached a limit of its class; the tick phase returns to 0. The quarters
follow the purge class in force for a storage slot, are 4 at a conflicted one and at one that no zone entry covers, 2 in
staging, none at a tool, and 4 anywhere else (R172, R173, R176, R177, R178). -/
def Obligations.MinuteTickAccruesAir : Prop :=
  ∀ s : State, s.CatalogueSound → ∃ t, exec .minuteTick s = .next t
    ∧ t.steady = { s.steady with
        tickPhase := 0
        records := s.catalogue.map (fun r =>
          let x := { r with air := clampTo 65535 (r.air.val + s.airWeight r) }
          (if s.airWeight r = 0 then x else x.checked (s.limitsOf r)).steady) }
    ∧ ∀ r : Rec,
      (∀ n k, r.location = .slot n → toStorage n = some k →
        s.airWeight r = (match (s.resolve (shelfOf k)).purgeClass with | 0 => 4 | 1 => 2 | 2 => 1 | 3 => 0)
        ∧ ((s.resolve (shelfOf k)).conflicted = true → s.airWeight r = 4)
        ∧ ((∀ e, (s.zones.get e).covers (shelfOf k) = false) → s.airWeight r = 4))
      ∧ (∀ n, r.location = .slot n → toStorage n = none → s.airWeight r = 2)
      ∧ (∀ p, r.location = .tool p → s.airWeight r = 0)
      ∧ (r.location = .gripper ∨ (∃ x, r.location = .nest x) ∨ r.location = .inspection ∨ r.location = .unlocated →
        s.airWeight r = 4)

/-! ## Queries -/

/-- ALIVE and PORTSTATE on a tool link answer OK with the port state, or with the whole state of the port, and change nothing
but the liveness timer; PRDY is high exactly in OUT_WAIT, PFREE exactly with the nest EMPTY and the port not CLOSED, and the
checked-out count is that of R71. The queries of the material link and the service line answer OK with what they ask for, a
selector outside its range or a malformed identifier BAD_FORM and an unknown identifier UNKNOWN_RETICLE, and change nothing
(R29, R30, R47, R50, R56, R71, R76, R143, R192). -/
def Obligations.QueriesAnswerFromState : Prop :=
  (∀ (s : State) (p : Port) (tag : Byte),
    exec (.alive (.tool p) tag (some ())) s
      = .next ((s.goodFrame (.tool p)).send (.request (.tool p))
          (.answer tag FrameKind.alive.byte .ok (.portState (s.port p).state)))
    ∧ exec (.portState (.tool p) tag (some ())) s
      = .next ((s.goodFrame (.tool p)).send (.request (.tool p))
          (.answer tag FrameKind.portState.byte .ok (.port (s.portAnswer p))))
    ∧ ((s.portAnswer p).prdy = true ↔ s.toolNest p = .outWait)
    ∧ ((s.portAnswer p).pfree = true ↔ s.toolNest p = .empty ∧ (s.port p).state ≠ .closed)
    ∧ (s.portAnswer p).checkedOut
      = s.catalogue.countP (fun r => r.location = .tool p)
        + s.queue.countP (fun m => m.kind = .deliver && m.beneficiary = some p)
        + (if s.toolNest p = .outWait ∨ s.toolNest p = .outLapsed then 1 else 0))
  ∧ (∀ (s : State) (l : NoticeLink) (tag : Byte),
    (∀ id, identOk id = true → ∀ r, s.record id = some r →
      exec (.qReticle (noticeLinkOf l) tag (some id)) s = .next (s.send (.request (noticeLinkOf l))
        (.answer tag FrameKind.qReticle.byte .ok
          (.reticle ⟨r, (r.binding.bind s.move?).map (fun m => (m.seq, m.kind, m.state))⟩))))
    ∧ (∀ id, identOk id = true → s.record id = none →
      exec (.qReticle (noticeLinkOf l) tag (some id)) s = .next (s.send (.request (noticeLinkOf l))
        (.answer tag FrameKind.qReticle.byte .unknownReticle .none)))
    ∧ (∀ n : Slot, exec (.qSlot (noticeLinkOf l) tag (some n.val)) s = .next (s.send (.request (noticeLinkOf l))
        (.answer tag FrameKind.qSlot.byte .ok
          (.slot ⟨n, s.slot n, slotPlace n, ((s.slot n).move.bind s.move?).map (·.kind)⟩))))
    ∧ (∀ k : Fin 8, exec (.qZoneEntry (noticeLinkOf l) tag (some k.val)) s = .next (s.send (.request (noticeLinkOf l))
        (.answer tag FrameKind.qZone.byte .ok
          (.zoneEntry ⟨s.zones.get k, (s.zones.get k).enabled, s.conflictSummary⟩))))
    ∧ (∀ n : Slot, exec (.qZoneSlot (noticeLinkOf l) tag (some n.val)) s = .next (s.send (.request (noticeLinkOf l))
        (.answer tag FrameKind.qZone.byte .ok (.zoneSlot (s.zoneSlotAnswer n)))))
    ∧ (∀ p : Port, exec (.qPort (noticeLinkOf l) tag (some p.val)) s = .next (s.send (.request (noticeLinkOf l))
        (.answer tag FrameKind.qPort.byte .ok (.port (s.portAnswer p)))))
    ∧ exec (.qQueue (noticeLinkOf l) tag (some ())) s = .next (s.send (.request (noticeLinkOf l))
        (.answer tag FrameKind.qQueue.byte .ok (.queue s.queueAnswer)))
    ∧ (∀ n : Fin 16, exec (.qInterceptEntry (noticeLinkOf l) tag (some n.val)) s
        = .next (s.send (.request (noticeLinkOf l)) (.answer tag FrameKind.qIntercept.byte .ok
          (.intercept ⟨s.intercepts.get n, (s.intercepts.get n).status⟩))))
    ∧ exec (.qInterceptAll (noticeLinkOf l) tag (some ())) s = .next (s.send (.request (noticeLinkOf l))
        (.answer tag FrameKind.qIntercept.byte .ok
          (.intercepts ((List.finRange 16).map (fun n => ⟨s.intercepts.get n, (s.intercepts.get n).status⟩)))))
    ∧ (∀ n, 396 ≤ n →
      exec (.qSlot (noticeLinkOf l) tag (some n)) s = .next (s.send (.request (noticeLinkOf l))
        (.answer tag FrameKind.qSlot.byte .badForm .none))
      ∧ exec (.qZoneSlot (noticeLinkOf l) tag (some n)) s = .next (s.send (.request (noticeLinkOf l))
        (.answer tag FrameKind.qZone.byte .badForm .none)))
    ∧ (∀ n, 8 ≤ n → exec (.qZoneEntry (noticeLinkOf l) tag (some n)) s = .next (s.send (.request (noticeLinkOf l))
        (.answer tag FrameKind.qZone.byte .badForm .none)))
    ∧ (∀ n, 6 ≤ n → exec (.qPort (noticeLinkOf l) tag (some n)) s = .next (s.send (.request (noticeLinkOf l))
        (.answer tag FrameKind.qPort.byte .badForm .none)))
    ∧ (∀ n, 16 ≤ n → exec (.qInterceptEntry (noticeLinkOf l) tag (some n)) s = .next (s.send (.request (noticeLinkOf l))
        (.answer tag FrameKind.qIntercept.byte .badForm .none)))
    ∧ (∀ id, identOk id = false → exec (.qReticle (noticeLinkOf l) tag (some id)) s
        = .next (s.send (.request (noticeLinkOf l)) (.answer tag FrameKind.qReticle.byte .badForm .none))))

/-! ## Tool links -/

/-- HELLO with a good name and base: a SILENT port attaches with the values it stores and PORT_ATTACHED is raised; an ATTACHED
port takes the new liveness values, and with a new name also empties its lists and loses its WAITING DELIVER and PRESTAGE moves;
a CLOSED port refuses it (R51, R52). -/
def Obligations.HelloAttachesOrRenews : Prop :=
  ∀ (s : State) (p : Port) (tag : Byte) (b : HelloBody), nameOk b.name = true → b.base ≤ 1 →
    ∃ (t : State) (v : Liveness), exec (.hello (.tool p) tag (some b)) s = .next t
      ∧ v.oneSecond = decide (b.base = 1) ∧ v.f1 = max 1 (min b.f1 255) ∧ v.f2 = max 1 (min b.f2 255)
      ∧ ((s.port p).state = .silent →
          t.steady = s.steady.updPort p (fun r =>
            { r with state := .attached, name := some b.name, liveness := some v,
                     livenessLeft := some (livenessPeriod v) })
          ∧ t.Raised .portAttached ⟨none, none, none, some p, none⟩
          ∧ s.Answered t (.tool p) tag .hello .ok .none)
      ∧ ((s.port p).state = .attached → (s.port p).name = some b.name →
          t.steady = s.steady.updPort p (fun r =>
            { r with liveness := some v, livenessLeft := some (livenessPeriod v) })
          ∧ s.Answered t (.tool p) tag .hello .ok .none)
      ∧ ((s.port p).state = .attached → (s.port p).name ≠ some b.name →
          t.steady = (s.steady.updPort p (fun r =>
            { r with name := some b.name, liveness := some v, livenessLeft := some (livenessPeriod v) })).setAhead p
              (s.aheadOf p).emptied
          ∧ (∀ m ∈ t.queue, m.beneficiary = some p → m.state = .waiting → m.kind ≠ .deliver ∧ m.kind ≠ .prestage)
          ∧ t.Raised .portAttached ⟨none, none, none, some p, none⟩
          ∧ s.Answered t (.tool p) tag .hello .ok .none)
      ∧ ((s.port p).state = .closed →
          t = s.send (.request (.tool p)) (.answer tag FrameKind.hello.byte .portState .none))

/-- The checks of a CALL in their order: the first that fails gives the answer, and the refused CALL changes nothing but the
liveness timer. A CALL that passes its checks and that no intercept decides is admitted: the move it sets aside leaves the
queue, the DELIVER joins it with the next sequence number and binds the record, the call is applied to the call-ahead lists, and
the answer is OK (R72, R73, R82, R117, R118). -/
def Obligations.CallAdmittedOrRefused : Prop :=
  (∀ (s : State) (p : Port) (tag : Byte) (id : Ident) (r : Rec) (n : Slot) (c : Claim),
    identOk id = true → (s.port p).state = .attached → s.record id = some r → r.location = .slot n →
    r.condition = .ready → r.held = false → c = s.claim r (callSetsAside p) → c ≠ .bound →
    s.checkedOut p < 8 → (s.serveMaskFor r).getLsbD p.val = true → s.linkCount c.seq < 24 →
    s.deciding ⟨.deliver, .tool p, some p, some id, .named, .slot n, .pos (.nest (.t p)), none⟩ = none →
    ∃ u : State, exec (.call (.tool p) tag (some id)) s
        = .next ((u.settle (s.goodFrame (.tool p)) noTouch).send (.request (.tool p))
            (.answer tag FrameKind.call.byte .ok .none))
      ∧ u.queue = s.queue.filter (fun x => !decide (c.seq = some x.seq))
          ++ [⟨s.nextSeq, .deliver, .tool p, some p, some id, .named, .slot n, .pos (.nest (.t p)), none, s.clock,
               .waiting, false, false, false⟩]
      ∧ u.nextSeq = s.nextSeq + 1
      ∧ (∀ x ∈ u.catalogue, x.id = id → x.binding = some s.nextSeq)
      ∧ u.steady = (s.goodFrame (.tool p)).steady.setAhead p ((s.aheadOf p).called id false)
      ∧ u.slots = s.slots ∧ u.handler = s.handler)
  ∧ ∀ (s : State) (p : Port) (tag : Byte) (id : Ident) (refused : AnswerCode → Prop),
    (∀ code, refused code ↔ exec (.call (.tool p) tag (some id)) s
      = .next ((s.goodFrame (.tool p)).send (.request (.tool p)) (.answer tag FrameKind.call.byte code .none))) →
    (identOk id = false → refused .badForm)
    ∧ (identOk id = true →
      ((s.port p).state ≠ .attached → refused .portState)
      ∧ ((s.port p).state = .attached →
        (s.record id = none → refused .unknownReticle)
        ∧ ∀ r, s.record id = some r →
          ((∀ n, r.location ≠ .slot n) → refused .elsewhere)
          ∧ ∀ n, r.location = .slot n →
            (r.condition ≠ .ready → refused .notReady)
            ∧ (r.condition = .ready →
              (r.held = true → refused .held)
              ∧ (r.held = false →
                (s.claim r (callSetsAside p) = .bound → refused .bound)
                ∧ (s.claim r (callSetsAside p) ≠ .bound →
                  (8 ≤ s.checkedOut p → refused .limit)
                  ∧ (s.checkedOut p < 8 →
                    ((s.serveMaskFor r).getLsbD p.val = false → refused .zone)
                    ∧ ((s.serveMaskFor r).getLsbD p.val = true →
                      24 ≤ s.linkCount (s.claim r (callSetsAside p)).seq → refused .queueFull)))))))

/-- An offer for a reticle at a slot that an intercept entry decides: the hit is counted, saturating at 255; NOTE admits it
unchanged; HOLD refuses it INTERCEPTED with the entry number and holds the record; DIVERT admits an INSPECT_OUT to IN for the
material side with the diverted flag, or is refused LIMIT when the inspection-out count is 16. A PRESTAGE is dropped by HOLD,
its record held and no move admitted, and is admitted otherwise; an inward move is always admitted, flagged to hold its record
on completion exactly by HOLD (R186, R187, R188, R189, R190). -/
def Obligations.OffersFollowIntercept : Prop :=
  (∀ (s : State) (o : Offer) (c : Claim) (reason : Option Reason) (n : Fin 16), s.deciding o = some n →
    (∀ id r, o.reticle = some id → s.record id = some r → ∃ x, r.location = .slot x) →
    ((s.offerLink o c reason).state.intercepts.get n).hits.val = min 255 ((s.intercepts.get n).hits.val + 1)
    ∧ (∀ k, k ≠ n → (s.offerLink o c reason).state.intercepts.get k = s.intercepts.get k)
    ∧ ((s.intercepts.get n).action = .note →
        (s.offerLink o c reason).code = .ok
        ∧ ∃ m ∈ (s.offerLink o c reason).state.queue, m.seq = s.nextSeq ∧ m.kind = o.kind ∧ m.reticle = o.reticle
            ∧ m.source = o.source ∧ m.target = o.target ∧ m.diverted = false ∧ m.holdOnCompletion = false)
    ∧ ((s.intercepts.get n).action = .hold →
        (s.offerLink o c reason).code = .intercepted ∧ (s.offerLink o c reason).fields = .entryNumber n
        ∧ ∀ id, o.reticle = some id → s.CatalogueSound →
          ∀ r ∈ (s.offerLink o c reason).state.catalogue, r.id = id → r.held = true)
    ∧ ((s.intercepts.get n).action = .divert → 16 ≤ s.inspectionOut c.seq →
        (s.offerLink o c reason).code = .limit ∧ (s.offerLink o c reason).state = s.countHit n o)
    ∧ ((s.intercepts.get n).action = .divert → s.inspectionOut c.seq < 16 →
        (s.offerLink o c reason).code = .diverted ∧ (s.offerLink o c reason).fields = .entryNumber n
        ∧ ∃ m ∈ (s.offerLink o c reason).state.queue, m.seq = s.nextSeq ∧ m.kind = .inspectOut ∧ m.reticle = o.reticle
            ∧ m.source = o.source ∧ m.target = .pos (.nest .inn) ∧ m.beneficiary = none ∧ m.diverted = true))
  ∧ (∀ (s : State) (o : Offer) (id : Ident) (r : Rec) (x : Slot), s.CatalogueSound → o.reticle = some id → s.record id = some r →
    r.location = .slot x → r.binding = none →
    (∀ n, s.deciding o = some n → (s.intercepts.get n).action = .hold →
      (s.offerPrestage o).queue = s.queue ∧ (s.offerPrestage o).nextSeq = s.nextSeq
      ∧ (s.offerPrestage o).catalogue = s.catalogue.map (fun y => if y.id = id then { y with held := true } else y))
    ∧ ((∀ n, s.deciding o = some n → (s.intercepts.get n).action ≠ .hold) →
      ∃ m, (s.offerPrestage o).queue = s.queue ++ [m] ∧ o.Becomes m s.nextSeq s.clock ∧ m.holdOnCompletion = false
        ∧ (s.offerPrestage o).nextSeq = s.nextSeq + 1
        ∧ (s.offerPrestage o).catalogue
            = s.catalogue.map (fun y => if y.id = id then { y with binding := some s.nextSeq } else y)))
  ∧ (∀ (s : State) (o : Offer), ∃ m, (s.offerInward o).queue = s.queue ++ [m] ∧ o.Becomes m s.nextSeq s.clock
    ∧ (s.offerInward o).nextSeq = s.nextSeq + 1 ∧ (s.offerInward o).steady = s.steady
    ∧ (m.holdOnCompletion = true ↔ ∃ n, s.deciding o = some n ∧ (s.intercepts.get n).action = .hold)
    ∧ ∀ id, o.reticle = some id → (s.offerInward o).catalogue
        = s.catalogue.map (fun y => if y.id = id then { y with binding := some s.nextSeq } else y))
  ∧ ∀ (s : State) (o : Offer) (n : Fin 16), s.deciding o = some n → ∀ u : State,
    (u = s.offerInward o ∨ (u = s.offerPrestage o ∧ s.CatalogueSound
      ∧ ∃ id r x, o.reticle = some id ∧ s.record id = some r ∧ r.location = .slot x ∧ r.binding = none)) →
    (u.intercepts.get n).hits.val = min 255 ((s.intercepts.get n).hits.val + 1)
    ∧ (∀ k, k ≠ n → u.intercepts.get k = s.intercepts.get k)
    ∧ u.Raised .intercept ⟨o.reticle, none, some o.source, o.beneficiary, some n.val⟩

/-- CANCEL by where the delivery stands: a WAITING DELIVER is withdrawn with its binding released and no frame; an EXECUTING one
is marked for stand-down and answered TOO_LATE; a pod in OUT_WAIT not being taken lapses quietly into a RECLAIM, one being taken
is TOO_LATE; anything else is NOT_FOUND (R74). -/
def Obligations.CancelByWhereDeliveryStands : Prop :=
  ∀ (s : State) (p : Port) (tag : Byte) (id : Ident), identOk id = true → (s.port p).state ≠ .closed →
    (∀ m, s.deliverOf p id = some m → m.state = .waiting →
      ∃ u : State, exec (.cancel (.tool p) tag (some id)) s
          = .next ((u.settle (s.goodFrame (.tool p)) noTouch).send (.request (.tool p))
              (.answer tag FrameKind.cancel.byte .ok .none))
        ∧ u.queue = s.queue.filter (fun x => !decide (x.seq = m.seq))
        ∧ u.steady = (s.goodFrame (.tool p)).steady ∧ u.tx = s.tx ∧ ∀ r ∈ u.catalogue, r.binding ≠ some m.seq)
    ∧ (∀ m, s.deliverOf p id = some m → m.state = .executing →
      ∃ t : State, exec (.cancel (.tool p) tag (some id)) s
          = .next (t.send (.request (.tool p)) (.answer tag FrameKind.cancel.byte .tooLate .none))
        ∧ t = { s.goodFrame (.tool p) with
            queue := s.queue.map (fun x => if x.seq = m.seq then { x with standDown := true } else x) })
    ∧ (s.deliverOf p id = none → s.toolNest p = .outWait → s.locatedAt id (.nest (.t p)) = true →
      (s.tbusy p = true → exec (.cancel (.tool p) tag (some id)) s
          = .next ((s.goodFrame (.tool p)).send (.request (.tool p)) (.answer tag FrameKind.cancel.byte .tooLate .none)))
      ∧ (s.tbusy p = false →
        ∃ (u : State) (m : Move), exec (.cancel (.tool p) tag (some id)) s
            = .next ((u.settle (s.goodFrame (.tool p)) noTouch).send (.request (.tool p))
                (.answer tag FrameKind.cancel.byte .ok .none))
          ∧ u.toolNest p = .outLapsed ∧ (u.port p).window = none ∧ u.queue = s.queue ++ [m]
          ∧ m.kind = .reclaim ∧ m.source = .nest (.t p) ∧ m.beneficiary = some p ∧ m.seq = s.nextSeq
          ∧ u.sent (.request (.tool p)) = s.sent (.request (.tool p))))
    ∧ (s.deliverOf p id = none → (s.toolNest p ≠ .outWait ∨ s.locatedAt id (.nest (.t p)) = false) →
      exec (.cancel (.tool p) tag (some id)) s
        = .next ((s.goodFrame (.tool p)).send (.request (.tool p)) (.answer tag FrameKind.cancel.byte .notFound .none)))

/-- An AHEAD taken by an ATTACHED port: the identifiers, repeats dropped, become its NEXT list, or its ACTIVE list at once with
replace-now or when the ACTIVE list is used up; the answer counts those kept and dropped and names the role (R79, R80, R81). -/
def Obligations.AheadGivesNextOrActiveList : Prop :=
  ∀ (s : State) (p : Port) (tag : Byte) (b : AheadBody), (s.port p).state = .attached → (s.aheadOf p).Sound →
    b.ids.all identOk = true → b.ids.length ≤ 16 →
    ∃ (t : State) (kept : List Ident) (a : CallAhead) (role : Role),
      exec (.ahead (.tool p) tag (some b)) s = .next t
      ∧ t.steady = (s.goodFrame (.tool p)).steady.setAhead p a
      ∧ kept.Sublist b.ids ∧ kept.Nodup ∧ (∀ id, id ∈ kept ↔ id ∈ b.ids)
      ∧ s.Answered t (.tool p) tag .ahead .ok (.ahead kept.length (b.ids.length - kept.length) role)
      ∧ (b.replaceNow = true ∨ (s.aheadOf p).activeEntries.all (·.consumed) = true →
          role = .active ∧ a.activeList = some (kept.map (fun id => ⟨id, false⟩)) ∧ a.nextList = none)
      ∧ (b.replaceNow = false → (s.aheadOf p).activeEntries.all (·.consumed) = false →
          role = .next ∧ a.nextList = some (kept.map (fun id => ⟨id, false⟩))
            ∧ a.activeList = (s.aheadOf p).activeList)

/-- What a CALL and a placement do to a port's call-ahead lists. The exchange test swaps NEXT and ACTIVE exactly when NEXT
holds a list and ACTIVE is empty or all consumed; the new NEXT is empty. A call for an entry of ACTIVE marks the entries
before it consumed, the called one too when it is diverted, and makes the test; a call for an entry of NEXT alone exchanges
first and marks the new ACTIVE list alike; any other call only makes the test. A placement marks the entry that names the
identifier consumed, and no other, and makes the test (R81, R82, R83). -/
def Obligations.CallAheadListsConsumeAndExchange : Prop :=
  ∀ (a : CallAhead) (id : Ident) (diverted : Bool) (after : Option (List AheadEntry) → CallAhead → Prop)
    (exchanged : List AheadEntry → CallAhead → Prop) (marked : List AheadEntry → AheadEntry → List AheadEntry → List AheadEntry),
    a.Sound →
    (∀ es t, exchanged es t ↔ t.Sound ∧ t.fill = a.fill ∧ t.next = a.active ∧ t.active = a.next
      ∧ t.activeList = some es ∧ t.nextList = none) →
    (∀ act t, after act t ↔
      (∀ es, a.nextList = some es → (∀ e ∈ act.getD [], e.consumed = true) → exchanged es t)
      ∧ (a.nextList = none ∨ (∃ e ∈ act.getD [], e.consumed = false) →
          t.Sound ∧ t.fill = a.fill ∧ t.next = a.next ∧ t.active = a.active
          ∧ t.activeList = act ∧ t.nextList = a.nextList)) →
    (∀ pre e post, marked pre e post = pre.map (fun x => { x with consumed := true })
      ++ (if diverted then { e with consumed := true } else e) :: post) →
    after a.activeList a.exchangeTest
    ∧ (∀ pre e post, a.activeList = some (pre ++ e :: post) → e.id = id →
        after (some (marked pre e post)) (a.called id diverted))
    ∧ (∀ pre e post, (∀ x ∈ a.activeEntries, x.id ≠ id) → a.nextList = some (pre ++ e :: post) → e.id = id →
        exchanged (marked pre e post) (a.called id diverted))
    ∧ ((∀ x ∈ a.activeEntries, x.id ≠ id) → (∀ x ∈ a.nextList.getD [], x.id ≠ id) →
        after a.activeList (a.called id diverted))
    ∧ after (a.activeList.map (fun es => es.map (fun x => { x with consumed := x.consumed || decide (x.id = id) }))) (a.placed id)

/-- The window of an ATTACHED port holds the first two entries of its ACTIVE list that are not consumed and known. A
re-evaluation reviews its WAITING moves: a PRESTAGE stays exactly when its reticle is in the window, fit and at its source and
its target EMPTY, taking the window position; a DESTAGE is withdrawn when its reticle is in the window; nothing else changes.
Then each window entry, in order, that meets every condition of R86 is offered a PRESTAGE to the lower-numbered free staging
slot. Then a DESTAGE is offered for each staging slot in ascending order whose reticle is unbound and in no window entry, while
there are fewer DESTAGEs than entries left wanting. The review and each request are changes of their own, each with its
NO_SLOT test and its grant test (the model's reading, log entry 15). Each event of R89 leads to a re-evaluation, but a port not
ATTACHED has none (R85, R86, R87, R88, R89, R126). -/
def Obligations.WindowReviewedAndStaged : Prop :=
  ∀ (s : State) (p : Port) (w : List Ident) (fit : Ident → Slot → Prop) (wants : Ident → Fin 384 → Prop) (free : Slot → Prop),
    w = ((((s.aheadOf p).activeEntries.filter (fun e => !e.consumed && s.known e.id)).map (·.id)).take 2) →
    (∀ id n, fit id n ↔ ∃ r, s.record id = some r ∧ r.location = .slot n ∧ r.condition = .ready ∧ r.held = false) →
    (∀ id k, wants id k ↔ (s.port p).state = .attached ∧ fit id (ofStorage k)
      ∧ (∃ r, s.record id = some r ∧ r.binding = none) ∧ (s.resolve (shelfOf k)).serveMask.getLsbD p.val = true) →
    (∀ n, free n ↔ s.slot n = .empty ∧ s.execSourceSlot ≠ some n
      ∧ ∀ m ∈ s.queue, m.kind = .prestage ∨ m.kind = .destage → m.source ≠ .slot n ∧ m.target ≠ .pos (.slot n)) →
    (s.SeqsDistinct → ∀ (u : State) (keeps : Move → Fin 2 → Prop), u = s.review p →
      (∀ m pos, keeps m pos ↔ ∃ id n k, m.reticle = some id ∧ m.source = .slot k ∧ m.target = .pos (.slot n) ∧ fit id k
        ∧ s.slot n = .empty ∧ w[pos.val]? = some id ∧ (pos = 1 → w[0]? ≠ some id)) →
      u.steady = s.steady ∧ u.slots = s.slots ∧ u.handler = s.handler ∧ u.tx = s.tx
      ∧ (u.queue.map (·.seq)).Sublist (s.queue.map (·.seq))
      ∧ ∀ m ∈ s.queue,
        (m.state = .waiting → m.beneficiary = some p → m.kind = .prestage →
          (∀ pos, keeps m pos → { m with listPosition := some pos } ∈ u.queue)
          ∧ ((∀ pos, ¬ keeps m pos) → u.move? m.seq = none))
        ∧ (m.state = .waiting → m.beneficiary = some p → m.kind = .destage →
          (m ∈ u.queue ↔ ∀ id ∈ w, m.reticle ≠ some id) ∧ ((∃ id ∈ w, m.reticle = some id) → u.move? m.seq = none))
        ∧ (m.state ≠ .waiting ∨ m.beneficiary ≠ some p ∨ (m.kind ≠ .prestage ∧ m.kind ≠ .destage) → m ∈ u.queue))
    ∧ (∀ (id : Ident) (pos : Fin 2) (k : Fin 384), wants id k →
      (free (stagingSlot p 0) → s.askPrestage p id pos = s.offerPrestage (prestageOffer p id pos (ofStorage k) (stagingSlot p 0)))
      ∧ (¬ free (stagingSlot p 0) → free (stagingSlot p 1) →
        s.askPrestage p id pos = s.offerPrestage (prestageOffer p id pos (ofStorage k) (stagingSlot p 1))))
    ∧ (∀ (id : Ident) (pos : Fin 2), (∀ k, ¬ wants id k) ∨ (¬ free (stagingSlot p 0) ∧ ¬ free (stagingSlot p 1)) →
      s.askPrestage p id pos = s)
    ∧ (w = [] → s.askPrestages p = s) ∧ (∀ x, w = [x] → s.askPrestages p = s.served (·.askPrestage p x 0))
    ∧ (∀ x y, w = [x, y] → s.askPrestages p = (s.served (·.askPrestage p x 0)).served (·.askPrestage p y 1))
    ∧ (∀ (wanted : Nat) (n : Slot) (id : Ident), s.slot n = .filled id → id ∉ w → (∃ r, s.record id = some r ∧ r.binding = none) →
      s.askDestage p wanted n = (if s.destages p < wanted then s.offerInward (destageOffer p id n) else s))
    ∧ (∀ (wanted : Nat) (n : Slot), (∀ id, s.slot n = .filled id → id ∈ w ∨ ∀ r, s.record id = some r → r.binding ≠ none) →
      s.askDestage p wanted n = s)
    ∧ s.destages p = s.queue.countP (fun m => m.kind = .destage
        && (m.source = .slot (stagingSlot p 0) || m.source = .slot (stagingSlot p 1)))
    ∧ (∀ N, N = s.wanting p →
      s.askDestages p = (s.served (·.askDestage p N (stagingSlot p 0))).served (·.askDestage p N (stagingSlot p 1))
      ∧ (free (stagingSlot p 0) ∨ free (stagingSlot p 1) → N = 0)
      ∧ (¬ free (stagingSlot p 0) → ¬ free (stagingSlot p 1) →
        ∃ ids : List Ident, ids.Sublist w ∧ ids.length = N ∧ ∀ id ∈ w, id ∈ ids ↔ ∃ k, wants id k))
    ∧ s.reevaluate p
      = (if (s.port p).state = .attached then ((s.served (·.review p)).askPrestages p).askDestages p else s)
    ∧ ∀ (a : State) (t : Touch),
      ((∀ q, windowEvent a s t q = false) → s.forecastStep a t = s)
      ∧ ((∀ q, windowEvent a s t q = true ↔ q = p) → (s.reevaluate p).handler = s.handler →
          (∀ q, q ≠ p → windowEvent s (s.reevaluate p) noTouch q = false) →
        s.forecastStep a t = s.reevaluate p)
      ∧ ((s.port p).state ≠ .attached → windowEvent a s t p = false)
      ∧ ((s.port p).state = .attached →
        t.zone = true ∨ (a.port p).state ≠ .attached ∨ (a.aheadOf p).activeList ≠ (s.aheadOf p).activeList
          ∨ a.slot (stagingSlot p 0) ≠ s.slot (stagingSlot p 0) ∨ a.slot (stagingSlot p 1) ≠ s.slot (stagingSlot p 1)
          ∨ (∃ m ∈ a.queue, s.move? m.seq = none ∧ ∃ id, m.reticle = some id
              ∧ ((∃ e ∈ (s.aheadOf p).activeEntries, e.id = id) ∨ ∃ k : Fin 2, s.locatedAt id (.slot (stagingSlot p k)) = true))
          ∨ (∃ e ∈ (s.aheadOf p).activeEntries, (a.record e.id).isSome ≠ (s.record e.id).isSome
              ∨ ∃ r x, a.record e.id = some r ∧ s.record e.id = some x ∧ r.forecastView ≠ x.forecastView) →
        windowEvent a s t p = true)

/-- RETURN: in the late-return window its lots are counted for the record that the identifier names, with the DUE check, before
what follows a change: no pending return is formed, and with that record not on a tool nest no move, nest or window changes.
Outside the window, for a record at the tool, it completes a return whose pod waits on the nest, admitting the COLLECT that
names it, or else becomes the pending return; for any other identifier it is refused NOT_HELD_HERE. That only a WAITING COLLECT
from the nest, not an EXECUTING one, holds back the pairing is the model's reading (log entry 21) (R67, R68, R70, R175). -/
def Obligations.ReturnPairsWithPod : Prop :=
  ∀ (s : State) (p : Port) (tag : Byte) (id : Ident) (lots : Nat), identOk id = true → (s.port p).state ≠ .closed →
    s.CatalogueSound →
    ((s.port p).lateOpen = true →
      ∃ u : State, exec (.returnLots (.tool p) tag (some ⟨id, lots⟩)) s
          = .next ((u.settle (s.goodFrame (.tool p)) noTouch).send (.request (.tool p))
              (.answer tag FrameKind.returnLots.byte .ok .none))
        ∧ u.steady = (s.goodFrame (.tool p)).steady.updRecord id (fun r =>
            ({ r with lots := satAdd r.lots lots }).checked (s.limitsOf r))
        ∧ u.slots = s.slots ∧ u.handler = s.handler
        ∧ ((∀ q, s.locatedAt id (.nest (.t q)) = false) → u.queue = s.queue ∧ u.nextSeq = s.nextSeq
            ∧ u.ports = (s.goodFrame (.tool p)).ports
            ∧ ∀ r ∈ u.catalogue, ∃ x ∈ s.catalogue, x.id = r.id ∧ x.binding = r.binding ∧ x.held = r.held))
    ∧ ((s.port p).lateOpen = false → s.locatedAt id (.tool p) = false →
      exec (.returnLots (.tool p) tag (some ⟨id, lots⟩)) s
        = .next ((s.goodFrame (.tool p)).send (.request (.tool p))
            (.answer tag FrameKind.returnLots.byte .notHeldHere .none)))
    ∧ ((s.port p).lateOpen = false → s.locatedAt id (.tool p) = true →
      (s.toolNest p ≠ .returned ∨ (∃ m ∈ s.queue, m.kind = .collect ∧ m.source = .nest (.t p) ∧ m.state = .waiting) →
        ∃ t : State, exec (.returnLots (.tool p) tag (some ⟨id, lots⟩)) s = .next t
          ∧ t.steady = (s.goodFrame (.tool p)).steady.updPort p (fun r => { r with pendingReturn := some ⟨id, lots⟩ })
          ∧ s.Answered t (.tool p) tag .returnLots .ok .none)
      ∧ (s.toolNest p = .returned → (∀ m ∈ s.queue, ¬(m.kind = .collect ∧ m.source = .nest (.t p) ∧ m.state = .waiting)) →
        ∃ (u : State) (m : Move), exec (.returnLots (.tool p) tag (some ⟨id, lots⟩)) s
            = .next ((u.settle (s.goodFrame (.tool p)) noTouch).send (.request (.tool p))
                (.answer tag FrameKind.returnLots.byte .ok .none))
          ∧ u.queue = s.queue ++ [m] ∧ m.seq = s.nextSeq ∧ m.kind = .collect ∧ m.reticle = some id ∧ m.pickTest = .named
          ∧ m.source = .nest (.t p) ∧ m.beneficiary = some p ∧ m.requester = .internal
          ∧ (u.port p).window = none
          ∧ u.steady = ((s.goodFrame (.tool p)).steady.updPort p (fun r => { r with pendingReturn := none })).updRecord id
              (fun r => ({ r with lots := satAdd r.lots lots }).checked (s.limitsOf r))))

/-! ## Material link and service line -/

/-- ANNOUNCE adds an entry at the end of the list, or replaces the class and hold flag of an entry in place; UNANNOUNCE removes
one; each answers the position or the count. An identifier of the catalogue is refused DUPLICATE, a ninth entry NO_ROOM
(R94, R95). -/
def Obligations.AnnouncementListKeeping : Prop :=
  ∀ (s : State) (tag : Byte) (id : Ident) (c : ClassNo) (h : Bool), identOk id = true →
    (s.known id = true → exec (.announce .material tag (some ⟨id, c.val, h⟩)) s
      = .next (s.send (.request .material) (.answer tag FrameKind.announce.byte .duplicate .none)))
    ∧ (s.known id = false → s.announcedAt id = none → s.announcements.length < 8 →
      ∃ t, exec (.announce .material tag (some ⟨id, c.val, h⟩)) s = .next t
        ∧ t.steady = { s.steady with announcements := s.announcements ++ [⟨id, c, h⟩] }
        ∧ s.Answered t .material tag .announce .ok (.announced s.announcements.length (s.announcements.length + 1)))
    ∧ (s.known id = false → s.announcedAt id = none → 8 ≤ s.announcements.length →
      exec (.announce .material tag (some ⟨id, c.val, h⟩)) s
        = .next (s.send (.request .material) (.answer tag FrameKind.announce.byte .noRoom .none)))
    ∧ (∀ i, s.known id = false → s.announcedAt id = some i →
      ∃ t, exec (.announce .material tag (some ⟨id, c.val, h⟩)) s = .next t
        ∧ t.steady = { s.steady with
            announcements := s.announcements.map (fun a => if a.id = id then ⟨id, c, h⟩ else a) }
        ∧ s.Answered t .material tag .announce .ok (.announced i s.announcements.length))
    ∧ (s.announcedAt id ≠ none →
      ∃ (t : State) (xs : List Announcement), exec (.unannounce .material tag (some id)) s = .next t
        ∧ xs = s.announcements.filter (fun a => !decide (a.id = id))
        ∧ t.steady = { s.steady with announcements := xs }
        ∧ s.Answered t .material tag .unannounce .ok (.remaining xs.length))
    ∧ (s.announcedAt id = none → exec (.unannounce .material tag (some id)) s
      = .next (s.send (.request .material) (.answer tag FrameKind.unannounce.byte .notFound .none)))

/-- EXPORT and INSPECT: their checks in order, the first that fails giving the answer and changing nothing. Past the checks the
offer takes its intercept and entry steps, which give the answer. With no intercept deciding, the move the withdraw option sets
aside leaves the queue, its requester told WITHDRAWN(PREEMPTED) on its own link, the tool link of a port not CLOSED too; the
STOCK_OUT to BO, or the INSPECT_OUT to IN, joins the queue and binds the record; the answer is OK (R99, R100, R107, R117,
R137). -/
def Obligations.ExportAndInspectAdmit : Prop :=
  (∀ (s : State) (tag : Byte) (id : Ident) (w : Bool) (r : Rec) (n : Slot) (c : Claim) (told : State → ReqLink → Prop),
    identOk id = true → s.record id = some r → r.location = .slot n → c = s.claim r (fun _ => w) → c ≠ .bound →
    (∀ u l, told u l ↔ ∀ m x, c = .aside m → m.reticle = some x → m.requester.link = some l →
      (∀ q, l = .tool q → (s.port q).state ≠ .closed) →
      u.sent (.request l) = s.sent (.request l) ++ [.withdrawn x .preempted]) →
    (∀ m, c = .aside m → m.kind ≠ .scan) → s.linkCount c.seq < 24 →
    (s.deciding ⟨.stockOut, .material, none, some id, .named, .slot n, .pos (.nest .bo), none⟩ = none →
      ∃ u : State, exec (.exportOut .material tag (some ⟨id, w⟩)) s
          = .next ((u.settle s noTouch).send (.request .material) (.answer tag FrameKind.exportOut.byte .ok .none))
        ∧ u.queue = s.queue.filter (fun x => !decide (c.seq = some x.seq))
            ++ [⟨s.nextSeq, .stockOut, .material, none, some id, .named, .slot n, .pos (.nest .bo), none, s.clock,
                 .waiting, false, false, false⟩]
        ∧ u.nextSeq = s.nextSeq + 1 ∧ (∀ x ∈ u.catalogue, x.id = id → x.binding = some s.nextSeq)
        ∧ u.steady = s.steady ∧ u.slots = s.slots ∧ u.handler = s.handler ∧ ∀ l, told u l)
    ∧ ∀ l : NoticeLink, s.inspectionOut c.seq < 16 →
      s.deciding (inspectOutOffer l id n) = none →
      ∃ (u : State) (m : Move), exec (.inspect (noticeLinkOf l) tag (some ⟨id, w⟩)) s
          = .next ((u.settle s noTouch).send (.request (noticeLinkOf l)) (.answer tag FrameKind.inspect.byte .ok .none))
        ∧ u.queue = s.queue.filter (fun x => !decide (c.seq = some x.seq)) ++ [m]
        ∧ m.seq = s.nextSeq ∧ m.kind = .inspectOut ∧ m.reticle = some id ∧ m.source = .slot n
        ∧ m.target = .pos (.nest .inn) ∧ m.beneficiary = none ∧ m.pickTest = .named ∧ m.state = .waiting
        ∧ m.enqueued = s.clock
        ∧ (l = .material → m.requester = .material) ∧ (l = .service → m.requester = .service)
        ∧ u.nextSeq = s.nextSeq + 1 ∧ (∀ x ∈ u.catalogue, x.id = id → x.binding = some s.nextSeq)
        ∧ u.steady = s.steady ∧ u.slots = s.slots ∧ u.handler = s.handler ∧ ∀ l', told u l')
  ∧ ∀ (s : State) (tag : Byte) (id : Ident) (w : Bool) (outFails : AnswerCode → Prop) (inFails : NoticeLink → AnswerCode → Prop),
    (∀ code, outFails code ↔ exec (.exportOut .material tag (some ⟨id, w⟩)) s
      = .next (s.send (.request .material) (.answer tag FrameKind.exportOut.byte code .none))) →
    (∀ l code, inFails l code ↔ exec (.inspect (noticeLinkOf l) tag (some ⟨id, w⟩)) s
      = .next (s.send (.request (noticeLinkOf l)) (.answer tag FrameKind.inspect.byte code .none))) →
    (identOk id = false → outFails .badForm ∧ ∀ l, inFails l .badForm)
    ∧ (identOk id = true →
      (s.record id = none → outFails .unknownReticle ∧ ∀ l, inFails l .unknownReticle)
      ∧ ∀ r, s.record id = some r →
        ((∀ n, r.location ≠ .slot n) → outFails .elsewhere ∧ ∀ l, inFails l .elsewhere)
        ∧ ∀ n c, r.location = .slot n → c = s.claim r (fun _ => w) →
          (c = .bound → outFails .bound ∧ ∀ l, inFails l .bound)
          ∧ (c ≠ .bound →
            (24 ≤ s.linkCount c.seq → outFails .queueFull)
            ∧ (s.linkCount c.seq < 24 → ∀ v : Verdict, v = s.offerLink (stockOutOffer id n) c (some .preempted) →
              exec (.exportOut .material tag (some ⟨id, w⟩)) s = .next ((v.state.settle s noTouch).send
                (.request .material) (.answer tag FrameKind.exportOut.byte v.code v.fields)))
            ∧ ∀ l,
              (16 ≤ s.inspectionOut c.seq → inFails l .limit)
              ∧ (s.inspectionOut c.seq < 16 → 24 ≤ s.linkCount c.seq → inFails l .queueFull)
              ∧ (s.inspectionOut c.seq < 16 → s.linkCount c.seq < 24 →
                ∀ v : Verdict, v = s.offerLink (inspectOutOffer l id n) c (some .preempted) →
                exec (.inspect (noticeLinkOf l) tag (some ⟨id, w⟩)) s = .next ((v.state.settle s noTouch).send
                  (.request (noticeLinkOf l)) (.answer tag FrameKind.inspect.byte v.code v.fields)))))

/-- HOLD sets the record's held flag, whatever follows, and answers OK; on a record not held at a slot it first withdraws the
WAITING DELIVER bound to it and tells the tool WITHDRAWN(HELD); on a record not held on a nest in OUT_WAIT the nest becomes
OUT_LAPSED with its window stopped, a RECLAIM is admitted and the tool told WITHDRAWN(HELD). A record on an OUT_WAIT nest that
leaves READY is reclaimed alike, the tool told HELD when it is held and NOT_READY otherwise. RELEASE clears the flag and changes
nothing else before what follows a change (R65, R103, R104). -/
def Obligations.HoldAndRelease : Prop :=
  (∀ (s : State) (l : NoticeLink) (tag : Byte) (id : Ident) (r : Rec), identOk id = true → s.record id = some r →
    s.CatalogueSound →
    (∃ t, exec (.hold (noticeLinkOf l) tag (some id)) s = .next t ∧ t.steady = s.steady
      ∧ (∀ x ∈ t.catalogue, x.id = id → x.held = true)
      ∧ s.Answered t (noticeLinkOf l) tag .hold .ok .none)
    ∧ (∀ n m q, r.held = false → r.location = .slot n → s.boundMove r = some m → m.kind = .deliver → m.state = .waiting →
        m.requester = .tool q → m.reticle = some id → (s.port q).state ≠ .closed →
        ∃ u : State, exec (.hold (noticeLinkOf l) tag (some id)) s
            = .next ((u.settle s noTouch).send (.request (noticeLinkOf l)) (.answer tag FrameKind.hold.byte .ok .none))
          ∧ u.queue = s.queue.filter (fun x => !decide (x.seq = m.seq))
          ∧ (∀ x ∈ u.catalogue, x.binding ≠ some m.seq)
          ∧ u.sent (.request (.tool q)) = s.sent (.request (.tool q)) ++ [.withdrawn id .held])
    ∧ (∀ q, r.held = false → r.location = .nest (.t q) → s.toolNest q = .outWait → s.boundMove r = none →
        ∃ u : State, exec (.hold (noticeLinkOf l) tag (some id)) s
            = .next ((u.settle s noTouch).send (.request (noticeLinkOf l)) (.answer tag FrameKind.hold.byte .ok .none))
          ∧ s.Reclaims u q id .held)
    ∧ ∃ u : State, exec (.release (noticeLinkOf l) tag (some id)) s
          = .next ((u.settle s noTouch).send (.request (noticeLinkOf l)) (.answer tag FrameKind.release.byte .ok .none))
        ∧ u = { s with catalogue := s.catalogue.map (fun x => if x.id = id then { x with held := false } else x) })
  ∧ ∀ (b : State) (q : Port) (id : Ident) (r : Rec), b.record id = some r → r.location = .nest (.t q) →
    b.toolNest q = .outWait →
    (r.fit = true → b.reclaimIfUnfit id = b)
    ∧ (r.held = true → b.Reclaims (b.reclaimIfUnfit id) q id .held)
    ∧ (r.held = false → b.Reclaims (b.doubtRecord id) q id .notReady ∧ b.Reclaims (b.makeDue id) q id .notReady)

/-- SETCLASS replaces a record's class and CLASS_SET the limits of a class it names, each followed by the DUE check against the
limits now in force; CLASS_SET answers the limits and the number made DUE, and with no limit field only reads them
(R105, R171, R180). -/
def Obligations.ClassChangesCheckDue : Prop :=
  ∀ (s : State) (tag : Byte), s.CatalogueSound →
    (∀ (l : NoticeLink) (id : Ident) (c : ClassNo), identOk id = true → s.known id = true →
      ∃ t, exec (.setClass (noticeLinkOf l) tag (some ⟨id, c.val⟩)) s = .next t
        ∧ t.steady = s.steady.updRecord id (fun r => ({ r with cls := c }).checked (s.classes.get c))
        ∧ s.Answered t (noticeLinkOf l) tag .setClass .ok .none)
    ∧ (∀ k : ClassNo, exec (.classSet .service tag (some ⟨k.val, none, none, none⟩)) s
        = .next (s.send (.request .service) (.answer tag FrameKind.classSet.byte .ok (.classLimits (s.classes.get k) 0))))
    ∧ ∀ (k : ClassNo) (d l a : Option Nat), ¬(d = none ∧ l = none ∧ a = none) →
      ∃ (t : State) (x : ClassLimits), exec (.classSet .service tag (some ⟨k.val, d, l, a⟩)) s = .next t
        ∧ x.delivery.val = (d.map (min · 65535)).getD (s.classes.get k).delivery.val
        ∧ x.lot.val = (l.map (min · 65535)).getD (s.classes.get k).lot.val
        ∧ x.air.val = (a.map (min · 16383)).getD (s.classes.get k).air.val
        ∧ t.steady = { s.steady with
            classes := s.classes.set k.val x k.isLt
            records := s.catalogue.map (fun r => (if r.cls = k then r.checked x else r).steady) }
        ∧ s.Answered t .service tag .classSet .ok
            (.classLimits x (s.catalogue.countP (fun r => decide (r.cls = k ∧ r.checked x ≠ r))))

/-- VERDICT is taken for a record on IN, at INSPECTION, in the gripper of its RESHELVE, or back at a slot with a verdict owed,
and for no other: PASS resets its life, FAIL leaves it in QUARANTINE and held, and either clears the verdict owed.
SET_CONDITION resets a record's life wherever it stands and clears its suspect flag (R28, R111, R181). -/
def Obligations.VerdictAndSetCondition : Prop :=
  ∀ (s : State) (l : NoticeLink) (tag : Byte) (id : Ident) (r : Rec), identOk id = true → s.record id = some r →
    s.CatalogueSound →
    (∀ waits : Prop, (waits ↔ (r.location = .nest .inn ∨ r.location = .inspection
        ∨ (r.location = .gripper ∧ ∃ m, s.boundMove r = some m ∧ m.kind = .reshelve)
        ∨ ((∃ n, r.location = .slot n) ∧ r.verdictOwed = true))) →
      (waits →
        (∃ t, exec (.verdict (noticeLinkOf l) tag (some ⟨id, .pass⟩)) s = .next t
          ∧ t.steady = s.steady.updRecord id (fun x =>
              { x with deliveries := 0, lots := 0, air := 0, condition := .ready, verdictOwed := false })
          ∧ s.Answered t (noticeLinkOf l) tag .verdict .ok .none)
        ∧ ∃ t, exec (.verdict (noticeLinkOf l) tag (some ⟨id, .fail⟩)) s = .next t
          ∧ t.steady = s.steady.updRecord id (fun x => { x with condition := .quarantine, verdictOwed := false })
          ∧ (∀ x ∈ t.catalogue, x.id = id → x.held = true)
          ∧ s.Answered t (noticeLinkOf l) tag .verdict .ok .none)
      ∧ (¬ waits → ∀ o, exec (.verdict (noticeLinkOf l) tag (some ⟨id, o⟩)) s
          = .next (s.send (.request (noticeLinkOf l)) (.answer tag FrameKind.verdict.byte .notInspecting .none))))
    ∧ ∃ t, exec (.setCondition .service tag (some ⟨id, .ready⟩)) s = .next t
        ∧ t.steady = s.steady.updRecord id (fun x =>
            { x with deliveries := 0, lots := 0, air := 0, condition := .ready, suspect := false })
        ∧ s.Answered t .service tag .setCondition .ok .none

/-- CENSUS stores its range, shelves clamped, zeroes the tally and offers the SCAN of the last shelf; it is refused BAD_FORM
for a range that is empty and BUSY while a census runs. CENSUS_STOP: an idle census stays idle; a running one whose SCAN waits
ends at once with the SCAN withdrawn; one whose SCAN is EXECUTING, or that is stopping already, is left STOPPING and answered
PENDING; no CENSUS_DONE is raised and the tally stands. That the lowest slot faulted is kept for CENSUS_DONE, and that no next
shelf is held once a census has ended, are the model's readings (log entries 29 and 30) (R194, R195, R199). -/
def Obligations.CensusStartsAndStops : Prop :=
  (∀ (s : State) (l : NoticeLink) (tag : Byte) (x y : Nat) (first last : Shelf),
    first.val = min x 47 → last.val = min y 47 →
    (last < first → exec (.census (noticeLinkOf l) tag (some ⟨x, y⟩)) s
      = .next (s.send (.request (noticeLinkOf l)) (.answer tag FrameKind.census.byte .badForm .none)))
    ∧ (first ≤ last → s.census.state ≠ .idle → exec (.census (noticeLinkOf l) tag (some ⟨x, y⟩)) s
      = .next (s.send (.request (noticeLinkOf l)) (.answer tag FrameKind.census.byte .busy .none)))
    ∧ (first ≤ last → s.census.state = .idle →
      exec (.census (noticeLinkOf l) tag (some ⟨x, y⟩)) s
        = .next ((State.settle { s with
            census := ⟨.running, some (first, last), some last, some s.nextSeq, ⟨0, 0, 0, 0, 0⟩, none⟩
            queue := s.queue ++ [⟨s.nextSeq, .scan, .internal, none, none, .none, .shelf last, .pos (.shelf last), none,
              s.clock, .waiting, false, false, false⟩]
            nextSeq := s.nextSeq + 1 } s noTouch).send (.request (noticeLinkOf l))
              (.answer tag FrameKind.census.byte .ok (.censusRange first last)))))
  ∧ (∀ (s : State) (l : NoticeLink) (tag : Byte),
    (s.census.state = .idle → exec (.censusStop (noticeLinkOf l) tag (some ())) s
      = .next (s.send (.request (noticeLinkOf l)) (.answer tag FrameKind.censusStop.byte .ok (.censusStop .idle))))
    ∧ (s.census.state = .stopping → exec (.censusStop (noticeLinkOf l) tag (some ())) s
      = .next (s.send (.request (noticeLinkOf l)) (.answer tag FrameKind.censusStop.byte .ok (.censusStop .pending))))
    ∧ (s.census.state = .running → (∃ m ∈ s.queue, m.kind = .scan ∧ m.state = .executing) →
      exec (.censusStop (noticeLinkOf l) tag (some ())) s
        = .next (State.send { s with census := { s.census with state := .stopping } } (.request (noticeLinkOf l))
            (.answer tag FrameKind.censusStop.byte .ok (.censusStop .pending))))
    ∧ (s.census.state = .running → (∀ m ∈ s.queue, ¬(m.kind = .scan ∧ m.state = .executing)) →
      ∃ t, exec (.censusStop (noticeLinkOf l) tag (some ())) s = .next t
        ∧ t.steady = { s.steady with census := { s.census with state := .idle, scan := none, nextShelf := none } }
        ∧ (∀ m ∈ t.queue, m.kind = .scan → m.state ≠ .waiting)
        ∧ (∀ l', ((t.noticeSet l').entry .censusDone).pending = ((s.noticeSet l').entry .censusDone).pending
            ∧ ((t.noticeSet l').entry .censusDone).detail = ((s.noticeSet l').entry .censusDone).detail)
        ∧ s.Answered t (noticeLinkOf l) tag .censusStop .ok (.censusStop .stopped)))

/-- INTERCEPT_SET, PORT_SET and TIMING_SET store their values, out of range ones clamped, answer with the values stored, and
change nothing else; a priority flag set on a port clears that of every other (R49, R140, R148, R183, R213). -/
def Obligations.SettingsStoredAndAnswered : Prop :=
  ∀ (s : State) (tag : Byte),
    (∀ (l : NoticeLink) (n : Fin 16) (b : InterceptBody) (m : InterceptMatch), b.entry = n.val →
      (∀ chars, b.matching = .byPrefix chars → identOk chars = true ∧ m = .byPrefix chars) →
      (∀ base len, b.matching = .bySlots base len →
        1 ≤ len ∧ len ≤ 396 ∧ ∃ k : Slot, k.val = base ∧ m = .bySlots k len) →
      ∃ e : InterceptEntry, e = ⟨b.requesterMask, b.kindMask, m, b.action, 0⟩
        ∧ exec (.interceptSet (noticeLinkOf l) tag (some b)) s
          = .next (State.send { s with intercepts := s.intercepts.set n.val e n.isLt } (.request (noticeLinkOf l))
              (.answer tag FrameKind.interceptSet.byte .ok (.intercept ⟨e, e.status⟩))))
    ∧ (∀ (p : Port) (b : PortSetBody), b.port = p.val → ∃ (t : State) (x : PortSettings),
      exec (.portSet .service tag (some b)) s
        = .next (t.send (.request .service) (.answer tag FrameKind.portSet.byte .ok (.portStored x)))
      ∧ x.weight.val = min b.weight 7 ∧ x.priority = b.priority ∧ x.agingRate.val = min b.agingRate 15
      ∧ x.tenureLimit.val = min b.tenureLimit 3 ∧ x.anchor.val = min b.anchor 47
      ∧ x.windowCount.val = min b.windowCount 255
      ∧ t = { s with ports := t.ports }
      ∧ t.port p = { s.port p with settings := x }
      ∧ ∀ q, q ≠ p → t.port q = (if b.priority = true then
          { s.port q with settings := { (s.port q).settings with priority := false } } else s.port q))
    ∧ ∀ b : TimingBody, ∃ (d : DispatchSettings) (pk pl g : Nat),
      exec (.timingSet .service tag (some b)) s
        = .next (State.send { s with
            settings := d
            handler := { s.handler with pickTimeout := pk, placeTimeout := pl }
            noticeGap := g } (.request .service) (.answer tag FrameKind.timingSet.byte .ok (.timing ⟨d, pk, pl, g⟩)))
      ∧ (∀ x, b.starvation = some x →
          d.starvation = if x = 0 then 0 else if x < 30 then 30 else if 3600 < x then 3600 else x)
      ∧ (∀ x, b.materialWeight = some x → d.materialWeight.val = min x 7)
      ∧ (∀ x, b.materialRate = some x → d.materialRate.val = min x 15)
      ∧ (∀ x, b.bulkAnchor = some x → d.bulkAnchor.val = min x 47)
      ∧ (∀ x, b.inspectionAnchor = some x → d.inspectionAnchor.val = min x 47)
      ∧ (∀ x, b.pickTimeout = some x → pk = max 5 (min x 255))
      ∧ (∀ x, b.placeTimeout = some x → pl = max 5 (min x 255))
      ∧ (∀ x, b.noticeGap = some x → g = max 1 (min x 60))
      ∧ (b.starvation = none → d.starvation = s.settings.starvation)
      ∧ (b.materialWeight = none → d.materialWeight = s.settings.materialWeight)
      ∧ (b.materialRate = none → d.materialRate = s.settings.materialRate)
      ∧ (b.bulkAnchor = none → d.bulkAnchor = s.settings.bulkAnchor)
      ∧ (b.inspectionAnchor = none → d.inspectionAnchor = s.settings.inspectionAnchor)
      ∧ (b.pickTimeout = none → pk = s.handler.pickTimeout) ∧ (b.placeTimeout = none → pl = s.handler.placeTimeout)
      ∧ (b.noticeGap = none → g = s.noticeGap)

/-- SET_SLOT(slot, EMPTY) and SET_SLOT(slot, ID, class) past the gate of R24: the slot EMPTY; or FILLED with a record created
held, or with an UNLOCATED record relocated there, its suspect flag cleared; a creation that a full catalogue refuses is
answered NO_ROOM and changes nothing but that CATALOGUE_FULL is raised with the identifier and the slot. A slot that is FILLED
or reserved, or the source of the move in execution, is refused STATE. FORGET removes an unbound record located UNLOCATED,
TOOL or INSPECTION, and no other record; its checks come in the order of R27 (R21, R24, R25, R26, R27). -/
def Obligations.ServiceCorrectsCatalogue : Prop :=
  (∀ (s : State) (tag : Byte) (n : Slot) (id : Ident) (c : ClassNo), identOk id = true →
    (((s.slot n).content = .unknown ∨ s.slot n = .empty ∨ ∃ x, s.slot n = .fault x) → s.execSourceSlot ≠ some n →
      (∃ t, exec (.setSlotEmpty .service tag (some n.val)) s = .next t
        ∧ t.steady = s.steady.setSlot n .free ∧ s.Answered t .service tag .setSlot .ok .none)
      ∧ (s.record id = none → s.catalogue.length < 480 →
        ∃ t, exec (.setSlotReticle .service tag (some ⟨n.val, id, c.val⟩)) s = .next t
          ∧ t.steady = { s.steady.setSlot n (.holds id) with
              records := s.steady.records
                ++ [⟨id, c, .slot n, .ready, false, false, false, none, toStorage n, 0, 0, 0⟩]
              announcements := s.announcements.filter (fun a => !decide (a.id = id)) }
          ∧ (∀ x ∈ t.catalogue, x.id = id → x.held = true)
          ∧ s.Answered t .service tag .setSlot .ok .none)
      ∧ (s.record id = none → 480 ≤ s.catalogue.length →
        ∃ u : State, exec (.setSlotReticle .service tag (some ⟨n.val, id, c.val⟩)) s
            = .next (u.send (.request .service) (.answer tag FrameKind.setSlot.byte .noRoom .none))
          ∧ u.Raised .catalogueFull ⟨some id, none, some (.slot n), none, none⟩
          ∧ u = { s with materialNotices := u.materialNotices, serviceNotices := u.serviceNotices, tx := u.tx })
      ∧ (∀ r, s.record id = some r → r.location = .unlocated →
        ∃ t, exec (.setSlotReticle .service tag (some ⟨n.val, id, c.val⟩)) s = .next t
          ∧ t.steady = (s.steady.setSlot n (.holds id)).updRecord id (fun x =>
              { x with location := .slot n, suspect := false,
                       home := match toStorage n with
                         | some k => some k
                         | none => x.home })
          ∧ s.Answered t .service tag .setSlot .ok .none)
      ∧ (∀ r, s.record id = some r → r.location ≠ .unlocated →
        exec (.setSlotReticle .service tag (some ⟨n.val, id, c.val⟩)) s
          = .next (s.send (.request .service) (.answer tag FrameKind.setSlot.byte .elsewhere .none))))
    ∧ (((∃ x, s.slot n = .filled x) ∨ (s.slot n).move.isSome = true ∨ s.execSourceSlot = some n) →
      exec (.setSlotEmpty .service tag (some n.val)) s
        = .next (s.send (.request .service) (.answer tag FrameKind.setSlot.byte .state .none))
      ∧ exec (.setSlotReticle .service tag (some ⟨n.val, id, c.val⟩)) s
        = .next (s.send (.request .service) (.answer tag FrameKind.setSlot.byte .state .none))))
  ∧ (∀ (s : State) (tag : Byte) (id : Ident), identOk id = true →
    (s.record id = none → exec (.forget .service tag (some id)) s
      = .next (s.send (.request .service) (.answer tag FrameKind.forget.byte .unknownReticle .none)))
    ∧ ∀ r, s.record id = some r → ∀ stray : Prop,
      (stray ↔ (r.location = .unlocated ∨ r.location = .inspection ∨ ∃ p, r.location = .tool p)) →
      (¬ stray → exec (.forget .service tag (some id)) s
        = .next (s.send (.request .service) (.answer tag FrameKind.forget.byte .elsewhere .none)))
      ∧ (stray → r.binding ≠ none → exec (.forget .service tag (some id)) s
        = .next (s.send (.request .service) (.answer tag FrameKind.forget.byte .bound .none)))
      ∧ (stray → r.binding = none → ∃ t, exec (.forget .service tag (some id)) s = .next t
        ∧ t.steady = { s.steady with records := s.steady.records.filter (fun x => !decide (x.id = id)) }
        ∧ t.record id = none ∧ s.Answered t .service tag .forget .ok .none))

/-! ## Recovery and RESTART -/

/-- RESUME of a halt with a move takes the recorded phase up again: its order goes out with a fresh number and a fresh timer,
the halt record is discarded and the execution record kept. In CARRYING the PLACE is sent only when TBUSY is not asserted; with
no order sent no number is current. Everything but the handler interface and the frames sent stands, records, nests, moves and
bindings too. It is refused STATE when the handler interface is not HALTED, when the halt has no move, and in PLACING when the
move holds no target (R146, R165). -/
def Obligations.ResumeSendsOrderAgain : Prop :=
  ∀ (s : State) (tag : Byte),
    (s.handler.state ≠ .halted ∨ s.handler.exec.bind (·.move) = none →
      exec (.resume .service tag (some ())) s
        = .next (s.send (.request .service) (.answer tag FrameKind.resume.byte .state .none)))
    ∧ (∀ (m : Move) (e : ExecRecord), s.HaltedWith m e .placing → m.target.pos? = none →
      exec (.resume .service tag (some ())) s
        = .next (s.send (.request .service) (.answer tag FrameKind.resume.byte .state .none)))
    ∧ ∀ (m : Move) (e : ExecRecord) (ph : Phase), s.SeqsDistinct → s.HaltedWith m e ph →
      (ph = .placing ∨ ph = .carrying → m.target.pos? ≠ none) → (ph = .scanning → ∃ n, m.source = .shelf n) →
      ∃ (t : State) (h : Handler), exec (.resume .service tag (some ())) s = .next t
        ∧ t = { s with handler := h, tx := t.tx } ∧ h.halt = none ∧ h.timer.isSome = true
        ∧ (∀ l, l ≠ .handler → l ≠ .request .service → t.sent l = s.sent l)
        ∧ t.sent (.request .service)
            = s.sent (.request .service) ++ [.answer tag FrameKind.resume.byte .ok .none]
        ∧ (ph = .picking → ∀ x, m.target = .pos x →
            h = { s.handler with
              state := .picking, halt := none, orderNumber := s.handler.orderNumber + 1
              numberCurrent := true
              timer := some s.handler.pickTimeout }
            ∧ t.sent .handler = s.sent .handler ++ [.move (s.handler.orderNumber + 1) m.source x m.expected])
        ∧ (ph = .placing → ∀ x, m.target = .pos x →
            h = { s.handler with
              state := .placing, halt := none, orderNumber := s.handler.orderNumber + 1
              numberCurrent := true
              timer := some s.handler.placeTimeout }
            ∧ t.sent .handler = s.sent .handler ++ [.place (s.handler.orderNumber + 1) x])
        ∧ (ph = .putback →
            h = { s.handler with
              state := .putback, halt := none, orderNumber := s.handler.orderNumber + 1
              numberCurrent := true
              timer := some s.handler.placeTimeout }
            ∧ t.sent .handler = s.sent .handler ++ [.place (s.handler.orderNumber + 1) m.source])
        ∧ (ph = .scanning → ∀ n, m.source = .shelf n →
            h = { s.handler with
              state := .scanning, halt := none, orderNumber := s.handler.orderNumber + 1
              numberCurrent := true
              timer := some (2 * s.handler.pickTimeout) }
            ∧ t.sent .handler = s.sent .handler ++ [.scan (s.handler.orderNumber + 1) n])
        ∧ (ph = .carrying → ∀ p, m.beneficiary = some p →
            (s.tbusy p = true →
              h = { s.handler with state := .carrying, halt := none, timer := some s.handler.placeTimeout }
              ∧ (s.handler.Sound → h.current = none) ∧ t.sent .handler = s.sent .handler)
            ∧ (s.tbusy p = false → ∀ x, m.target = .pos x →
              h = { s.handler with
                state := .placing, halt := none, orderNumber := s.handler.orderNumber + 1
                numberCurrent := true
                timer := some s.handler.placeTimeout, exec := some { e with phase := some .placing } }
              ∧ t.sent .handler = s.sent .handler ++ [.place (s.handler.orderNumber + 1) x]))

/-- RESOLVE(AT_TARGET) completes a halted move at its target: the record is located there, a target slot is FILLED with it, a
slot source of a pick not yet accepted is EMPTY, and the move leaves the queue, its requester told MOVE_END; it is refused STATE
for a SCAN, in PUTBACK, without a target and for a move that names no record. RESOLVE(AT_SOURCE) of a move halted in PICKING,
CARRYING or PLACING puts its record back: a slot source is FILLED with it, a reserved target slot is EMPTY, and the move waits
again, unless it is a DELIVER marked for stand-down; in PUTBACK the putback ends by its cause; a SCAN waits again, or is
withdrawn with the census IDLE when that no longer runs. A nest source that is neither as granted nor EMPTY is refused STATE,
and so is an EMPTY tool nest with a pod set down on it in the handshake now under way, but no EMPTY nest whose sensor has shown
a pod ever since. Both are refused STATE without a halt that has a move, and leave the handler interface IDLE. That only such a
pod counts as since put or arrived is the model's reading (log entry 23), and so is the layout of the mismatch notice (log
entry 17) (R121, R154, R155, R158, R159, R164, R166, R198). -/
def Obligations.ResolveAtTargetOrSource : Prop :=
  (∀ (s : State) (tag : Byte), s.handler.state ≠ .halted ∨ s.handler.exec.bind (·.move) = none →
    ∀ c, c = .resolveAtTarget .service tag (some ()) ∨ c = .resolveAtSource .service tag (some ()) →
      exec c s = .next (s.send (.request .service) (.answer tag FrameKind.resolve.byte .state .none)))
  ∧ (∀ (s : State) (tag : Byte) (m : Move) (e : ExecRecord) (ph : Phase), s.HaltedWith m e ph →
    (m.kind = .scan ∨ ph = .putback ∨ m.target.pos? = none ∨ m.reticle = none →
      exec (.resolveAtTarget .service tag (some ())) s
        = .next (s.send (.request .service) (.answer tag FrameKind.resolve.byte .state .none)))
    ∧ ∀ (id : Ident) (x : Position), m.reticle = some id → m.target = .pos x → m.kind ≠ .scan → ph ≠ .putback →
      ∃ u : State, exec (.resolveAtTarget .service tag (some ())) s
          = .next ((u.settleHandler s).send (.request .service) (.answer tag FrameKind.resolve.byte .ok .none))
        ∧ u.handler = s.handler.idled ∧ s.EndsMove u m .placed
        ∧ (∀ n, x = .slot n → u.slot n = .filled id ∧ ∀ r ∈ u.catalogue, r.id = id → r.location = .slot n)
        ∧ (∀ y, x = .nest y → ∀ r ∈ u.catalogue, r.id = id → r.location = .nest y)
        ∧ (ph = .picking → ∀ k, m.source = .slot k → x ≠ .slot k → u.slot k = .empty))
  ∧ (∀ (s : State) (tag : Byte) (m : Move) (e : ExecRecord) (ph : Phase), s.HaltedWith m e ph →
    (∀ y, m.source = .nest y → s.nestAsGranted y = false →
      (s.nestIsEmpty y = false → exec (.resolveAtSource .service tag (some ())) s
        = .next (s.send (.request .service) (.answer tag FrameKind.resolve.byte .state .none)))
      ∧ (∀ p, y = .t p → s.toolNest p = .empty → s.presT p = true → s.putRecorded p = true →
        exec (.resolveAtSource .service tag (some ())) s
          = .next (s.send (.request .service) (.answer tag FrameKind.resolve.byte .state .none))))
    ∧ (∀ y, m.source = .nest y → ph = .picking ∨ ph = .carrying ∨ ph = .placing →
      s.nestAsGranted y = true ∨ (s.nestIsEmpty y = true ∧ ∀ p, y = .t p → s.putRecorded p = false) →
      ∃ u : State, exec (.resolveAtSource .service tag (some ())) s
          = .next ((u.settleHandler s).send (.request .service) (.answer tag FrameKind.resolve.byte .ok .none))
        ∧ u.handler = s.handler.idled
        ∧ (∀ p, y = .t p → m.target ≠ .pos (.nest (.t p)) →
            u.toolNest p = (if m.kind = .reclaim then .outLapsed else .returned))
        ∧ (y = .bi → u.bi = .arrived) ∧ (y = .inn → m.target ≠ .pos (.nest .inn) → u.inn = .arrived)
        ∧ (∀ r ∈ u.catalogue, m.reticle = some r.id → s.locatedAt r.id .gripper = true → r.location = .nest y)
        ∧ (∀ k, m.target = .pos (.slot k) → ∀ z q, s.slot k = .inbound z q → u.slot k = .empty)
        ∧ (m.kind ≠ .deliver → u.queue = s.queue.map (fun x => if x.seq = m.seq then
            { x with state := .waiting, target := if x.kind.isStore then .toSelect else x.target } else x)))
    ∧ (ph = .putback → e.cause ≠ none →
      (∀ y, m.source = .nest y →
        s.nestAsGranted y = true ∨ (s.nestIsEmpty y = true ∧ ∀ p, y = .t p → s.putRecorded p = false)) →
      ∃ u : State, exec (.resolveAtSource .service tag (some ())) s
          = .next ((u.settleHandler s).send (.request .service) (.answer tag FrameKind.resolve.byte .ok .none))
        ∧ s.EndsPutback u m e)
    ∧ (∀ n, ph = .scanning → m.kind = .scan → m.source = .shelf n →
      ∃ u : State, exec (.resolveAtSource .service tag (some ())) s
          = .next ((u.settleHandler s).send (.request .service) (.answer tag FrameKind.resolve.byte .ok .none))
        ∧ u.handler = s.handler.idled ∧ u.slots = s.slots ∧ u.steady.records = s.steady.records
        ∧ (s.census.state = .running → u.census = s.census ∧ u.catalogue = s.catalogue
            ∧ u.queue = s.queue.map (fun x => if x.seq = m.seq then { x with state := .waiting } else x))
        ∧ (s.census.state ≠ .running → u.census = { s.census with state := .idle, scan := none, nextShelf := none }
            ∧ (∀ y ∈ u.queue, y.seq ≠ m.seq) ∧ ∀ r ∈ u.catalogue, r.binding ≠ some m.seq))
    ∧ ∀ (n : Slot) (id : Ident), m.source = .slot n → m.reticle = some id →
      ph = .picking ∨ ph = .carrying ∨ ph = .placing →
      ∃ u : State, exec (.resolveAtSource .service tag (some ())) s
          = .next ((u.settleHandler s).send (.request .service) (.answer tag FrameKind.resolve.byte .ok .none))
        ∧ u.handler = s.handler.idled
        ∧ u.slot n = .filled id ∧ (∀ r ∈ u.catalogue, r.id = id → r.location = .slot n)
        ∧ (∀ k, m.target = .pos (.slot k) → k ≠ n → ∀ z q, s.slot k = .inbound z q → u.slot k = .empty)
        ∧ (m.kind = .deliver ∧ m.standDown = true → (∀ y ∈ u.queue, y.seq ≠ m.seq)
            ∧ (∀ r ∈ u.catalogue, r.binding ≠ some m.seq) ∧ ∀ l, u.sent (.request l) = s.sent (.request l))
        ∧ (¬(m.kind = .deliver ∧ m.standDown = true) →
            u.queue = s.queue.map (fun y => if y.seq = m.seq then
              { y with state := .waiting, target := if y.kind.isStore then .toSelect else y.target } else y)))

/-- RESOLVE(REMOVED) ends a halted move, named or not: its record is UNLOCATED, in QUARANTINE and suspect, and so is another
record read but for its location; a source slot still OUTBOUND is in FAULT and any other EMPTY; a source nest stands after an
accepted pick, and before one is BLOCKED where its sensor shows a pod and else EMPTY; a reserved target is EMPTY; every other
slot stands; the move leaves the queue, its requester told MOVE_END, and the handler interface is IDLE. A SCAN ends without
result: a running census counts its shelf skipped and goes on to the next below, or is IDLE with CENSUS_DONE; one not running is
IDLE. A halt without a move is only cleared, and without a halt it is refused STATE. That only a target still INBOUND is
released is the model's reading (log entry 25), and so are the phases taken as after an accepted pick (log entry 26) and the
identifier read as part of NEST_BLOCKED for a source left BLOCKED (log entry 27). That CENSUS_DONE carries as its position the
lowest slot faulted as the census record keeps it is the model's choice (log entry 29) (R121, R164, R167, R197, R198). -/
def Obligations.ResolveRemovedEndsMove : Prop :=
  ∀ (s : State) (tag : Byte),
    (s.handler.state ≠ .halted → exec (.resolveRemoved .service tag (some ())) s
      = .next (s.send (.request .service) (.answer tag FrameKind.resolve.byte .state .none)))
    ∧ (s.handler.state = .halted → s.handler.exec.bind (·.move) = none →
      exec (.resolveRemoved .service tag (some ())) s
        = .next ((State.settleHandler { s with handler := s.handler.idled } s).send (.request .service)
            (.answer tag FrameKind.resolve.byte .ok .none)))
    ∧ (∀ (m : Move) (e : ExecRecord) (ph : Phase) (accepted : Prop) (read : Option Ident), s.HaltedWith m e ph →
      (accepted ↔ ph = .carrying ∨ ph = .placing ∨ (ph = .putback ∧ e.cause ≠ some .mismatch)) → e.ReadIs read →
      (∀ n, m.source ≠ .shelf n) →
      ∃ u : State, exec (.resolveRemoved .service tag (some ())) s
          = .next ((u.settleHandler s).send (.request .service) (.answer tag FrameKind.resolve.byte .ok .none))
        ∧ u.handler = s.handler.idled ∧ s.EndsMove u m .removed
        ∧ (∀ n, m.source = .slot n →
            (∀ z q, s.slot n = .outbound z q → u.slot n = .fault none)
            ∧ ((∀ z q, s.slot n ≠ .outbound z q) → u.slot n = .empty))
        ∧ (∀ y, m.source = .nest y →
            (¬ accepted → s.presAt y = true → u.BlockedAt y read)
            ∧ (¬ accepted → s.presAt y = false → u.nestIsEmpty y = true)
            ∧ (accepted → m.target ≠ .pos (.nest y) →
                (∀ p, y = .t p → s.toolNest p ≠ .outWait → u.toolNest p = s.toolNest p)
                ∧ (y = .bi → u.bi = s.bi) ∧ (y = .bo → u.bo = s.bo) ∧ (y = .inn → u.inn = s.inn)))
        ∧ (∀ k, m.target = .pos (.slot k) → m.source ≠ .slot k → ∀ z q, s.slot k = .inbound z q → u.slot k = .empty)
        ∧ (∀ y, m.target = .pos (.nest y) → m.source ≠ .nest y → s.nestIsInbound y = true → u.nestIsEmpty y = true)
        ∧ (∀ k : Slot, m.source ≠ .slot k → m.target ≠ .pos (.slot k) → u.slot k = s.slot k)
        ∧ (∀ id, m.reticle = some id → u.Lost id)
        ∧ (s.CatalogueSound → ∀ z, read = some z → m.reticle ≠ some z → s.Doubts u z)
        ∧ (m.reticle = none → (∀ z, read = some z → s.record z = none) → u.steady.records = s.steady.records))
    ∧ ∀ (m : Move) (e : ExecRecord) (ph : Phase) (n : Shelf), s.HaltedWith m e ph → m.source = .shelf n →
      ∃ u : State, exec (.resolveRemoved .service tag (some ())) s
          = .next ((u.settleHandler s).send (.request .service) (.answer tag FrameKind.resolve.byte .ok .none))
        ∧ u.handler = s.handler.idled ∧ s.DropsMove u m
        ∧ u.slots = s.slots ∧ u.steady.records = s.steady.records
        ∧ (∀ first last, s.census.state = .running → s.census.range = some (first, last) →
            u.census.tally.skipped = s.census.tally.skipped + 1
            ∧ (first < n → ∃ k : Shelf, k.val + 1 = n.val ∧ u.census.state = .running ∧ u.census.nextShelf = some k
              ∧ ∃ y ∈ u.queue, u.census.scan = some y.seq ∧ y.kind = .scan ∧ y.source = .shelf k)
            ∧ (¬ first < n → u.census.state = .idle ∧ u.census.scan = none
              ∧ u.Raised .censusDone ⟨none, none, s.census.lowestFaulted.map .slot, none, some s.census.tally.faulted⟩))
        ∧ (s.census.state ≠ .running → u.census.state = .idle ∧ u.census.scan = none)

/-- RESTART is answered PENDING and only noted while an order is outstanding or withheld, and takes effect in the change that
next brings the handler interface to IDLE or HALTED; in IDLE and HALTED it takes effect at once and is answered TAKEN. Every WAITING move is withdrawn, its link told RESTART, and admitted afresh are exactly a
RECLAIM of the record on each OUT_WAIT or OUT_LAPSED nest, for each RETURNED nest whose COLLECT waited a COLLECT that carries
its identifier, and the STOCK_IN of an ARRIVED BI and the RESHELVE of an ARRIVED IN, each unless one is EXECUTING. The tenure
record and the announcement list are cleared, the ports go SILENT with empty lists, OUT_WAIT nests lapse, and the handler
interface stands. But for INTERCEPT, which the admissions may raise, a notice kind is pending exactly when its condition
holds, masks and details standing; a census is IDLE, or STOPPING while its SCAN is EXECUTING, its tally and range kept (R55,
R84, R93, R112, R142, R168, R193, R214). -/
def Obligations.RestartClearsWaitingWork : Prop :=
  (∀ (s : State) (tag : Byte),
    (s.handler.state ≠ .idle → s.handler.state ≠ .halted → exec (.restart .service tag (some ())) s
      = .next ((State.settle { s with handler := { s.handler with restartPending := true } } s noTouch).send
          (.request .service) (.answer tag FrameKind.restart.byte .ok (.restart true))))
    ∧ (s.handler.state = .idle ∨ s.handler.state = .halted →
      ∃ u : State, exec (.restart .service tag (some ())) s
          = .next ((u.settle s ⟨false, none, false, true⟩).send (.request .service)
              (.answer tag FrameKind.restart.byte .ok (.restart false)))
        ∧ s.RestartsTo u))
  ∧ ∀ a b : State,
    (b.handler.restartPending = true → b.handler.state = .idle ∨ b.handler.state = .halted →
      ∃ u : State, b.settleHandler a = u.settle a ⟨false, none, false, true⟩ ∧ b.RestartsTo u)
    ∧ (b.handler.restartPending = false ∨ (b.handler.state ≠ .idle ∧ b.handler.state ≠ .halted) →
      b.settleHandler a = b.settle a noTouch)

/-! ## Reports of the robot controller -/

/-- A report that carries a number that is not current changes nothing, and one with the current number that the state does not
expect halts the handler interface with code UNEXPECTED and gripper UNKNOWN; slots, records and the queue stand (R146, R149,
R161). -/
def Obligations.StaleAndUnexpectedReports : Prop :=
  ∀ (s : State) (number : Byte),
    (s.handler.current ≠ some number →
      (∀ read, exec (.picked number read) s = .next s) ∧ exec (.sourceEmpty number) s = .next s
      ∧ exec (.placed number) s = .next s ∧ exec (.occupied number) s = .next s
      ∧ (∀ results, exec (.scanned number results) s = .next s)
      ∧ ∀ code loaded, exec (.faultReport number code loaded) s = .next s)
    ∧ (s.handler.current = some number → ∃ u : State,
      u.handler = { s.handler with state := .halted, numberCurrent := false, halt := some ⟨.unexpected, .unknown⟩, timer := none }
      ∧ u.slots = s.slots ∧ u.catalogue = s.catalogue ∧ u.queue = s.queue ∧ u.steady = s.steady
      ∧ (∀ l, ((u.noticeSet l).entry .halted).pending = true ∧ ((u.noticeSet l).entry .halted).detail.code = some 2)
      ∧ (s.handler.state ≠ .picking → exec (.sourceEmpty number) s = .next (u.settleHandler s)
          ∧ ∀ read, readOk read = true → exec (.picked number read) s = .next (u.settleHandler s))
      ∧ (s.handler.state ≠ .placing → s.handler.state ≠ .putback →
          exec (.placed number) s = .next (u.settleHandler s) ∧ exec (.occupied number) s = .next (u.settleHandler s))
      ∧ (s.handler.state ≠ .scanning → ∀ results, exec (.scanned number results) s = .next (u.settleHandler s)))

/-- A pick accepted for a named move: the record is in the gripper, a source slot or source nest EMPTY, and PLACE goes to the
target with the next number, but a DELIVER whose TBUSY is asserted enters CARRYING with no order sent (R66, R98, R110, R150,
R151, R153). -/
def Obligations.AcceptedPickGoesOn : Prop :=
  ∀ (s : State) (number : Byte) (m : Move) (e : ExecRecord) (id : Ident) (x : Position),
    s.Awaits number m e .picking → identOk id = true → m.pickTest = .named → m.reticle = some id → m.target = .pos x →
    ∃ u : State, exec (.picked number (.ident id)) s = .next (u.settleHandler s)
      ∧ (∀ r ∈ u.catalogue, r.id = id → r.location = .gripper)
      ∧ (∀ n, m.source = .slot n → u.slot n = .empty)
      ∧ (∀ y, m.source = .nest y → u.nestIsEmpty y = true) ∧ u.queue = s.queue
      ∧ (m.kind = .deliver ∧ (∃ p, m.beneficiary = some p ∧ s.tbusy p = true) →
          u.handler = { s.handler with
            state := .carrying, timer := some s.handler.placeTimeout
            exec := some { e with read := some (.ident id), phase := some .carrying } }
          ∧ u.sent .handler = s.sent .handler)
      ∧ (¬(m.kind = .deliver ∧ ∃ p, m.beneficiary = some p ∧ s.tbusy p = true) →
          u.handler = { s.handler with
            state := .placing, timer := some s.handler.placeTimeout, orderNumber := s.handler.orderNumber + 1
            numberCurrent := true
            exec := some { e with read := some (.ident id), phase := some .placing } }
          ∧ u.sent .handler = s.sent .handler ++ [.place (s.handler.orderNumber + 1) x])

/-- The pick of a store move from a nest that names no reticle. A STOCK_IN takes an identifier that is announced, creating its
record READY with the class and hold flag announced, or any one while the announcement list is empty, with class 0 and held; it
refuses one of the catalogue and one not announced. A COLLECT takes a record at a tool, or creates one in QUARANTINE and held; a
RESHELVE takes a record at INSPECTION; each refuses every other of the catalogue. NOREAD and a creation that a full catalogue
refuses are put back, the latter with CATALOGUE_FULL raised. A pick taken names and binds the move, empties the nest and checks
the target against the record's class: a target that does not admit it gives way to a new selection, if there is one (R20, R21,
R42, R69, R93, R97, R98, R110, R151). -/
def Obligations.UnnamedPicksAreJudged : Prop :=
  ∀ (s : State) (number : Byte) (m : Move) (e : ExecRecord) (x : Nest) (k : Fin 384) (takes : Ident → Rec → Prop)
    (putBack : ReadId → State → Prop),
    s.Awaits number m e .picking → m.kind.isStore = true → m.source = .nest x → m.target = .pos (storagePosition k) →
    s.slot (ofStorage k) = .inbound none m.seq →
    (∀ id r, takes id r ↔ ∃ u, exec (.picked number (.ident id)) s = .next (u.settleHandler s) ∧ s.TakesUp u m e x k r) →
    (∀ read u, putBack read u ↔ exec (.picked number read) s = .next (u.settleHandler s) ∧ s.TurnsBack u m e read) →
    ∀ id, identOk id = true →
    (m.pickTest = .stockIn →
      (s.known id = true → ∃ u, putBack (.ident id) u)
      ∧ (s.known id = false → s.catalogue.length < 480 →
        (∀ a, s.announcements.find? (fun y => y.id = id) = some a →
          takes id ⟨id, a.cls, .gripper, .ready, a.hold, false, false, some m.seq, none, 0, 0, 0⟩)
        ∧ (s.announcements = [] → takes id ⟨id, 0, .gripper, .ready, true, false, false, some m.seq, none, 0, 0, 0⟩))
      ∧ (s.known id = false → s.announcements.find? (fun y => y.id = id) = none → s.announcements ≠ [] →
        ∃ u, putBack (.ident id) u))
    ∧ (m.pickTest = .anyAtTool →
      (∀ r q, s.record id = some r → r.location = .tool q → takes id { r with location := .gripper, binding := some m.seq })
      ∧ (∀ r, s.record id = some r → (∀ q, r.location ≠ .tool q) → ∃ u, putBack (.ident id) u)
      ∧ (s.record id = none → s.catalogue.length < 480 →
        takes id ⟨id, 0, .gripper, .quarantine, true, false, false, some m.seq, none, 0, 0, 0⟩))
    ∧ (m.pickTest = .anyAtInspection →
      (∀ r, s.record id = some r → r.location = .inspection →
        takes id { r with location := .gripper, binding := some m.seq })
      ∧ (s.locatedAt id .inspection = false → ∃ u, putBack (.ident id) u))
    ∧ (s.record id = none → 480 ≤ s.catalogue.length →
      m.pickTest = .anyAtTool
        ∨ (m.pickTest = .stockIn ∧ ((∃ a ∈ s.announcements, a.id = id) ∨ s.announcements = [])) →
      ∃ u, putBack (.ident id) u ∧ u.Raised .catalogueFull ⟨some id, none, some (.nest x), none, none⟩)
    ∧ ∃ u, putBack .noread u

/-- A pick that a named move refuses is put back: PLACE goes to the source with the next number, the handler interface enters
PUTBACK with cause MISMATCH, and slots, nests, records and queue stand. SOURCE_EMPTY ends the move: a source slot goes to
FAULT, a source nest to EMPTY, a reserved target slot to EMPTY, a named record is UNLOCATED, in QUARANTINE and suspect, no
record changes when none was named, SLOT_FAULT is raised, the move leaves the queue with its binding and reservations gone, its
requester told MOVE_END, and the handler interface is IDLE (R121, R150, R155, R156, R164). -/
def Obligations.FailedPicksAreTaken : Prop :=
  (∀ (s : State) (number : Byte) (m : Move) (e : ExecRecord) (read : ReadId) (id : Ident),
    s.Awaits number m e .picking → readOk read = true → m.pickTest = .named → m.reticle = some id → read ≠ .ident id →
    ∃ u : State, exec (.picked number read) s = .next (u.settleHandler s) ∧ s.TurnsBack u m e read)
  ∧ (∀ (s : State) (number : Byte) (m : Move) (e : ExecRecord) (n : Slot) (id : Ident),
    s.Awaits number m e .picking → m.source = .slot n → m.reticle = some id → m.pickTest = .named →
    ∃ u : State, exec (.sourceEmpty number) s = .next (u.settleHandler s)
      ∧ u.handler = s.handler.idled ∧ u.slot n = .fault none ∧ s.EndsMove u m .mismatch
      ∧ (∀ k, m.target = .pos (.slot k) → k ≠ n → ∀ z q, s.slot k = .inbound z q → u.slot k = .empty)
      ∧ (∀ r ∈ u.catalogue, r.id = id → r.location = .unlocated ∧ r.condition = .quarantine ∧ r.suspect = true)
      ∧ u.Raised .slotFault ⟨some id, none, some (.slot n), none, none⟩)
  ∧ ∀ (s : State) (number : Byte) (m : Move) (e : ExecRecord) (x : Nest),
    s.Awaits number m e .picking → m.source = .nest x →
    ∃ u : State, exec (.sourceEmpty number) s = .next (u.settleHandler s)
      ∧ u.handler = s.handler.idled ∧ u.nestIsEmpty x = true ∧ s.EndsMove u m .mismatch
      ∧ (∀ k, m.target = .pos (.slot k) → ∀ z q, s.slot k = .inbound z q → u.slot k = .empty)
      ∧ (m.pickTest ≠ .named → u.steady = s.steady)
      ∧ (∀ id, m.pickTest = .named → m.reticle = some id →
          u.steady = s.steady.updRecord id (fun r =>
            { r with location := .unlocated, condition := .quarantine, suspect := true }))
      ∧ u.Raised .slotFault ⟨m.reticle, none, some (.nest x), none, none⟩

/-- PLACED in PLACING completes the move: the record is at the target, a target slot FILLED with it and a storage slot its
home, BO and IN await their take with a verdict owed for a pod on IN, the move leaves the queue with its binding and
reservations gone, its requester told MOVE_END, and the handler interface is IDLE. A placement at a tool nest is READY and OUT_WAIT for an ATTACHED port, a fit record and no stand-down, and otherwise OUT_LAPSED with a RECLAIM; it
consumes the call-ahead entry. PLACED in PUTBACK ends the putback by its cause: after a mismatch the source slot is in FAULT
with the identifier read, or a source nest BLOCKED and NEST_BLOCKED raised with it, the expected record UNLOCATED, in QUARANTINE
and suspect, the record read, if another, in QUARANTINE and suspect where it is located, whether or not the move named a
reticle, and MISMATCH is raised; after an occupied nest the source slot is FILLED and the move waits again; after an occupied
staging slot the source slot is FILLED and the PRESTAGE removed. That MISMATCH carries the identifier expected first and the
one read second, or the one read alone first when none was expected, is the model's choice (log entry 17) (R60, R83, R101, R108,
R121, R154, R155, R158, R159, R164). -/
def Obligations.PlacedCompletesMoveOrPutback : Prop :=
  (∀ (s : State) (number : Byte) (m : Move) (e : ExecRecord) (id : Ident) (x : Position),
    s.Awaits number m e .placing → m.reticle = some id → m.target = .pos x →
    ∃ u : State, exec (.placed number) s = .next (u.settleHandler s)
      ∧ u.handler = s.handler.idled ∧ s.EndsMove u m .placed
      ∧ (∀ n, x = .slot n → u.slot n = .filled id
          ∧ ∀ r ∈ u.catalogue, r.id = id → r.location = .slot n ∧ ∀ k, toStorage n = some k → r.home = some k)
      ∧ (x = .nest .bo → u.bo = .awayWait ∧ u.bordy = true ∧ ∀ r ∈ u.catalogue, r.id = id → r.location = .nest .bo)
      ∧ (x = .nest .inn → u.inn = .awayWait ∧ u.irdy = true
          ∧ ∀ r ∈ u.catalogue, r.id = id → r.location = .nest .inn ∧ r.verdictOwed = true)
      ∧ (m.holdOnCompletion = true → (∀ p, x ≠ .nest (.t p)) → s.CatalogueSound →
          ∀ r ∈ u.catalogue, r.id = id → r.held = true)
      ∧ (∀ p r, x = .nest (.t p) → m.kind = .deliver → m.beneficiary = some p → m.holdOnCompletion = false →
          s.record id = some r →
          u.aheadOf p = (s.aheadOf p).placed id
          ∧ (∀ y ∈ u.catalogue, y.id = id → y.location = .nest (.t p))
          ∧ ((s.port p).state = .attached → m.standDown = false → r.fit = true →
              u.toolNest p = .outWait ∧ u.prdy p = true
              ∧ (u.port p).window = some ⟨.collect, windowLength (s.port p).settings.windowCount⟩
              ∧ u.sent (.request (.tool p)) = s.sent (.request (.tool p)) ++ [.ready id])
          ∧ ((s.port p).state ≠ .attached ∨ m.standDown = true ∨ r.fit = false →
              u.toolNest p = .outLapsed
              ∧ ∃ y ∈ u.queue, y.seq = s.nextSeq ∧ y.kind = .reclaim ∧ y.reticle = some id ∧ y.source = .nest (.t p))))
  ∧ ∀ (s : State) (number : Byte) (m : Move) (e : ExecRecord), s.Awaits number m e .putback → e.cause ≠ none →
    ∃ u : State, exec (.placed number) s = .next (u.settleHandler s) ∧ s.EndsPutback u m e

/-- OCCUPIED: in PLACING a store move's target goes to FAULT and one new target is tried, a halt following when there is none
or it was the second; a PRESTAGE's staging slot goes to FAULT and the pod back to its source slot; a move to a nest puts its
pod back to its source slot. In PUTBACK it halts with OCCUPIED_TWICE (R157, R158, R159, R160). -/
def Obligations.OccupiedTargetHandled : Prop :=
  ∀ (s : State) (number : Byte) (m : Move) (e : ExecRecord),
    (s.Awaits number m e .putback → ∃ u : State, exec (.occupied number) s = .next (u.settleHandler s)
      ∧ u.handler = { s.handler with state := .halted, numberCurrent := false, halt := some ⟨.occupiedTwice, .loaded⟩, timer := none }
      ∧ u.slots = s.slots ∧ u.queue = s.queue)
    ∧ (s.Awaits number m e .placing →
      (∀ n, m.kind.isStore = true → m.target = .pos (.slot n) →
        ∃ u : State, exec (.occupied number) s = .next (u.settleHandler s) ∧ u.slot n = .fault none
          ∧ u.Raised .slotFault ⟨m.reticle, none, some (.slot n), none, none⟩
          ∧ (e.retargets = 1 →
              u.handler = { s.handler with state := .halted, numberCurrent := false, halt := some ⟨.occupiedTwice, .loaded⟩, timer := none })
          ∧ (e.retargets = 0 → ∀ k, (s.setSlot n (.fault none)).selectTarget m = some k →
              u.slot (ofStorage k) = .inbound m.reticle m.seq
              ∧ u.handler = { s.handler with
                  state := .placing, timer := some s.handler.placeTimeout, orderNumber := s.handler.orderNumber + 1
                  numberCurrent := true
                  exec := some { e with phase := some .placing, retargets := 1 } }
              ∧ u.sent .handler
                  = s.sent .handler ++ [.place (s.handler.orderNumber + 1) (.slot (ofStorage k))])
          ∧ (e.retargets = 0 → (s.setSlot n (.fault none)).selectTarget m = none →
              u.handler = { s.handler with state := .halted, numberCurrent := false, halt := some ⟨.noTarget, .loaded⟩, timer := none }))
      ∧ (∀ n k, m.kind = .prestage → m.target = .pos (.slot n) → m.source = .slot k → k ≠ n →
        ∃ u : State, exec (.occupied number) s = .next (u.settleHandler s) ∧ u.slot n = .fault none
          ∧ u.slot k = .inbound m.reticle m.seq
          ∧ u.handler = { s.handler with
              state := .putback, timer := some s.handler.placeTimeout, orderNumber := s.handler.orderNumber + 1
              numberCurrent := true
              exec := some { e with phase := some .putback, cause := some .occupiedStaging } }
          ∧ u.sent .handler = s.sent .handler ++ [.place (s.handler.orderNumber + 1) (.slot k)])
      ∧ (∀ y k, m.kind = .deliver ∨ m.kind = .stockOut ∨ m.kind = .inspectOut → m.target = .pos (.nest y) →
          m.source = .slot k →
        ∃ u : State, exec (.occupied number) s = .next (u.settleHandler s)
          ∧ u.slot k = .inbound m.reticle m.seq
          ∧ u.handler = { s.handler with
              state := .putback, timer := some s.handler.placeTimeout, orderNumber := s.handler.orderNumber + 1
              numberCurrent := true
              exec := some { e with phase := some .putback, cause := some .occupiedNest } }
          ∧ u.sent .handler = s.sent .handler ++ [.place (s.handler.orderNumber + 1) (.slot k)]
          ∧ (y = .bo → u.bo = (if s.pins.presBo then .blocked else .empty))
          ∧ (y = .inn → u.inn = (if s.pins.presIn then .arrived else .empty))
          ∧ (∀ p, y = .t p → u.toolNest p = (if s.presT p = true ∧ s.tbusy p = false then .returned else .empty))))

/-- SCANNED ends the SCAN with the handler interface IDLE and counts the shelf. A slot found UNKNOWN, in FAULT or EMPTY is EMPTY
with no pod read and in FAULT with an unreadable one; an identifier that no other place of the shelf shows creates a READY held
record of class 0 there, or with a full catalogue leaves FAULT and CATALOGUE_FULL, relocates an UNLOCATED record, and for a
record located elsewhere leaves FAULT, that record in QUARANTINE and suspect, and MISMATCH. A FILLED slot stays FILLED with its
own identifier, and is in FAULT with any other result, its record lost when no other place shows it. A RUNNING census goes on to
the next shelf below, and is IDLE after its first with CENSUS_DONE raised, which carries the slots faulted and the lowest of
them; a STOPPING one is IDLE with no notice, and an IDLE one stays so. That the next SCAN stays holds of a queue in its form, whose
entries lie close together, as R118 says of every queue. That the lowest slot is kept in the census record is the model's
reading (log entry 29) (R163, R197, R200, R201, R202). -/
def Obligations.ScannedAppliesResults : Prop :=
  ∀ (s : State) (number : Byte) (m : Move) (e : ExecRecord) (n : Shelf) (results : Vector ScanResult 8)
    (bare : Fin 8 → Prop) (alone : Fin 8 → Ident → Prop),
    s.CatalogueSound → s.Awaits number m e .scanning → m.source = .shelf n →
    (∀ k, bare k ↔ (s.slot (shelfSlot n k)).content = .unknown ∨ s.slot (shelfSlot n k) = .empty
      ∨ ∃ x, s.slot (shelfSlot n k) = .fault x) →
    (∀ k id, alone k id ↔ ∀ j, j ≠ k → results.get j ≠ .ident id ∧ s.slot (shelfSlot n j) ≠ .filled id) →
    ∃ u : State, exec (.scanned number results) s = .next (u.settleHandler s)
      ∧ u.handler = s.handler.idled ∧ s.DropsMove u m
      ∧ u.census.tally.scanned = s.census.tally.scanned + 1
      ∧ (∀ k, bare k →
        (results.get k = .empty → u.slot (shelfSlot n k) = .empty)
        ∧ (results.get k = .unreadable → u.slot (shelfSlot n k) = .fault none)
        ∧ ∀ id, results.get k = .ident id → identOk id = true → alone k id →
          (s.record id = none → s.catalogue.length + 8 ≤ 480 →
            u.slot (shelfSlot n k) = .filled id
            ∧ u.record id = some ⟨id, 0, .slot (shelfSlot n k), .ready, true, false, false, none,
                toStorage (shelfSlot n k), 0, 0, 0⟩)
          ∧ (s.record id = none → 480 ≤ s.catalogue.length →
            u.slot (shelfSlot n k) = .fault (some id) ∧ u.record id = none
            ∧ ∀ l, ((u.noticeSet l).entry .catalogueFull).pending = true)
          ∧ (∀ r, s.record id = some r → r.location = .unlocated →
            u.slot (shelfSlot n k) = .filled id
            ∧ ∃ y, u.record id = some y ∧ y.held = r.held
              ∧ y.steady = { r.steady with location := .slot (shelfSlot n k), suspect := false
                                           home := toStorage (shelfSlot n k) })
          ∧ (∀ r, s.record id = some r → r.location ≠ .unlocated →
            u.slot (shelfSlot n k) = .fault (some id)
            ∧ (∃ y, u.record id = some y ∧ y.location = r.location ∧ y.condition = .quarantine ∧ y.suspect = true)
            ∧ ∀ l, ((u.noticeSet l).entry .mismatch).pending = true))
      ∧ (∀ k id, s.slot (shelfSlot n k) = .filled id →
        (results.get k = .ident id → identOk id = true → u.slot (shelfSlot n k) = .filled id
          ∧ ∀ r, s.record id = some r → alone k id → ∃ y, u.record id = some y ∧ y.held = r.held
              ∧ y.steady = { r.steady with location := .slot (shelfSlot n k), suspect := false
                                           home := toStorage (shelfSlot n k) })
        ∧ (results.get k = .empty ∨ results.get k = .unreadable → u.slot (shelfSlot n k) = .fault none)
        ∧ (∀ x, results.get k = .ident x → identOk x = true → x ≠ id → u.slot (shelfSlot n k) = .fault (some x))
        ∧ (results.get k ≠ .ident id → alone k id → ∀ r ∈ u.catalogue, r.id = id →
            r.location = .unlocated ∧ r.condition = .quarantine ∧ r.suspect = true)
        ∧ (results.get k ≠ .ident id → results.get k ≠ .empty →
            ∀ l, ((u.noticeSet l).entry .mismatch).pending = true))
      ∧ (∀ j : Slot, (∀ k, j ≠ shelfSlot n k) → u.slot j = s.slot j)
      ∧ (∀ first last, s.census.state = .running → s.census.range = some (first, last) →
          (∀ y ∈ s.queue, y.kind = .scan → y.seq = m.seq) →
          (s.QueueSound → s.SeqsFresh → first < n →
            ∃ k : Shelf, k.val + 1 = n.val ∧ u.census.state = .running ∧ u.census.nextShelf = some k
              ∧ ∃ y ∈ u.queue, u.census.scan = some y.seq ∧ y.kind = .scan ∧ y.source = .shelf k)
          ∧ (¬ first < n → u.census.state = .idle ∧ u.census.scan = none
            ∧ u.Raised .censusDone ⟨none, none, u.census.lowestFaulted.map .slot, none, some u.census.tally.faulted⟩))
      ∧ (s.census.state = .stopping ∨ s.census.state = .idle → u.census.state = .idle
          ∧ (s.census.state = .stopping → u.census.scan = none)
          ∧ ∀ l, (((u.noticeSet l).entry .censusDone).pending = ((s.noticeSet l).entry .censusDone).pending)
              ∧ ((u.noticeSet l).entry .censusDone).detail = ((s.noticeSet l).entry .censusDone).detail)

/-- FAULT with the current number, RESTARTED with a move in execution, and the expiry of the running timer halt the handler
interface with their code and gripper, HALTED is raised with the code, and nothing is moved. RESTARTED in HALTED replaces the
gripper reported; in IDLE with the gripper loaded it halts without a move, and otherwise has no effect. That an expiry
without its timer running has no effect is the model's choice (log entry 2) (R148, R161, R162). -/
def Obligations.HaltsKeepTheMove : Prop :=
  ∀ s : State,
    (∀ halts : State → HaltCode → Nat → GripperState → Prop,
      (∀ u code n g, halts u code n g ↔
        (u.handler = { s.handler with state := .halted, numberCurrent := false, halt := some ⟨code, g⟩, timer := none }
          ∧ u.slots = s.slots ∧ u.catalogue = s.catalogue ∧ u.queue = s.queue ∧ u.steady = s.steady
          ∧ ∀ l, ((u.noticeSet l).entry .halted).pending = true
            ∧ ((u.noticeSet l).entry .halted).detail.code = some n)) →
      (∀ number code loaded, s.handler.current = some number →
        ∃ u, exec (.faultReport number code loaded) s = .next (u.settleHandler s)
          ∧ halts u (.robot code) (256 + code.toNat) (if loaded then .loaded else .empty))
      ∧ (∀ number loaded, s.handler.state ≠ .idle → s.handler.state ≠ .halted →
        ∃ u, exec (.restarted number loaded) s = .next (u.settleHandler s)
          ∧ halts u .restarted 1 (if loaded then .loaded else .empty))
      ∧ (s.handler.timer.isSome = true →
        ∃ u, exec .phaseTimeout s = .next (u.settleHandler s)
          ∧ halts u .timeout 0 (if s.handler.state = .carrying then .loaded else .unknown)))
    ∧ (s.handler.timer = none → exec .phaseTimeout s = .next s)
    ∧ ∀ number loaded,
      (s.handler.state = .idle → loaded = false → exec (.restarted number loaded) s = .next (s.settleHandler s))
      ∧ (s.handler.state = .idle → loaded = true →
        ∃ u : State, exec (.restarted number loaded) s = .next (u.settleHandler s)
          ∧ u.handler = { s.handler with
              state := .halted, exec := some ⟨none, none, none, none, 0⟩, halt := some ⟨.restarted, .loaded⟩
              numberCurrent := false
              timer := none }
          ∧ u.Raised .halted ⟨none, none, none, none, some 1⟩)
      ∧ (s.handler.state = .halted → ∀ h, s.handler.halt = some h →
        exec (.restarted number loaded) s = .next (State.settleHandler { s with
          handler := { s.handler with halt := some ⟨h.code, if loaded then .loaded else .empty⟩ } } s))

/-! ## Timer expiries -/

/-- PORT_OPEN takes a CLOSED port to SILENT and leaves any other as it is. PORT_CLOSE takes an open port to CLOSED, and a
liveness expiry an ATTACHED one to SILENT with PORT_SILENT raised: the liveness timer is stopped, the lists are emptied, the
WAITING DELIVER and PRESTAGE moves withdrawn, the EXECUTING DELIVER is marked for stand-down, and an OUT_WAIT nest lapses
quietly. PORT_CLOSE leaves a CLOSED port as it is, and a liveness expiry without a running timer has no effect. That an
expiry without its timer running has no effect is the model's choice (log entry 2) (R52, R53, R54). -/
def Obligations.PortOpensClosesAndFallsSilent : Prop :=
  (∀ (s : State) (tag : Byte) (p : Port),
    (∃ t : State, exec (.portOpen .service tag (some p.val)) s
        = .next (t.send (.request .service) (.answer tag FrameKind.portOpen.byte .ok .none))
      ∧ t = { s with ports := t.ports } ∧ (∀ q, q ≠ p → t.port q = s.port q)
      ∧ t.port p = (if (s.port p).state = .closed then { s.port p with state := .silent } else s.port p))
    ∧ ((s.port p).state = .closed → exec (.portClose .service tag (some p.val)) s
      = .next (s.send (.request .service) (.answer tag FrameKind.portClose.byte .ok .none)))
    ∧ ((s.port p).state ≠ .closed → ∃ (t u : State), exec (.portClose .service tag (some p.val)) s = .next t
      ∧ t = (u.settle s noTouch).send (.request .service) (.answer tag FrameKind.portClose.byte .ok .none)
      ∧ t.steady = (s.steady.updPort p (fun r => { r with state := .closed, livenessLeft := none })).setAhead p
          (s.aheadOf p).emptied
      ∧ (∀ m ∈ t.queue, m.beneficiary = some p → m.state = .waiting → m.kind ≠ .deliver ∧ m.kind ≠ .prestage)
      ∧ (∀ m ∈ u.queue, m.kind = .deliver → m.beneficiary = some p → m.standDown = true)
      ∧ u.toolNest p = (if s.toolNest p = .outWait then .outLapsed else s.toolNest p)))
  ∧ (∀ (s : State) (p : Port),
    ((s.port p).livenessLeft = none → exec (.livenessExpiry p) s = .next s)
    ∧ ((s.port p).state = .attached → (s.port p).livenessLeft ≠ none →
      ∃ u : State, exec (.livenessExpiry p) s = .next (u.settle s noTouch)
        ∧ u.steady = (s.steady.updPort p (fun r => { r with state := .silent, livenessLeft := none })).setAhead p
            (s.aheadOf p).emptied
        ∧ (∀ m ∈ u.queue, m.beneficiary = some p → m.state = .waiting → m.kind ≠ .deliver ∧ m.kind ≠ .prestage)
        ∧ (∀ m ∈ u.queue, m.kind = .deliver → m.beneficiary = some p → m.standDown = true)
        ∧ u.sent (.request (.tool p)) = s.sent (.request (.tool p))
        ∧ u.Raised .portSilent ⟨none, none, none, some p, none⟩
        ∧ u.prdy p = false
        ∧ (s.toolNest p ≠ .outWait → u.port p = { s.port p with state := .silent, livenessLeft := none })
        ∧ (∀ r, s.toolNest p = .outWait → s.recordAt (.nest (.t p)) = some r →
            u.toolNest p = .outLapsed ∧ (u.port p).window = none ∧ (u.port p).lapseDeferred = false
            ∧ ∃ m ∈ u.queue, m.seq = s.nextSeq ∧ m.kind = .reclaim ∧ m.source = .nest (.t p) ∧ m.reticle = some r.id)))

/-- COLLECT_WINDOW_EXPIRY lapses an OUT_WAIT nest at once, or is deferred while TBUSY is asserted. RETURN_WAIT_EXPIRY at a
RETURNED nest admits a COLLECT expecting any identifier, opens the late-return window and raises RETURN_UNREPORTED. With the
window timer not running in that use they have no effect. That an expiry without its timer running has no effect is the
model's choice (log entry 2) (R63, R64, R69). -/
def Obligations.WindowExpiriesActOnTheirNest : Prop :=
  ∀ (s : State) (p : Port),
    ((∀ n, (s.port p).window ≠ some ⟨.collect, n⟩) → exec (.collectWindowExpiry p) s = .next s)
    ∧ ((∀ n, (s.port p).window ≠ some ⟨.returnWait, n⟩) → exec (.returnWaitExpiry p) s = .next s)
    ∧ (∀ n, (s.port p).window = some ⟨.collect, n⟩ → s.toolNest p = .outWait →
      (s.tbusy p = true → exec (.collectWindowExpiry p) s
        = .next ((s.setPort p { s.port p with lapseDeferred := true, window := none }).settle s noTouch))
      ∧ (∀ r, s.tbusy p = false → s.recordAt (.nest (.t p)) = some r →
        ∃ u : State, exec (.collectWindowExpiry p) s = .next (u.settle s noTouch) ∧ s.Lapses u p r))
    ∧ (∀ n, (s.port p).window = some ⟨.returnWait, n⟩ → s.toolNest p = .returned →
      ∃ (u : State) (m : Move), exec (.returnWaitExpiry p) s = .next (u.settle s noTouch)
        ∧ u.steady = s.steady ∧ (u.port p).window = none ∧ (u.port p).lateOpen = true ∧ u.toolNest p = .returned
        ∧ u.queue = s.queue ++ [m] ∧ m.seq = s.nextSeq ∧ m.kind = .collect ∧ m.reticle = none ∧ m.pickTest = .anyAtTool
        ∧ m.source = .nest (.t p) ∧ m.beneficiary = some p ∧ m.requester = .internal
        ∧ u.Raised .returnUnreported ⟨none, none, some (.nest (.t p)), some p, none⟩)

/-- ACK clears an event kind, and a condition kind whose condition has ended; a condition kind that still holds only loses its
fresh flag; kinds not named, details, masks and the other link's set stand, and the answer carries the set as left (R212).
MASK replaces the mask of its link and changes no pending flag, no detail and not the other link's set; when it uncovers a
pending kind and the gap timer is idle, a NOTICE is sent before the answer and the gap timer starts; otherwise an uncovered
pending kind becomes fresh. ATTN_N is low exactly while the material link's set holds a kind pending and not masked. The
expiry of a running gap timer sends a NOTICE when some kind is pending, unmasked and fresh, carrying every kind pending and
unmasked in the order of the table with its detail, and starts the timer again; otherwise the timer becomes idle. That an
expiry without its timer running has no effect is the model's choice (log entry 2). That the NOTICE goes out before the answer
is the model's reading (log entry 13) (R212, R213, R214). -/
def Obligations.NoticeSetsFollowAckMaskAndGap : Prop :=
  (∀ s : State, s.attention = true ↔ ∃ k, ((s.noticeSet .material).entry k).pending = true
    ∧ ((s.noticeSet .material).entry k).masked = false)
  ∧ (∀ (s : State) (l : NoticeLink) (tag : Byte) (kinds : BitVec 16), ∃ t : State,
    exec (.ack (noticeLinkOf l) tag (some kinds)) s
      = .next (t.send (.request (noticeLinkOf l)) (.answer tag FrameKind.ack.byte .ok (.noticeSet
          (allNoticeKinds.map (fun k => ⟨((t.noticeSet l).entry k).pending, ((t.noticeSet l).entry k).masked,
            ((t.noticeSet l).entry k).detail⟩)))))
    ∧ t = s.setNoticeSet l (t.noticeSet l) ∧ (t.noticeSet l).gap = (s.noticeSet l).gap
    ∧ ∀ k, (t.noticeSet l).entry k =
        if kinds.getLsbD k.number.val = true then
          if s.conditionHolds k = true then { (s.noticeSet l).entry k with fresh := false }
          else { (s.noticeSet l).entry k with pending := false, fresh := false }
        else (s.noticeSet l).entry k)
  ∧ (∀ (s : State) (l : NoticeLink) (tag : Byte) (kinds : BitVec 16), ∃ t : State,
    exec (.mask (noticeLinkOf l) tag (some kinds)) s
      = .next (t.send (.request (noticeLinkOf l)) (.answer tag FrameKind.mask.byte .ok (.noticeSet
          (allNoticeKinds.map (fun k => ⟨((t.noticeSet l).entry k).pending, ((t.noticeSet l).entry k).masked,
            ((t.noticeSet l).entry k).detail⟩)))))
    ∧ (∀ k, ((t.noticeSet l).entry k).masked = kinds.getLsbD k.number.val
        ∧ ((t.noticeSet l).entry k).pending = ((s.noticeSet l).entry k).pending
        ∧ ((t.noticeSet l).entry k).detail = ((s.noticeSet l).entry k).detail)
    ∧ (∀ l', l' ≠ l → t.noticeSet l' = s.noticeSet l')
    ∧ (∀ uncovers : Prop, (uncovers ↔ ∃ k, ((s.noticeSet l).entry k).masked = true
          ∧ kinds.getLsbD k.number.val = false ∧ ((s.noticeSet l).entry k).pending = true) →
      (uncovers → (s.noticeSet l).gap = none →
        (t.noticeSet l).gap = some s.noticeGap
        ∧ ∃ items, t.sent (.request (noticeLinkOf l)) = s.sent (.request (noticeLinkOf l)) ++ [.notice items])
      ∧ (¬ uncovers ∨ (s.noticeSet l).gap ≠ none →
        (t.noticeSet l).gap = (s.noticeSet l).gap ∧ t.tx = s.tx
        ∧ ∀ k, ((s.noticeSet l).entry k).masked = true → kinds.getLsbD k.number.val = false →
            ((s.noticeSet l).entry k).pending = true → ((t.noticeSet l).entry k).fresh = true)))
  ∧ (∀ (s : State) (l : NoticeLink),
    ((s.noticeSet l).gap = none → exec (.gapTimerExpiry l) s = .next s)
    ∧ ((s.noticeSet l).gap ≠ none → (∀ k, ((s.noticeSet l).entry k).shown = true → ((s.noticeSet l).entry k).fresh = false) →
      exec (.gapTimerExpiry l) s = .next (s.setNoticeSet l { s.noticeSet l with gap := none }))
    ∧ ((s.noticeSet l).gap ≠ none →
      (∃ k, ((s.noticeSet l).entry k).shown = true ∧ ((s.noticeSet l).entry k).fresh = true) →
      ∃ (t : State) (items : List NoticeItem), exec (.gapTimerExpiry l) s = .next t
        ∧ t.sent (.request (noticeLinkOf l)) = s.sent (.request (noticeLinkOf l)) ++ [.notice items]
        ∧ items.map (·.kind) = allNoticeKinds.filter (fun k => ((s.noticeSet l).entry k).shown)
        ∧ (∀ i ∈ items, i.detail = ((s.noticeSet l).entry i.kind).detail
            ∧ i.fresh = ((s.noticeSet l).entry i.kind).fresh ∧ i.conditionHolds = s.conditionHolds i.kind)
        ∧ (t.noticeSet l).gap = some s.noticeGap
        ∧ (∀ k, (t.noticeSet l).entry k = (if ((s.noticeSet l).entry k).shown = true then
            { (s.noticeSet l).entry k with fresh := false } else (s.noticeSet l).entry k))
        ∧ t.steady = s.steady ∧ t.queue = s.queue ∧ t.handler = s.handler))

/-! ## Lines of the tool loaders -/

/-- TBUSY asserted only takes the level, and is a handoff violation when PFREE is low and the nest neither OUT_WAIT nor
BLOCKED: UNSANCTIONED is raised with the nest, code 1 and, with a record on the nest, its identifier, and nothing else
changes. TBUSY released decides the nest: at an EMPTY nest with a pod the put is complete, at OUT_WAIT without a pod the take
is complete, with one delivery counted and the DUE check made, at OUT_WAIT with a pod a deferred lapse happens; a DELIVER for
the port in CARRYING, at a nest that is not OUT_LAPSED, is sent its PLACE. In every other case but at an OUT_LAPSED nest
without a pod only the level is taken. That an edge to the level the line has already changes nothing is the model's choice
(log entry 9) (R58, R59, R61, R63, R153). -/
def Obligations.TbusyStartsAndDecidesHandoffs : Prop :=
  (∀ (s : State) (p : Port),
    (s.tbusy p = true → exec (.tbusyAsserted p) s = .next s)
    ∧ (s.tbusy p = false → ∀ violation : Prop,
      (violation ↔ s.pfree p = false ∧ s.toolNest p ≠ .outWait ∧ s.toolNest p ≠ .blocked) →
      (¬ violation → exec (.tbusyAsserted p) s = .next ((s.setTbusy p true).settle s noTouch))
      ∧ (violation → ∃ (u : State) (x : Option Ident), exec (.tbusyAsserted p) s = .next (u.settle s noTouch)
          ∧ u.tbusy p = true ∧ u.steady = (s.setTbusy p true).steady ∧ u.queue = s.queue ∧ u.handler = s.handler
          ∧ u.ports = s.ports
          ∧ u.Raised .unsanctioned ⟨x, none, some (.nest (.t p)), none, some 1⟩
          ∧ (∀ r, s.recordAt (.nest (.t p)) = some r → x = some r.id))))
  ∧ (∀ (s : State) (p : Port), s.CatalogueSound →
    (s.tbusy p = false → exec (.tbusyReleased p) s = .next s)
    ∧ (s.tbusy p = true →
      (∃ u : State, exec (.tbusyReleased p) s = .next (u.settle s noTouch) ∧ u.tbusy p = false
        ∧ (s.toolNest p = .empty → s.presT p = true → (s.setTbusy p false).TurnsReturned u p)
        ∧ (∀ r, s.toolNest p = .outWait → s.presT p = false → s.recordAt (.nest (.t p)) = some r →
            u.steady = (s.setTbusy p false).steady.updRecord r.id (fun x =>
              ({ x with location := .tool p, deliveries := satAdd x.deliveries 1 }).checked (s.limitsOf x))
            ∧ u.toolNest p = .empty ∧ u.prdy p = false ∧ (u.port p).window = none ∧ (u.port p).lapseDeferred = false
            ∧ u.queue = s.queue)
        ∧ (∀ r, s.toolNest p = .outWait → s.presT p = true → (s.port p).lapseDeferred = true →
            s.recordAt (.nest (.t p)) = some r → (s.setTbusy p false).Lapses u p r)
        ∧ (∀ m e x, s.handler.state = .carrying → s.toolNest p ≠ .outLapsed → s.handler.exec = some e → e.move = some m.seq → s.move? m.seq = some m →
            m.beneficiary = some p → m.target = .pos x →
            u.handler = { s.handler with
              state := .placing, timer := some s.handler.placeTimeout, orderNumber := s.handler.orderNumber + 1
              numberCurrent := true
              exec := some { e with phase := some .placing } }
            ∧ u.sent .handler = s.sent .handler ++ [.place (s.handler.orderNumber + 1) x]))
      ∧ (s.handler.state ≠ .carrying →
          (s.toolNest p = .empty ∧ s.presT p = false)
            ∨ (s.toolNest p = .outWait ∧ s.presT p = true ∧ (s.port p).lapseDeferred = false)
            ∨ (s.toolNest p = .outLapsed ∧ s.presT p = true) ∨ s.toolNest p = .inbound ∨ s.toolNest p = .returned ∨ s.toolNest p = .outbound ∨ s.toolNest p = .blocked →
          exec (.tbusyReleased p) s = .next ((s.setTbusy p false).settle s noTouch))))

/-- PRES_T going full with TBUSY released is a put without handshake at an EMPTY nest, raised as UNSANCTIONED. Going empty it
is an unsanctioned take at OUT_WAIT with TBUSY released and at OUT_LAPSED: the record at the tool in QUARANTINE, no delivery
counted, the WAITING RECLAIM withdrawn; at RETURNED the pod is lifted back with its WAITING COLLECT; a BLOCKED nest is EMPTY.
Otherwise only the level is taken. That an edge to the level the line has already changes nothing is the model's choice (log
entry 9). That UNSANCTIONED is raised at an INBOUND nest too is the model's reading (log entry 39) (R56, R58, R61, R62,
R66). -/
def Obligations.ToolPresenceChangesNest : Prop :=
  ∀ (s : State) (p : Port), s.CatalogueSound →
    (s.presT p = true → exec (.presTFull p) s = .next s)
    ∧ (s.presT p = false → exec (.presTEmpty p) s = .next s)
    ∧ (s.presT p = false →
      (s.tbusy p = true ∨ (s.toolNest p ≠ .empty ∧ s.toolNest p ≠ .inbound) →
        exec (.presTFull p) s = .next ((s.setPresT p true).settle s noTouch))
      ∧ (s.tbusy p = false → s.toolNest p = .empty ∨ s.toolNest p = .inbound →
        ∃ u : State, exec (.presTFull p) s = .next (u.settle s noTouch)
          ∧ u.Raised .unsanctioned ⟨none, none, some (.nest (.t p)), none, none⟩
          ∧ (s.toolNest p = .empty → (s.setPresT p true).TurnsReturned u p)
          ∧ (s.toolNest p = .inbound → u.toolNest p = .inbound ∧ u.queue = s.queue
              ∧ u.steady = (s.setPresT p true).steady)))
    ∧ (s.presT p = true →
      (s.toolNest p = .empty ∨ s.toolNest p = .inbound ∨ s.toolNest p = .outbound
          ∨ (s.toolNest p = .outWait ∧ s.tbusy p = true) →
        exec (.presTEmpty p) s = .next ((s.setPresT p false).settle s noTouch))
      ∧ (s.toolNest p = .blocked →
        exec (.presTEmpty p) s = .next (((s.setPresT p false).setToolNest p .empty).settle s noTouch))
      ∧ (∀ r, s.toolNest p = .outLapsed ∨ (s.toolNest p = .outWait ∧ s.tbusy p = false) →
        s.recordAt (.nest (.t p)) = some r →
        ∃ u : State, exec (.presTEmpty p) s = .next (u.settle s noTouch)
          ∧ u.steady = (s.setPresT p false).steady.updRecord r.id
              (fun x => { x with location := .tool p, condition := .quarantine })
          ∧ u.toolNest p = .empty ∧ (u.port p).window = none ∧ (u.port p).lapseDeferred = false
          ∧ (∀ m ∈ u.queue, m.kind = .reclaim → m.source = .nest (.t p) → m.state ≠ .waiting)
          ∧ u.Raised .unsanctioned ⟨some r.id, none, some (.nest (.t p)), none, none⟩)
      ∧ (s.toolNest p = .returned →
        ∃ u : State, exec (.presTEmpty p) s = .next (u.settle s noTouch)
          ∧ u.steady = (s.setPresT p false).steady ∧ u.toolNest p = .empty ∧ (u.port p).window = none
          ∧ (∀ m ∈ u.queue, m.kind = .collect → m.source = .nest (.t p) → m.state ≠ .waiting)
          ∧ u.Raised .unsanctioned ⟨none, none, some (.nest (.t p)), none, none⟩))

/-! ## Lines of the fab nests -/

/-- PRES_BI and PRES_IN: a pod at an EMPTY BI or IN makes it ARRIVED and admits its STOCK_IN or RESHELVE, unless one of that
kind is EXECUTING; a pod lifted off an ARRIVED nest takes that WAITING move with it. The inspection cell's take off an
AWAY_WAIT IN locates its record at INSPECTION, IRDY low and no notice raised. PRES_BO: a pod at an EMPTY BO makes it BLOCKED,
and NEST_BLOCKED is raised; the take off an AWAY_WAIT BO removes its record from the catalogue, drops BORDY and raises
EXPORTED with the identifier. A BLOCKED nest becomes EMPTY with its pod lifted off, and any other change only takes the level.
That an edge to the level the line has already changes nothing is the model's choice (log entry 9), and so is which of two
records located at a nest is taken (log entry 44); that a pod lifted off an ARRIVED nest leaves a record located at it where it
stands is the model's reading (log entry 49) (R22, R96, R102, R108, R109). -/
def Obligations.FabNestsFollowPresence : Prop :=
  (∀ (s full empty : State), full = { s with pins := { s.pins with presBi := true } } →
    empty = { s with pins := { s.pins with presBi := false } } →
    (s.pins.presBi = true → exec .presBiFull s = .next s)
    ∧ (s.pins.presBi = false → exec .presBiEmpty s = .next s)
    ∧ (s.pins.presBi = false →
      (s.bi ≠ .empty → exec .presBiFull s = .next (full.settle s noTouch))
      ∧ (s.bi = .empty → (∃ m ∈ s.queue, m.kind = .stockIn ∧ m.state = .executing) →
          exec .presBiFull s = .next (State.settle { full with bi := .arrived } s noTouch))
      ∧ (s.bi = .empty → (∀ m ∈ s.queue, ¬(m.kind = .stockIn ∧ m.state = .executing)) →
          ∃ (u : State) (m : Move), exec .presBiFull s = .next (u.settle s noTouch)
            ∧ u.steady = full.steady ∧ u.bi = .arrived ∧ u.queue = s.queue ++ [m] ∧ m.seq = s.nextSeq
            ∧ m.kind = .stockIn ∧ m.requester = .internal ∧ m.beneficiary = none ∧ m.reticle = none
            ∧ m.source = .nest .bi ∧ m.target = .toSelect ∧ m.state = .waiting))
    ∧ (s.pins.presBi = true →
      (s.bi = .empty ∨ s.bi = .outbound → exec .presBiEmpty s = .next (empty.settle s noTouch))
      ∧ (s.bi = .blocked → exec .presBiEmpty s = .next (State.settle { empty with bi := .empty } s noTouch))
      ∧ (s.bi = .arrived → ∃ u : State, exec .presBiEmpty s = .next (u.settle s noTouch)
          ∧ u.steady = empty.steady ∧ u.bi = .empty ∧ u.tx = s.tx
          ∧ ∀ m ∈ u.queue, m.kind = .stockIn → m.state ≠ .waiting)))
  ∧ (∀ (s full empty : State), full = { s with pins := { s.pins with presBo := true } } →
    empty = { s with pins := { s.pins with presBo := false } } →
    (s.pins.presBo = true → exec .presBoFull s = .next s)
    ∧ (s.pins.presBo = false → exec .presBoEmpty s = .next s)
    ∧ (s.pins.presBo = false →
      (s.bo ≠ .empty → exec .presBoFull s = .next (full.settle s noTouch))
      ∧ (s.bo = .empty → ∃ u : State, exec .presBoFull s = .next (u.settle s noTouch)
          ∧ u.steady = full.steady ∧ u.bo = .blocked ∧ u.queue = s.queue ∧ u.slots = s.slots
          ∧ u.Raised .nestBlocked ⟨none, none, some (.nest .bo), none, none⟩))
    ∧ (s.pins.presBo = true →
      (s.bo = .empty ∨ s.bo = .inbound → exec .presBoEmpty s = .next (empty.settle s noTouch))
      ∧ (s.bo = .blocked → exec .presBoEmpty s = .next (State.settle { empty with bo := .empty } s noTouch))
      ∧ (∀ r, s.bo = .awayWait → s.recordAt (.nest .bo) = some r →
        ∃ u : State, exec .presBoEmpty s = .next (u.settle s noTouch)
          ∧ u.catalogue = s.catalogue.filter (fun x => !decide (x.id = r.id)) ∧ u.record r.id = none
          ∧ u.bo = .empty ∧ u.bordy = false ∧ u.slots = s.slots ∧ u.queue = s.queue ∧ u.pins = empty.pins
          ∧ u.Raised .exported ⟨some r.id, none, some (.nest .bo), none, none⟩)))
  ∧ ∀ (s full empty : State), full = { s with pins := { s.pins with presIn := true } } →
    empty = { s with pins := { s.pins with presIn := false } } →
    (s.pins.presIn = true → exec .presInFull s = .next s)
    ∧ (s.pins.presIn = false → exec .presInEmpty s = .next s)
    ∧ (s.pins.presIn = false →
      (s.inn ≠ .empty → exec .presInFull s = .next (full.settle s noTouch))
      ∧ (s.inn = .empty → (∃ m ∈ s.queue, m.kind = .reshelve ∧ m.state = .executing) →
          exec .presInFull s = .next (State.settle { full with inn := .arrived } s noTouch))
      ∧ (s.inn = .empty → (∀ m ∈ s.queue, ¬(m.kind = .reshelve ∧ m.state = .executing)) →
          ∃ (u : State) (m : Move), exec .presInFull s = .next (u.settle s noTouch)
            ∧ u.steady = full.steady ∧ u.inn = .arrived ∧ u.queue = s.queue ++ [m] ∧ m.seq = s.nextSeq
            ∧ m.kind = .reshelve ∧ m.requester = .internal ∧ m.beneficiary = none ∧ m.reticle = none
            ∧ m.pickTest = .anyAtInspection ∧ m.source = .nest .inn ∧ m.target = .toSelect ∧ m.state = .waiting))
    ∧ (s.pins.presIn = true →
      (s.inn = .empty ∨ s.inn = .inbound ∨ s.inn = .outbound → exec .presInEmpty s = .next (empty.settle s noTouch))
      ∧ (s.inn = .blocked → exec .presInEmpty s = .next (State.settle { empty with inn := .empty } s noTouch))
      ∧ (s.inn = .arrived → ∃ u : State, exec .presInEmpty s = .next (u.settle s noTouch)
          ∧ u.steady = empty.steady ∧ u.inn = .empty ∧ u.tx = s.tx
          ∧ ∀ m ∈ u.queue, m.kind = .reshelve → m.state ≠ .waiting)
      ∧ (∀ r, s.inn = .awayWait → s.recordAt (.nest .inn) = some r →
        ∃ u : State, exec .presInEmpty s = .next (u.settle s noTouch)
          ∧ u.steady = empty.steady.updRecord r.id (fun x => { x with location := .inspection })
          ∧ u.inn = .empty ∧ u.irdy = false ∧ u.tx = s.tx ∧ u.queue = s.queue))
end

