-- ==== Sys2Proof/Laws/State.lean ====
section
/-! SUPPORT. One lemma for every field of the state and every named update, so that no proof unfolds an update. -/

namespace Sys2Proof.Machine

variable (s : State)

/-! ## setSlot -/

@[simp] theorem State.setSlot_clock (n : Slot) (e : SlotEntry) : (s.setSlot n e).clock = s.clock := rfl
@[simp] theorem State.setSlot_tickPhase (n : Slot) (e : SlotEntry) : (s.setSlot n e).tickPhase = s.tickPhase := rfl
@[simp] theorem State.setSlot_slots (n : Slot) (e : SlotEntry) : (s.setSlot n e).slots = s.slots.set n.val e n.isLt := rfl
@[simp] theorem State.setSlot_catalogue (n : Slot) (e : SlotEntry) : (s.setSlot n e).catalogue = s.catalogue := rfl
@[simp] theorem State.setSlot_zones (n : Slot) (e : SlotEntry) : (s.setSlot n e).zones = s.zones := rfl
@[simp] theorem State.setSlot_noSlot (n : Slot) (e : SlotEntry) : (s.setSlot n e).noSlot = s.noSlot := rfl
@[simp] theorem State.setSlot_ports (n : Slot) (e : SlotEntry) : (s.setSlot n e).ports = s.ports := rfl
@[simp] theorem State.setSlot_ahead (n : Slot) (e : SlotEntry) : (s.setSlot n e).ahead = s.ahead := rfl
@[simp] theorem State.setSlot_announcements (n : Slot) (e : SlotEntry) : (s.setSlot n e).announcements = s.announcements := rfl
@[simp] theorem State.setSlot_bi (n : Slot) (e : SlotEntry) : (s.setSlot n e).bi = s.bi := rfl
@[simp] theorem State.setSlot_bo (n : Slot) (e : SlotEntry) : (s.setSlot n e).bo = s.bo := rfl
@[simp] theorem State.setSlot_inn (n : Slot) (e : SlotEntry) : (s.setSlot n e).inn = s.inn := rfl
@[simp] theorem State.setSlot_queue (n : Slot) (e : SlotEntry) : (s.setSlot n e).queue = s.queue := rfl
@[simp] theorem State.setSlot_nextSeq (n : Slot) (e : SlotEntry) : (s.setSlot n e).nextSeq = s.nextSeq := rfl
@[simp] theorem State.setSlot_tenure (n : Slot) (e : SlotEntry) : (s.setSlot n e).tenure = s.tenure := rfl
@[simp] theorem State.setSlot_settings (n : Slot) (e : SlotEntry) : (s.setSlot n e).settings = s.settings := rfl
@[simp] theorem State.setSlot_handler (n : Slot) (e : SlotEntry) : (s.setSlot n e).handler = s.handler := rfl
@[simp] theorem State.setSlot_classes (n : Slot) (e : SlotEntry) : (s.setSlot n e).classes = s.classes := rfl
@[simp] theorem State.setSlot_intercepts (n : Slot) (e : SlotEntry) : (s.setSlot n e).intercepts = s.intercepts := rfl
@[simp] theorem State.setSlot_census (n : Slot) (e : SlotEntry) : (s.setSlot n e).census = s.census := rfl
@[simp] theorem State.setSlot_materialNotices (n : Slot) (e : SlotEntry) : (s.setSlot n e).materialNotices = s.materialNotices := rfl
@[simp] theorem State.setSlot_serviceNotices (n : Slot) (e : SlotEntry) : (s.setSlot n e).serviceNotices = s.serviceNotices := rfl
@[simp] theorem State.setSlot_noticeGap (n : Slot) (e : SlotEntry) : (s.setSlot n e).noticeGap = s.noticeGap := rfl
@[simp] theorem State.setSlot_pins (n : Slot) (e : SlotEntry) : (s.setSlot n e).pins = s.pins := rfl
@[simp] theorem State.setSlot_rx (n : Slot) (e : SlotEntry) : (s.setSlot n e).rx = s.rx := rfl
@[simp] theorem State.setSlot_tx (n : Slot) (e : SlotEntry) : (s.setSlot n e).tx = s.tx := rfl
@[simp] theorem State.setSlot_choices (n : Slot) (e : SlotEntry) : (s.setSlot n e).choices = s.choices := rfl
@[simp] theorem State.setSlot_pending (n : Slot) (e : SlotEntry) : (s.setSlot n e).pending = s.pending := rfl

/-! ## updRecord -/

@[simp] theorem State.updRecord_clock (id : Ident) (f : Rec → Rec) : (s.updRecord id f).clock = s.clock := rfl
@[simp] theorem State.updRecord_tickPhase (id : Ident) (f : Rec → Rec) : (s.updRecord id f).tickPhase = s.tickPhase := rfl
@[simp] theorem State.updRecord_slots (id : Ident) (f : Rec → Rec) : (s.updRecord id f).slots = s.slots := rfl
@[simp] theorem State.updRecord_catalogue (id : Ident) (f : Rec → Rec) : (s.updRecord id f).catalogue = s.catalogue.map (fun r => if r.id = id then f r else r) := rfl
@[simp] theorem State.updRecord_zones (id : Ident) (f : Rec → Rec) : (s.updRecord id f).zones = s.zones := rfl
@[simp] theorem State.updRecord_noSlot (id : Ident) (f : Rec → Rec) : (s.updRecord id f).noSlot = s.noSlot := rfl
@[simp] theorem State.updRecord_ports (id : Ident) (f : Rec → Rec) : (s.updRecord id f).ports = s.ports := rfl
@[simp] theorem State.updRecord_ahead (id : Ident) (f : Rec → Rec) : (s.updRecord id f).ahead = s.ahead := rfl
@[simp] theorem State.updRecord_announcements (id : Ident) (f : Rec → Rec) : (s.updRecord id f).announcements = s.announcements := rfl
@[simp] theorem State.updRecord_bi (id : Ident) (f : Rec → Rec) : (s.updRecord id f).bi = s.bi := rfl
@[simp] theorem State.updRecord_bo (id : Ident) (f : Rec → Rec) : (s.updRecord id f).bo = s.bo := rfl
@[simp] theorem State.updRecord_inn (id : Ident) (f : Rec → Rec) : (s.updRecord id f).inn = s.inn := rfl
@[simp] theorem State.updRecord_queue (id : Ident) (f : Rec → Rec) : (s.updRecord id f).queue = s.queue := rfl
@[simp] theorem State.updRecord_nextSeq (id : Ident) (f : Rec → Rec) : (s.updRecord id f).nextSeq = s.nextSeq := rfl
@[simp] theorem State.updRecord_tenure (id : Ident) (f : Rec → Rec) : (s.updRecord id f).tenure = s.tenure := rfl
@[simp] theorem State.updRecord_settings (id : Ident) (f : Rec → Rec) : (s.updRecord id f).settings = s.settings := rfl
@[simp] theorem State.updRecord_handler (id : Ident) (f : Rec → Rec) : (s.updRecord id f).handler = s.handler := rfl
@[simp] theorem State.updRecord_classes (id : Ident) (f : Rec → Rec) : (s.updRecord id f).classes = s.classes := rfl
@[simp] theorem State.updRecord_intercepts (id : Ident) (f : Rec → Rec) : (s.updRecord id f).intercepts = s.intercepts := rfl
@[simp] theorem State.updRecord_census (id : Ident) (f : Rec → Rec) : (s.updRecord id f).census = s.census := rfl
@[simp] theorem State.updRecord_materialNotices (id : Ident) (f : Rec → Rec) : (s.updRecord id f).materialNotices = s.materialNotices := rfl
@[simp] theorem State.updRecord_serviceNotices (id : Ident) (f : Rec → Rec) : (s.updRecord id f).serviceNotices = s.serviceNotices := rfl
@[simp] theorem State.updRecord_noticeGap (id : Ident) (f : Rec → Rec) : (s.updRecord id f).noticeGap = s.noticeGap := rfl
@[simp] theorem State.updRecord_pins (id : Ident) (f : Rec → Rec) : (s.updRecord id f).pins = s.pins := rfl
@[simp] theorem State.updRecord_rx (id : Ident) (f : Rec → Rec) : (s.updRecord id f).rx = s.rx := rfl
@[simp] theorem State.updRecord_tx (id : Ident) (f : Rec → Rec) : (s.updRecord id f).tx = s.tx := rfl
@[simp] theorem State.updRecord_choices (id : Ident) (f : Rec → Rec) : (s.updRecord id f).choices = s.choices := rfl
@[simp] theorem State.updRecord_pending (id : Ident) (f : Rec → Rec) : (s.updRecord id f).pending = s.pending := rfl

/-! ## setPort -/

@[simp] theorem State.setPort_clock (p : Port) (r : PortRec) : (s.setPort p r).clock = s.clock := rfl
@[simp] theorem State.setPort_tickPhase (p : Port) (r : PortRec) : (s.setPort p r).tickPhase = s.tickPhase := rfl
@[simp] theorem State.setPort_slots (p : Port) (r : PortRec) : (s.setPort p r).slots = s.slots := rfl
@[simp] theorem State.setPort_catalogue (p : Port) (r : PortRec) : (s.setPort p r).catalogue = s.catalogue := rfl
@[simp] theorem State.setPort_zones (p : Port) (r : PortRec) : (s.setPort p r).zones = s.zones := rfl
@[simp] theorem State.setPort_noSlot (p : Port) (r : PortRec) : (s.setPort p r).noSlot = s.noSlot := rfl
@[simp] theorem State.setPort_ports (p : Port) (r : PortRec) : (s.setPort p r).ports = s.ports.set p.val r p.isLt := rfl
@[simp] theorem State.setPort_ahead (p : Port) (r : PortRec) : (s.setPort p r).ahead = s.ahead := rfl
@[simp] theorem State.setPort_announcements (p : Port) (r : PortRec) : (s.setPort p r).announcements = s.announcements := rfl
@[simp] theorem State.setPort_bi (p : Port) (r : PortRec) : (s.setPort p r).bi = s.bi := rfl
@[simp] theorem State.setPort_bo (p : Port) (r : PortRec) : (s.setPort p r).bo = s.bo := rfl
@[simp] theorem State.setPort_inn (p : Port) (r : PortRec) : (s.setPort p r).inn = s.inn := rfl
@[simp] theorem State.setPort_queue (p : Port) (r : PortRec) : (s.setPort p r).queue = s.queue := rfl
@[simp] theorem State.setPort_nextSeq (p : Port) (r : PortRec) : (s.setPort p r).nextSeq = s.nextSeq := rfl
@[simp] theorem State.setPort_tenure (p : Port) (r : PortRec) : (s.setPort p r).tenure = s.tenure := rfl
@[simp] theorem State.setPort_settings (p : Port) (r : PortRec) : (s.setPort p r).settings = s.settings := rfl
@[simp] theorem State.setPort_handler (p : Port) (r : PortRec) : (s.setPort p r).handler = s.handler := rfl
@[simp] theorem State.setPort_classes (p : Port) (r : PortRec) : (s.setPort p r).classes = s.classes := rfl
@[simp] theorem State.setPort_intercepts (p : Port) (r : PortRec) : (s.setPort p r).intercepts = s.intercepts := rfl
@[simp] theorem State.setPort_census (p : Port) (r : PortRec) : (s.setPort p r).census = s.census := rfl
@[simp] theorem State.setPort_materialNotices (p : Port) (r : PortRec) : (s.setPort p r).materialNotices = s.materialNotices := rfl
@[simp] theorem State.setPort_serviceNotices (p : Port) (r : PortRec) : (s.setPort p r).serviceNotices = s.serviceNotices := rfl
@[simp] theorem State.setPort_noticeGap (p : Port) (r : PortRec) : (s.setPort p r).noticeGap = s.noticeGap := rfl
@[simp] theorem State.setPort_pins (p : Port) (r : PortRec) : (s.setPort p r).pins = s.pins := rfl
@[simp] theorem State.setPort_rx (p : Port) (r : PortRec) : (s.setPort p r).rx = s.rx := rfl
@[simp] theorem State.setPort_tx (p : Port) (r : PortRec) : (s.setPort p r).tx = s.tx := rfl
@[simp] theorem State.setPort_choices (p : Port) (r : PortRec) : (s.setPort p r).choices = s.choices := rfl
@[simp] theorem State.setPort_pending (p : Port) (r : PortRec) : (s.setPort p r).pending = s.pending := rfl

/-! ## updPort -/

@[simp] theorem State.updPort_clock (p : Port) (f : PortRec → PortRec) : (s.updPort p f).clock = s.clock := rfl
@[simp] theorem State.updPort_tickPhase (p : Port) (f : PortRec → PortRec) : (s.updPort p f).tickPhase = s.tickPhase := rfl
@[simp] theorem State.updPort_slots (p : Port) (f : PortRec → PortRec) : (s.updPort p f).slots = s.slots := rfl
@[simp] theorem State.updPort_catalogue (p : Port) (f : PortRec → PortRec) : (s.updPort p f).catalogue = s.catalogue := rfl
@[simp] theorem State.updPort_zones (p : Port) (f : PortRec → PortRec) : (s.updPort p f).zones = s.zones := rfl
@[simp] theorem State.updPort_noSlot (p : Port) (f : PortRec → PortRec) : (s.updPort p f).noSlot = s.noSlot := rfl
@[simp] theorem State.updPort_ports (p : Port) (f : PortRec → PortRec) : (s.updPort p f).ports = s.ports.set p.val (f (s.port p)) p.isLt := rfl
@[simp] theorem State.updPort_ahead (p : Port) (f : PortRec → PortRec) : (s.updPort p f).ahead = s.ahead := rfl
@[simp] theorem State.updPort_announcements (p : Port) (f : PortRec → PortRec) : (s.updPort p f).announcements = s.announcements := rfl
@[simp] theorem State.updPort_bi (p : Port) (f : PortRec → PortRec) : (s.updPort p f).bi = s.bi := rfl
@[simp] theorem State.updPort_bo (p : Port) (f : PortRec → PortRec) : (s.updPort p f).bo = s.bo := rfl
@[simp] theorem State.updPort_inn (p : Port) (f : PortRec → PortRec) : (s.updPort p f).inn = s.inn := rfl
@[simp] theorem State.updPort_queue (p : Port) (f : PortRec → PortRec) : (s.updPort p f).queue = s.queue := rfl
@[simp] theorem State.updPort_nextSeq (p : Port) (f : PortRec → PortRec) : (s.updPort p f).nextSeq = s.nextSeq := rfl
@[simp] theorem State.updPort_tenure (p : Port) (f : PortRec → PortRec) : (s.updPort p f).tenure = s.tenure := rfl
@[simp] theorem State.updPort_settings (p : Port) (f : PortRec → PortRec) : (s.updPort p f).settings = s.settings := rfl
@[simp] theorem State.updPort_handler (p : Port) (f : PortRec → PortRec) : (s.updPort p f).handler = s.handler := rfl
@[simp] theorem State.updPort_classes (p : Port) (f : PortRec → PortRec) : (s.updPort p f).classes = s.classes := rfl
@[simp] theorem State.updPort_intercepts (p : Port) (f : PortRec → PortRec) : (s.updPort p f).intercepts = s.intercepts := rfl
@[simp] theorem State.updPort_census (p : Port) (f : PortRec → PortRec) : (s.updPort p f).census = s.census := rfl
@[simp] theorem State.updPort_materialNotices (p : Port) (f : PortRec → PortRec) : (s.updPort p f).materialNotices = s.materialNotices := rfl
@[simp] theorem State.updPort_serviceNotices (p : Port) (f : PortRec → PortRec) : (s.updPort p f).serviceNotices = s.serviceNotices := rfl
@[simp] theorem State.updPort_noticeGap (p : Port) (f : PortRec → PortRec) : (s.updPort p f).noticeGap = s.noticeGap := rfl
@[simp] theorem State.updPort_pins (p : Port) (f : PortRec → PortRec) : (s.updPort p f).pins = s.pins := rfl
@[simp] theorem State.updPort_rx (p : Port) (f : PortRec → PortRec) : (s.updPort p f).rx = s.rx := rfl
@[simp] theorem State.updPort_tx (p : Port) (f : PortRec → PortRec) : (s.updPort p f).tx = s.tx := rfl
@[simp] theorem State.updPort_choices (p : Port) (f : PortRec → PortRec) : (s.updPort p f).choices = s.choices := rfl
@[simp] theorem State.updPort_pending (p : Port) (f : PortRec → PortRec) : (s.updPort p f).pending = s.pending := rfl

/-! ## setToolNest -/

@[simp] theorem State.setToolNest_clock (p : Port) (x : ToolNest) : (s.setToolNest p x).clock = s.clock := rfl
@[simp] theorem State.setToolNest_tickPhase (p : Port) (x : ToolNest) : (s.setToolNest p x).tickPhase = s.tickPhase := rfl
@[simp] theorem State.setToolNest_slots (p : Port) (x : ToolNest) : (s.setToolNest p x).slots = s.slots := rfl
@[simp] theorem State.setToolNest_catalogue (p : Port) (x : ToolNest) : (s.setToolNest p x).catalogue = s.catalogue := rfl
@[simp] theorem State.setToolNest_zones (p : Port) (x : ToolNest) : (s.setToolNest p x).zones = s.zones := rfl
@[simp] theorem State.setToolNest_noSlot (p : Port) (x : ToolNest) : (s.setToolNest p x).noSlot = s.noSlot := rfl
@[simp] theorem State.setToolNest_ports (p : Port) (x : ToolNest) : (s.setToolNest p x).ports = s.ports.set p.val { s.port p with nest := x } p.isLt := rfl
@[simp] theorem State.setToolNest_ahead (p : Port) (x : ToolNest) : (s.setToolNest p x).ahead = s.ahead := rfl
@[simp] theorem State.setToolNest_announcements (p : Port) (x : ToolNest) : (s.setToolNest p x).announcements = s.announcements := rfl
@[simp] theorem State.setToolNest_bi (p : Port) (x : ToolNest) : (s.setToolNest p x).bi = s.bi := rfl
@[simp] theorem State.setToolNest_bo (p : Port) (x : ToolNest) : (s.setToolNest p x).bo = s.bo := rfl
@[simp] theorem State.setToolNest_inn (p : Port) (x : ToolNest) : (s.setToolNest p x).inn = s.inn := rfl
@[simp] theorem State.setToolNest_queue (p : Port) (x : ToolNest) : (s.setToolNest p x).queue = s.queue := rfl
@[simp] theorem State.setToolNest_nextSeq (p : Port) (x : ToolNest) : (s.setToolNest p x).nextSeq = s.nextSeq := rfl
@[simp] theorem State.setToolNest_tenure (p : Port) (x : ToolNest) : (s.setToolNest p x).tenure = s.tenure := rfl
@[simp] theorem State.setToolNest_settings (p : Port) (x : ToolNest) : (s.setToolNest p x).settings = s.settings := rfl
@[simp] theorem State.setToolNest_handler (p : Port) (x : ToolNest) : (s.setToolNest p x).handler = s.handler := rfl
@[simp] theorem State.setToolNest_classes (p : Port) (x : ToolNest) : (s.setToolNest p x).classes = s.classes := rfl
@[simp] theorem State.setToolNest_intercepts (p : Port) (x : ToolNest) : (s.setToolNest p x).intercepts = s.intercepts := rfl
@[simp] theorem State.setToolNest_census (p : Port) (x : ToolNest) : (s.setToolNest p x).census = s.census := rfl
@[simp] theorem State.setToolNest_materialNotices (p : Port) (x : ToolNest) : (s.setToolNest p x).materialNotices = s.materialNotices := rfl
@[simp] theorem State.setToolNest_serviceNotices (p : Port) (x : ToolNest) : (s.setToolNest p x).serviceNotices = s.serviceNotices := rfl
@[simp] theorem State.setToolNest_noticeGap (p : Port) (x : ToolNest) : (s.setToolNest p x).noticeGap = s.noticeGap := rfl
@[simp] theorem State.setToolNest_pins (p : Port) (x : ToolNest) : (s.setToolNest p x).pins = s.pins := rfl
@[simp] theorem State.setToolNest_rx (p : Port) (x : ToolNest) : (s.setToolNest p x).rx = s.rx := rfl
@[simp] theorem State.setToolNest_tx (p : Port) (x : ToolNest) : (s.setToolNest p x).tx = s.tx := rfl
@[simp] theorem State.setToolNest_choices (p : Port) (x : ToolNest) : (s.setToolNest p x).choices = s.choices := rfl
@[simp] theorem State.setToolNest_pending (p : Port) (x : ToolNest) : (s.setToolNest p x).pending = s.pending := rfl

/-! ## setTbusy -/

@[simp] theorem State.setTbusy_clock (p : Port) (v : Bool) : (s.setTbusy p v).clock = s.clock := rfl
@[simp] theorem State.setTbusy_tickPhase (p : Port) (v : Bool) : (s.setTbusy p v).tickPhase = s.tickPhase := rfl
@[simp] theorem State.setTbusy_slots (p : Port) (v : Bool) : (s.setTbusy p v).slots = s.slots := rfl
@[simp] theorem State.setTbusy_catalogue (p : Port) (v : Bool) : (s.setTbusy p v).catalogue = s.catalogue := rfl
@[simp] theorem State.setTbusy_zones (p : Port) (v : Bool) : (s.setTbusy p v).zones = s.zones := rfl
@[simp] theorem State.setTbusy_noSlot (p : Port) (v : Bool) : (s.setTbusy p v).noSlot = s.noSlot := rfl
@[simp] theorem State.setTbusy_ports (p : Port) (v : Bool) : (s.setTbusy p v).ports = s.ports := rfl
@[simp] theorem State.setTbusy_ahead (p : Port) (v : Bool) : (s.setTbusy p v).ahead = s.ahead := rfl
@[simp] theorem State.setTbusy_announcements (p : Port) (v : Bool) : (s.setTbusy p v).announcements = s.announcements := rfl
@[simp] theorem State.setTbusy_bi (p : Port) (v : Bool) : (s.setTbusy p v).bi = s.bi := rfl
@[simp] theorem State.setTbusy_bo (p : Port) (v : Bool) : (s.setTbusy p v).bo = s.bo := rfl
@[simp] theorem State.setTbusy_inn (p : Port) (v : Bool) : (s.setTbusy p v).inn = s.inn := rfl
@[simp] theorem State.setTbusy_queue (p : Port) (v : Bool) : (s.setTbusy p v).queue = s.queue := rfl
@[simp] theorem State.setTbusy_nextSeq (p : Port) (v : Bool) : (s.setTbusy p v).nextSeq = s.nextSeq := rfl
@[simp] theorem State.setTbusy_tenure (p : Port) (v : Bool) : (s.setTbusy p v).tenure = s.tenure := rfl
@[simp] theorem State.setTbusy_settings (p : Port) (v : Bool) : (s.setTbusy p v).settings = s.settings := rfl
@[simp] theorem State.setTbusy_handler (p : Port) (v : Bool) : (s.setTbusy p v).handler = s.handler := rfl
@[simp] theorem State.setTbusy_classes (p : Port) (v : Bool) : (s.setTbusy p v).classes = s.classes := rfl
@[simp] theorem State.setTbusy_intercepts (p : Port) (v : Bool) : (s.setTbusy p v).intercepts = s.intercepts := rfl
@[simp] theorem State.setTbusy_census (p : Port) (v : Bool) : (s.setTbusy p v).census = s.census := rfl
@[simp] theorem State.setTbusy_materialNotices (p : Port) (v : Bool) : (s.setTbusy p v).materialNotices = s.materialNotices := rfl
@[simp] theorem State.setTbusy_serviceNotices (p : Port) (v : Bool) : (s.setTbusy p v).serviceNotices = s.serviceNotices := rfl
@[simp] theorem State.setTbusy_noticeGap (p : Port) (v : Bool) : (s.setTbusy p v).noticeGap = s.noticeGap := rfl
@[simp] theorem State.setTbusy_pins (p : Port) (v : Bool) : (s.setTbusy p v).pins = { s.pins with tbusy := s.pins.tbusy.set p.val v p.isLt, putT := s.pins.putT.set p.val false p.isLt } := rfl
@[simp] theorem State.setTbusy_rx (p : Port) (v : Bool) : (s.setTbusy p v).rx = s.rx := rfl
@[simp] theorem State.setTbusy_tx (p : Port) (v : Bool) : (s.setTbusy p v).tx = s.tx := rfl
@[simp] theorem State.setTbusy_choices (p : Port) (v : Bool) : (s.setTbusy p v).choices = s.choices := rfl
@[simp] theorem State.setTbusy_pending (p : Port) (v : Bool) : (s.setTbusy p v).pending = s.pending := rfl

/-! ## setPresT -/

@[simp] theorem State.setPresT_clock (p : Port) (v : Bool) : (s.setPresT p v).clock = s.clock := rfl
@[simp] theorem State.setPresT_tickPhase (p : Port) (v : Bool) : (s.setPresT p v).tickPhase = s.tickPhase := rfl
@[simp] theorem State.setPresT_slots (p : Port) (v : Bool) : (s.setPresT p v).slots = s.slots := rfl
@[simp] theorem State.setPresT_catalogue (p : Port) (v : Bool) : (s.setPresT p v).catalogue = s.catalogue := rfl
@[simp] theorem State.setPresT_zones (p : Port) (v : Bool) : (s.setPresT p v).zones = s.zones := rfl
@[simp] theorem State.setPresT_noSlot (p : Port) (v : Bool) : (s.setPresT p v).noSlot = s.noSlot := rfl
@[simp] theorem State.setPresT_ports (p : Port) (v : Bool) : (s.setPresT p v).ports = s.ports := rfl
@[simp] theorem State.setPresT_ahead (p : Port) (v : Bool) : (s.setPresT p v).ahead = s.ahead := rfl
@[simp] theorem State.setPresT_announcements (p : Port) (v : Bool) : (s.setPresT p v).announcements = s.announcements := rfl
@[simp] theorem State.setPresT_bi (p : Port) (v : Bool) : (s.setPresT p v).bi = s.bi := rfl
@[simp] theorem State.setPresT_bo (p : Port) (v : Bool) : (s.setPresT p v).bo = s.bo := rfl
@[simp] theorem State.setPresT_inn (p : Port) (v : Bool) : (s.setPresT p v).inn = s.inn := rfl
@[simp] theorem State.setPresT_queue (p : Port) (v : Bool) : (s.setPresT p v).queue = s.queue := rfl
@[simp] theorem State.setPresT_nextSeq (p : Port) (v : Bool) : (s.setPresT p v).nextSeq = s.nextSeq := rfl
@[simp] theorem State.setPresT_tenure (p : Port) (v : Bool) : (s.setPresT p v).tenure = s.tenure := rfl
@[simp] theorem State.setPresT_settings (p : Port) (v : Bool) : (s.setPresT p v).settings = s.settings := rfl
@[simp] theorem State.setPresT_handler (p : Port) (v : Bool) : (s.setPresT p v).handler = s.handler := rfl
@[simp] theorem State.setPresT_classes (p : Port) (v : Bool) : (s.setPresT p v).classes = s.classes := rfl
@[simp] theorem State.setPresT_intercepts (p : Port) (v : Bool) : (s.setPresT p v).intercepts = s.intercepts := rfl
@[simp] theorem State.setPresT_census (p : Port) (v : Bool) : (s.setPresT p v).census = s.census := rfl
@[simp] theorem State.setPresT_materialNotices (p : Port) (v : Bool) : (s.setPresT p v).materialNotices = s.materialNotices := rfl
@[simp] theorem State.setPresT_serviceNotices (p : Port) (v : Bool) : (s.setPresT p v).serviceNotices = s.serviceNotices := rfl
@[simp] theorem State.setPresT_noticeGap (p : Port) (v : Bool) : (s.setPresT p v).noticeGap = s.noticeGap := rfl
@[simp] theorem State.setPresT_pins (p : Port) (v : Bool) : (s.setPresT p v).pins = { s.pins with presT := s.pins.presT.set p.val v p.isLt, putT := s.pins.putT.set p.val (v && s.tbusy p && decide (s.toolNest p = .empty)) p.isLt } := rfl
@[simp] theorem State.setPresT_rx (p : Port) (v : Bool) : (s.setPresT p v).rx = s.rx := rfl
@[simp] theorem State.setPresT_tx (p : Port) (v : Bool) : (s.setPresT p v).tx = s.tx := rfl
@[simp] theorem State.setPresT_choices (p : Port) (v : Bool) : (s.setPresT p v).choices = s.choices := rfl
@[simp] theorem State.setPresT_pending (p : Port) (v : Bool) : (s.setPresT p v).pending = s.pending := rfl

/-! ## setAhead -/

@[simp] theorem State.setAhead_clock (p : Port) (a : CallAhead) : (s.setAhead p a).clock = s.clock := rfl
@[simp] theorem State.setAhead_tickPhase (p : Port) (a : CallAhead) : (s.setAhead p a).tickPhase = s.tickPhase := rfl
@[simp] theorem State.setAhead_slots (p : Port) (a : CallAhead) : (s.setAhead p a).slots = s.slots := rfl
@[simp] theorem State.setAhead_catalogue (p : Port) (a : CallAhead) : (s.setAhead p a).catalogue = s.catalogue := rfl
@[simp] theorem State.setAhead_zones (p : Port) (a : CallAhead) : (s.setAhead p a).zones = s.zones := rfl
@[simp] theorem State.setAhead_noSlot (p : Port) (a : CallAhead) : (s.setAhead p a).noSlot = s.noSlot := rfl
@[simp] theorem State.setAhead_ports (p : Port) (a : CallAhead) : (s.setAhead p a).ports = s.ports := rfl
@[simp] theorem State.setAhead_ahead (p : Port) (a : CallAhead) : (s.setAhead p a).ahead = s.ahead.set p.val a p.isLt := rfl
@[simp] theorem State.setAhead_announcements (p : Port) (a : CallAhead) : (s.setAhead p a).announcements = s.announcements := rfl
@[simp] theorem State.setAhead_bi (p : Port) (a : CallAhead) : (s.setAhead p a).bi = s.bi := rfl
@[simp] theorem State.setAhead_bo (p : Port) (a : CallAhead) : (s.setAhead p a).bo = s.bo := rfl
@[simp] theorem State.setAhead_inn (p : Port) (a : CallAhead) : (s.setAhead p a).inn = s.inn := rfl
@[simp] theorem State.setAhead_queue (p : Port) (a : CallAhead) : (s.setAhead p a).queue = s.queue := rfl
@[simp] theorem State.setAhead_nextSeq (p : Port) (a : CallAhead) : (s.setAhead p a).nextSeq = s.nextSeq := rfl
@[simp] theorem State.setAhead_tenure (p : Port) (a : CallAhead) : (s.setAhead p a).tenure = s.tenure := rfl
@[simp] theorem State.setAhead_settings (p : Port) (a : CallAhead) : (s.setAhead p a).settings = s.settings := rfl
@[simp] theorem State.setAhead_handler (p : Port) (a : CallAhead) : (s.setAhead p a).handler = s.handler := rfl
@[simp] theorem State.setAhead_classes (p : Port) (a : CallAhead) : (s.setAhead p a).classes = s.classes := rfl
@[simp] theorem State.setAhead_intercepts (p : Port) (a : CallAhead) : (s.setAhead p a).intercepts = s.intercepts := rfl
@[simp] theorem State.setAhead_census (p : Port) (a : CallAhead) : (s.setAhead p a).census = s.census := rfl
@[simp] theorem State.setAhead_materialNotices (p : Port) (a : CallAhead) : (s.setAhead p a).materialNotices = s.materialNotices := rfl
@[simp] theorem State.setAhead_serviceNotices (p : Port) (a : CallAhead) : (s.setAhead p a).serviceNotices = s.serviceNotices := rfl
@[simp] theorem State.setAhead_noticeGap (p : Port) (a : CallAhead) : (s.setAhead p a).noticeGap = s.noticeGap := rfl
@[simp] theorem State.setAhead_pins (p : Port) (a : CallAhead) : (s.setAhead p a).pins = s.pins := rfl
@[simp] theorem State.setAhead_rx (p : Port) (a : CallAhead) : (s.setAhead p a).rx = s.rx := rfl
@[simp] theorem State.setAhead_tx (p : Port) (a : CallAhead) : (s.setAhead p a).tx = s.tx := rfl
@[simp] theorem State.setAhead_choices (p : Port) (a : CallAhead) : (s.setAhead p a).choices = s.choices := rfl
@[simp] theorem State.setAhead_pending (p : Port) (a : CallAhead) : (s.setAhead p a).pending = s.pending := rfl

/-! ## updMove -/

@[simp] theorem State.updMove_clock (q : Seq) (f : Move → Move) : (s.updMove q f).clock = s.clock := rfl
@[simp] theorem State.updMove_tickPhase (q : Seq) (f : Move → Move) : (s.updMove q f).tickPhase = s.tickPhase := rfl
@[simp] theorem State.updMove_slots (q : Seq) (f : Move → Move) : (s.updMove q f).slots = s.slots := rfl
@[simp] theorem State.updMove_catalogue (q : Seq) (f : Move → Move) : (s.updMove q f).catalogue = s.catalogue := rfl
@[simp] theorem State.updMove_zones (q : Seq) (f : Move → Move) : (s.updMove q f).zones = s.zones := rfl
@[simp] theorem State.updMove_noSlot (q : Seq) (f : Move → Move) : (s.updMove q f).noSlot = s.noSlot := rfl
@[simp] theorem State.updMove_ports (q : Seq) (f : Move → Move) : (s.updMove q f).ports = s.ports := rfl
@[simp] theorem State.updMove_ahead (q : Seq) (f : Move → Move) : (s.updMove q f).ahead = s.ahead := rfl
@[simp] theorem State.updMove_announcements (q : Seq) (f : Move → Move) : (s.updMove q f).announcements = s.announcements := rfl
@[simp] theorem State.updMove_bi (q : Seq) (f : Move → Move) : (s.updMove q f).bi = s.bi := rfl
@[simp] theorem State.updMove_bo (q : Seq) (f : Move → Move) : (s.updMove q f).bo = s.bo := rfl
@[simp] theorem State.updMove_inn (q : Seq) (f : Move → Move) : (s.updMove q f).inn = s.inn := rfl
@[simp] theorem State.updMove_queue (q : Seq) (f : Move → Move) : (s.updMove q f).queue = s.queue.map (fun m => if m.seq = q then f m else m) := rfl
@[simp] theorem State.updMove_nextSeq (q : Seq) (f : Move → Move) : (s.updMove q f).nextSeq = s.nextSeq := rfl
@[simp] theorem State.updMove_tenure (q : Seq) (f : Move → Move) : (s.updMove q f).tenure = s.tenure := rfl
@[simp] theorem State.updMove_settings (q : Seq) (f : Move → Move) : (s.updMove q f).settings = s.settings := rfl
@[simp] theorem State.updMove_handler (q : Seq) (f : Move → Move) : (s.updMove q f).handler = s.handler := rfl
@[simp] theorem State.updMove_classes (q : Seq) (f : Move → Move) : (s.updMove q f).classes = s.classes := rfl
@[simp] theorem State.updMove_intercepts (q : Seq) (f : Move → Move) : (s.updMove q f).intercepts = s.intercepts := rfl
@[simp] theorem State.updMove_census (q : Seq) (f : Move → Move) : (s.updMove q f).census = s.census := rfl
@[simp] theorem State.updMove_materialNotices (q : Seq) (f : Move → Move) : (s.updMove q f).materialNotices = s.materialNotices := rfl
@[simp] theorem State.updMove_serviceNotices (q : Seq) (f : Move → Move) : (s.updMove q f).serviceNotices = s.serviceNotices := rfl
@[simp] theorem State.updMove_noticeGap (q : Seq) (f : Move → Move) : (s.updMove q f).noticeGap = s.noticeGap := rfl
@[simp] theorem State.updMove_pins (q : Seq) (f : Move → Move) : (s.updMove q f).pins = s.pins := rfl
@[simp] theorem State.updMove_rx (q : Seq) (f : Move → Move) : (s.updMove q f).rx = s.rx := rfl
@[simp] theorem State.updMove_tx (q : Seq) (f : Move → Move) : (s.updMove q f).tx = s.tx := rfl
@[simp] theorem State.updMove_choices (q : Seq) (f : Move → Move) : (s.updMove q f).choices = s.choices := rfl
@[simp] theorem State.updMove_pending (q : Seq) (f : Move → Move) : (s.updMove q f).pending = s.pending := rfl

/-! ## bind -/

@[simp] theorem State.bind_clock (id : Ident) (q : Seq) : (s.bind id q).clock = s.clock := rfl
@[simp] theorem State.bind_tickPhase (id : Ident) (q : Seq) : (s.bind id q).tickPhase = s.tickPhase := rfl
@[simp] theorem State.bind_slots (id : Ident) (q : Seq) : (s.bind id q).slots = s.slots := rfl
@[simp] theorem State.bind_catalogue (id : Ident) (q : Seq) : (s.bind id q).catalogue = s.catalogue.map (fun r => if r.id = id then { r with binding := some q } else r) := rfl
@[simp] theorem State.bind_zones (id : Ident) (q : Seq) : (s.bind id q).zones = s.zones := rfl
@[simp] theorem State.bind_noSlot (id : Ident) (q : Seq) : (s.bind id q).noSlot = s.noSlot := rfl
@[simp] theorem State.bind_ports (id : Ident) (q : Seq) : (s.bind id q).ports = s.ports := rfl
@[simp] theorem State.bind_ahead (id : Ident) (q : Seq) : (s.bind id q).ahead = s.ahead := rfl
@[simp] theorem State.bind_announcements (id : Ident) (q : Seq) : (s.bind id q).announcements = s.announcements := rfl
@[simp] theorem State.bind_bi (id : Ident) (q : Seq) : (s.bind id q).bi = s.bi := rfl
@[simp] theorem State.bind_bo (id : Ident) (q : Seq) : (s.bind id q).bo = s.bo := rfl
@[simp] theorem State.bind_inn (id : Ident) (q : Seq) : (s.bind id q).inn = s.inn := rfl
@[simp] theorem State.bind_queue (id : Ident) (q : Seq) : (s.bind id q).queue = s.queue := rfl
@[simp] theorem State.bind_nextSeq (id : Ident) (q : Seq) : (s.bind id q).nextSeq = s.nextSeq := rfl
@[simp] theorem State.bind_tenure (id : Ident) (q : Seq) : (s.bind id q).tenure = s.tenure := rfl
@[simp] theorem State.bind_settings (id : Ident) (q : Seq) : (s.bind id q).settings = s.settings := rfl
@[simp] theorem State.bind_handler (id : Ident) (q : Seq) : (s.bind id q).handler = s.handler := rfl
@[simp] theorem State.bind_classes (id : Ident) (q : Seq) : (s.bind id q).classes = s.classes := rfl
@[simp] theorem State.bind_intercepts (id : Ident) (q : Seq) : (s.bind id q).intercepts = s.intercepts := rfl
@[simp] theorem State.bind_census (id : Ident) (q : Seq) : (s.bind id q).census = s.census := rfl
@[simp] theorem State.bind_materialNotices (id : Ident) (q : Seq) : (s.bind id q).materialNotices = s.materialNotices := rfl
@[simp] theorem State.bind_serviceNotices (id : Ident) (q : Seq) : (s.bind id q).serviceNotices = s.serviceNotices := rfl
@[simp] theorem State.bind_noticeGap (id : Ident) (q : Seq) : (s.bind id q).noticeGap = s.noticeGap := rfl
@[simp] theorem State.bind_pins (id : Ident) (q : Seq) : (s.bind id q).pins = s.pins := rfl
@[simp] theorem State.bind_rx (id : Ident) (q : Seq) : (s.bind id q).rx = s.rx := rfl
@[simp] theorem State.bind_tx (id : Ident) (q : Seq) : (s.bind id q).tx = s.tx := rfl
@[simp] theorem State.bind_choices (id : Ident) (q : Seq) : (s.bind id q).choices = s.choices := rfl
@[simp] theorem State.bind_pending (id : Ident) (q : Seq) : (s.bind id q).pending = s.pending := rfl

/-! ## release -/

@[simp] theorem State.release_clock (q : Seq) : (s.release q).clock = s.clock := rfl
@[simp] theorem State.release_tickPhase (q : Seq) : (s.release q).tickPhase = s.tickPhase := rfl
@[simp] theorem State.release_slots (q : Seq) : (s.release q).slots = s.slots := rfl
@[simp] theorem State.release_catalogue (q : Seq) : (s.release q).catalogue = s.catalogue.map (fun r => if r.binding = some q then { r with binding := none } else r) := rfl
@[simp] theorem State.release_zones (q : Seq) : (s.release q).zones = s.zones := rfl
@[simp] theorem State.release_noSlot (q : Seq) : (s.release q).noSlot = s.noSlot := rfl
@[simp] theorem State.release_ports (q : Seq) : (s.release q).ports = s.ports := rfl
@[simp] theorem State.release_ahead (q : Seq) : (s.release q).ahead = s.ahead := rfl
@[simp] theorem State.release_announcements (q : Seq) : (s.release q).announcements = s.announcements := rfl
@[simp] theorem State.release_bi (q : Seq) : (s.release q).bi = s.bi := rfl
@[simp] theorem State.release_bo (q : Seq) : (s.release q).bo = s.bo := rfl
@[simp] theorem State.release_inn (q : Seq) : (s.release q).inn = s.inn := rfl
@[simp] theorem State.release_queue (q : Seq) : (s.release q).queue = s.queue := rfl
@[simp] theorem State.release_nextSeq (q : Seq) : (s.release q).nextSeq = s.nextSeq := rfl
@[simp] theorem State.release_tenure (q : Seq) : (s.release q).tenure = s.tenure := rfl
@[simp] theorem State.release_settings (q : Seq) : (s.release q).settings = s.settings := rfl
@[simp] theorem State.release_handler (q : Seq) : (s.release q).handler = s.handler := rfl
@[simp] theorem State.release_classes (q : Seq) : (s.release q).classes = s.classes := rfl
@[simp] theorem State.release_intercepts (q : Seq) : (s.release q).intercepts = s.intercepts := rfl
@[simp] theorem State.release_census (q : Seq) : (s.release q).census = s.census := rfl
@[simp] theorem State.release_materialNotices (q : Seq) : (s.release q).materialNotices = s.materialNotices := rfl
@[simp] theorem State.release_serviceNotices (q : Seq) : (s.release q).serviceNotices = s.serviceNotices := rfl
@[simp] theorem State.release_noticeGap (q : Seq) : (s.release q).noticeGap = s.noticeGap := rfl
@[simp] theorem State.release_pins (q : Seq) : (s.release q).pins = s.pins := rfl
@[simp] theorem State.release_rx (q : Seq) : (s.release q).rx = s.rx := rfl
@[simp] theorem State.release_tx (q : Seq) : (s.release q).tx = s.tx := rfl
@[simp] theorem State.release_choices (q : Seq) : (s.release q).choices = s.choices := rfl
@[simp] theorem State.release_pending (q : Seq) : (s.release q).pending = s.pending := rfl

/-! ## dropMove -/

@[simp] theorem State.dropMove_clock (q : Seq) : (s.dropMove q).clock = s.clock := rfl
@[simp] theorem State.dropMove_tickPhase (q : Seq) : (s.dropMove q).tickPhase = s.tickPhase := rfl
@[simp] theorem State.dropMove_slots (q : Seq) : (s.dropMove q).slots = s.slots := rfl
@[simp] theorem State.dropMove_catalogue (q : Seq) : (s.dropMove q).catalogue = s.catalogue.map (fun r => if r.binding = some q then { r with binding := none } else r) := rfl
@[simp] theorem State.dropMove_zones (q : Seq) : (s.dropMove q).zones = s.zones := rfl
@[simp] theorem State.dropMove_noSlot (q : Seq) : (s.dropMove q).noSlot = s.noSlot := rfl
@[simp] theorem State.dropMove_ports (q : Seq) : (s.dropMove q).ports = s.ports := rfl
@[simp] theorem State.dropMove_ahead (q : Seq) : (s.dropMove q).ahead = s.ahead := rfl
@[simp] theorem State.dropMove_announcements (q : Seq) : (s.dropMove q).announcements = s.announcements := rfl
@[simp] theorem State.dropMove_bi (q : Seq) : (s.dropMove q).bi = s.bi := rfl
@[simp] theorem State.dropMove_bo (q : Seq) : (s.dropMove q).bo = s.bo := rfl
@[simp] theorem State.dropMove_inn (q : Seq) : (s.dropMove q).inn = s.inn := rfl
@[simp] theorem State.dropMove_queue (q : Seq) : (s.dropMove q).queue = s.queue.filter (fun m => !decide (m.seq = q)) := rfl
@[simp] theorem State.dropMove_nextSeq (q : Seq) : (s.dropMove q).nextSeq = s.nextSeq := rfl
@[simp] theorem State.dropMove_tenure (q : Seq) : (s.dropMove q).tenure = s.tenure := rfl
@[simp] theorem State.dropMove_settings (q : Seq) : (s.dropMove q).settings = s.settings := rfl
@[simp] theorem State.dropMove_handler (q : Seq) : (s.dropMove q).handler = s.handler := rfl
@[simp] theorem State.dropMove_classes (q : Seq) : (s.dropMove q).classes = s.classes := rfl
@[simp] theorem State.dropMove_intercepts (q : Seq) : (s.dropMove q).intercepts = s.intercepts := rfl
@[simp] theorem State.dropMove_census (q : Seq) : (s.dropMove q).census = s.census := rfl
@[simp] theorem State.dropMove_materialNotices (q : Seq) : (s.dropMove q).materialNotices = s.materialNotices := rfl
@[simp] theorem State.dropMove_serviceNotices (q : Seq) : (s.dropMove q).serviceNotices = s.serviceNotices := rfl
@[simp] theorem State.dropMove_noticeGap (q : Seq) : (s.dropMove q).noticeGap = s.noticeGap := rfl
@[simp] theorem State.dropMove_pins (q : Seq) : (s.dropMove q).pins = s.pins := rfl
@[simp] theorem State.dropMove_rx (q : Seq) : (s.dropMove q).rx = s.rx := rfl
@[simp] theorem State.dropMove_tx (q : Seq) : (s.dropMove q).tx = s.tx := rfl
@[simp] theorem State.dropMove_choices (q : Seq) : (s.dropMove q).choices = s.choices := rfl
@[simp] theorem State.dropMove_pending (q : Seq) : (s.dropMove q).pending = s.pending := rfl

/-! ## updHandler -/

@[simp] theorem State.updHandler_clock (f : Handler → Handler) : (s.updHandler f).clock = s.clock := rfl
@[simp] theorem State.updHandler_tickPhase (f : Handler → Handler) : (s.updHandler f).tickPhase = s.tickPhase := rfl
@[simp] theorem State.updHandler_slots (f : Handler → Handler) : (s.updHandler f).slots = s.slots := rfl
@[simp] theorem State.updHandler_catalogue (f : Handler → Handler) : (s.updHandler f).catalogue = s.catalogue := rfl
@[simp] theorem State.updHandler_zones (f : Handler → Handler) : (s.updHandler f).zones = s.zones := rfl
@[simp] theorem State.updHandler_noSlot (f : Handler → Handler) : (s.updHandler f).noSlot = s.noSlot := rfl
@[simp] theorem State.updHandler_ports (f : Handler → Handler) : (s.updHandler f).ports = s.ports := rfl
@[simp] theorem State.updHandler_ahead (f : Handler → Handler) : (s.updHandler f).ahead = s.ahead := rfl
@[simp] theorem State.updHandler_announcements (f : Handler → Handler) : (s.updHandler f).announcements = s.announcements := rfl
@[simp] theorem State.updHandler_bi (f : Handler → Handler) : (s.updHandler f).bi = s.bi := rfl
@[simp] theorem State.updHandler_bo (f : Handler → Handler) : (s.updHandler f).bo = s.bo := rfl
@[simp] theorem State.updHandler_inn (f : Handler → Handler) : (s.updHandler f).inn = s.inn := rfl
@[simp] theorem State.updHandler_queue (f : Handler → Handler) : (s.updHandler f).queue = s.queue := rfl
@[simp] theorem State.updHandler_nextSeq (f : Handler → Handler) : (s.updHandler f).nextSeq = s.nextSeq := rfl
@[simp] theorem State.updHandler_tenure (f : Handler → Handler) : (s.updHandler f).tenure = s.tenure := rfl
@[simp] theorem State.updHandler_settings (f : Handler → Handler) : (s.updHandler f).settings = s.settings := rfl
@[simp] theorem State.updHandler_handler (f : Handler → Handler) : (s.updHandler f).handler = f s.handler := rfl
@[simp] theorem State.updHandler_classes (f : Handler → Handler) : (s.updHandler f).classes = s.classes := rfl
@[simp] theorem State.updHandler_intercepts (f : Handler → Handler) : (s.updHandler f).intercepts = s.intercepts := rfl
@[simp] theorem State.updHandler_census (f : Handler → Handler) : (s.updHandler f).census = s.census := rfl
@[simp] theorem State.updHandler_materialNotices (f : Handler → Handler) : (s.updHandler f).materialNotices = s.materialNotices := rfl
@[simp] theorem State.updHandler_serviceNotices (f : Handler → Handler) : (s.updHandler f).serviceNotices = s.serviceNotices := rfl
@[simp] theorem State.updHandler_noticeGap (f : Handler → Handler) : (s.updHandler f).noticeGap = s.noticeGap := rfl
@[simp] theorem State.updHandler_pins (f : Handler → Handler) : (s.updHandler f).pins = s.pins := rfl
@[simp] theorem State.updHandler_rx (f : Handler → Handler) : (s.updHandler f).rx = s.rx := rfl
@[simp] theorem State.updHandler_tx (f : Handler → Handler) : (s.updHandler f).tx = s.tx := rfl
@[simp] theorem State.updHandler_choices (f : Handler → Handler) : (s.updHandler f).choices = s.choices := rfl
@[simp] theorem State.updHandler_pending (f : Handler → Handler) : (s.updHandler f).pending = s.pending := rfl

/-! ## send -/

@[simp] theorem State.send_clock (l : Link) (x : OutFrame) : (s.send l x).clock = s.clock := rfl
@[simp] theorem State.send_tickPhase (l : Link) (x : OutFrame) : (s.send l x).tickPhase = s.tickPhase := rfl
@[simp] theorem State.send_slots (l : Link) (x : OutFrame) : (s.send l x).slots = s.slots := rfl
@[simp] theorem State.send_catalogue (l : Link) (x : OutFrame) : (s.send l x).catalogue = s.catalogue := rfl
@[simp] theorem State.send_zones (l : Link) (x : OutFrame) : (s.send l x).zones = s.zones := rfl
@[simp] theorem State.send_noSlot (l : Link) (x : OutFrame) : (s.send l x).noSlot = s.noSlot := rfl
@[simp] theorem State.send_ports (l : Link) (x : OutFrame) : (s.send l x).ports = s.ports := rfl
@[simp] theorem State.send_ahead (l : Link) (x : OutFrame) : (s.send l x).ahead = s.ahead := rfl
@[simp] theorem State.send_announcements (l : Link) (x : OutFrame) : (s.send l x).announcements = s.announcements := rfl
@[simp] theorem State.send_bi (l : Link) (x : OutFrame) : (s.send l x).bi = s.bi := rfl
@[simp] theorem State.send_bo (l : Link) (x : OutFrame) : (s.send l x).bo = s.bo := rfl
@[simp] theorem State.send_inn (l : Link) (x : OutFrame) : (s.send l x).inn = s.inn := rfl
@[simp] theorem State.send_queue (l : Link) (x : OutFrame) : (s.send l x).queue = s.queue := rfl
@[simp] theorem State.send_nextSeq (l : Link) (x : OutFrame) : (s.send l x).nextSeq = s.nextSeq := rfl
@[simp] theorem State.send_tenure (l : Link) (x : OutFrame) : (s.send l x).tenure = s.tenure := rfl
@[simp] theorem State.send_settings (l : Link) (x : OutFrame) : (s.send l x).settings = s.settings := rfl
@[simp] theorem State.send_handler (l : Link) (x : OutFrame) : (s.send l x).handler = s.handler := rfl
@[simp] theorem State.send_classes (l : Link) (x : OutFrame) : (s.send l x).classes = s.classes := rfl
@[simp] theorem State.send_intercepts (l : Link) (x : OutFrame) : (s.send l x).intercepts = s.intercepts := rfl
@[simp] theorem State.send_census (l : Link) (x : OutFrame) : (s.send l x).census = s.census := rfl
@[simp] theorem State.send_materialNotices (l : Link) (x : OutFrame) : (s.send l x).materialNotices = s.materialNotices := rfl
@[simp] theorem State.send_serviceNotices (l : Link) (x : OutFrame) : (s.send l x).serviceNotices = s.serviceNotices := rfl
@[simp] theorem State.send_noticeGap (l : Link) (x : OutFrame) : (s.send l x).noticeGap = s.noticeGap := rfl
@[simp] theorem State.send_pins (l : Link) (x : OutFrame) : (s.send l x).pins = s.pins := rfl
@[simp] theorem State.send_rx (l : Link) (x : OutFrame) : (s.send l x).rx = s.rx := rfl
@[simp] theorem State.send_tx (l : Link) (x : OutFrame) : (s.send l x).tx = s.tx.set (linkIndex l).val (s.sent l ++ [x]) (linkIndex l).isLt := rfl
@[simp] theorem State.send_choices (l : Link) (x : OutFrame) : (s.send l x).choices = s.choices := rfl
@[simp] theorem State.send_pending (l : Link) (x : OutFrame) : (s.send l x).pending = s.pending := rfl

/-! ## setRx -/

@[simp] theorem State.setRx_clock (l : Link) (x : RxState) : (s.setRx l x).clock = s.clock := rfl
@[simp] theorem State.setRx_tickPhase (l : Link) (x : RxState) : (s.setRx l x).tickPhase = s.tickPhase := rfl
@[simp] theorem State.setRx_slots (l : Link) (x : RxState) : (s.setRx l x).slots = s.slots := rfl
@[simp] theorem State.setRx_catalogue (l : Link) (x : RxState) : (s.setRx l x).catalogue = s.catalogue := rfl
@[simp] theorem State.setRx_zones (l : Link) (x : RxState) : (s.setRx l x).zones = s.zones := rfl
@[simp] theorem State.setRx_noSlot (l : Link) (x : RxState) : (s.setRx l x).noSlot = s.noSlot := rfl
@[simp] theorem State.setRx_ports (l : Link) (x : RxState) : (s.setRx l x).ports = s.ports := rfl
@[simp] theorem State.setRx_ahead (l : Link) (x : RxState) : (s.setRx l x).ahead = s.ahead := rfl
@[simp] theorem State.setRx_announcements (l : Link) (x : RxState) : (s.setRx l x).announcements = s.announcements := rfl
@[simp] theorem State.setRx_bi (l : Link) (x : RxState) : (s.setRx l x).bi = s.bi := rfl
@[simp] theorem State.setRx_bo (l : Link) (x : RxState) : (s.setRx l x).bo = s.bo := rfl
@[simp] theorem State.setRx_inn (l : Link) (x : RxState) : (s.setRx l x).inn = s.inn := rfl
@[simp] theorem State.setRx_queue (l : Link) (x : RxState) : (s.setRx l x).queue = s.queue := rfl
@[simp] theorem State.setRx_nextSeq (l : Link) (x : RxState) : (s.setRx l x).nextSeq = s.nextSeq := rfl
@[simp] theorem State.setRx_tenure (l : Link) (x : RxState) : (s.setRx l x).tenure = s.tenure := rfl
@[simp] theorem State.setRx_settings (l : Link) (x : RxState) : (s.setRx l x).settings = s.settings := rfl
@[simp] theorem State.setRx_handler (l : Link) (x : RxState) : (s.setRx l x).handler = s.handler := rfl
@[simp] theorem State.setRx_classes (l : Link) (x : RxState) : (s.setRx l x).classes = s.classes := rfl
@[simp] theorem State.setRx_intercepts (l : Link) (x : RxState) : (s.setRx l x).intercepts = s.intercepts := rfl
@[simp] theorem State.setRx_census (l : Link) (x : RxState) : (s.setRx l x).census = s.census := rfl
@[simp] theorem State.setRx_materialNotices (l : Link) (x : RxState) : (s.setRx l x).materialNotices = s.materialNotices := rfl
@[simp] theorem State.setRx_serviceNotices (l : Link) (x : RxState) : (s.setRx l x).serviceNotices = s.serviceNotices := rfl
@[simp] theorem State.setRx_noticeGap (l : Link) (x : RxState) : (s.setRx l x).noticeGap = s.noticeGap := rfl
@[simp] theorem State.setRx_pins (l : Link) (x : RxState) : (s.setRx l x).pins = s.pins := rfl
@[simp] theorem State.setRx_rx (l : Link) (x : RxState) : (s.setRx l x).rx = s.rx.set (linkIndex l).val x (linkIndex l).isLt := rfl
@[simp] theorem State.setRx_tx (l : Link) (x : RxState) : (s.setRx l x).tx = s.tx := rfl
@[simp] theorem State.setRx_choices (l : Link) (x : RxState) : (s.setRx l x).choices = s.choices := rfl
@[simp] theorem State.setRx_pending (l : Link) (x : RxState) : (s.setRx l x).pending = s.pending := rfl

/-! ## updCensus -/

@[simp] theorem State.updCensus_clock (f : Census → Census) : (s.updCensus f).clock = s.clock := rfl
@[simp] theorem State.updCensus_tickPhase (f : Census → Census) : (s.updCensus f).tickPhase = s.tickPhase := rfl
@[simp] theorem State.updCensus_slots (f : Census → Census) : (s.updCensus f).slots = s.slots := rfl
@[simp] theorem State.updCensus_catalogue (f : Census → Census) : (s.updCensus f).catalogue = s.catalogue := rfl
@[simp] theorem State.updCensus_zones (f : Census → Census) : (s.updCensus f).zones = s.zones := rfl
@[simp] theorem State.updCensus_noSlot (f : Census → Census) : (s.updCensus f).noSlot = s.noSlot := rfl
@[simp] theorem State.updCensus_ports (f : Census → Census) : (s.updCensus f).ports = s.ports := rfl
@[simp] theorem State.updCensus_ahead (f : Census → Census) : (s.updCensus f).ahead = s.ahead := rfl
@[simp] theorem State.updCensus_announcements (f : Census → Census) : (s.updCensus f).announcements = s.announcements := rfl
@[simp] theorem State.updCensus_bi (f : Census → Census) : (s.updCensus f).bi = s.bi := rfl
@[simp] theorem State.updCensus_bo (f : Census → Census) : (s.updCensus f).bo = s.bo := rfl
@[simp] theorem State.updCensus_inn (f : Census → Census) : (s.updCensus f).inn = s.inn := rfl
@[simp] theorem State.updCensus_queue (f : Census → Census) : (s.updCensus f).queue = s.queue := rfl
@[simp] theorem State.updCensus_nextSeq (f : Census → Census) : (s.updCensus f).nextSeq = s.nextSeq := rfl
@[simp] theorem State.updCensus_tenure (f : Census → Census) : (s.updCensus f).tenure = s.tenure := rfl
@[simp] theorem State.updCensus_settings (f : Census → Census) : (s.updCensus f).settings = s.settings := rfl
@[simp] theorem State.updCensus_handler (f : Census → Census) : (s.updCensus f).handler = s.handler := rfl
@[simp] theorem State.updCensus_classes (f : Census → Census) : (s.updCensus f).classes = s.classes := rfl
@[simp] theorem State.updCensus_intercepts (f : Census → Census) : (s.updCensus f).intercepts = s.intercepts := rfl
@[simp] theorem State.updCensus_census (f : Census → Census) : (s.updCensus f).census = f s.census := rfl
@[simp] theorem State.updCensus_materialNotices (f : Census → Census) : (s.updCensus f).materialNotices = s.materialNotices := rfl
@[simp] theorem State.updCensus_serviceNotices (f : Census → Census) : (s.updCensus f).serviceNotices = s.serviceNotices := rfl
@[simp] theorem State.updCensus_noticeGap (f : Census → Census) : (s.updCensus f).noticeGap = s.noticeGap := rfl
@[simp] theorem State.updCensus_pins (f : Census → Census) : (s.updCensus f).pins = s.pins := rfl
@[simp] theorem State.updCensus_rx (f : Census → Census) : (s.updCensus f).rx = s.rx := rfl
@[simp] theorem State.updCensus_tx (f : Census → Census) : (s.updCensus f).tx = s.tx := rfl
@[simp] theorem State.updCensus_choices (f : Census → Census) : (s.updCensus f).choices = s.choices := rfl
@[simp] theorem State.updCensus_pending (f : Census → Census) : (s.updCensus f).pending = s.pending := rfl

/-! ## lapseNest -/

@[simp] theorem State.lapseNest_clock (p : Port) : (s.lapseNest p).clock = s.clock := rfl
@[simp] theorem State.lapseNest_tickPhase (p : Port) : (s.lapseNest p).tickPhase = s.tickPhase := rfl
@[simp] theorem State.lapseNest_slots (p : Port) : (s.lapseNest p).slots = s.slots := rfl
@[simp] theorem State.lapseNest_catalogue (p : Port) : (s.lapseNest p).catalogue = s.catalogue := rfl
@[simp] theorem State.lapseNest_zones (p : Port) : (s.lapseNest p).zones = s.zones := rfl
@[simp] theorem State.lapseNest_noSlot (p : Port) : (s.lapseNest p).noSlot = s.noSlot := rfl
@[simp] theorem State.lapseNest_ports (p : Port) : (s.lapseNest p).ports = s.ports.set p.val { s.port p with nest := .outLapsed, window := none, lapseDeferred := false } p.isLt := rfl
@[simp] theorem State.lapseNest_ahead (p : Port) : (s.lapseNest p).ahead = s.ahead := rfl
@[simp] theorem State.lapseNest_announcements (p : Port) : (s.lapseNest p).announcements = s.announcements := rfl
@[simp] theorem State.lapseNest_bi (p : Port) : (s.lapseNest p).bi = s.bi := rfl
@[simp] theorem State.lapseNest_bo (p : Port) : (s.lapseNest p).bo = s.bo := rfl
@[simp] theorem State.lapseNest_inn (p : Port) : (s.lapseNest p).inn = s.inn := rfl
@[simp] theorem State.lapseNest_queue (p : Port) : (s.lapseNest p).queue = s.queue := rfl
@[simp] theorem State.lapseNest_nextSeq (p : Port) : (s.lapseNest p).nextSeq = s.nextSeq := rfl
@[simp] theorem State.lapseNest_tenure (p : Port) : (s.lapseNest p).tenure = s.tenure := rfl
@[simp] theorem State.lapseNest_settings (p : Port) : (s.lapseNest p).settings = s.settings := rfl
@[simp] theorem State.lapseNest_handler (p : Port) : (s.lapseNest p).handler = s.handler := rfl
@[simp] theorem State.lapseNest_classes (p : Port) : (s.lapseNest p).classes = s.classes := rfl
@[simp] theorem State.lapseNest_intercepts (p : Port) : (s.lapseNest p).intercepts = s.intercepts := rfl
@[simp] theorem State.lapseNest_census (p : Port) : (s.lapseNest p).census = s.census := rfl
@[simp] theorem State.lapseNest_materialNotices (p : Port) : (s.lapseNest p).materialNotices = s.materialNotices := rfl
@[simp] theorem State.lapseNest_serviceNotices (p : Port) : (s.lapseNest p).serviceNotices = s.serviceNotices := rfl
@[simp] theorem State.lapseNest_noticeGap (p : Port) : (s.lapseNest p).noticeGap = s.noticeGap := rfl
@[simp] theorem State.lapseNest_pins (p : Port) : (s.lapseNest p).pins = s.pins := rfl
@[simp] theorem State.lapseNest_rx (p : Port) : (s.lapseNest p).rx = s.rx := rfl
@[simp] theorem State.lapseNest_tx (p : Port) : (s.lapseNest p).tx = s.tx := rfl
@[simp] theorem State.lapseNest_choices (p : Port) : (s.lapseNest p).choices = s.choices := rfl
@[simp] theorem State.lapseNest_pending (p : Port) : (s.lapseNest p).pending = s.pending := rfl

/-! ## clearNest -/

@[simp] theorem State.clearNest_clock (p : Port) : (s.clearNest p).clock = s.clock := rfl
@[simp] theorem State.clearNest_tickPhase (p : Port) : (s.clearNest p).tickPhase = s.tickPhase := rfl
@[simp] theorem State.clearNest_slots (p : Port) : (s.clearNest p).slots = s.slots := rfl
@[simp] theorem State.clearNest_catalogue (p : Port) : (s.clearNest p).catalogue = s.catalogue := rfl
@[simp] theorem State.clearNest_zones (p : Port) : (s.clearNest p).zones = s.zones := rfl
@[simp] theorem State.clearNest_noSlot (p : Port) : (s.clearNest p).noSlot = s.noSlot := rfl
@[simp] theorem State.clearNest_ports (p : Port) : (s.clearNest p).ports = s.ports.set p.val { s.port p with nest := .empty, window := none, lapseDeferred := false } p.isLt := rfl
@[simp] theorem State.clearNest_ahead (p : Port) : (s.clearNest p).ahead = s.ahead := rfl
@[simp] theorem State.clearNest_announcements (p : Port) : (s.clearNest p).announcements = s.announcements := rfl
@[simp] theorem State.clearNest_bi (p : Port) : (s.clearNest p).bi = s.bi := rfl
@[simp] theorem State.clearNest_bo (p : Port) : (s.clearNest p).bo = s.bo := rfl
@[simp] theorem State.clearNest_inn (p : Port) : (s.clearNest p).inn = s.inn := rfl
@[simp] theorem State.clearNest_queue (p : Port) : (s.clearNest p).queue = s.queue := rfl
@[simp] theorem State.clearNest_nextSeq (p : Port) : (s.clearNest p).nextSeq = s.nextSeq := rfl
@[simp] theorem State.clearNest_tenure (p : Port) : (s.clearNest p).tenure = s.tenure := rfl
@[simp] theorem State.clearNest_settings (p : Port) : (s.clearNest p).settings = s.settings := rfl
@[simp] theorem State.clearNest_handler (p : Port) : (s.clearNest p).handler = s.handler := rfl
@[simp] theorem State.clearNest_classes (p : Port) : (s.clearNest p).classes = s.classes := rfl
@[simp] theorem State.clearNest_intercepts (p : Port) : (s.clearNest p).intercepts = s.intercepts := rfl
@[simp] theorem State.clearNest_census (p : Port) : (s.clearNest p).census = s.census := rfl
@[simp] theorem State.clearNest_materialNotices (p : Port) : (s.clearNest p).materialNotices = s.materialNotices := rfl
@[simp] theorem State.clearNest_serviceNotices (p : Port) : (s.clearNest p).serviceNotices = s.serviceNotices := rfl
@[simp] theorem State.clearNest_noticeGap (p : Port) : (s.clearNest p).noticeGap = s.noticeGap := rfl
@[simp] theorem State.clearNest_pins (p : Port) : (s.clearNest p).pins = s.pins := rfl
@[simp] theorem State.clearNest_rx (p : Port) : (s.clearNest p).rx = s.rx := rfl
@[simp] theorem State.clearNest_tx (p : Port) : (s.clearNest p).tx = s.tx := rfl
@[simp] theorem State.clearNest_choices (p : Port) : (s.clearNest p).choices = s.choices := rfl
@[simp] theorem State.clearNest_pending (p : Port) : (s.clearNest p).pending = s.pending := rfl

/-! ## censusEnds -/

@[simp] theorem State.censusEnds_clock : (s.censusEnds).clock = s.clock := rfl
@[simp] theorem State.censusEnds_tickPhase : (s.censusEnds).tickPhase = s.tickPhase := rfl
@[simp] theorem State.censusEnds_slots : (s.censusEnds).slots = s.slots := rfl
@[simp] theorem State.censusEnds_catalogue : (s.censusEnds).catalogue = s.catalogue := rfl
@[simp] theorem State.censusEnds_zones : (s.censusEnds).zones = s.zones := rfl
@[simp] theorem State.censusEnds_noSlot : (s.censusEnds).noSlot = s.noSlot := rfl
@[simp] theorem State.censusEnds_ports : (s.censusEnds).ports = s.ports := rfl
@[simp] theorem State.censusEnds_ahead : (s.censusEnds).ahead = s.ahead := rfl
@[simp] theorem State.censusEnds_announcements : (s.censusEnds).announcements = s.announcements := rfl
@[simp] theorem State.censusEnds_bi : (s.censusEnds).bi = s.bi := rfl
@[simp] theorem State.censusEnds_bo : (s.censusEnds).bo = s.bo := rfl
@[simp] theorem State.censusEnds_inn : (s.censusEnds).inn = s.inn := rfl
@[simp] theorem State.censusEnds_queue : (s.censusEnds).queue = s.queue := rfl
@[simp] theorem State.censusEnds_nextSeq : (s.censusEnds).nextSeq = s.nextSeq := rfl
@[simp] theorem State.censusEnds_tenure : (s.censusEnds).tenure = s.tenure := rfl
@[simp] theorem State.censusEnds_settings : (s.censusEnds).settings = s.settings := rfl
@[simp] theorem State.censusEnds_handler : (s.censusEnds).handler = s.handler := rfl
@[simp] theorem State.censusEnds_classes : (s.censusEnds).classes = s.classes := rfl
@[simp] theorem State.censusEnds_intercepts : (s.censusEnds).intercepts = s.intercepts := rfl
@[simp] theorem State.censusEnds_census : (s.censusEnds).census = { s.census with state := .idle, scan := none, nextShelf := none } := rfl
@[simp] theorem State.censusEnds_materialNotices : (s.censusEnds).materialNotices = s.materialNotices := rfl
@[simp] theorem State.censusEnds_serviceNotices : (s.censusEnds).serviceNotices = s.serviceNotices := rfl
@[simp] theorem State.censusEnds_noticeGap : (s.censusEnds).noticeGap = s.noticeGap := rfl
@[simp] theorem State.censusEnds_pins : (s.censusEnds).pins = s.pins := rfl
@[simp] theorem State.censusEnds_rx : (s.censusEnds).rx = s.rx := rfl
@[simp] theorem State.censusEnds_tx : (s.censusEnds).tx = s.tx := rfl
@[simp] theorem State.censusEnds_choices : (s.censusEnds).choices = s.choices := rfl
@[simp] theorem State.censusEnds_pending : (s.censusEnds).pending = s.pending := rfl

/-! ## handlerIdle -/

@[simp] theorem State.handlerIdle_clock : (s.handlerIdle).clock = s.clock := rfl
@[simp] theorem State.handlerIdle_tickPhase : (s.handlerIdle).tickPhase = s.tickPhase := rfl
@[simp] theorem State.handlerIdle_slots : (s.handlerIdle).slots = s.slots := rfl
@[simp] theorem State.handlerIdle_catalogue : (s.handlerIdle).catalogue = s.catalogue := rfl
@[simp] theorem State.handlerIdle_zones : (s.handlerIdle).zones = s.zones := rfl
@[simp] theorem State.handlerIdle_noSlot : (s.handlerIdle).noSlot = s.noSlot := rfl
@[simp] theorem State.handlerIdle_ports : (s.handlerIdle).ports = s.ports := rfl
@[simp] theorem State.handlerIdle_ahead : (s.handlerIdle).ahead = s.ahead := rfl
@[simp] theorem State.handlerIdle_announcements : (s.handlerIdle).announcements = s.announcements := rfl
@[simp] theorem State.handlerIdle_bi : (s.handlerIdle).bi = s.bi := rfl
@[simp] theorem State.handlerIdle_bo : (s.handlerIdle).bo = s.bo := rfl
@[simp] theorem State.handlerIdle_inn : (s.handlerIdle).inn = s.inn := rfl
@[simp] theorem State.handlerIdle_queue : (s.handlerIdle).queue = s.queue := rfl
@[simp] theorem State.handlerIdle_nextSeq : (s.handlerIdle).nextSeq = s.nextSeq := rfl
@[simp] theorem State.handlerIdle_tenure : (s.handlerIdle).tenure = s.tenure := rfl
@[simp] theorem State.handlerIdle_settings : (s.handlerIdle).settings = s.settings := rfl
@[simp] theorem State.handlerIdle_handler : (s.handlerIdle).handler = s.handler.idled := rfl
@[simp] theorem State.handlerIdle_classes : (s.handlerIdle).classes = s.classes := rfl
@[simp] theorem State.handlerIdle_intercepts : (s.handlerIdle).intercepts = s.intercepts := rfl
@[simp] theorem State.handlerIdle_census : (s.handlerIdle).census = s.census := rfl
@[simp] theorem State.handlerIdle_materialNotices : (s.handlerIdle).materialNotices = s.materialNotices := rfl
@[simp] theorem State.handlerIdle_serviceNotices : (s.handlerIdle).serviceNotices = s.serviceNotices := rfl
@[simp] theorem State.handlerIdle_noticeGap : (s.handlerIdle).noticeGap = s.noticeGap := rfl
@[simp] theorem State.handlerIdle_pins : (s.handlerIdle).pins = s.pins := rfl
@[simp] theorem State.handlerIdle_rx : (s.handlerIdle).rx = s.rx := rfl
@[simp] theorem State.handlerIdle_tx : (s.handlerIdle).tx = s.tx := rfl
@[simp] theorem State.handlerIdle_choices : (s.handlerIdle).choices = s.choices := rfl
@[simp] theorem State.handlerIdle_pending : (s.handlerIdle).pending = s.pending := rfl

/-! ## enqueue -/

@[simp] theorem State.enqueue_clock (i : Instr) : (s.enqueue i).clock = s.clock := rfl
@[simp] theorem State.enqueue_tickPhase (i : Instr) : (s.enqueue i).tickPhase = s.tickPhase := rfl
@[simp] theorem State.enqueue_slots (i : Instr) : (s.enqueue i).slots = s.slots := rfl
@[simp] theorem State.enqueue_catalogue (i : Instr) : (s.enqueue i).catalogue = s.catalogue := rfl
@[simp] theorem State.enqueue_zones (i : Instr) : (s.enqueue i).zones = s.zones := rfl
@[simp] theorem State.enqueue_noSlot (i : Instr) : (s.enqueue i).noSlot = s.noSlot := rfl
@[simp] theorem State.enqueue_ports (i : Instr) : (s.enqueue i).ports = s.ports := rfl
@[simp] theorem State.enqueue_ahead (i : Instr) : (s.enqueue i).ahead = s.ahead := rfl
@[simp] theorem State.enqueue_announcements (i : Instr) : (s.enqueue i).announcements = s.announcements := rfl
@[simp] theorem State.enqueue_bi (i : Instr) : (s.enqueue i).bi = s.bi := rfl
@[simp] theorem State.enqueue_bo (i : Instr) : (s.enqueue i).bo = s.bo := rfl
@[simp] theorem State.enqueue_inn (i : Instr) : (s.enqueue i).inn = s.inn := rfl
@[simp] theorem State.enqueue_queue (i : Instr) : (s.enqueue i).queue = s.queue := rfl
@[simp] theorem State.enqueue_nextSeq (i : Instr) : (s.enqueue i).nextSeq = s.nextSeq := rfl
@[simp] theorem State.enqueue_tenure (i : Instr) : (s.enqueue i).tenure = s.tenure := rfl
@[simp] theorem State.enqueue_settings (i : Instr) : (s.enqueue i).settings = s.settings := rfl
@[simp] theorem State.enqueue_handler (i : Instr) : (s.enqueue i).handler = s.handler := rfl
@[simp] theorem State.enqueue_classes (i : Instr) : (s.enqueue i).classes = s.classes := rfl
@[simp] theorem State.enqueue_intercepts (i : Instr) : (s.enqueue i).intercepts = s.intercepts := rfl
@[simp] theorem State.enqueue_census (i : Instr) : (s.enqueue i).census = s.census := rfl
@[simp] theorem State.enqueue_materialNotices (i : Instr) : (s.enqueue i).materialNotices = s.materialNotices := rfl
@[simp] theorem State.enqueue_serviceNotices (i : Instr) : (s.enqueue i).serviceNotices = s.serviceNotices := rfl
@[simp] theorem State.enqueue_noticeGap (i : Instr) : (s.enqueue i).noticeGap = s.noticeGap := rfl
@[simp] theorem State.enqueue_pins (i : Instr) : (s.enqueue i).pins = s.pins := rfl
@[simp] theorem State.enqueue_rx (i : Instr) : (s.enqueue i).rx = s.rx := rfl
@[simp] theorem State.enqueue_tx (i : Instr) : (s.enqueue i).tx = s.tx := rfl
@[simp] theorem State.enqueue_choices (i : Instr) : (s.enqueue i).choices = s.choices := rfl
@[simp] theorem State.enqueue_pending (i : Instr) : (s.enqueue i).pending = s.pending ++ [i] := rfl

/-! ## setNoticeSet -/

@[simp] theorem State.setNoticeSet_clock (l : NoticeLink) (x : NoticeSet) : (s.setNoticeSet l x).clock = s.clock := by
  cases l <;> rfl
@[simp] theorem State.setNoticeSet_tickPhase (l : NoticeLink) (x : NoticeSet) : (s.setNoticeSet l x).tickPhase = s.tickPhase := by
  cases l <;> rfl
@[simp] theorem State.setNoticeSet_slots (l : NoticeLink) (x : NoticeSet) : (s.setNoticeSet l x).slots = s.slots := by
  cases l <;> rfl
@[simp] theorem State.setNoticeSet_catalogue (l : NoticeLink) (x : NoticeSet) : (s.setNoticeSet l x).catalogue = s.catalogue := by
  cases l <;> rfl
@[simp] theorem State.setNoticeSet_zones (l : NoticeLink) (x : NoticeSet) : (s.setNoticeSet l x).zones = s.zones := by
  cases l <;> rfl
@[simp] theorem State.setNoticeSet_noSlot (l : NoticeLink) (x : NoticeSet) : (s.setNoticeSet l x).noSlot = s.noSlot := by
  cases l <;> rfl
@[simp] theorem State.setNoticeSet_ports (l : NoticeLink) (x : NoticeSet) : (s.setNoticeSet l x).ports = s.ports := by
  cases l <;> rfl
@[simp] theorem State.setNoticeSet_ahead (l : NoticeLink) (x : NoticeSet) : (s.setNoticeSet l x).ahead = s.ahead := by
  cases l <;> rfl
@[simp] theorem State.setNoticeSet_announcements (l : NoticeLink) (x : NoticeSet) : (s.setNoticeSet l x).announcements = s.announcements := by
  cases l <;> rfl
@[simp] theorem State.setNoticeSet_bi (l : NoticeLink) (x : NoticeSet) : (s.setNoticeSet l x).bi = s.bi := by
  cases l <;> rfl
@[simp] theorem State.setNoticeSet_bo (l : NoticeLink) (x : NoticeSet) : (s.setNoticeSet l x).bo = s.bo := by
  cases l <;> rfl
@[simp] theorem State.setNoticeSet_inn (l : NoticeLink) (x : NoticeSet) : (s.setNoticeSet l x).inn = s.inn := by
  cases l <;> rfl
@[simp] theorem State.setNoticeSet_queue (l : NoticeLink) (x : NoticeSet) : (s.setNoticeSet l x).queue = s.queue := by
  cases l <;> rfl
@[simp] theorem State.setNoticeSet_nextSeq (l : NoticeLink) (x : NoticeSet) : (s.setNoticeSet l x).nextSeq = s.nextSeq := by
  cases l <;> rfl
@[simp] theorem State.setNoticeSet_tenure (l : NoticeLink) (x : NoticeSet) : (s.setNoticeSet l x).tenure = s.tenure := by
  cases l <;> rfl
@[simp] theorem State.setNoticeSet_settings (l : NoticeLink) (x : NoticeSet) : (s.setNoticeSet l x).settings = s.settings := by
  cases l <;> rfl
@[simp] theorem State.setNoticeSet_handler (l : NoticeLink) (x : NoticeSet) : (s.setNoticeSet l x).handler = s.handler := by
  cases l <;> rfl
@[simp] theorem State.setNoticeSet_classes (l : NoticeLink) (x : NoticeSet) : (s.setNoticeSet l x).classes = s.classes := by
  cases l <;> rfl
@[simp] theorem State.setNoticeSet_intercepts (l : NoticeLink) (x : NoticeSet) : (s.setNoticeSet l x).intercepts = s.intercepts := by
  cases l <;> rfl
@[simp] theorem State.setNoticeSet_census (l : NoticeLink) (x : NoticeSet) : (s.setNoticeSet l x).census = s.census := by
  cases l <;> rfl
@[simp] theorem State.setNoticeSet_noticeGap (l : NoticeLink) (x : NoticeSet) : (s.setNoticeSet l x).noticeGap = s.noticeGap := by
  cases l <;> rfl
@[simp] theorem State.setNoticeSet_pins (l : NoticeLink) (x : NoticeSet) : (s.setNoticeSet l x).pins = s.pins := by
  cases l <;> rfl
@[simp] theorem State.setNoticeSet_rx (l : NoticeLink) (x : NoticeSet) : (s.setNoticeSet l x).rx = s.rx := by
  cases l <;> rfl
@[simp] theorem State.setNoticeSet_tx (l : NoticeLink) (x : NoticeSet) : (s.setNoticeSet l x).tx = s.tx := by
  cases l <;> rfl
@[simp] theorem State.setNoticeSet_choices (l : NoticeLink) (x : NoticeSet) : (s.setNoticeSet l x).choices = s.choices := by
  cases l <;> rfl
@[simp] theorem State.setNoticeSet_pending (l : NoticeLink) (x : NoticeSet) : (s.setNoticeSet l x).pending = s.pending := by
  cases l <;> rfl

/-! ## Reading back what was written -/

@[simp] theorem State.slot_setSlot_same (n : Slot) (e : SlotEntry) : (s.setSlot n e).slot n = e := by
  simp [State.slot, Vector.get_eq_getElem]

theorem State.slot_setSlot_other {n k : Slot} (h : k ≠ n) (e : SlotEntry) : (s.setSlot n e).slot k = s.slot k := by
  have : n.val ≠ k.val := fun q => h (Fin.ext q.symm)
  simp [State.slot, Vector.get_eq_getElem, this]

theorem State.slot_setSlot (n k : Slot) (e : SlotEntry) : (s.setSlot n e).slot k = if k = n then e else s.slot k := by
  split
  · next h => rw [h]; simp
  · next h => exact s.slot_setSlot_other h e

@[simp] theorem State.port_setPort_same (p : Port) (r : PortRec) : (s.setPort p r).port p = r := by
  simp [State.port, Vector.get_eq_getElem]

theorem State.port_setPort_other {p q : Port} (h : q ≠ p) (r : PortRec) : (s.setPort p r).port q = s.port q := by
  have : p.val ≠ q.val := fun k => h (Fin.ext k.symm)
  simp [State.port, Vector.get_eq_getElem, this]

@[simp] theorem State.port_updPort_same (p : Port) (f : PortRec → PortRec) : (s.updPort p f).port p = f (s.port p) :=
  s.port_setPort_same p _

theorem State.port_updPort_other {p q : Port} (h : q ≠ p) (f : PortRec → PortRec) :
    (s.updPort p f).port q = s.port q := s.port_setPort_other h _

theorem State.port_updPort (p q : Port) (f : PortRec → PortRec) :
    (s.updPort p f).port q = if q = p then f (s.port p) else s.port q := by
  split
  · next h => rw [h]; simp
  · next h => exact s.port_updPort_other h f

@[simp] theorem State.toolNest_setToolNest_same (p : Port) (x : ToolNest) : (s.setToolNest p x).toolNest p = x := by
  simp [State.toolNest, State.setToolNest]

theorem State.toolNest_setToolNest_other {p q : Port} (h : q ≠ p) (x : ToolNest) :
    (s.setToolNest p x).toolNest q = s.toolNest q := by
  simp [State.toolNest, State.setToolNest, State.port_updPort_other s h]

@[simp] theorem State.tbusy_setTbusy_same (p : Port) (v : Bool) : (s.setTbusy p v).tbusy p = v := by
  simp [State.tbusy, Vector.get_eq_getElem]

theorem State.tbusy_setTbusy_other {p q : Port} (h : q ≠ p) (v : Bool) : (s.setTbusy p v).tbusy q = s.tbusy q := by
  have : p.val ≠ q.val := fun k => h (Fin.ext k.symm)
  simp [State.tbusy, Vector.get_eq_getElem, this]

@[simp] theorem State.presT_setPresT_same (p : Port) (v : Bool) : (s.setPresT p v).presT p = v := by
  simp [State.presT, Vector.get_eq_getElem]

@[simp] theorem State.presT_setTbusy (p q : Port) (v : Bool) : (s.setTbusy p v).presT q = s.presT q := rfl

@[simp] theorem State.tbusy_setPresT (p q : Port) (v : Bool) : (s.setPresT p v).tbusy q = s.tbusy q := rfl

/-- A new level of TBUSY_p forgets a recorded put (R58). -/
@[simp] theorem State.putRecorded_setTbusy_same (p : Port) (v : Bool) : (s.setTbusy p v).putRecorded p = false := by
  simp [State.putRecorded, Vector.get_eq_getElem]

/-- A put is recorded when PRES_Tp goes full under TBUSY_p at an EMPTY nest (R58). -/
@[simp] theorem State.putRecorded_setPresT_same (p : Port) (v : Bool) :
    (s.setPresT p v).putRecorded p = (v && s.tbusy p && decide (s.toolNest p = .empty)) := by
  simp [State.putRecorded, Vector.get_eq_getElem]

theorem State.presT_setPresT_other {p q : Port} (h : q ≠ p) (v : Bool) : (s.setPresT p v).presT q = s.presT q := by
  have : p.val ≠ q.val := fun k => h (Fin.ext k.symm)
  simp [State.presT, Vector.get_eq_getElem, this]

@[simp] theorem State.aheadOf_setAhead_same (p : Port) (a : CallAhead) : (s.setAhead p a).aheadOf p = a := by
  simp [State.aheadOf, Vector.get_eq_getElem]

theorem State.aheadOf_setAhead_other {p q : Port} (h : q ≠ p) (a : CallAhead) :
    (s.setAhead p a).aheadOf q = s.aheadOf q := by
  have : p.val ≠ q.val := fun k => h (Fin.ext k.symm)
  simp [State.aheadOf, Vector.get_eq_getElem, this]

/-- The nine links have nine places. -/
theorem linkIndex_injective {l k : Link} (h : linkIndex l = linkIndex k) : l = k := by
  rcases l with (_ | p | _) | _ <;> rcases k with (_ | q | _) | _ <;>
    simp only [linkIndex, Fin.ext_iff] at h <;> first | rfl | (exfalso; revert h; simp; done) | (exfalso; simp at h; omega) | skip
  congr 2
  exact Fin.ext (by simpa using h)

@[simp] theorem State.sent_send_same (l : Link) (x : OutFrame) : (s.send l x).sent l = s.sent l ++ [x] := by
  simp [State.sent, State.send, Vector.get_eq_getElem]

theorem State.sent_send_other {l k : Link} (h : k ≠ l) (x : OutFrame) : (s.send l x).sent k = s.sent k := by
  have : (linkIndex l).val ≠ (linkIndex k).val := fun q => h (linkIndex_injective (Fin.ext q.symm))
  simp [State.sent, State.send, Vector.get_eq_getElem, this]

@[simp] theorem State.rxOf_setRx_same (l : Link) (x : RxState) : (s.setRx l x).rxOf l = x := by
  simp [State.rxOf, Vector.get_eq_getElem]

theorem State.rxOf_setRx_other {l k : Link} (h : k ≠ l) (x : RxState) : (s.setRx l x).rxOf k = s.rxOf k := by
  have : (linkIndex l).val ≠ (linkIndex k).val := fun q => h (linkIndex_injective (Fin.ext q.symm))
  simp [State.rxOf, Vector.get_eq_getElem, this]

@[simp] theorem State.noticeSet_setNoticeSet_same (l : NoticeLink) (x : NoticeSet) :
    (s.setNoticeSet l x).noticeSet l = x := by
  cases l <;> rfl

theorem State.noticeSet_setNoticeSet_other {l k : NoticeLink} (h : k ≠ l) (x : NoticeSet) :
    (s.setNoticeSet l x).noticeSet k = s.noticeSet k := by
  cases l <;> cases k <;> first | exact absurd rfl h | rfl

@[simp] theorem State.setNoticeSet_noticeSet (l : NoticeLink) : s.setNoticeSet l (s.noticeSet l) = s := by
  cases l <;> rfl

/-! ## Records and moves by their names -/

/-- A change of one record that keeps its identifier is what is read back under that identifier. -/
theorem State.record_updRecord_same (id : Ident) (f : Rec → Rec) (h : ∀ r, (f r).id = r.id) :
    (s.updRecord id f).record id = (s.record id).map f := by
  simp only [State.record, State.updRecord_catalogue]
  induction s.catalogue with
  | nil => rfl
  | cons r rs ih =>
    by_cases k : r.id = id
    · simp [k, h]
    · simpa [k] using ih

/-- A change of one record leaves every other identifier's record. -/
theorem State.record_updRecord_other {id x : Ident} (f : Rec → Rec) (h : ∀ r, (f r).id = r.id) (k : x ≠ id) :
    (s.updRecord id f).record x = s.record x := by
  simp only [State.record, State.updRecord_catalogue]
  induction s.catalogue with
  | nil => rfl
  | cons r rs ih =>
    by_cases q : r.id = id
    · have : ¬(id = x) := fun e => k e.symm
      simpa [q, h, this] using ih
    · by_cases e : r.id = x
      · simp [e, k]
      · simpa [q, e] using ih

/-- A change of one move that keeps its number is what is read back under that number. -/
theorem State.move?_updMove_same (q : Seq) (f : Move → Move) (h : ∀ m, (f m).seq = m.seq) :
    (s.updMove q f).move? q = (s.move? q).map f := by
  simp only [State.move?, State.updMove_queue]
  induction s.queue with
  | nil => rfl
  | cons m ms ih =>
    by_cases k : m.seq = q
    · simp [k, h]
    · simpa [k] using ih

/-- The move looked up by a number has that number and stands in the queue. -/
theorem State.move?_some {q : Seq} {m : Move} (h : s.move? q = some m) : m ∈ s.queue ∧ m.seq = q :=
  ⟨List.mem_of_find?_eq_some h, by simpa using List.find?_some h⟩

/-- The record looked up by an identifier carries it and stands in the catalogue. -/
theorem State.record_some {id : Ident} {r : Rec} (h : s.record id = some r) : r ∈ s.catalogue ∧ r.id = id :=
  ⟨List.mem_of_find?_eq_some h, by simpa using List.find?_some h⟩

end Sys2Proof.Machine
end

