-- ==== Sys2Proof/Laws/Effects.lean ====
section
/-! SUPPORT. What each shared operation can do, said once, so that proofs cite it and unfold nothing: what telling a link
or raising a notice touches, what entering, withdrawing, granting and ending a move change, and the induction principles
of the passes that repeat an operation. -/

namespace Sys2Proof.Machine

set_option Elab.async false

variable (s : State)

/-! ## Frames handed to a transmitter -/

theorem State.sendTool_eq (p : Port) (f : OutFrame) : ∃ tx, s.sendTool p f = { s with tx := tx } := by
  unfold State.sendTool
  split
  · exact ⟨s.tx, rfl⟩
  · exact ⟨_, rfl⟩

theorem State.sendRequester_eq (r : Requester) (f : OutFrame) : ∃ tx, s.sendRequester r f = { s with tx := tx } := by
  unfold State.sendRequester
  split
  · exact ⟨s.tx, rfl⟩
  · exact s.sendTool_eq _ f
  · exact ⟨_, rfl⟩

theorem State.tellWithdrawn_eq (m : Move) (r : Reason) : ∃ tx, s.tellWithdrawn m r = { s with tx := tx } := by
  unfold State.tellWithdrawn
  split
  · exact s.sendRequester_eq _ _
  · exact ⟨s.tx, rfl⟩

theorem State.tellEnd_eq (m : Move) (x : MoveOutcome) : ∃ tx, s.tellEnd m x = { s with tx := tx } := by
  unfold State.tellEnd
  split
  · split
    · exact ⟨s.tx, rfl⟩
    · exact s.sendRequester_eq _ _
  · exact ⟨s.tx, rfl⟩

/-! ### sendTool -/

@[simp] theorem State.sendTool_clock (p : Port) (f : OutFrame) : (s.sendTool p f).clock = s.clock := by
  obtain ⟨_, h⟩ := s.sendTool_eq p f; rw [h]
@[simp] theorem State.sendTool_tickPhase (p : Port) (f : OutFrame) : (s.sendTool p f).tickPhase = s.tickPhase := by
  obtain ⟨_, h⟩ := s.sendTool_eq p f; rw [h]
@[simp] theorem State.sendTool_slots (p : Port) (f : OutFrame) : (s.sendTool p f).slots = s.slots := by
  obtain ⟨_, h⟩ := s.sendTool_eq p f; rw [h]
@[simp] theorem State.sendTool_catalogue (p : Port) (f : OutFrame) : (s.sendTool p f).catalogue = s.catalogue := by
  obtain ⟨_, h⟩ := s.sendTool_eq p f; rw [h]
@[simp] theorem State.sendTool_zones (p : Port) (f : OutFrame) : (s.sendTool p f).zones = s.zones := by
  obtain ⟨_, h⟩ := s.sendTool_eq p f; rw [h]
@[simp] theorem State.sendTool_noSlot (p : Port) (f : OutFrame) : (s.sendTool p f).noSlot = s.noSlot := by
  obtain ⟨_, h⟩ := s.sendTool_eq p f; rw [h]
@[simp] theorem State.sendTool_ports (p : Port) (f : OutFrame) : (s.sendTool p f).ports = s.ports := by
  obtain ⟨_, h⟩ := s.sendTool_eq p f; rw [h]
@[simp] theorem State.sendTool_ahead (p : Port) (f : OutFrame) : (s.sendTool p f).ahead = s.ahead := by
  obtain ⟨_, h⟩ := s.sendTool_eq p f; rw [h]
@[simp] theorem State.sendTool_announcements (p : Port) (f : OutFrame) : (s.sendTool p f).announcements = s.announcements := by
  obtain ⟨_, h⟩ := s.sendTool_eq p f; rw [h]
@[simp] theorem State.sendTool_bi (p : Port) (f : OutFrame) : (s.sendTool p f).bi = s.bi := by
  obtain ⟨_, h⟩ := s.sendTool_eq p f; rw [h]
@[simp] theorem State.sendTool_bo (p : Port) (f : OutFrame) : (s.sendTool p f).bo = s.bo := by
  obtain ⟨_, h⟩ := s.sendTool_eq p f; rw [h]
@[simp] theorem State.sendTool_inn (p : Port) (f : OutFrame) : (s.sendTool p f).inn = s.inn := by
  obtain ⟨_, h⟩ := s.sendTool_eq p f; rw [h]
@[simp] theorem State.sendTool_queue (p : Port) (f : OutFrame) : (s.sendTool p f).queue = s.queue := by
  obtain ⟨_, h⟩ := s.sendTool_eq p f; rw [h]
@[simp] theorem State.sendTool_nextSeq (p : Port) (f : OutFrame) : (s.sendTool p f).nextSeq = s.nextSeq := by
  obtain ⟨_, h⟩ := s.sendTool_eq p f; rw [h]
@[simp] theorem State.sendTool_tenure (p : Port) (f : OutFrame) : (s.sendTool p f).tenure = s.tenure := by
  obtain ⟨_, h⟩ := s.sendTool_eq p f; rw [h]
@[simp] theorem State.sendTool_settings (p : Port) (f : OutFrame) : (s.sendTool p f).settings = s.settings := by
  obtain ⟨_, h⟩ := s.sendTool_eq p f; rw [h]
@[simp] theorem State.sendTool_handler (p : Port) (f : OutFrame) : (s.sendTool p f).handler = s.handler := by
  obtain ⟨_, h⟩ := s.sendTool_eq p f; rw [h]
@[simp] theorem State.sendTool_classes (p : Port) (f : OutFrame) : (s.sendTool p f).classes = s.classes := by
  obtain ⟨_, h⟩ := s.sendTool_eq p f; rw [h]
@[simp] theorem State.sendTool_intercepts (p : Port) (f : OutFrame) : (s.sendTool p f).intercepts = s.intercepts := by
  obtain ⟨_, h⟩ := s.sendTool_eq p f; rw [h]
@[simp] theorem State.sendTool_census (p : Port) (f : OutFrame) : (s.sendTool p f).census = s.census := by
  obtain ⟨_, h⟩ := s.sendTool_eq p f; rw [h]
@[simp] theorem State.sendTool_materialNotices (p : Port) (f : OutFrame) : (s.sendTool p f).materialNotices = s.materialNotices := by
  obtain ⟨_, h⟩ := s.sendTool_eq p f; rw [h]
@[simp] theorem State.sendTool_serviceNotices (p : Port) (f : OutFrame) : (s.sendTool p f).serviceNotices = s.serviceNotices := by
  obtain ⟨_, h⟩ := s.sendTool_eq p f; rw [h]
@[simp] theorem State.sendTool_noticeGap (p : Port) (f : OutFrame) : (s.sendTool p f).noticeGap = s.noticeGap := by
  obtain ⟨_, h⟩ := s.sendTool_eq p f; rw [h]
@[simp] theorem State.sendTool_pins (p : Port) (f : OutFrame) : (s.sendTool p f).pins = s.pins := by
  obtain ⟨_, h⟩ := s.sendTool_eq p f; rw [h]
@[simp] theorem State.sendTool_rx (p : Port) (f : OutFrame) : (s.sendTool p f).rx = s.rx := by
  obtain ⟨_, h⟩ := s.sendTool_eq p f; rw [h]
@[simp] theorem State.sendTool_choices (p : Port) (f : OutFrame) : (s.sendTool p f).choices = s.choices := by
  obtain ⟨_, h⟩ := s.sendTool_eq p f; rw [h]
@[simp] theorem State.sendTool_pending (p : Port) (f : OutFrame) : (s.sendTool p f).pending = s.pending := by
  obtain ⟨_, h⟩ := s.sendTool_eq p f; rw [h]

/-! ### sendRequester -/

@[simp] theorem State.sendRequester_clock (r : Requester) (f : OutFrame) : (s.sendRequester r f).clock = s.clock := by
  obtain ⟨_, h⟩ := s.sendRequester_eq r f; rw [h]
@[simp] theorem State.sendRequester_tickPhase (r : Requester) (f : OutFrame) : (s.sendRequester r f).tickPhase = s.tickPhase := by
  obtain ⟨_, h⟩ := s.sendRequester_eq r f; rw [h]
@[simp] theorem State.sendRequester_slots (r : Requester) (f : OutFrame) : (s.sendRequester r f).slots = s.slots := by
  obtain ⟨_, h⟩ := s.sendRequester_eq r f; rw [h]
@[simp] theorem State.sendRequester_catalogue (r : Requester) (f : OutFrame) : (s.sendRequester r f).catalogue = s.catalogue := by
  obtain ⟨_, h⟩ := s.sendRequester_eq r f; rw [h]
@[simp] theorem State.sendRequester_zones (r : Requester) (f : OutFrame) : (s.sendRequester r f).zones = s.zones := by
  obtain ⟨_, h⟩ := s.sendRequester_eq r f; rw [h]
@[simp] theorem State.sendRequester_noSlot (r : Requester) (f : OutFrame) : (s.sendRequester r f).noSlot = s.noSlot := by
  obtain ⟨_, h⟩ := s.sendRequester_eq r f; rw [h]
@[simp] theorem State.sendRequester_ports (r : Requester) (f : OutFrame) : (s.sendRequester r f).ports = s.ports := by
  obtain ⟨_, h⟩ := s.sendRequester_eq r f; rw [h]
@[simp] theorem State.sendRequester_ahead (r : Requester) (f : OutFrame) : (s.sendRequester r f).ahead = s.ahead := by
  obtain ⟨_, h⟩ := s.sendRequester_eq r f; rw [h]
@[simp] theorem State.sendRequester_announcements (r : Requester) (f : OutFrame) : (s.sendRequester r f).announcements = s.announcements := by
  obtain ⟨_, h⟩ := s.sendRequester_eq r f; rw [h]
@[simp] theorem State.sendRequester_bi (r : Requester) (f : OutFrame) : (s.sendRequester r f).bi = s.bi := by
  obtain ⟨_, h⟩ := s.sendRequester_eq r f; rw [h]
@[simp] theorem State.sendRequester_bo (r : Requester) (f : OutFrame) : (s.sendRequester r f).bo = s.bo := by
  obtain ⟨_, h⟩ := s.sendRequester_eq r f; rw [h]
@[simp] theorem State.sendRequester_inn (r : Requester) (f : OutFrame) : (s.sendRequester r f).inn = s.inn := by
  obtain ⟨_, h⟩ := s.sendRequester_eq r f; rw [h]
@[simp] theorem State.sendRequester_queue (r : Requester) (f : OutFrame) : (s.sendRequester r f).queue = s.queue := by
  obtain ⟨_, h⟩ := s.sendRequester_eq r f; rw [h]
@[simp] theorem State.sendRequester_nextSeq (r : Requester) (f : OutFrame) : (s.sendRequester r f).nextSeq = s.nextSeq := by
  obtain ⟨_, h⟩ := s.sendRequester_eq r f; rw [h]
@[simp] theorem State.sendRequester_tenure (r : Requester) (f : OutFrame) : (s.sendRequester r f).tenure = s.tenure := by
  obtain ⟨_, h⟩ := s.sendRequester_eq r f; rw [h]
@[simp] theorem State.sendRequester_settings (r : Requester) (f : OutFrame) : (s.sendRequester r f).settings = s.settings := by
  obtain ⟨_, h⟩ := s.sendRequester_eq r f; rw [h]
@[simp] theorem State.sendRequester_handler (r : Requester) (f : OutFrame) : (s.sendRequester r f).handler = s.handler := by
  obtain ⟨_, h⟩ := s.sendRequester_eq r f; rw [h]
@[simp] theorem State.sendRequester_classes (r : Requester) (f : OutFrame) : (s.sendRequester r f).classes = s.classes := by
  obtain ⟨_, h⟩ := s.sendRequester_eq r f; rw [h]
@[simp] theorem State.sendRequester_intercepts (r : Requester) (f : OutFrame) : (s.sendRequester r f).intercepts = s.intercepts := by
  obtain ⟨_, h⟩ := s.sendRequester_eq r f; rw [h]
@[simp] theorem State.sendRequester_census (r : Requester) (f : OutFrame) : (s.sendRequester r f).census = s.census := by
  obtain ⟨_, h⟩ := s.sendRequester_eq r f; rw [h]
@[simp] theorem State.sendRequester_materialNotices (r : Requester) (f : OutFrame) : (s.sendRequester r f).materialNotices = s.materialNotices := by
  obtain ⟨_, h⟩ := s.sendRequester_eq r f; rw [h]
@[simp] theorem State.sendRequester_serviceNotices (r : Requester) (f : OutFrame) : (s.sendRequester r f).serviceNotices = s.serviceNotices := by
  obtain ⟨_, h⟩ := s.sendRequester_eq r f; rw [h]
@[simp] theorem State.sendRequester_noticeGap (r : Requester) (f : OutFrame) : (s.sendRequester r f).noticeGap = s.noticeGap := by
  obtain ⟨_, h⟩ := s.sendRequester_eq r f; rw [h]
@[simp] theorem State.sendRequester_pins (r : Requester) (f : OutFrame) : (s.sendRequester r f).pins = s.pins := by
  obtain ⟨_, h⟩ := s.sendRequester_eq r f; rw [h]
@[simp] theorem State.sendRequester_rx (r : Requester) (f : OutFrame) : (s.sendRequester r f).rx = s.rx := by
  obtain ⟨_, h⟩ := s.sendRequester_eq r f; rw [h]
@[simp] theorem State.sendRequester_choices (r : Requester) (f : OutFrame) : (s.sendRequester r f).choices = s.choices := by
  obtain ⟨_, h⟩ := s.sendRequester_eq r f; rw [h]
@[simp] theorem State.sendRequester_pending (r : Requester) (f : OutFrame) : (s.sendRequester r f).pending = s.pending := by
  obtain ⟨_, h⟩ := s.sendRequester_eq r f; rw [h]

/-! ### tellWithdrawn -/

@[simp] theorem State.tellWithdrawn_clock (m : Move) (r : Reason) : (s.tellWithdrawn m r).clock = s.clock := by
  obtain ⟨_, h⟩ := s.tellWithdrawn_eq m r; rw [h]
@[simp] theorem State.tellWithdrawn_tickPhase (m : Move) (r : Reason) : (s.tellWithdrawn m r).tickPhase = s.tickPhase := by
  obtain ⟨_, h⟩ := s.tellWithdrawn_eq m r; rw [h]
@[simp] theorem State.tellWithdrawn_slots (m : Move) (r : Reason) : (s.tellWithdrawn m r).slots = s.slots := by
  obtain ⟨_, h⟩ := s.tellWithdrawn_eq m r; rw [h]
@[simp] theorem State.tellWithdrawn_catalogue (m : Move) (r : Reason) : (s.tellWithdrawn m r).catalogue = s.catalogue := by
  obtain ⟨_, h⟩ := s.tellWithdrawn_eq m r; rw [h]
@[simp] theorem State.tellWithdrawn_zones (m : Move) (r : Reason) : (s.tellWithdrawn m r).zones = s.zones := by
  obtain ⟨_, h⟩ := s.tellWithdrawn_eq m r; rw [h]
@[simp] theorem State.tellWithdrawn_noSlot (m : Move) (r : Reason) : (s.tellWithdrawn m r).noSlot = s.noSlot := by
  obtain ⟨_, h⟩ := s.tellWithdrawn_eq m r; rw [h]
@[simp] theorem State.tellWithdrawn_ports (m : Move) (r : Reason) : (s.tellWithdrawn m r).ports = s.ports := by
  obtain ⟨_, h⟩ := s.tellWithdrawn_eq m r; rw [h]
@[simp] theorem State.tellWithdrawn_ahead (m : Move) (r : Reason) : (s.tellWithdrawn m r).ahead = s.ahead := by
  obtain ⟨_, h⟩ := s.tellWithdrawn_eq m r; rw [h]
@[simp] theorem State.tellWithdrawn_announcements (m : Move) (r : Reason) : (s.tellWithdrawn m r).announcements = s.announcements := by
  obtain ⟨_, h⟩ := s.tellWithdrawn_eq m r; rw [h]
@[simp] theorem State.tellWithdrawn_bi (m : Move) (r : Reason) : (s.tellWithdrawn m r).bi = s.bi := by
  obtain ⟨_, h⟩ := s.tellWithdrawn_eq m r; rw [h]
@[simp] theorem State.tellWithdrawn_bo (m : Move) (r : Reason) : (s.tellWithdrawn m r).bo = s.bo := by
  obtain ⟨_, h⟩ := s.tellWithdrawn_eq m r; rw [h]
@[simp] theorem State.tellWithdrawn_inn (m : Move) (r : Reason) : (s.tellWithdrawn m r).inn = s.inn := by
  obtain ⟨_, h⟩ := s.tellWithdrawn_eq m r; rw [h]
@[simp] theorem State.tellWithdrawn_queue (m : Move) (r : Reason) : (s.tellWithdrawn m r).queue = s.queue := by
  obtain ⟨_, h⟩ := s.tellWithdrawn_eq m r; rw [h]
@[simp] theorem State.tellWithdrawn_nextSeq (m : Move) (r : Reason) : (s.tellWithdrawn m r).nextSeq = s.nextSeq := by
  obtain ⟨_, h⟩ := s.tellWithdrawn_eq m r; rw [h]
@[simp] theorem State.tellWithdrawn_tenure (m : Move) (r : Reason) : (s.tellWithdrawn m r).tenure = s.tenure := by
  obtain ⟨_, h⟩ := s.tellWithdrawn_eq m r; rw [h]
@[simp] theorem State.tellWithdrawn_settings (m : Move) (r : Reason) : (s.tellWithdrawn m r).settings = s.settings := by
  obtain ⟨_, h⟩ := s.tellWithdrawn_eq m r; rw [h]
@[simp] theorem State.tellWithdrawn_handler (m : Move) (r : Reason) : (s.tellWithdrawn m r).handler = s.handler := by
  obtain ⟨_, h⟩ := s.tellWithdrawn_eq m r; rw [h]
@[simp] theorem State.tellWithdrawn_classes (m : Move) (r : Reason) : (s.tellWithdrawn m r).classes = s.classes := by
  obtain ⟨_, h⟩ := s.tellWithdrawn_eq m r; rw [h]
@[simp] theorem State.tellWithdrawn_intercepts (m : Move) (r : Reason) : (s.tellWithdrawn m r).intercepts = s.intercepts := by
  obtain ⟨_, h⟩ := s.tellWithdrawn_eq m r; rw [h]
@[simp] theorem State.tellWithdrawn_census (m : Move) (r : Reason) : (s.tellWithdrawn m r).census = s.census := by
  obtain ⟨_, h⟩ := s.tellWithdrawn_eq m r; rw [h]
@[simp] theorem State.tellWithdrawn_materialNotices (m : Move) (r : Reason) : (s.tellWithdrawn m r).materialNotices = s.materialNotices := by
  obtain ⟨_, h⟩ := s.tellWithdrawn_eq m r; rw [h]
@[simp] theorem State.tellWithdrawn_serviceNotices (m : Move) (r : Reason) : (s.tellWithdrawn m r).serviceNotices = s.serviceNotices := by
  obtain ⟨_, h⟩ := s.tellWithdrawn_eq m r; rw [h]
@[simp] theorem State.tellWithdrawn_noticeGap (m : Move) (r : Reason) : (s.tellWithdrawn m r).noticeGap = s.noticeGap := by
  obtain ⟨_, h⟩ := s.tellWithdrawn_eq m r; rw [h]
@[simp] theorem State.tellWithdrawn_pins (m : Move) (r : Reason) : (s.tellWithdrawn m r).pins = s.pins := by
  obtain ⟨_, h⟩ := s.tellWithdrawn_eq m r; rw [h]
@[simp] theorem State.tellWithdrawn_rx (m : Move) (r : Reason) : (s.tellWithdrawn m r).rx = s.rx := by
  obtain ⟨_, h⟩ := s.tellWithdrawn_eq m r; rw [h]
@[simp] theorem State.tellWithdrawn_choices (m : Move) (r : Reason) : (s.tellWithdrawn m r).choices = s.choices := by
  obtain ⟨_, h⟩ := s.tellWithdrawn_eq m r; rw [h]
@[simp] theorem State.tellWithdrawn_pending (m : Move) (r : Reason) : (s.tellWithdrawn m r).pending = s.pending := by
  obtain ⟨_, h⟩ := s.tellWithdrawn_eq m r; rw [h]

/-! ### tellEnd -/

@[simp] theorem State.tellEnd_clock (m : Move) (x : MoveOutcome) : (s.tellEnd m x).clock = s.clock := by
  obtain ⟨_, h⟩ := s.tellEnd_eq m x; rw [h]
@[simp] theorem State.tellEnd_tickPhase (m : Move) (x : MoveOutcome) : (s.tellEnd m x).tickPhase = s.tickPhase := by
  obtain ⟨_, h⟩ := s.tellEnd_eq m x; rw [h]
@[simp] theorem State.tellEnd_slots (m : Move) (x : MoveOutcome) : (s.tellEnd m x).slots = s.slots := by
  obtain ⟨_, h⟩ := s.tellEnd_eq m x; rw [h]
@[simp] theorem State.tellEnd_catalogue (m : Move) (x : MoveOutcome) : (s.tellEnd m x).catalogue = s.catalogue := by
  obtain ⟨_, h⟩ := s.tellEnd_eq m x; rw [h]
@[simp] theorem State.tellEnd_zones (m : Move) (x : MoveOutcome) : (s.tellEnd m x).zones = s.zones := by
  obtain ⟨_, h⟩ := s.tellEnd_eq m x; rw [h]
@[simp] theorem State.tellEnd_noSlot (m : Move) (x : MoveOutcome) : (s.tellEnd m x).noSlot = s.noSlot := by
  obtain ⟨_, h⟩ := s.tellEnd_eq m x; rw [h]
@[simp] theorem State.tellEnd_ports (m : Move) (x : MoveOutcome) : (s.tellEnd m x).ports = s.ports := by
  obtain ⟨_, h⟩ := s.tellEnd_eq m x; rw [h]
@[simp] theorem State.tellEnd_ahead (m : Move) (x : MoveOutcome) : (s.tellEnd m x).ahead = s.ahead := by
  obtain ⟨_, h⟩ := s.tellEnd_eq m x; rw [h]
@[simp] theorem State.tellEnd_announcements (m : Move) (x : MoveOutcome) : (s.tellEnd m x).announcements = s.announcements := by
  obtain ⟨_, h⟩ := s.tellEnd_eq m x; rw [h]
@[simp] theorem State.tellEnd_bi (m : Move) (x : MoveOutcome) : (s.tellEnd m x).bi = s.bi := by
  obtain ⟨_, h⟩ := s.tellEnd_eq m x; rw [h]
@[simp] theorem State.tellEnd_bo (m : Move) (x : MoveOutcome) : (s.tellEnd m x).bo = s.bo := by
  obtain ⟨_, h⟩ := s.tellEnd_eq m x; rw [h]
@[simp] theorem State.tellEnd_inn (m : Move) (x : MoveOutcome) : (s.tellEnd m x).inn = s.inn := by
  obtain ⟨_, h⟩ := s.tellEnd_eq m x; rw [h]
@[simp] theorem State.tellEnd_queue (m : Move) (x : MoveOutcome) : (s.tellEnd m x).queue = s.queue := by
  obtain ⟨_, h⟩ := s.tellEnd_eq m x; rw [h]
@[simp] theorem State.tellEnd_nextSeq (m : Move) (x : MoveOutcome) : (s.tellEnd m x).nextSeq = s.nextSeq := by
  obtain ⟨_, h⟩ := s.tellEnd_eq m x; rw [h]
@[simp] theorem State.tellEnd_tenure (m : Move) (x : MoveOutcome) : (s.tellEnd m x).tenure = s.tenure := by
  obtain ⟨_, h⟩ := s.tellEnd_eq m x; rw [h]
@[simp] theorem State.tellEnd_settings (m : Move) (x : MoveOutcome) : (s.tellEnd m x).settings = s.settings := by
  obtain ⟨_, h⟩ := s.tellEnd_eq m x; rw [h]
@[simp] theorem State.tellEnd_handler (m : Move) (x : MoveOutcome) : (s.tellEnd m x).handler = s.handler := by
  obtain ⟨_, h⟩ := s.tellEnd_eq m x; rw [h]
@[simp] theorem State.tellEnd_classes (m : Move) (x : MoveOutcome) : (s.tellEnd m x).classes = s.classes := by
  obtain ⟨_, h⟩ := s.tellEnd_eq m x; rw [h]
@[simp] theorem State.tellEnd_intercepts (m : Move) (x : MoveOutcome) : (s.tellEnd m x).intercepts = s.intercepts := by
  obtain ⟨_, h⟩ := s.tellEnd_eq m x; rw [h]
@[simp] theorem State.tellEnd_census (m : Move) (x : MoveOutcome) : (s.tellEnd m x).census = s.census := by
  obtain ⟨_, h⟩ := s.tellEnd_eq m x; rw [h]
@[simp] theorem State.tellEnd_materialNotices (m : Move) (x : MoveOutcome) : (s.tellEnd m x).materialNotices = s.materialNotices := by
  obtain ⟨_, h⟩ := s.tellEnd_eq m x; rw [h]
@[simp] theorem State.tellEnd_serviceNotices (m : Move) (x : MoveOutcome) : (s.tellEnd m x).serviceNotices = s.serviceNotices := by
  obtain ⟨_, h⟩ := s.tellEnd_eq m x; rw [h]
@[simp] theorem State.tellEnd_noticeGap (m : Move) (x : MoveOutcome) : (s.tellEnd m x).noticeGap = s.noticeGap := by
  obtain ⟨_, h⟩ := s.tellEnd_eq m x; rw [h]
@[simp] theorem State.tellEnd_pins (m : Move) (x : MoveOutcome) : (s.tellEnd m x).pins = s.pins := by
  obtain ⟨_, h⟩ := s.tellEnd_eq m x; rw [h]
@[simp] theorem State.tellEnd_rx (m : Move) (x : MoveOutcome) : (s.tellEnd m x).rx = s.rx := by
  obtain ⟨_, h⟩ := s.tellEnd_eq m x; rw [h]
@[simp] theorem State.tellEnd_choices (m : Move) (x : MoveOutcome) : (s.tellEnd m x).choices = s.choices := by
  obtain ⟨_, h⟩ := s.tellEnd_eq m x; rw [h]
@[simp] theorem State.tellEnd_pending (m : Move) (x : MoveOutcome) : (s.tellEnd m x).pending = s.pending := by
  obtain ⟨_, h⟩ := s.tellEnd_eq m x; rw [h]

/-- What a tool link is sent: the frame, unless its port is CLOSED (R75). -/
theorem State.sent_sendTool (p : Port) (f : OutFrame) (k : Link) :
    (s.sendTool p f).sent k
      = s.sent k ++ (if k = .request (.tool p) ∧ (s.port p).state ≠ .closed then [f] else []) := by
  unfold State.sendTool
  by_cases h : (s.port p).state = .closed
  · simp [h]
  · by_cases e : k = .request (.tool p)
    · subst e; simp [h]
    · simp [h, e, State.sent_send_other s e]

/-- A frame to a requester's link is appended after what was sent before; no other link gets one (R137, R164). -/
theorem State.sent_sendRequester (r : Requester) (f : OutFrame) (k : Link) :
    (s.sendRequester r f).sent k = s.sent k ∨ (s.sendRequester r f).sent k = s.sent k ++ [f] := by
  unfold State.sendRequester
  split
  · exact .inl rfl
  · rw [State.sent_sendTool]
    split
    · exact .inr rfl
    · exact .inl (by simp)
  · next l _ _ =>
    by_cases e : k = .request l
    · subst e; exact .inr (by simp)
    · exact .inl (State.sent_send_other s e f)

/-- What a link was sent stands, whatever frame is handed to a transmitter after it (R206). -/
theorem State.sent_send_before (l : Link) (f : OutFrame) (k : Link) : s.sent k <+: (s.send l f).sent k := by
  by_cases e : k = l
  · subst e; simp
  · rw [State.sent_send_other s e]

theorem State.sent_sendRequester_before (r : Requester) (f : OutFrame) (k : Link) :
    s.sent k <+: (s.sendRequester r f).sent k := by
  rcases s.sent_sendRequester r f k with h | h <;> simp [h]

/-! ## Notices (R211, R213) -/

theorem State.sendNotice_eq (l : NoticeLink) :
    ∃ x, s.sendNotice l = (s.send (.request (noticeLinkOf l)) (.notice (s.noticeItems l))).setNoticeSet l x
      ∧ x.gap = some s.noticeGap := ⟨_, rfl, rfl⟩

/-- A push sends one NOTICE when the gap timer is idle and does nothing while it runs. -/
theorem State.pushNotice_cases (l : NoticeLink) :
    ((s.noticeSet l).gap = none ∧ s.pushNotice l = s.sendNotice l)
      ∨ ((s.noticeSet l).gap.isSome ∧ s.pushNotice l = s) := by
  unfold State.pushNotice
  split
  · next h => exact .inl ⟨h, rfl⟩
  · next h => exact .inr ⟨by simp [h], rfl⟩

theorem State.pushNotice_eq (l : NoticeLink) : ∃ x tx, s.pushNotice l = { s with tx := tx }.setNoticeSet l x := by
  rcases s.pushNotice_cases l with ⟨_, h⟩ | ⟨_, h⟩
  · exact ⟨_, _, h⟩
  · exact ⟨s.noticeSet l, s.tx, by rw [h]; cases l <;> rfl⟩

theorem State.raiseOn_eq (l : NoticeLink) (k : NoticeKind) (d : Detail) :
    ∃ x tx, s.raiseOn l k d = { s with tx := tx }.setNoticeSet l x := by
  unfold State.raiseOn
  simp only
  split
  · exact ⟨_, s.tx, rfl⟩
  · obtain ⟨x, tx, h⟩ := State.pushNotice_eq (s.setNoticeSet l
      { s.noticeSet l with
        entries := (s.noticeSet l).entries.set k.number.val
          { (s.noticeSet l).entry k with pending := true, fresh := true, detail := d } k.number.isLt }) l
    exact ⟨x, tx, by rw [h]; cases l <;> rfl⟩

/-- A raise touches the two notice sets and what the transmitters hold, nothing else. -/
theorem State.raise_eq (k : NoticeKind) (d : Detail) :
    ∃ m v tx, s.raise k d = { s with materialNotices := m, serviceNotices := v, tx := tx } := by
  unfold State.raise
  obtain ⟨x, t, h⟩ := s.raiseOn_eq .material k d
  obtain ⟨y, u, g⟩ := (s.raiseOn .material k d).raiseOn_eq .service k d
  exact ⟨x, y, u, by rw [g, h]; rfl⟩

/-! ### raise -/

@[simp] theorem State.raise_clock (k : NoticeKind) (d : Detail) : (s.raise k d).clock = s.clock := by
  obtain ⟨_, _, _, h⟩ := s.raise_eq k d; rw [h]
@[simp] theorem State.raise_tickPhase (k : NoticeKind) (d : Detail) : (s.raise k d).tickPhase = s.tickPhase := by
  obtain ⟨_, _, _, h⟩ := s.raise_eq k d; rw [h]
@[simp] theorem State.raise_slots (k : NoticeKind) (d : Detail) : (s.raise k d).slots = s.slots := by
  obtain ⟨_, _, _, h⟩ := s.raise_eq k d; rw [h]
@[simp] theorem State.raise_catalogue (k : NoticeKind) (d : Detail) : (s.raise k d).catalogue = s.catalogue := by
  obtain ⟨_, _, _, h⟩ := s.raise_eq k d; rw [h]
@[simp] theorem State.raise_zones (k : NoticeKind) (d : Detail) : (s.raise k d).zones = s.zones := by
  obtain ⟨_, _, _, h⟩ := s.raise_eq k d; rw [h]
@[simp] theorem State.raise_noSlot (k : NoticeKind) (d : Detail) : (s.raise k d).noSlot = s.noSlot := by
  obtain ⟨_, _, _, h⟩ := s.raise_eq k d; rw [h]
@[simp] theorem State.raise_ports (k : NoticeKind) (d : Detail) : (s.raise k d).ports = s.ports := by
  obtain ⟨_, _, _, h⟩ := s.raise_eq k d; rw [h]
@[simp] theorem State.raise_ahead (k : NoticeKind) (d : Detail) : (s.raise k d).ahead = s.ahead := by
  obtain ⟨_, _, _, h⟩ := s.raise_eq k d; rw [h]
@[simp] theorem State.raise_announcements (k : NoticeKind) (d : Detail) : (s.raise k d).announcements = s.announcements := by
  obtain ⟨_, _, _, h⟩ := s.raise_eq k d; rw [h]
@[simp] theorem State.raise_bi (k : NoticeKind) (d : Detail) : (s.raise k d).bi = s.bi := by
  obtain ⟨_, _, _, h⟩ := s.raise_eq k d; rw [h]
@[simp] theorem State.raise_bo (k : NoticeKind) (d : Detail) : (s.raise k d).bo = s.bo := by
  obtain ⟨_, _, _, h⟩ := s.raise_eq k d; rw [h]
@[simp] theorem State.raise_inn (k : NoticeKind) (d : Detail) : (s.raise k d).inn = s.inn := by
  obtain ⟨_, _, _, h⟩ := s.raise_eq k d; rw [h]
@[simp] theorem State.raise_queue (k : NoticeKind) (d : Detail) : (s.raise k d).queue = s.queue := by
  obtain ⟨_, _, _, h⟩ := s.raise_eq k d; rw [h]
@[simp] theorem State.raise_nextSeq (k : NoticeKind) (d : Detail) : (s.raise k d).nextSeq = s.nextSeq := by
  obtain ⟨_, _, _, h⟩ := s.raise_eq k d; rw [h]
@[simp] theorem State.raise_tenure (k : NoticeKind) (d : Detail) : (s.raise k d).tenure = s.tenure := by
  obtain ⟨_, _, _, h⟩ := s.raise_eq k d; rw [h]
@[simp] theorem State.raise_settings (k : NoticeKind) (d : Detail) : (s.raise k d).settings = s.settings := by
  obtain ⟨_, _, _, h⟩ := s.raise_eq k d; rw [h]
@[simp] theorem State.raise_handler (k : NoticeKind) (d : Detail) : (s.raise k d).handler = s.handler := by
  obtain ⟨_, _, _, h⟩ := s.raise_eq k d; rw [h]
@[simp] theorem State.raise_classes (k : NoticeKind) (d : Detail) : (s.raise k d).classes = s.classes := by
  obtain ⟨_, _, _, h⟩ := s.raise_eq k d; rw [h]
@[simp] theorem State.raise_intercepts (k : NoticeKind) (d : Detail) : (s.raise k d).intercepts = s.intercepts := by
  obtain ⟨_, _, _, h⟩ := s.raise_eq k d; rw [h]
@[simp] theorem State.raise_census (k : NoticeKind) (d : Detail) : (s.raise k d).census = s.census := by
  obtain ⟨_, _, _, h⟩ := s.raise_eq k d; rw [h]
@[simp] theorem State.raise_noticeGap (k : NoticeKind) (d : Detail) : (s.raise k d).noticeGap = s.noticeGap := by
  obtain ⟨_, _, _, h⟩ := s.raise_eq k d; rw [h]
@[simp] theorem State.raise_pins (k : NoticeKind) (d : Detail) : (s.raise k d).pins = s.pins := by
  obtain ⟨_, _, _, h⟩ := s.raise_eq k d; rw [h]
@[simp] theorem State.raise_rx (k : NoticeKind) (d : Detail) : (s.raise k d).rx = s.rx := by
  obtain ⟨_, _, _, h⟩ := s.raise_eq k d; rw [h]
@[simp] theorem State.raise_choices (k : NoticeKind) (d : Detail) : (s.raise k d).choices = s.choices := by
  obtain ⟨_, _, _, h⟩ := s.raise_eq k d; rw [h]
@[simp] theorem State.raise_pending (k : NoticeKind) (d : Detail) : (s.raise k d).pending = s.pending := by
  obtain ⟨_, _, _, h⟩ := s.raise_eq k d; rw [h]

@[simp] theorem NoticeSet.entry_gap (x : NoticeSet) (g : Option Nat) (k : NoticeKind) :
    { x with gap := g }.entry k = x.entry k := rfl

theorem kindOf_number (k : NoticeKind) : kindOf k.number = k := by cases k <;> rfl

theorem NoticeKind.number_injective {j k : NoticeKind} (h : j.number = k.number) : j = k := by
  rw [← kindOf_number j, h, kindOf_number]

@[simp] theorem NoticeSet.entry_mapKinds (x : NoticeSet) (f : NoticeKind → NoticeEntry → NoticeEntry) (k : NoticeKind) :
    (x.mapKinds f).entry k = f k (x.entry k) := by
  simp [NoticeSet.mapKinds, NoticeSet.entry, Vector.get_eq_getElem, kindOf_number]

/-- A NOTICE frame takes the fresh flag of the kinds it carries; pending flags, masks and details stand (R213). -/
theorem State.entry_sendNotice (l : NoticeLink) (k : NoticeKind) :
    ((s.sendNotice l).noticeSet l).entry k
      = if ((s.noticeSet l).entry k).shown then { (s.noticeSet l).entry k with fresh := false }
        else (s.noticeSet l).entry k := by
  simp [State.sendNotice]

theorem State.noticeSet_sendNotice_other {l j : NoticeLink} (h : j ≠ l) : (s.sendNotice l).noticeSet j = s.noticeSet j := by
  unfold State.sendNotice
  simp only
  rw [State.noticeSet_setNoticeSet_other _ h]
  cases j <;> rfl

theorem State.entry_pushNotice (l j : NoticeLink) (k : NoticeKind) :
    ((s.pushNotice l).noticeSet j).entry k = (s.noticeSet j).entry k
      ∨ ((s.pushNotice l).noticeSet j).entry k = { (s.noticeSet j).entry k with fresh := false } := by
  rcases s.pushNotice_cases l with ⟨_, h⟩ | ⟨_, h⟩
  · rw [h]
    by_cases e : j = l
    · subst e
      rw [State.entry_sendNotice]
      split
      · exact .inr rfl
      · exact .inl rfl
    · exact .inl (by rw [State.noticeSet_sendNotice_other s e])
  · exact .inl (by rw [h])

/-- After a raise on one link the kind is pending there with the new detail and its mask as it was (R211). -/
theorem State.entry_raiseOn_same (l : NoticeLink) (k : NoticeKind) (d : Detail) :
    let e := ((s.raiseOn l k d).noticeSet l).entry k
    e.pending = true ∧ e.detail = d ∧ e.masked = ((s.noticeSet l).entry k).masked := by
  unfold State.raiseOn
  simp only
  split
  · simp [NoticeSet.entry, Vector.get_eq_getElem]
  · rcases State.entry_pushNotice (s.setNoticeSet l
      { s.noticeSet l with
        entries := (s.noticeSet l).entries.set k.number.val
          { (s.noticeSet l).entry k with pending := true, fresh := true, detail := d } k.number.isLt }) l l k with h | h <;>
      rw [h] <;> simp [NoticeSet.entry, Vector.get_eq_getElem]

/-- A raise on one link leaves every other kind's pending flag, mask and detail, and the other link's set (R211). -/
theorem State.entry_raiseOn_other (l j : NoticeLink) (k i : NoticeKind) (d : Detail) (h : j ≠ l ∨ i ≠ k) :
    let e := ((s.raiseOn l k d).noticeSet j).entry i
    e.pending = ((s.noticeSet j).entry i).pending ∧ e.detail = ((s.noticeSet j).entry i).detail
      ∧ e.masked = ((s.noticeSet j).entry i).masked := by
  have base : (((s.setNoticeSet l
      { s.noticeSet l with
        entries := (s.noticeSet l).entries.set k.number.val
          { (s.noticeSet l).entry k with pending := true, fresh := true, detail := d } k.number.isLt }).noticeSet j).entry i)
      = (s.noticeSet j).entry i := by
    by_cases e : j = l
    · subst e
      have ne : k.number.val ≠ i.number.val := fun q =>
        (h.resolve_left (by simp)) (NoticeKind.number_injective (Fin.ext q.symm))
      simp [NoticeSet.entry, Vector.get_eq_getElem, ne]
    · rw [State.noticeSet_setNoticeSet_other _ e]
  unfold State.raiseOn
  simp only
  split
  · simp [base]
  · rcases State.entry_pushNotice (s.setNoticeSet l
      { s.noticeSet l with
        entries := (s.noticeSet l).entries.set k.number.val
          { (s.noticeSet l).entry k with pending := true, fresh := true, detail := d } k.number.isLt }) l j i with h | h <;>
      rw [h] <;> simp [base]

/-- A raise leaves its kind pending on both links with its detail (R211). -/
theorem State.raise_raised (k : NoticeKind) (d : Detail) : (s.raise k d).Raised k d := by
  intro l
  unfold State.raise
  cases l with
  | material =>
    have a := s.entry_raiseOn_same .material k d
    have b := (s.raiseOn .material k d).entry_raiseOn_other .service .material k k d (.inl (by decide))
    exact ⟨b.1.trans a.1, b.2.1.trans a.2.1⟩
  | service =>
    have b := (s.raiseOn .material k d).entry_raiseOn_same .service k d
    exact ⟨b.1, b.2.1⟩

/-- A raise leaves every other kind's pending flag, mask and detail on both links (R211). -/
theorem State.raise_other {k i : NoticeKind} (h : i ≠ k) (d : Detail) (l : NoticeLink) :
    let e := ((s.raise k d).noticeSet l).entry i
    e.pending = ((s.noticeSet l).entry i).pending ∧ e.detail = ((s.noticeSet l).entry i).detail
      ∧ e.masked = ((s.noticeSet l).entry i).masked := by
  have a := s.entry_raiseOn_other .material l k i d (.inr h)
  have b := (s.raiseOn .material k d).entry_raiseOn_other .service l k i d (.inr h)
  exact ⟨b.1.trans a.1, b.2.1.trans a.2.1, b.2.2.trans a.2.2⟩

/-! ## The steady part -/

theorem State.steady_sendTool (p : Port) (f : OutFrame) : (s.sendTool p f).steady = s.steady := by
  obtain ⟨_, h⟩ := s.sendTool_eq p f; rw [h]; rfl

theorem State.steady_tellWithdrawn (m : Move) (r : Reason) : (s.tellWithdrawn m r).steady = s.steady := by
  obtain ⟨_, h⟩ := s.tellWithdrawn_eq m r; rw [h]; rfl

theorem State.steady_tellEnd (m : Move) (x : MoveOutcome) : (s.tellEnd m x).steady = s.steady := by
  obtain ⟨_, h⟩ := s.tellEnd_eq m x; rw [h]; rfl

@[simp] theorem State.steady_raise (k : NoticeKind) (d : Detail) : (s.raise k d).steady = s.steady := by
  obtain ⟨_, _, _, h⟩ := s.raise_eq k d; rw [h]; rfl

/-- A change of records that leaves each record's steady part leaves that of the state. -/
theorem State.steady_mapCatalogue (f : Rec → Rec) (h : ∀ r, (f r).steady = r.steady) :
    { s with catalogue := s.catalogue.map f }.steady = s.steady := by
  have e : Rec.steady ∘ f = Rec.steady := funext h
  simp [State.steady, e]

@[simp] theorem State.steady_bind (id : Ident) (q : Seq) : (s.bind id q).steady = s.steady :=
  s.steady_mapCatalogue _ (fun r => by split <;> rfl)

@[simp] theorem State.steady_release (q : Seq) : (s.release q).steady = s.steady :=
  s.steady_mapCatalogue _ (fun r => by split <;> rfl)

@[simp] theorem State.steady_updMove (q : Seq) (f : Move → Move) : (s.updMove q f).steady = s.steady := rfl

@[simp] theorem State.steady_dropMove (q : Seq) : (s.dropMove q).steady = s.steady := by
  unfold State.dropMove; rw [State.steady_release]; rfl

@[simp] theorem State.steady_updHandler (f : Handler → Handler) : (s.updHandler f).steady = s.steady := rfl

@[simp] theorem State.steady_send (l : Link) (f : OutFrame) : (s.send l f).steady = s.steady := rfl

/-- A change of a port that leaves its steady part leaves that of the state. -/
theorem State.steady_updPort (p : Port) (f : PortRec → PortRec) (h : (f (s.port p)).steady = (s.port p).steady) :
    (s.updPort p f).steady = s.steady := by
  have e : (s.ports.set p.val (f (s.port p)) p.isLt).map PortRec.steady = s.ports.map PortRec.steady := by
    ext i hi
    by_cases q : p.val = i
    · subst q; simpa [State.port, Vector.get_eq_getElem] using h
    · simp [q]
  simp [State.steady, State.updPort, e]

@[simp] theorem State.steady_setToolNest (p : Port) (x : ToolNest) : (s.setToolNest p x).steady = s.steady :=
  s.steady_updPort p _ rfl

@[simp] theorem State.steady_lapseNest (p : Port) : (s.lapseNest p).steady = s.steady := s.steady_updPort p _ rfl

@[simp] theorem State.steady_clearNest (p : Port) : (s.clearNest p).steady = s.steady := s.steady_updPort p _ rfl

/-- A slot written with an entry of the same content leaves the steady part. -/
theorem State.steady_setSlot (n : Slot) (e : SlotEntry) (h : e.content = (s.slot n).content) :
    (s.setSlot n e).steady = s.steady := by
  have x : (s.slots.set n.val e n.isLt).map SlotEntry.content = s.slots.map SlotEntry.content := by
    ext i hi
    by_cases q : n.val = i
    · subst q; simpa [State.slot, Vector.get_eq_getElem] using h
    · simp [q]
  simp [State.steady, State.setSlot, x]

/-! ## Entering the queue (R117, R118, R121) -/

/-- The move that an offer becomes when it enters the queue. -/
def State.entered (s : State) (o : Offer) (diverted hold : Bool) : Move :=
  { seq := s.nextSeq, kind := o.kind, requester := o.requester, beneficiary := o.beneficiary, reticle := o.reticle,
    pickTest := o.pickTest, source := o.source, target := o.target, listPosition := o.listPosition,
    enqueued := s.clock, state := .waiting, diverted := diverted, holdOnCompletion := hold, standDown := false }

/-- Entering appends one WAITING move, takes the next number, and binds the record the offer names; nothing else. -/
theorem State.enter_eq (o : Offer) (d h : Bool) :
    ∃ c, s.enter o d h = { s with queue := s.queue ++ [s.entered o d h], nextSeq := s.nextSeq + 1, catalogue := c }
      ∧ c.map Rec.steady = s.catalogue.map Rec.steady ∧ c.map (·.id) = s.catalogue.map (·.id) := by
  unfold State.enter
  simp only
  split
  · next id _ =>
    refine ⟨s.catalogue.map (fun r => if r.id = id then { r with binding := some s.nextSeq } else r), rfl, ?_, ?_⟩ <;>
      · simp only [List.map_map]
        exact List.map_congr_left (fun r _ => by by_cases e : r.id = id <;> simp [e, Rec.steady])
  · exact ⟨s.catalogue, rfl, rfl, rfl⟩

@[simp] theorem State.enter_clock (o : Offer) (d h : Bool) : (s.enter o d h).clock = s.clock := by
  obtain ⟨_, e, _⟩ := s.enter_eq o d h; rw [e]
@[simp] theorem State.enter_tickPhase (o : Offer) (d h : Bool) : (s.enter o d h).tickPhase = s.tickPhase := by
  obtain ⟨_, e, _⟩ := s.enter_eq o d h; rw [e]
@[simp] theorem State.enter_slots (o : Offer) (d h : Bool) : (s.enter o d h).slots = s.slots := by
  obtain ⟨_, e, _⟩ := s.enter_eq o d h; rw [e]
@[simp] theorem State.enter_zones (o : Offer) (d h : Bool) : (s.enter o d h).zones = s.zones := by
  obtain ⟨_, e, _⟩ := s.enter_eq o d h; rw [e]
@[simp] theorem State.enter_noSlot (o : Offer) (d h : Bool) : (s.enter o d h).noSlot = s.noSlot := by
  obtain ⟨_, e, _⟩ := s.enter_eq o d h; rw [e]
@[simp] theorem State.enter_ports (o : Offer) (d h : Bool) : (s.enter o d h).ports = s.ports := by
  obtain ⟨_, e, _⟩ := s.enter_eq o d h; rw [e]
@[simp] theorem State.enter_ahead (o : Offer) (d h : Bool) : (s.enter o d h).ahead = s.ahead := by
  obtain ⟨_, e, _⟩ := s.enter_eq o d h; rw [e]
@[simp] theorem State.enter_announcements (o : Offer) (d h : Bool) : (s.enter o d h).announcements = s.announcements := by
  obtain ⟨_, e, _⟩ := s.enter_eq o d h; rw [e]
@[simp] theorem State.enter_bi (o : Offer) (d h : Bool) : (s.enter o d h).bi = s.bi := by
  obtain ⟨_, e, _⟩ := s.enter_eq o d h; rw [e]
@[simp] theorem State.enter_bo (o : Offer) (d h : Bool) : (s.enter o d h).bo = s.bo := by
  obtain ⟨_, e, _⟩ := s.enter_eq o d h; rw [e]
@[simp] theorem State.enter_inn (o : Offer) (d h : Bool) : (s.enter o d h).inn = s.inn := by
  obtain ⟨_, e, _⟩ := s.enter_eq o d h; rw [e]
@[simp] theorem State.enter_tenure (o : Offer) (d h : Bool) : (s.enter o d h).tenure = s.tenure := by
  obtain ⟨_, e, _⟩ := s.enter_eq o d h; rw [e]
@[simp] theorem State.enter_settings (o : Offer) (d h : Bool) : (s.enter o d h).settings = s.settings := by
  obtain ⟨_, e, _⟩ := s.enter_eq o d h; rw [e]
@[simp] theorem State.enter_handler (o : Offer) (d h : Bool) : (s.enter o d h).handler = s.handler := by
  obtain ⟨_, e, _⟩ := s.enter_eq o d h; rw [e]
@[simp] theorem State.enter_classes (o : Offer) (d h : Bool) : (s.enter o d h).classes = s.classes := by
  obtain ⟨_, e, _⟩ := s.enter_eq o d h; rw [e]
@[simp] theorem State.enter_intercepts (o : Offer) (d h : Bool) : (s.enter o d h).intercepts = s.intercepts := by
  obtain ⟨_, e, _⟩ := s.enter_eq o d h; rw [e]
@[simp] theorem State.enter_census (o : Offer) (d h : Bool) : (s.enter o d h).census = s.census := by
  obtain ⟨_, e, _⟩ := s.enter_eq o d h; rw [e]
@[simp] theorem State.enter_materialNotices (o : Offer) (d h : Bool) : (s.enter o d h).materialNotices = s.materialNotices := by
  obtain ⟨_, e, _⟩ := s.enter_eq o d h; rw [e]
@[simp] theorem State.enter_serviceNotices (o : Offer) (d h : Bool) : (s.enter o d h).serviceNotices = s.serviceNotices := by
  obtain ⟨_, e, _⟩ := s.enter_eq o d h; rw [e]
@[simp] theorem State.enter_noticeGap (o : Offer) (d h : Bool) : (s.enter o d h).noticeGap = s.noticeGap := by
  obtain ⟨_, e, _⟩ := s.enter_eq o d h; rw [e]
@[simp] theorem State.enter_pins (o : Offer) (d h : Bool) : (s.enter o d h).pins = s.pins := by
  obtain ⟨_, e, _⟩ := s.enter_eq o d h; rw [e]
@[simp] theorem State.enter_rx (o : Offer) (d h : Bool) : (s.enter o d h).rx = s.rx := by
  obtain ⟨_, e, _⟩ := s.enter_eq o d h; rw [e]
@[simp] theorem State.enter_tx (o : Offer) (d h : Bool) : (s.enter o d h).tx = s.tx := by
  obtain ⟨_, e, _⟩ := s.enter_eq o d h; rw [e]
@[simp] theorem State.enter_choices (o : Offer) (d h : Bool) : (s.enter o d h).choices = s.choices := by
  obtain ⟨_, e, _⟩ := s.enter_eq o d h; rw [e]
@[simp] theorem State.enter_pending (o : Offer) (d h : Bool) : (s.enter o d h).pending = s.pending := by
  obtain ⟨_, e, _⟩ := s.enter_eq o d h; rw [e]

@[simp] theorem State.enter_queue (o : Offer) (d h : Bool) : (s.enter o d h).queue = s.queue ++ [s.entered o d h] := by
  obtain ⟨_, e, _⟩ := s.enter_eq o d h; rw [e]

@[simp] theorem State.enter_nextSeq (o : Offer) (d h : Bool) : (s.enter o d h).nextSeq = s.nextSeq + 1 := by
  obtain ⟨_, e, _⟩ := s.enter_eq o d h; rw [e]

@[simp] theorem State.steady_enter (o : Offer) (d h : Bool) : (s.enter o d h).steady = s.steady := by
  obtain ⟨c, e, k, _⟩ := s.enter_eq o d h
  rw [e]; simp [State.steady, k]

/-- A hit changes its entry's count, saturating at 255, and raises INTERCEPT (R186). -/
theorem State.countHit_eq (n : Fin 16) (o : Offer) :
    ∃ m v tx, s.countHit n o = { s with
      intercepts := s.intercepts.set n.val { s.intercepts.get n with hits := clampTo 255 ((s.intercepts.get n).hits.val + 1) } n.isLt
      materialNotices := m, serviceNotices := v, tx := tx } := by
  unfold State.countHit
  obtain ⟨m, v, t, h⟩ := State.raise_eq { s with
      intercepts := s.intercepts.set n.val
        { s.intercepts.get n with hits := clampTo 255 ((s.intercepts.get n).hits.val + 1) } n.isLt } .intercept
    ⟨o.reticle, none, some o.source, o.beneficiary, some n.val⟩
  exact ⟨m, v, t, h⟩

/-! ### countHit -/

@[simp] theorem State.countHit_clock (n : Fin 16) (o : Offer) : (s.countHit n o).clock = s.clock := by
  obtain ⟨_, _, _, h⟩ := s.countHit_eq n o; rw [h]
@[simp] theorem State.countHit_tickPhase (n : Fin 16) (o : Offer) : (s.countHit n o).tickPhase = s.tickPhase := by
  obtain ⟨_, _, _, h⟩ := s.countHit_eq n o; rw [h]
@[simp] theorem State.countHit_slots (n : Fin 16) (o : Offer) : (s.countHit n o).slots = s.slots := by
  obtain ⟨_, _, _, h⟩ := s.countHit_eq n o; rw [h]
@[simp] theorem State.countHit_catalogue (n : Fin 16) (o : Offer) : (s.countHit n o).catalogue = s.catalogue := by
  obtain ⟨_, _, _, h⟩ := s.countHit_eq n o; rw [h]
@[simp] theorem State.countHit_zones (n : Fin 16) (o : Offer) : (s.countHit n o).zones = s.zones := by
  obtain ⟨_, _, _, h⟩ := s.countHit_eq n o; rw [h]
@[simp] theorem State.countHit_noSlot (n : Fin 16) (o : Offer) : (s.countHit n o).noSlot = s.noSlot := by
  obtain ⟨_, _, _, h⟩ := s.countHit_eq n o; rw [h]
@[simp] theorem State.countHit_ports (n : Fin 16) (o : Offer) : (s.countHit n o).ports = s.ports := by
  obtain ⟨_, _, _, h⟩ := s.countHit_eq n o; rw [h]
@[simp] theorem State.countHit_ahead (n : Fin 16) (o : Offer) : (s.countHit n o).ahead = s.ahead := by
  obtain ⟨_, _, _, h⟩ := s.countHit_eq n o; rw [h]
@[simp] theorem State.countHit_announcements (n : Fin 16) (o : Offer) : (s.countHit n o).announcements = s.announcements := by
  obtain ⟨_, _, _, h⟩ := s.countHit_eq n o; rw [h]
@[simp] theorem State.countHit_bi (n : Fin 16) (o : Offer) : (s.countHit n o).bi = s.bi := by
  obtain ⟨_, _, _, h⟩ := s.countHit_eq n o; rw [h]
@[simp] theorem State.countHit_bo (n : Fin 16) (o : Offer) : (s.countHit n o).bo = s.bo := by
  obtain ⟨_, _, _, h⟩ := s.countHit_eq n o; rw [h]
@[simp] theorem State.countHit_inn (n : Fin 16) (o : Offer) : (s.countHit n o).inn = s.inn := by
  obtain ⟨_, _, _, h⟩ := s.countHit_eq n o; rw [h]
@[simp] theorem State.countHit_queue (n : Fin 16) (o : Offer) : (s.countHit n o).queue = s.queue := by
  obtain ⟨_, _, _, h⟩ := s.countHit_eq n o; rw [h]
@[simp] theorem State.countHit_nextSeq (n : Fin 16) (o : Offer) : (s.countHit n o).nextSeq = s.nextSeq := by
  obtain ⟨_, _, _, h⟩ := s.countHit_eq n o; rw [h]
@[simp] theorem State.countHit_tenure (n : Fin 16) (o : Offer) : (s.countHit n o).tenure = s.tenure := by
  obtain ⟨_, _, _, h⟩ := s.countHit_eq n o; rw [h]
@[simp] theorem State.countHit_settings (n : Fin 16) (o : Offer) : (s.countHit n o).settings = s.settings := by
  obtain ⟨_, _, _, h⟩ := s.countHit_eq n o; rw [h]
@[simp] theorem State.countHit_handler (n : Fin 16) (o : Offer) : (s.countHit n o).handler = s.handler := by
  obtain ⟨_, _, _, h⟩ := s.countHit_eq n o; rw [h]
@[simp] theorem State.countHit_classes (n : Fin 16) (o : Offer) : (s.countHit n o).classes = s.classes := by
  obtain ⟨_, _, _, h⟩ := s.countHit_eq n o; rw [h]
@[simp] theorem State.countHit_census (n : Fin 16) (o : Offer) : (s.countHit n o).census = s.census := by
  obtain ⟨_, _, _, h⟩ := s.countHit_eq n o; rw [h]
@[simp] theorem State.countHit_noticeGap (n : Fin 16) (o : Offer) : (s.countHit n o).noticeGap = s.noticeGap := by
  obtain ⟨_, _, _, h⟩ := s.countHit_eq n o; rw [h]
@[simp] theorem State.countHit_pins (n : Fin 16) (o : Offer) : (s.countHit n o).pins = s.pins := by
  obtain ⟨_, _, _, h⟩ := s.countHit_eq n o; rw [h]
@[simp] theorem State.countHit_rx (n : Fin 16) (o : Offer) : (s.countHit n o).rx = s.rx := by
  obtain ⟨_, _, _, h⟩ := s.countHit_eq n o; rw [h]
@[simp] theorem State.countHit_choices (n : Fin 16) (o : Offer) : (s.countHit n o).choices = s.choices := by
  obtain ⟨_, _, _, h⟩ := s.countHit_eq n o; rw [h]
@[simp] theorem State.countHit_pending (n : Fin 16) (o : Offer) : (s.countHit n o).pending = s.pending := by
  obtain ⟨_, _, _, h⟩ := s.countHit_eq n o; rw [h]

@[simp] theorem State.steady_countHit (n : Fin 16) (o : Offer) : (s.countHit n o).steady = s.steady := by
  obtain ⟨_, _, _, h⟩ := s.countHit_eq n o; rw [h]; rfl

/-- An inward offer is admitted whatever the intercepts decide: as it stands with no deciding entry, else counted as a hit
and admitted, with hold-on-completion for a HOLD (R187, R189). -/
theorem State.offerInward_cases (o : Offer) :
    (s.deciding o = none ∧ s.offerInward o = s.enter o false false)
      ∨ ∃ n, s.deciding o = some n ∧ s.offerInward o = (s.countHit n o).enter o false ((s.intercepts.get n).action = .hold) := by
  unfold State.offerInward
  split
  · next h => exact .inl ⟨h, rfl⟩
  · next n h => exact .inr ⟨n, h, rfl⟩

/-- An inward offer always appends one WAITING move of its own kind, reticle, source and target. -/
theorem State.offerInward_queue (o : Offer) : ∃ b, (s.offerInward o).queue = s.queue ++ [s.entered o false b] := by
  rcases s.offerInward_cases o with ⟨_, h⟩ | ⟨n, _, h⟩
  · exact ⟨false, by simp [h]⟩
  · exact ⟨_, by rw [h]; simp [State.entered]; rfl⟩

@[simp] theorem State.steady_offerInward (o : Offer) : (s.offerInward o).steady = s.steady := by
  rcases s.offerInward_cases o with ⟨_, h⟩ | ⟨n, _, h⟩ <;> simp [h]

@[simp] theorem State.offerInward_nextSeq (o : Offer) : (s.offerInward o).nextSeq = s.nextSeq + 1 := by
  rcases s.offerInward_cases o with ⟨_, h⟩ | ⟨n, _, h⟩ <;> simp [h]

@[simp] theorem State.offerInward_handler (o : Offer) : (s.offerInward o).handler = s.handler := by
  rcases s.offerInward_cases o with ⟨_, h⟩ | ⟨n, _, h⟩ <;> simp [h]

@[simp] theorem State.offerInward_slots (o : Offer) : (s.offerInward o).slots = s.slots := by
  rcases s.offerInward_cases o with ⟨_, h⟩ | ⟨n, _, h⟩ <;> simp [h]

@[simp] theorem State.offerInward_ports (o : Offer) : (s.offerInward o).ports = s.ports := by
  rcases s.offerInward_cases o with ⟨_, h⟩ | ⟨n, _, h⟩ <;> simp [h]

/-- The deciding entry matches the offer, and no entry above it does (R186). -/
theorem State.deciding_some {o : Offer} {n : Fin 16} (h : s.deciding o = some n) :
    (s.intercepts.get n).catches o = true := by
  simpa using List.find?_some h

theorem State.deciding_none {o : Offer} (h : s.deciding o = none) (n : Fin 16) :
    (s.intercepts.get n).catches o = false := by
  have m : n ∈ sixteenEntries := by revert n; decide
  have := List.find?_eq_none.mp h n m
  simpa using this

/-! ## Leaving the queue (R115, R121, R136, R137) -/

/-- A withdrawal takes the move out of the queue, releases its binding, ends the census for a SCAN, and may tell a link. -/
theorem State.withdraw_eq (m : Move) (r : Option Reason) :
    ∃ tx, s.withdraw m r = { (if m.kind = .scan then (s.dropMove m.seq).censusEnds else s.dropMove m.seq) with tx := tx } := by
  unfold State.withdraw
  simp only
  split
  · exact State.tellWithdrawn_eq _ _ _
  · exact ⟨_, rfl⟩

@[simp] theorem State.withdraw_queue (m : Move) (r : Option Reason) :
    (s.withdraw m r).queue = s.queue.filter (fun x => !decide (x.seq = m.seq)) := by
  obtain ⟨_, h⟩ := s.withdraw_eq m r
  rw [h]; split <;> rfl

@[simp] theorem State.withdraw_catalogue (m : Move) (r : Option Reason) :
    (s.withdraw m r).catalogue = (s.dropMove m.seq).catalogue := by
  obtain ⟨_, h⟩ := s.withdraw_eq m r
  rw [h]; split <;> rfl

@[simp] theorem State.withdraw_slots (m : Move) (r : Option Reason) : (s.withdraw m r).slots = s.slots := by
  obtain ⟨_, h⟩ := s.withdraw_eq m r
  rw [h]; split <;> rfl

@[simp] theorem State.withdraw_ports (m : Move) (r : Option Reason) : (s.withdraw m r).ports = s.ports := by
  obtain ⟨_, h⟩ := s.withdraw_eq m r
  rw [h]; split <;> rfl

@[simp] theorem State.withdraw_handler (m : Move) (r : Option Reason) : (s.withdraw m r).handler = s.handler := by
  obtain ⟨_, h⟩ := s.withdraw_eq m r
  rw [h]; split <;> rfl

@[simp] theorem State.withdraw_nextSeq (m : Move) (r : Option Reason) : (s.withdraw m r).nextSeq = s.nextSeq := by
  obtain ⟨_, h⟩ := s.withdraw_eq m r
  rw [h]; split <;> rfl

theorem State.steady_withdraw {m : Move} (k : m.kind ≠ .scan) (r : Option Reason) :
    (s.withdraw m r).steady = s.steady := by
  obtain ⟨_, h⟩ := s.withdraw_eq m r
  rw [h, if_neg k]
  exact s.steady_dropMove m.seq

/-- What every withdrawal keeps, a withdrawal of a set of moves keeps. -/
theorem State.withdrawWhere_ind (P : State → Prop) (f : Move → Bool) (r : Option Reason)
    (step : ∀ t m, m ∈ s.queue → m.isWaiting = true → f m = true → P t → P (t.withdraw m r)) (h : P s) :
    P (s.withdrawWhere f r) := by
  unfold State.withdrawWhere
  have sub : ∀ m ∈ s.queue.filter (fun m => m.isWaiting && f m), m ∈ s.queue ∧ m.isWaiting = true ∧ f m = true := by
    intro m hm; simpa using List.mem_filter.mp hm
  generalize s.queue.filter (fun m => m.isWaiting && f m) = ms at sub
  generalize hs : s.queue = qs at sub step
  clear hs
  induction ms generalizing s with
  | nil => exact h
  | cons m ms ih =>
    have x := sub m (by simp)
    exact ih _ (step s m x.1 x.2.1 x.2.2 h) (fun y hy => sub y (by simp [hy]))

/-- What every withdrawal keeps, the sweep of a grant test keeps (R125). -/
theorem State.sweep_ind (P : State → Prop)
    (step : ∀ t m r, m ∈ s.queue → s.sweeps m = some r → m.kind = .deliver → P t → P (t.withdraw m (some r))) (h : P s) :
    P s.sweep := by
  unfold State.sweep
  have aux : ∀ (ms : List Move) (t : State), (∀ m ∈ ms, m ∈ s.queue) → P t →
      P (ms.foldl (fun t m => match s.sweeps m with | some r => t.withdraw m (some r) | none => t) t) := by
    intro ms
    induction ms with
    | nil => intro t _ ht; exact ht
    | cons m ms ih =>
      intro t hm ht
      refine ih _ (fun x hx => hm x (by simp [hx])) ?_
      simp only
      split
      · next r e =>
        have e0 := e
        have k : m.kind = .deliver := by
          unfold State.sweeps at e
          split at e
          · next g => simp at g; exact g.2
          · cases e
        exact step t m r (hm m (by simp)) e0 k ht
      · exact ht
  exact aux s.queue s (fun _ hm => hm) h

/-! ## Tool-service fitness (R65, R103, R177) -/

/-- A record that stops being fit lapses the nest it waits on and is reclaimed, its tool told; else nothing happens (R65). -/
theorem State.reclaimIfUnfit_cases (id : Ident) :
    s.reclaimIfUnfit id = s
      ∨ ∃ r p, s.record id = some r ∧ r.location = .nest (.t p) ∧ s.toolNest p = .outWait ∧ r.fit = false
          ∧ s.reclaimIfUnfit id
            = ((s.lapseNest p).offerInward (reclaimOffer p id)).sendTool p (.withdrawn id r.unfitReason) := by
  unfold State.reclaimIfUnfit
  split
  · next r h =>
    split
    · next p hl =>
      split
      · next g => exact .inr ⟨r, p, h, hl, g.1, g.2, rfl⟩
      · exact .inl rfl
    · exact .inl rfl
  · exact .inl rfl

@[simp] theorem State.steady_reclaimIfUnfit (id : Ident) : (s.reclaimIfUnfit id).steady = s.steady := by
  rcases s.reclaimIfUnfit_cases id with h | ⟨r, p, _, _, _, _, h⟩
  · rw [h]
  · rw [h, State.steady_sendTool]; simp

theorem State.steady_withdrawHeldDeliver (r : Rec) : (s.withdrawHeldDeliver r).steady = s.steady := by
  unfold State.withdrawHeldDeliver
  split
  · split
    · next h => exact State.steady_withdraw _ (by simp [h.1]) _
    · rfl
  · rfl

/-- A record held, with all that follows on its delivery or nest, keeps the steady part (R103). -/
@[simp] theorem State.steady_setHeld (id : Ident) : (s.setHeld id).steady = s.steady := by
  unfold State.setHeld
  split
  · split
    · rfl
    · rw [State.steady_reclaimIfUnfit, State.steady_withdrawHeldDeliver]
      exact s.steady_mapCatalogue _ (fun r => by split <;> rfl)
  · rfl

/-- A change of one record whose steady part follows `f` changes the steady part by `f`. -/
theorem State.steady_updRecord (id : Ident) (f : Rec → Rec) (h : ∀ r, (f r).steady = f r.steady ∨ r.id ≠ id) :
    (s.updRecord id f).steady
      = { s.steady with records := s.steady.records.map (fun r => if r.id = id then (f r).steady else r) } := by
  simp only [State.steady, State.updRecord, List.map_map]
  congr 1
  refine List.map_congr_left (fun r _ => ?_)
  by_cases e : r.id = id
  · have e' : r.steady.id = id := e
    have k := (h r).resolve_right (fun n => n e)
    simp only [Function.comp, e, e', if_true]
    rw [← k]; rfl
  · have e' : ¬ r.steady.id = id := e
    simp [e, e']

/-- The cases of an event's DUE checks: no record comes DUE, one with its own detail, or several with code 4 (R179). -/
theorem State.dueCheck_cases (f : Rec → Bool) :
    (s.newlyDue f = [] ∧ s.dueCheck f = s)
      ∨ (∃ r, s.newlyDue f = [r] ∧ s.dueCheck f = (s.makeDue r.id).raise .due (s.dueDetail r))
      ∨ (2 ≤ (s.newlyDue f).length
          ∧ s.dueCheck f = ((s.newlyDue f).foldl (fun t r => t.makeDue r.id) s).raise .due { noDetail with code := some 4 }) := by
  unfold State.dueCheck
  split
  · next h => exact .inl ⟨h, rfl⟩
  · next r h => exact .inr (.inl ⟨r, h, rfl⟩)
  · next rs h1 h2 =>
    refine .inr (.inr ⟨?_, rfl⟩)
    match hq : s.newlyDue f with
    | [] => exact absurd hq h1
    | [r] => exact absurd hq (h2 r)
    | _ :: _ :: _ => simp

/-- A record that is not READY, or reaches no limit, is not made DUE. -/
theorem State.newlyDue_mem {f : Rec → Bool} {r : Rec} (h : r ∈ s.newlyDue f) :
    r ∈ s.catalogue ∧ f r = true ∧ r.condition = .ready ∧ (limitReached (s.limitsOf r) r).isSome := by
  simpa [State.newlyDue, State.comesDue, and_assoc] using h

/-- A record created: the catalogue grows by it, an announcement of its identifier goes, and CATALOGUE_FULL is raised on
reaching 480 (R21, R93). -/
theorem State.createRecord_eq (r : Rec) :
    ∃ m v tx, s.createRecord r = { s with
      catalogue := s.catalogue ++ [r]
      announcements := s.announcements.filter (fun a => !decide (a.id = r.id))
      materialNotices := m, serviceNotices := v, tx := tx } := by
  unfold State.createRecord
  simp only
  split
  · obtain ⟨m, v, t, h⟩ := State.raise_eq { s with
      catalogue := s.catalogue ++ [r]
      announcements := s.announcements.filter (fun a => !decide (a.id = r.id)) } .catalogueFull noDetail
    exact ⟨m, v, t, h⟩
  · exact ⟨s.materialNotices, s.serviceNotices, s.tx, rfl⟩

/-! ### createRecord -/

@[simp] theorem State.createRecord_clock (r : Rec) : (s.createRecord r).clock = s.clock := by
  obtain ⟨_, _, _, h⟩ := s.createRecord_eq r; rw [h]
@[simp] theorem State.createRecord_tickPhase (r : Rec) : (s.createRecord r).tickPhase = s.tickPhase := by
  obtain ⟨_, _, _, h⟩ := s.createRecord_eq r; rw [h]
@[simp] theorem State.createRecord_slots (r : Rec) : (s.createRecord r).slots = s.slots := by
  obtain ⟨_, _, _, h⟩ := s.createRecord_eq r; rw [h]
@[simp] theorem State.createRecord_zones (r : Rec) : (s.createRecord r).zones = s.zones := by
  obtain ⟨_, _, _, h⟩ := s.createRecord_eq r; rw [h]
@[simp] theorem State.createRecord_noSlot (r : Rec) : (s.createRecord r).noSlot = s.noSlot := by
  obtain ⟨_, _, _, h⟩ := s.createRecord_eq r; rw [h]
@[simp] theorem State.createRecord_ports (r : Rec) : (s.createRecord r).ports = s.ports := by
  obtain ⟨_, _, _, h⟩ := s.createRecord_eq r; rw [h]
@[simp] theorem State.createRecord_ahead (r : Rec) : (s.createRecord r).ahead = s.ahead := by
  obtain ⟨_, _, _, h⟩ := s.createRecord_eq r; rw [h]
@[simp] theorem State.createRecord_bi (r : Rec) : (s.createRecord r).bi = s.bi := by
  obtain ⟨_, _, _, h⟩ := s.createRecord_eq r; rw [h]
@[simp] theorem State.createRecord_bo (r : Rec) : (s.createRecord r).bo = s.bo := by
  obtain ⟨_, _, _, h⟩ := s.createRecord_eq r; rw [h]
@[simp] theorem State.createRecord_inn (r : Rec) : (s.createRecord r).inn = s.inn := by
  obtain ⟨_, _, _, h⟩ := s.createRecord_eq r; rw [h]
@[simp] theorem State.createRecord_queue (r : Rec) : (s.createRecord r).queue = s.queue := by
  obtain ⟨_, _, _, h⟩ := s.createRecord_eq r; rw [h]
@[simp] theorem State.createRecord_nextSeq (r : Rec) : (s.createRecord r).nextSeq = s.nextSeq := by
  obtain ⟨_, _, _, h⟩ := s.createRecord_eq r; rw [h]
@[simp] theorem State.createRecord_tenure (r : Rec) : (s.createRecord r).tenure = s.tenure := by
  obtain ⟨_, _, _, h⟩ := s.createRecord_eq r; rw [h]
@[simp] theorem State.createRecord_settings (r : Rec) : (s.createRecord r).settings = s.settings := by
  obtain ⟨_, _, _, h⟩ := s.createRecord_eq r; rw [h]
@[simp] theorem State.createRecord_handler (r : Rec) : (s.createRecord r).handler = s.handler := by
  obtain ⟨_, _, _, h⟩ := s.createRecord_eq r; rw [h]
@[simp] theorem State.createRecord_classes (r : Rec) : (s.createRecord r).classes = s.classes := by
  obtain ⟨_, _, _, h⟩ := s.createRecord_eq r; rw [h]
@[simp] theorem State.createRecord_intercepts (r : Rec) : (s.createRecord r).intercepts = s.intercepts := by
  obtain ⟨_, _, _, h⟩ := s.createRecord_eq r; rw [h]
@[simp] theorem State.createRecord_census (r : Rec) : (s.createRecord r).census = s.census := by
  obtain ⟨_, _, _, h⟩ := s.createRecord_eq r; rw [h]
@[simp] theorem State.createRecord_noticeGap (r : Rec) : (s.createRecord r).noticeGap = s.noticeGap := by
  obtain ⟨_, _, _, h⟩ := s.createRecord_eq r; rw [h]
@[simp] theorem State.createRecord_pins (r : Rec) : (s.createRecord r).pins = s.pins := by
  obtain ⟨_, _, _, h⟩ := s.createRecord_eq r; rw [h]
@[simp] theorem State.createRecord_rx (r : Rec) : (s.createRecord r).rx = s.rx := by
  obtain ⟨_, _, _, h⟩ := s.createRecord_eq r; rw [h]
@[simp] theorem State.createRecord_choices (r : Rec) : (s.createRecord r).choices = s.choices := by
  obtain ⟨_, _, _, h⟩ := s.createRecord_eq r; rw [h]
@[simp] theorem State.createRecord_pending (r : Rec) : (s.createRecord r).pending = s.pending := by
  obtain ⟨_, _, _, h⟩ := s.createRecord_eq r; rw [h]

@[simp] theorem State.createRecord_catalogue (r : Rec) : (s.createRecord r).catalogue = s.catalogue ++ [r] := by
  obtain ⟨_, _, _, h⟩ := s.createRecord_eq r; rw [h]

@[simp] theorem State.createRecord_announcements (r : Rec) :
    (s.createRecord r).announcements = s.announcements.filter (fun a => !decide (a.id = r.id)) := by
  obtain ⟨_, _, _, h⟩ := s.createRecord_eq r; rw [h]

/-! ## Orders and halting (R144, R146, R148, R161) -/

/-- An order takes the next number, sends one frame to the handler, and starts the handler's timer; nothing else. -/
theorem State.order_eq (f : Byte → OutFrame) (st : HandlerState) (n : Nat) :
    s.order f st n = { s with
      tx := (s.send .handler (f (s.handler.orderNumber + 1))).tx
      handler := { s.handler with
        orderNumber := s.handler.orderNumber + 1, numberCurrent := true, state := st, timer := some n } } := rfl

@[simp] theorem State.steady_order (f : Byte → OutFrame) (st : HandlerState) (n : Nat) :
    (s.order f st n).steady = s.steady := rfl

@[simp] theorem State.steady_sendPlace (x : Position) (ph : Phase) : (s.sendPlace x ph).steady = s.steady := rfl

@[simp] theorem State.steady_sendMove (m : Move) : (s.sendMove m).steady = s.steady := rfl

@[simp] theorem State.steady_firstOrder (m : Move) : (s.firstOrder m).steady = s.steady := by
  unfold State.firstOrder; split <;> rfl

/-- A halt leaves the move, its binding and its reservations as they are: the handler is HALTED with a halt record and no
timer, and HALTED is raised (R161). -/
theorem State.haltAt_eq (c : HaltCode) (g : GripperState) (x : Option Position) :
    ∃ m v tx, s.haltAt c g x = { s with
      handler := { s.handler with state := .halted, halt := some ⟨c, g⟩, numberCurrent := false, timer := none }
      materialNotices := m, serviceNotices := v, tx := tx } := by
  unfold State.haltAt
  obtain ⟨m, v, t, h⟩ := State.raise_eq
    (s.updHandler (fun h => { h with state := .halted, halt := some ⟨c, g⟩, numberCurrent := false, timer := none })) .halted
    ⟨s.execMove.bind (·.reticle), none, x, none, some c.number⟩
  exact ⟨m, v, t, h⟩

@[simp] theorem State.steady_haltAt (c : HaltCode) (g : GripperState) (x : Option Position) :
    (s.haltAt c g x).steady = s.steady := by
  obtain ⟨_, _, _, h⟩ := s.haltAt_eq c g x; rw [h]; rfl

/-! ## Reservations and grant states (R5, R60, R66, R98, R101, R108, R110) -/

@[simp] theorem State.steady_reserveSource (m : Move) : (s.reserveSource m).steady = s.steady := by
  unfold State.reserveSource
  split
  · split
    · next h => exact s.steady_setSlot _ _ (by rw [h]; rfl)
    · rfl
  · rfl

@[simp] theorem State.steady_reserveTarget (m : Move) : (s.reserveTarget m).steady = s.steady := by
  unfold State.reserveTarget
  split
  · split
    · next h => exact s.steady_setSlot _ _ (by rw [h]; rfl)
    · rfl
  · rfl

@[simp] theorem State.steady_nestGranted (x : Option Nest) : (s.nestGranted x).steady = s.steady := by
  unfold State.nestGranted; split <;> first | exact State.steady_setToolNest _ _ _ | rfl

@[simp] theorem State.steady_nestTargeted (x : Option Nest) : (s.nestTargeted x).steady = s.steady := by
  unfold State.nestTargeted; split <;> first | exact s.steady_updPort _ _ rfl | rfl

/-- The NO_SLOT test answers the flag and may raise NO_SLOT, nothing else (R44). -/
theorem State.testNoSlot_eq :
    ∃ b m v tx, s.testNoSlot = { s with noSlot := b, materialNotices := m, serviceNotices := v, tx := tx }
      ∧ b = (lowestSeq (s.queue.filter s.lacksCandidate)).isSome := by
  unfold State.testNoSlot
  split
  · next h => exact ⟨false, s.materialNotices, s.serviceNotices, s.tx, rfl, by simp [h]⟩
  · next x h =>
    split
    · next g => exact ⟨true, s.materialNotices, s.serviceNotices, s.tx, by rw [← g], by simp [h]⟩
    · obtain ⟨m, v, t, e⟩ := State.raise_eq { s with noSlot := true } .noSlot ⟨x.reticle, none, some x.source, x.beneficiary, none⟩
      exact ⟨true, m, v, t, e, by simp [h]⟩

/-- A grant test acts only with the handler IDLE and no RESTART pending; it then sweeps, and grants the move chosen (R125). -/
theorem State.grantTest_cases :
    (¬(s.handler.state = .idle ∧ s.handler.restartPending = false) ∧ s.grantTest = s)
      ∨ (s.handler.state = .idle ∧ s.handler.restartPending = false ∧ s.sweep.choose = none ∧ s.grantTest = s.sweep)
      ∨ (s.handler.state = .idle ∧ s.handler.restartPending = false
          ∧ ∃ m b, s.sweep.choose = some (m, b) ∧ s.grantTest = s.sweep.grant m b) := by
  unfold State.grantTest
  split
  · next g =>
    simp only
    split
    · next m b h => exact .inr (.inr ⟨g.1, g.2, m, b, h, rfl⟩)
    · next h => exact .inr (.inl ⟨g.1, g.2, h, rfl⟩)
  · next g => exact .inl ⟨g, rfl⟩

/-! ## The passes that repeat an operation -/

/-- A free order is some arrangement of the list and draws at most one choice. -/
theorem freeOrder_state {α : Type} (xs : List α) : ∃ n, (freeOrder xs s).2 = { s with choices := n } := by
  unfold freeOrder
  split
  · exact ⟨s.choices, rfl⟩
  · exact ⟨s.choices, rfl⟩
  · exact ⟨s.choices + 1, rfl⟩

/-- What a NO_SLOT test and a grant test keep, the tests of a change keep (R44, R126). -/
theorem State.serve_ind (P : State → Prop) (noSlot : ∀ c, P c → P c.testNoSlot) (grant : ∀ c, P c → P c.grantTest)
    (a b : State) (t : Touch) (h : P b) : P (b.serve a t) := by
  have test : ∀ c x u, P c → P (c.noSlotStep x u) := by
    intro c x u hc
    unfold State.noSlotStep
    split
    · exact noSlot c hc
    · exact hc
  unfold State.serve
  simp only
  split
  · exact test _ _ _ (grant _ (test b a t h))
  · exact test b a t h

/-- What the parts of a re-evaluation and the tests of a change keep, the re-evaluation of a port keeps (R86 to R89). -/
theorem State.reevaluate_ind (P : State → Prop) (review : ∀ c p, P c → P (c.review p))
    (prestage : ∀ c p id k, P c → P (c.askPrestage p id k)) (destage : ∀ c p n k, P c → P (c.askDestage p n k))
    (noSlot : ∀ c, P c → P c.testNoSlot) (grant : ∀ c, P c → P c.grantTest) (s : State) (p : Port) (h : P s) :
    P (s.reevaluate p) := by
  have served : ∀ (c : State) (f : State → State), P (f c) → P (c.served f) := fun c f hf =>
    State.serve_ind P noSlot grant c (f c) noTouch hf
  have asked : ∀ c, P c → P (c.askPrestages p) := by
    intro c hc
    unfold State.askPrestages
    split
    · exact hc
    · exact served _ _ (prestage _ _ _ _ hc)
    · exact served _ _ (prestage _ _ _ _ (served _ _ (prestage _ _ _ _ hc)))
  unfold State.reevaluate
  split
  · unfold State.askDestages
    exact served _ _ (destage _ _ _ _ (served _ _ (destage _ _ _ _ (asked _ (served _ _ (review _ _ h))))))
  · exact h

/-- What the re-evaluation of one port and a drawn choice keep, the re-evaluations of a change keep (R89). -/
theorem reevaluateAll_ind (P : State → Prop) (choice : ∀ c n, P c → P { c with choices := n })
    (step : ∀ t p, P t → P (t.reevaluate p)) :
    ∀ fuel ps t, P t → P (reevaluateAll fuel ps t) := by
  intro fuel
  induction fuel with
  | zero => intro ps t h; simpa [reevaluateAll] using h
  | succ n ih =>
    intro ps t h
    cases ps with
    | nil => simpa [reevaluateAll] using h
    | cons p ps =>
      unfold reevaluateAll
      simp only
      split
      · exact ih _ _ (step t p h)
      · obtain ⟨k, e⟩ := freeOrder_state (t.reevaluate p) (ps ++ allPorts.filter (fun q =>
          !ps.contains q && windowFollows t (t.reevaluate p) p q))
        exact ih _ _ (by rw [e]; exact choice _ _ (step t p h))

/-- What a re-evaluation and a drawn choice keep, the window re-evaluations of a change keep. -/
theorem State.forecastStep_ind (P : State → Prop) (b a : State) (t : Touch)
    (choice : ∀ c n, P c → P { c with choices := n }) (step : ∀ c p, P c → P (c.reevaluate p)) (h : P b) :
    P (b.forecastStep a t) := by
  unfold State.forecastStep
  obtain ⟨n, e⟩ := freeOrder_state b (allPorts.filter (windowEvent a b t))
  simp only [e]
  exact reevaluateAll_ind P choice step _ _ _ (choice b n h)

/-- What the parts of a re-evaluation, a NO_SLOT test, a grant test and a drawn choice keep, everything that follows a change
keeps. -/
theorem State.settle_ind (P : State → Prop) (choice : ∀ c n, P c → P { c with choices := n })
    (review : ∀ c p, P c → P (c.review p)) (prestage : ∀ c p id k, P c → P (c.askPrestage p id k))
    (destage : ∀ c p n k, P c → P (c.askDestage p n k)) (noSlot : ∀ c, P c → P c.testNoSlot)
    (grant : ∀ c, P c → P c.grantTest) (a b : State) (t : Touch) (h : P b) : P (b.settle a t) :=
  State.forecastStep_ind P _ a t choice
    (fun c p hc => State.reevaluate_ind P review prestage destage noSlot grant c p hc)
    (State.serve_ind P noSlot grant a b t h)

end Sys2Proof.Machine
end

