-- ==== Sys2Proof/WellFormed.lean ====
section
/-! DEFINITION. The commands a received frame can spell: every field within the bytes of its form (R204), the body within
the receiver's limit (R205), and for UNKNOWN_REQUEST_KIND a kind byte that is no request kind. Values outside their range
but within their form are well formed: the owning rules answer them. -/

namespace Sys2Proof

/-- A small number, 1 byte. -/
def isSmall (n : Nat) : Bool := n < 256

/-- A number, 2 bytes. -/
def isNumber (n : Nat) : Bool := n < 65536

/-- An identifier as a frame carries it: its length fits the length byte. -/
def isIdent (i : Ident) : Bool := i.length < 256

/-- An optional field within its form. -/
def isOptional (p : Nat → Bool) (x : Option Nat) : Bool := x.all p

/-- The body bytes of an identifier: the length byte and the characters (R204). -/
def identBytes (i : Ident) : Nat := 1 + i.length

def HelloBody.wellFormed (b : HelloBody) : Bool := isIdent b.name && isSmall b.base && isNumber b.f1 && isNumber b.f2

/-- The body bytes of an AHEAD: the flag, the count and the identifiers. -/
def AheadBody.bytes (b : AheadBody) : Nat := 3 + (b.ids.map identBytes).sum

def AheadBody.wellFormed (b : AheadBody) : Bool := b.ids.all isIdent && b.bytes ≤ Config.receivedBodyLimit

def ReturnBody.wellFormed (b : ReturnBody) : Bool := isIdent b.id && isNumber b.lots

def AnnounceBody.wellFormed (b : AnnounceBody) : Bool := isIdent b.id && isSmall b.cls

def WithdrawBody.wellFormed (b : WithdrawBody) : Bool := isIdent b.id

def SetClassBody.wellFormed (b : SetClassBody) : Bool := isIdent b.id && isSmall b.cls

def VerdictBody.wellFormed (b : VerdictBody) : Bool := isIdent b.id

def CensusBody.wellFormed (b : CensusBody) : Bool := isSmall b.first && isSmall b.last

def MatchField.wellFormed : MatchField → Bool
  | .byPrefix chars => isIdent chars
  | .bySlots base length => isNumber base && isNumber length

def InterceptBody.wellFormed (b : InterceptBody) : Bool := isSmall b.entry && b.matching.wellFormed

def ZoneBody.wellFormed (b : ZoneBody) : Bool := isSmall b.entry && isSmall b.base && isSmall b.limit && isSmall b.purge

def ClassBody.wellFormed (b : ClassBody) : Bool :=
  isSmall b.cls && isOptional isNumber b.deliveryLimit && isOptional isNumber b.lotLimit && isOptional isNumber b.airLimit

def PortSetBody.wellFormed (b : PortSetBody) : Bool :=
  isSmall b.port && isSmall b.weight && isSmall b.agingRate && isNumber b.tenureLimit && isSmall b.anchor
    && isNumber b.windowCount

def TimingBody.wellFormed (b : TimingBody) : Bool :=
  isOptional isNumber b.starvation && isOptional isSmall b.materialWeight && isOptional isSmall b.materialRate
    && isOptional isSmall b.bulkAnchor && isOptional isSmall b.inspectionAnchor && isOptional isNumber b.pickTimeout
    && isOptional isNumber b.placeTimeout && isOptional isNumber b.noticeGap

def SetSlotBody.wellFormed (b : SetSlotBody) : Bool := isNumber b.slot && isIdent b.id && isSmall b.cls

def SetConditionBody.wellFormed (b : SetConditionBody) : Bool := isIdent b.id

def ReadId.wellFormed : ReadId → Bool
  | .ident i => isIdent i
  | .noread => true

def ScanResult.wellFormed : ScanResult → Bool
  | .ident i => isIdent i
  | _ => true

/-- A request's body is well formed when it is out of form altogether or its fields are within their forms. -/
def bodyOk {α : Type} (p : α → Bool) (b : Option α) : Bool := b.all p

/-- The commands that a frame, a timer or a line can give. -/
def Instr.wellFormed : Instr → Bool
  | .powerOnReset _ => true
  | .hello _ _ b => bodyOk HelloBody.wellFormed b
  | .alive _ _ _ => true
  | .call _ _ b => bodyOk isIdent b
  | .cancel _ _ b => bodyOk isIdent b
  | .ahead _ _ b => bodyOk AheadBody.wellFormed b
  | .returnLots _ _ b => bodyOk ReturnBody.wellFormed b
  | .portState _ _ _ => true
  | .announce _ _ b => bodyOk AnnounceBody.wellFormed b
  | .unannounce _ _ b => bodyOk isIdent b
  | .exportOut _ _ b => bodyOk WithdrawBody.wellFormed b
  | .hold _ _ b => bodyOk isIdent b
  | .release _ _ b => bodyOk isIdent b
  | .setClass _ _ b => bodyOk SetClassBody.wellFormed b
  | .inspect _ _ b => bodyOk WithdrawBody.wellFormed b
  | .verdict _ _ b => bodyOk VerdictBody.wellFormed b
  | .census _ _ b => bodyOk CensusBody.wellFormed b
  | .censusStop _ _ _ => true
  | .interceptSet _ _ b => bodyOk InterceptBody.wellFormed b
  | .ack _ _ _ => true
  | .mask _ _ _ => true
  | .qReticle _ _ b => bodyOk isIdent b
  | .qSlot _ _ b => bodyOk isNumber b
  | .qZoneEntry _ _ b => bodyOk isSmall b
  | .qZoneSlot _ _ b => bodyOk isNumber b
  | .qPort _ _ b => bodyOk isSmall b
  | .qQueue _ _ _ => true
  | .qInterceptEntry _ _ b => bodyOk isSmall b
  | .qInterceptAll _ _ _ => true
  | .zoneSet _ _ b => bodyOk ZoneBody.wellFormed b
  | .classSet _ _ b => bodyOk ClassBody.wellFormed b
  | .portSet _ _ b => bodyOk PortSetBody.wellFormed b
  | .portOpen _ _ b => bodyOk isSmall b
  | .portClose _ _ b => bodyOk isSmall b
  | .timingSet _ _ b => bodyOk TimingBody.wellFormed b
  | .setSlotEmpty _ _ b => bodyOk isNumber b
  | .setSlotReticle _ _ b => bodyOk SetSlotBody.wellFormed b
  | .forget _ _ b => bodyOk isIdent b
  | .setCondition _ _ b => bodyOk SetConditionBody.wellFormed b
  | .resume _ _ _ => true
  | .resolveAtTarget _ _ _ => true
  | .resolveAtSource _ _ _ => true
  | .resolveRemoved _ _ _ => true
  | .restart _ _ _ => true
  | .unknownRequestKind _ _ kind => !isRequestKind kind
  | .bodyLengthExcess _ => true
  | .crcFailure _ => true
  | .byteGapTimeout _ => true
  | .handlerFrameNotTaken => true
  | .picked _ r => r.wellFormed
  | .sourceEmpty _ => true
  | .placed _ => true
  | .occupied _ => true
  | .scanned _ rs => rs.all ScanResult.wellFormed
  | .faultReport _ _ _ => true
  | .restarted _ _ => true
  | .phaseTimeout => true
  | .livenessExpiry _ => true
  | .collectWindowExpiry _ => true
  | .returnWaitExpiry _ => true
  | .gapTimerExpiry _ => true
  | .minuteTick => true
  | .tbusyAsserted _ => true
  | .tbusyReleased _ => true
  | .presTFull _ => true
  | .presTEmpty _ => true
  | .presBiFull => true
  | .presBiEmpty => true
  | .presBoFull => true
  | .presBoEmpty => true
  | .presInFull => true
  | .presInEmpty => true

end Sys2Proof
end

