-- ==== Sys2Proof/Tests/Slice0.lean ====
section
/-! SUPPORT. The author's own tests: the refusals of WellFormed, frames written out from the manual's encoding, small results
worked out by hand from the manual, and for each statement with hypotheses a state and operands that meet them. -/

namespace Sys2Proof.Tests

set_option Elab.async false

open Sys2Proof Sys2Proof.Machine

/-! ## States -/

/-- The identifier A1. -/
def idA : Ident := [0x41, 0x31]

/-- The identifier B2. -/
def idB : Ident := [0x42, 0x32]

/-- A READY record of class 0 in slot 0, its home. -/
def recA : Rec := newRecord idA (.slot 0) 0 .ready false none (some 0)

/-- The part after reset with A1 in slot 0. -/
def stocked : State := State.setSlot { State.reset with catalogue := [recA] } 0 (.filled idA)

/-- The part with A1 located at a place, outside the slots. -/
def placedAt (x : Location) : State := { State.reset with catalogue := [{ recA with location := x }] }

/-- A zone entry over every shelf, admitting every class and serving every port. -/
def everyZone : ZoneEntry := ⟨0, 47, 255, 63, 3⟩

/-- Enter the zone over every shelf. -/
def zoned (s : State) : State := { s with zones := s.zones.set 0 everyZone }

/-- Port 0 attached under the name A1 with a period of 3 s. -/
def attachPort (s : State) : State :=
  s.updPort 0 (fun r =>
    { r with state := .attached, name := some idA, liveness := some ⟨true, 1, 3⟩, livenessLeft := some 30 })

/-- Port 0 closed. -/
def closePort (s : State) : State := s.updPort 0 (fun r => { r with state := .closed })

/-- A move of A1 from slot 0. -/
def moveA (k : MoveKind) (r : Requester) (ben : Option Port) (target : Target) (st : MoveState) : Move :=
  ⟨7, k, r, ben, some idA, .named, .slot 0, target, none, 0, st, false, false, false⟩

/-- The DELIVER of A1 to T0, executing. -/
def deliverA : Move := moveA .deliver (.tool 0) (some 0) (.pos (.nest (.t 0))) .executing

/-- The DELIVER of A1 to T0, waiting. -/
def waitingA : Move := { deliverA with state := .waiting }

/-- Put a move in the queue and bind A1 to it. -/
def queued (m : Move) (s : State) : State := ({ s with queue := [m], nextSeq := 8 }).bind idA 7

/-- The execution record of move 7 in a phase. -/
def execOf (ph : Phase) : ExecRecord := ⟨some 7, some ph, none, none, 0⟩

/-- The handler interface at work on a move in a phase, its last order number 5. -/
def working (m : Move) (e : ExecRecord) (ph : Phase) : State :=
  { queued m stocked with
    handler := { resetHandler with
      state := ph.handlerState, exec := some e, orderNumber := 5, numberCurrent := true,
      timer := some 30 } }

/-- The handler interface halted with a move in a phase. -/
def halted (m : Move) (e : ExecRecord) : State :=
  { queued m stocked with
    handler := { resetHandler with state := .halted, exec := some e, halt := some ⟨.timeout, .unknown⟩ } }

/-- Nest T0 in a state with A1 on it and its presence full. -/
def atNest (x : ToolNest) : State := ((placedAt (.nest (.t 0))).setToolNest 0 x).setPresT 0 true

/-! ## WellFormed: each check refuses an ill-formed command -/

theorem test_illFormed_small :
    Instr.wellFormed (.qPort .service 0 (some 256)) = false ∧ Instr.wellFormed (.qZoneEntry .service 0 (some 256)) = false
    ∧ Instr.wellFormed (.qInterceptEntry .service 0 (some 256)) = false
    ∧ Instr.wellFormed (.portOpen .service 0 (some 256)) = false
    ∧ Instr.wellFormed (.portClose .service 0 (some 256)) = false := by decide

theorem test_illFormed_number :
    Instr.wellFormed (.qSlot .service 0 (some 65536)) = false ∧ Instr.wellFormed (.qZoneSlot .service 0 (some 65536)) = false
    ∧ Instr.wellFormed (.setSlotEmpty .service 0 (some 65536)) = false
    ∧ Instr.wellFormed (.setSlotReticle .service 0 (some ⟨65536, idA, 0⟩)) = false
    ∧ Instr.wellFormed (.setSlotReticle .service 0 (some ⟨0, idA, 256⟩)) = false := by decide

theorem test_illFormed_ident :
    let long : Ident := List.replicate 256 0x41
    Instr.wellFormed (.call (.tool 0) 0 (some long)) = false ∧ Instr.wellFormed (.cancel (.tool 0) 0 (some long)) = false
    ∧ Instr.wellFormed (.unannounce .material 0 (some long)) = false
    ∧ Instr.wellFormed (.exportOut .material 0 (some ⟨long, false⟩)) = false
    ∧ Instr.wellFormed (.inspect .material 0 (some ⟨long, false⟩)) = false
    ∧ Instr.wellFormed (.hold .material 0 (some long)) = false ∧ Instr.wellFormed (.release .material 0 (some long)) = false
    ∧ Instr.wellFormed (.verdict .material 0 (some ⟨long, .pass⟩)) = false
    ∧ Instr.wellFormed (.qReticle .material 0 (some long)) = false ∧ Instr.wellFormed (.forget .service 0 (some long)) = false
    ∧ Instr.wellFormed (.setCondition .service 0 (some ⟨long, .ready⟩)) = false
    ∧ Instr.wellFormed (.picked 0 (.ident long)) = false
    ∧ Instr.wellFormed (.scanned 0 (Vector.replicate 8 (.ident long))) = false := by decide +kernel

theorem test_illFormed_bodies :
    Instr.wellFormed (.hello (.tool 0) 0 (some ⟨idA, 256, 1, 1⟩)) = false
    ∧ Instr.wellFormed (.hello (.tool 0) 0 (some ⟨idA, 1, 65536, 1⟩)) = false
    ∧ Instr.wellFormed (.hello (.tool 0) 0 (some ⟨idA, 1, 1, 65536⟩)) = false
    ∧ Instr.wellFormed (.ahead (.tool 0) 0 (some ⟨false, List.replicate 107 idA⟩)) = false
    ∧ Instr.wellFormed (.returnLots (.tool 0) 0 (some ⟨idA, 65536⟩)) = false
    ∧ Instr.wellFormed (.announce .material 0 (some ⟨idA, 256, false⟩)) = false
    ∧ Instr.wellFormed (.setClass .material 0 (some ⟨idA, 256⟩)) = false
    ∧ Instr.wellFormed (.census .material 0 (some ⟨256, 0⟩)) = false
    ∧ Instr.wellFormed (.census .material 0 (some ⟨0, 256⟩)) = false
    ∧ Instr.wellFormed (.unknownRequestKind .service 0 (FrameKind.call.byte)) = false := by decide +kernel

theorem test_illFormed_settings :
    Instr.wellFormed (.interceptSet .service 0 (some ⟨256, 0, 0, .byPrefix idA, .note⟩)) = false
    ∧ Instr.wellFormed (.interceptSet .service 0 (some ⟨0, 0, 0, .bySlots 65536 1, .note⟩)) = false
    ∧ Instr.wellFormed (.interceptSet .service 0 (some ⟨0, 0, 0, .bySlots 0 65536, .note⟩)) = false
    ∧ Instr.wellFormed (.zoneSet .service 0 (some ⟨0, 256, 0, 0, 0, 0⟩)) = false
    ∧ Instr.wellFormed (.zoneSet .service 0 (some ⟨0, 0, 256, 0, 0, 0⟩)) = false
    ∧ Instr.wellFormed (.zoneSet .service 0 (some ⟨0, 0, 0, 0, 0, 256⟩)) = false
    ∧ Instr.wellFormed (.classSet .service 0 (some ⟨0, some 65536, none, none⟩)) = false
    ∧ Instr.wellFormed (.classSet .service 0 (some ⟨0, none, some 65536, none⟩)) = false
    ∧ Instr.wellFormed (.classSet .service 0 (some ⟨0, none, none, some 65536⟩)) = false
    ∧ Instr.wellFormed (.portSet .service 0 (some ⟨0, 256, false, 0, 0, 0, 0⟩)) = false
    ∧ Instr.wellFormed (.portSet .service 0 (some ⟨0, 0, false, 0, 0, 0, 65536⟩)) = false
    ∧ Instr.wellFormed (.timingSet .service 0 (some ⟨some 65536, none, none, none, none, none, none, none⟩)) = false
    ∧ Instr.wellFormed (.timingSet .service 0 (some ⟨none, some 256, none, none, none, none, none, none⟩)) = false := by
  decide

/-! ## Frames (R204, R205) -/

/-- The CRC of chapter 11: polynomial 0x1021, initial value 0xFFFF; over the ASCII digits 123456789 it is 0x29B1. -/
theorem test_crc_checkValue : crc16 [0x31, 0x32, 0x33, 0x34, 0x35, 0x36, 0x37, 0x38, 0x39] = 0x29B1 := by decide +kernel

/-- A frame taken by the receiver of a link after reset, and the commands it queues. -/
def spelt (l : Link) (bytes : List Byte) : List Instr := (State.reset.receive l bytes).pending

/-- CALL(A1). -/
theorem test_frame_call : spelt (.request (.tool 2))
    [0xC3, 0x00, 0x03, 0x03, 0x11, 0x02, 0x41, 0x31, 0xCA, 0x00] = [.call (.tool 2) 0x11 (some idA)] := by
  decide +kernel

/-- ACK of HALTED, NEST_BLOCKED and PORT_ATTACHED. -/
theorem test_frame_ack : spelt (.request .material)
    [0xC3, 0x00, 0x02, 0x13, 0x01, 0x80, 0x05, 0xB6, 0xE5] = [.ack .material 1 (some 0x8005)] := by
  decide +kernel

/-- ZONE_SET of entry 1. -/
theorem test_frame_zoneSet : spelt (.request .service)
    [0xC3, 0x00, 0x08, 0x1B, 0x02, 0x01, 0x04, 0x0B, 0x00, 0x0F, 0x00, 0x21, 0x03, 0x1B, 0xEF] = [.zoneSet .service 2 (some ⟨1, 4, 11, 0x0F, 0x21, 3⟩)] := by
  decide +kernel

/-- CLASS_SET with the lot limit absent. -/
theorem test_frame_classSet : spelt (.request .service)
    [0xC3, 0x00, 0x08, 0x1C, 0x03, 0x05, 0x01, 0x01, 0xF4, 0x00, 0x01, 0x40, 0x00, 0x41, 0x08] = [.classSet .service 3 (some ⟨5, some 500, none, some 16384⟩)] := by
  decide +kernel

/-- SET_SLOT of a reticle. -/
theorem test_frame_setSlot : spelt (.request .service)
    [0xC3, 0x00, 0x07, 0x21, 0x04, 0x01, 0x80, 0x01, 0x02, 0x41, 0x31, 0x07, 0xCC, 0xE1] = [.setSlotReticle .service 4 (some ⟨384, idA, 7⟩)] := by
  decide +kernel

/-- A class mask bit above class 7 is out of form. -/
theorem test_frame_badSet : spelt (.request .service)
    [0xC3, 0x00, 0x08, 0x1B, 0x02, 0x01, 0x04, 0x0B, 0x01, 0x0F, 0x00, 0x21, 0x03, 0xB1, 0xBE] = [.zoneSet .service 2 none] := by
  decide +kernel

/-- An ANSWER is no request. -/
theorem test_frame_unknownKind : spelt (.request .service)
    [0xC3, 0x00, 0x00, 0x27, 0x09, 0x8A, 0x98] = [.unknownRequestKind .service 9 0x27] := by
  decide +kernel

/-- PICKED of A1 under order 6. -/
theorem test_frame_picked : spelt (.handler)
    [0xC3, 0x00, 0x04, 0x30, 0x06, 0x01, 0x02, 0x41, 0x31, 0x12, 0xAA] = [.picked 6 (.ident idA)] := by
  decide +kernel

/-- FAULT with code 0x2A, gripper loaded. -/
theorem test_frame_fault : spelt (.handler)
    [0xC3, 0x00, 0x02, 0x35, 0x06, 0x2A, 0x01, 0x91, 0x93] = [.faultReport 6 0x2A true] := by
  decide +kernel

/-- A flag of 2 is out of form. -/
theorem test_frame_badReport : spelt (.handler)
    [0xC3, 0x00, 0x02, 0x35, 0x06, 0x2A, 0x02, 0xA1, 0xF0] = [.handlerFrameNotTaken] := by
  decide +kernel

/-- A wrong CRC is discarded in silence. -/
theorem test_frame_badCrc : spelt (.request (.tool 2)) [0xC3, 0x00, 0x03, 0x03, 0x11, 0x02, 0x41, 0x31, 0xCA, 0x01] = [] := by
  decide +kernel

/-- No row of the command table gives bits, so no word spells a command. -/
theorem test_tableWord : decodeTableWord 8 0xFF = none := rfl

/-! ## Small results from the manual -/

/-- The worked sum of R131: 360 + 959 + 240 + 200 = 1759, limited to 1023. -/
def urgent : State :=
  { State.reset with
    clock := 1023
    ports := State.reset.ports.set 0 { resetPort 0 with settings := ⟨7, true, 15, 1, 0, 30⟩ }
    queue := [{ waitingA with seq := 9, enqueued := 1000 }] }

/-- The COLLECT of R131, aged 1023 s. -/
def collectA : Move := { waitingA with kind := .collect, source := .nest (.t 0), target := .toSelect }

theorem test_urgency_largestSum :
    collectA.kind.base = 360 ∧ urgent.agingTerm collectA = 959 ∧ urgent.weightTerm collectA = 240
      ∧ urgent.couplingTerm collectA = 200 ∧ urgent.urgency collectA = 1023 := by decide +kernel

/-- R52: the shortest and the longest liveness period, in tenths of a second. -/
theorem test_livenessPeriod_ends :
    livenessPeriod ⟨false, 1, 1⟩ = 2 ∧ livenessPeriod ⟨true, 255, 255⟩ = 650250 := by decide

/-- R204, R52: the longest period is sent as the number 65025 = 0xFE01, a period of 3 s as 3. -/
theorem test_putPeriod_wholeSeconds : putPeriod 650250 = [0xFE, 0x01] ∧ putPeriod 30 = [0x00, 0x03] := by decide

/-- R48: a window count of 0 is taken as 256. -/
theorem test_windowLength_zero : windowLength 0 = 2560 ∧ windowLength 30 = 300 := by decide

/-- R1: the age is counted across the clock's wrap. -/
theorem test_age_wraps : ageAt 5 4294967290 = 11 := by decide

/-- R140: the starvation limit's clamps. -/
theorem test_starvation_clamped :
    clampStarvation 0 = 0 ∧ clampStarvation 1 = 30 ∧ clampStarvation 29 = 30 ∧ clampStarvation 3601 = 3600 := by decide

/-- R176: a counter saturates at 65535. -/
theorem test_counter_saturates : satAdd 65530 6 = 65535 ∧ satAdd 65535 1 = 65535 := by decide +kernel

/-- R9, R2: identifiers of 1 to 12 characters. -/
theorem test_identOk_lengths :
    identOk [] = false ∧ identOk idA = true ∧ identOk (List.replicate 12 0x41) = true
      ∧ identOk (List.replicate 13 0x41) = false ∧ identOk [0x61] = false := by decide

/-- R80: a repeat of an earlier identifier is dropped. -/
theorem test_dropRepeats : dropRepeats [idA, idB, idA] = [idA, idB] := by decide

/-- R56: PFREE is high at an EMPTY nest of a port that is not CLOSED, PRDY in OUT_WAIT alone. -/
theorem test_lines_of_nest :
    State.reset.pfree 0 = true ∧ (closePort State.reset).pfree 0 = false ∧ (atNest .outWait).prdy 0 = true
      ∧ (atNest .outLapsed).prdy 0 = false := by decide +kernel

/-- R35: two entries of different purge classes over one shelf conflict, and the shelf serves no port. -/
theorem test_conflict :
    let s := { zoned State.reset with zones := (zoned State.reset).zones.set 1 ⟨5, 5, 1, 1, 0⟩ }
    (s.resolve 5).conflicted = true ∧ (s.resolve 5).serveMask = 0 ∧ (s.resolve 5).classMask = 255
      ∧ (s.resolve 6).conflicted = false := by decide +kernel

/-- R173: the air weights of a staging slot, a nest, a tool and an uncovered storage slot. -/
theorem test_airWeights :
    State.reset.airWeight { recA with location := .slot 384 } = 2 ∧ State.reset.airWeight { recA with location := .nest .bi } = 4
      ∧ State.reset.airWeight { recA with location := .tool 3 } = 0 ∧ State.reset.airWeight recA = 4
      ∧ (zoned State.reset).airWeight recA = 0 := by decide +kernel

/-- R40: the home slot first. -/
theorem test_homeSlotFirst :
    (zoned { stocked with slots := stocked.slots.set 0 .empty }).selectTarget (moveA .reclaim .internal (some 0) .toSelect .waiting)
      = some 0 := by decide +kernel

/-- R96: a pod arriving on an EMPTY BI. -/
theorem test_biFull : State.reset.biFull.bi = .arrived ∧ State.reset.biFull.queue.map (·.kind) = [.stockIn] := by
  decide +kernel

/-- R62: an unsanctioned take at OUT_LAPSED. -/
theorem test_unsanctionedTake :
    ((atNest .outLapsed).tEmpty 0).toolNest 0 = .empty
      ∧ ((atNest .outLapsed).tEmpty 0).record idA = some { recA with location := .tool 0, condition := .quarantine } := by
  decide +kernel

/-- R102: the take by fab transport removes the record. -/
theorem test_boEmpty :
    let s := { placedAt (.nest .bo) with bo := .awayWait, pins := { resetPins with presBo := true } }
    s.boEmpty.bo = .empty ∧ s.boEmpty.catalogue = [] := by decide +kernel

/-- R161: FAULT code 0x2A is reported as 256 plus the code. -/
theorem test_haltNumbers : (HaltCode.robot 0x2A).number = 298 ∧ HaltCode.occupiedTwice.number = 4 := by decide

/-- R172: the minute tick falls in the sixtieth second. -/
theorem test_minuteTick_due :
    State.reset.expiries = [] ∧ { State.reset with tickPhase := 59 }.expiries = [.minuteTick] := by decide +kernel

/-- R126: of two requests that follow one another the first is granted, although the second is the more urgent (R130). -/
theorem test_firstRequestGranted :
    let b := { recA with id := idB, location := .slot 1, home := some 1 }
    let s := (zoned { attachPort stocked with catalogue := [recA, b] }).setSlot 1 (.filled idB)
    let t := (s.setSlot 384 .empty).setSlot 385 .empty
    let u := (t.served (·.askPrestage 0 idA 1)).served (·.askPrestage 0 idB 0)
    u.queue.map (fun m => (m.reticle, m.state)) = [(some idA, .executing), (some idB, .waiting)] := by decide +kernel

/-- R164: a STOCK_OUT resolved as removed is told to the material link with its number. -/
theorem test_moveEnd_removed :
    let m := { moveA .stockOut .material none (.pos (.nest .bo)) .executing with state := .executing }
    ((halted m (execOf .placing)).resolvedRemoved m (execOf .placing)).sent (.request .material)
      = [.moveEnd idA 7 .removed] := by decide +kernel

/-! ## Witnesses: states and operands that meet the hypotheses of each statement -/

theorem witness_StepRunsFrontCommand : { State.reset with pending := [.minuteTick] }.pending = .minuteTick :: [] := rfl

theorem witness_IdleStepIsOneSecond : State.reset.pending = [] := rfl

theorem witness_StepKeepsCatalogueForm :
    let s := { stocked with announcements := [⟨idB, 0, false⟩] }
    s.CatalogueSound ∧ s.AnnouncementsSound ∧ step s = .next s.idleSecond := by
  refine ⟨?_, ?_, rfl⟩
  · unfold State.CatalogueSound; decide +kernel
  · unfold State.AnnouncementsSound; decide +kernel

theorem witness_StepKeepsCountLimits_budget : (queued waitingA stocked).BudgetSound
    ∧ step (queued waitingA stocked) = .next (queued waitingA stocked).idleSecond := by
  refine ⟨?_, rfl⟩
  unfold State.BudgetSound; decide +kernel

/-- Port 0 attached with A1 and B2 in its ACTIVE list. -/
def listed : State :=
  let s := attachPort stocked
  s.setAhead 0 { resetAhead with lists := resetAhead.lists.set 2 (some [⟨idA, false⟩, ⟨idB, false⟩]) }

theorem witness_StepKeepsPortAndCallAheadForm_lists :
    listed.AheadSound ∧ step listed = .next listed.idleSecond := by
  refine ⟨?_, rfl⟩
  have h : ∀ p b, listSound ((listed.aheadOf p).lists.get b) := by
    have k : ∀ p b, ((listed.aheadOf p).lists.get b).all
        (fun es => decide (es.length ≤ Config.aheadCapacity ∧ (es.map (·.id)).Nodup)) = true := by decide +kernel
    intro p b es he
    have := k p b
    rw [he] at this
    simpa using this
  intro p
  refine ⟨?_, ?_, ?_, ?_, h p⟩ <;> (revert p; decide +kernel)

theorem witness_StepKeepsPortAndCallAheadForm_ports :
    listed.PortsSound ∧ step listed = .next listed.idleSecond := by
  have h : ∀ p v, (listed.port p).liveness = some v → v.Sound := by
    have k : ∀ p, (listed.port p).liveness.all
        (fun v => decide (1 ≤ v.f1 ∧ v.f1 ≤ 255 ∧ 1 ≤ v.f2 ∧ v.f2 ≤ 255)) = true := by decide +kernel
    intro p v hv
    have := k p
    rw [hv] at this
    simpa [Liveness.Sound] using this
  refine ⟨⟨fun p => ⟨?_, ?_, h p, ?_⟩, ?_⟩, rfl⟩
  · revert p; decide +kernel
  · revert p; decide +kernel
  · revert p; decide +kernel
  · decide +kernel

theorem witness_StepKeepsHandlerQueueAndSettingsForm_handler :
    (working deliverA (execOf .picking) .picking).handler.Sound ∧ (halted deliverA (execOf .picking)).handler.Sound
      ∧ step (halted deliverA (execOf .picking)) = .next (halted deliverA (execOf .picking)).idleSecond := by
  refine ⟨?_, ?_, rfl⟩
  · exact ⟨by decide, by decide, by decide, by decide⟩
  · exact ⟨by decide, by decide, by decide, by decide⟩

theorem witness_StepKeepsHandlerQueueAndSettingsForm_settings :
    (working deliverA (execOf .picking) .picking).SettingsSound := by
  unfold State.SettingsSound; decide +kernel

theorem witness_StepKeepsHandlerQueueAndSettingsForm_queue :
    let s := working deliverA (execOf .picking) .picking
    s.QueueSound ∧ s.SeqsFresh ∧ step s = .next s.idleSecond := by
  intro s
  refine ⟨⟨?_, ?_, ?_, ?_, ?_, ?_⟩, ?_, rfl⟩
  · unfold State.SeqsDistinct; decide +kernel
  · unfold Move.Shaped; decide +kernel
  · decide +kernel
  · intro q h
    have k : s.handler.exec.bind (·.move) = some 7 := by decide +kernel
    rw [k] at h
    cases h
    exact ⟨deliverA, by decide +kernel, rfl, rfl⟩
  · intro r hr q h
    have k : ∀ r ∈ s.catalogue, r.binding = some 7 := by decide +kernel
    rw [k r hr] at h
    cases h
    exact ⟨deliverA, by decide +kernel, rfl⟩
  · intro m c _ _ h
    have k : s.handler.exec.bind (·.cause) = none := by decide +kernel
    rw [k] at h
    cases h
  · unfold State.SeqsFresh; decide +kernel

theorem witness_StepKeepsCountLimits_counts :
    let s := working deliverA (execOf .picking) .picking
    s.QueueSound ∧ s.CatalogueSound ∧ s.SeqsFresh ∧ step s = .next s.idleSecond
      ∧ (∀ l tag b, s.pending.head? ≠ some (.resolveAtSource l tag b)) ∧ s.checkedOut 0 ≤ 8
      ∧ s.inspectionOut none ≤ 16 := by
  intro s
  refine ⟨witness_StepKeepsHandlerQueueAndSettingsForm_queue.1, ?_, ?_, rfl, ?_, by decide +kernel, by decide +kernel⟩
  · unfold State.CatalogueSound; decide +kernel
  · unfold State.SeqsFresh; decide +kernel
  · intro l tag b h
    cases h

theorem witness_SlotsAgreeWithRecords :
    ∃ t, Reached t ∧ t.bi = .arrived ∧ t.queue.map (·.kind) = [.stockIn] := by
  refine ⟨_, Reached.step [.presBiFull] .reset ?_ rfl, ?_, ?_⟩
  · unfold State.SeqsFresh; decide +kernel
  · decide +kernel
  · decide +kernel

/-- HALTED, raised on both links. -/
def raisedHalt : State := (halted deliverA (execOf .picking)).raise .halted noDetail

theorem witness_StepKeepsConditionsPending :
    raisedHalt.NoticesSound ∧ raisedHalt.conditionHolds .halted = true
      ∧ step raisedHalt = .next raisedHalt.idleSecond := by
  refine ⟨⟨by decide +kernel, ?_⟩, by decide +kernel, rfl⟩
  intro l k
  cases l <;> cases k <;> decide +kernel

theorem witness_CountersNeverDecrease :
    exec .handlerFrameNotTaken stocked = .next stocked ∧ (∀ x, Instr.handlerFrameNotTaken ≠ .powerOnReset x)
      ∧ (∀ l g id, Instr.handlerFrameNotTaken ≠ .verdict l g (some ⟨id, .pass⟩))
      ∧ (∀ l g b, Instr.handlerFrameNotTaken ≠ .setCondition l g b) ∧ stocked.record idA = some recA := by
  refine ⟨rfl, ?_, ?_, ?_, by decide +kernel⟩ <;> intros <;> exact fun h => nomatch h

theorem witness_LinkChecksComeFirst_notHere :
    Instr.request? (.call .material 1 (some idA)) = some (.material, 1, .call)
      ∧ (placementOf .call).includes .material = false := ⟨rfl, rfl⟩

theorem witness_LinkChecksComeFirst_outOfForm :
    Instr.request? (.call (.tool 0) 1 none) = some (.tool 0, 1, .call)
      ∧ (placementOf .call).includes (.tool 0) = true ∧ Instr.outOfForm (.call (.tool 0) 1 none) = true := ⟨rfl, rfl, rfl⟩

theorem witness_EveryRequestAnsweredOnceLast :
    Instr.request? (.qQueue .service 1 (some ())) = some (.service, 1, .qQueue)
      ∧ ∃ t, exec (.qQueue .service 1 (some ())) stocked = .next t := ⟨rfl, _, rfl⟩

theorem witness_GoodFrameRestartsLiveness :
    Instr.request? (.alive (.tool 0) 1 (some ())) = some (.tool 0, 1, .alive) ∧ (listed.port 0).state = .attached
      ∧ ∃ t, exec (.alive (.tool 0) 1 (some ())) listed = .next t := ⟨rfl, by decide +kernel, _, rfl⟩

theorem witness_GoodFrameRestartsLiveness_unknownKind :
    (listed.port 0).state = .attached
      ∧ ∃ t, exec (.unknownRequestKind (.tool 0) 1 0xFF) listed = .next t := ⟨by decide +kernel, _, rfl⟩

theorem witness_ReceiverTakesGoodFramesAlone :
    State.reset.rxOf .handler = .hunting ∧ (List.replicate 320 (0 : Byte)).length ≤ 320
      ∧ (0 : Byte) ++ (0 : Byte) ≠ crc16 (putNumber 0 ++ [1, 0]) ∧ 320 < 256 * (1 : Byte).toNat + (0x41 : Byte).toNat := by
  decide +kernel

theorem witness_ConsequencesKeepSteadyPart :
    (working deliverA (execOf .picking) .picking).handler.state ≠ .idle
      ∧ (working deliverA (execOf .picking) .picking).record idA = some { recA with binding := some 7 } := by decide +kernel

/-- A DELIVER of port 0 that is eligible. -/
def callable : State := queued waitingA (attachPort stocked)

theorem witness_GrantTest_sweeps :
    let s := callable.updRecord idA (fun r => { r with held := true })
    s.SeqsDistinct ∧ s.handler.state = .idle ∧ s.handler.restartPending = false ∧ waitingA ∈ s.queue
      ∧ s.record idA = some { recA with binding := some 7, held := true } ∧ (s.port 0).state ≠ .closed := by
  unfold State.SeqsDistinct; decide +kernel

theorem witness_GrantTest_grants :
    let c := callable.noSlotStep (attachPort stocked) noTouch
    grantEvent (attachPort stocked) callable noTouch = true ∧ c.handler.state = .idle ∧ c.handler.restartPending = false
      ∧ c.sweep.choose = some (waitingA, false) := by decide +kernel

theorem witness_GrantTest_events :
    (∃ m ∈ callable.queue, (attachPort stocked).move? m.seq = none)
      ∧ grantEvent stocked stocked noTouch = false
      ∧ ∀ q, windowEvent stocked (stocked.noSlotStep stocked noTouch) noTouch q = false :=
  ⟨⟨waitingA, by decide +kernel⟩, by decide +kernel, by decide +kernel⟩

theorem witness_GrantChoice_comparable : callable.SeqsComparable ∧ State.reset.SeqsComparable :=
  ⟨⟨0, by decide +kernel⟩, ⟨0, by decide +kernel⟩⟩

theorem witness_GrantChoice_none : State.reset.choose = none := by decide +kernel

theorem witness_GrantChoice_overdue :
    { callable with clock := 600 }.choose = some (waitingA, false)
      ∧ { callable with clock := 600 }.overdue waitingA = true
      ∧ { callable with clock := 599 }.overdue waitingA = false := by decide +kernel

theorem witness_GrantChoice_tenure :
    let s := { callable with
      tenure := ⟨some 0, 0⟩
      ports := callable.ports.set 0 { callable.port 0 with settings := ⟨0, false, 4, 1, 0, 30⟩ } }
    s.tenurePort = some 0 ∧ s.eligible waitingA = true ∧ s.overdue waitingA = false
      ∧ s.choose = some (waitingA, true) := by decide +kernel

theorem witness_GrantChoice_urgency :
    callable.tenurePort = none ∧ callable.overdue waitingA = false ∧ callable.choose = some (waitingA, false) := by
  decide +kernel

theorem witness_GrantReservesAndOrders_deliver :
    waitingA.source = .slot 0 ∧ callable.slot 0 = .filled idA ∧ callable.grantTarget waitingA = .pos (.nest (.t 0))
      ∧ waitingA.source ≠ .slot 395 ∧ waitingA.kind ≠ .scan ∧ waitingA.kind.isStore = false := by decide +kernel

/-- A RECLAIM of A1 from T0 to its EMPTY home slot. -/
def reclaimA : Move := { moveA .reclaim .internal (some 0) .toSelect .waiting with source := .nest (.t 0) }

theorem witness_GrantReservesAndOrders_store :
    let s := zoned ((atNest .outLapsed).setSlot 0 .empty)
    reclaimA.kind.isStore = true ∧ s.selectTarget reclaimA = some 0 ∧ s.grantTarget reclaimA = .pos (.slot 0)
      ∧ s.slot 0 = .empty ∧ s.grantTarget reclaimA ≠ .pos (.nest (.t 0)) := by decide +kernel

theorem witness_GrantReservesAndOrders_fabNests :
    let out := moveA .stockOut .material none (.pos (.nest .bo)) .waiting
    let inn := moveA .inspectOut .material none (.pos (.nest .inn)) .waiting
    stocked.grantTarget out = .pos (.nest .bo) ∧ stocked.grantTarget inn = .pos (.nest .inn)
      ∧ ({ reclaimA with kind := .stockIn, source := .nest .bi }).source = .nest .bi
      ∧ State.reset.grantTarget { reclaimA with kind := .scan, source := .nest .inn } ≠ .pos (.nest .inn) := by
  decide +kernel

theorem witness_GrantReservesAndOrders_scan :
    ({ waitingA with kind := .scan, source := .shelf 47, target := .pos (.shelf 47) }).kind = .scan
      ∧ ({ waitingA with kind := .scan, source := .shelf 47 }).source = .shelf 47 := ⟨rfl, rfl⟩

theorem witness_GrantChoice_urgencySum :
    urgent.urgency collectA = 1023 ∧ urgent.urgency { collectA with seq := 8 } = 1023
      ∧ 1023 ≤ collectA.kind.base + urgent.agingTerm collectA + urgent.weightTerm collectA
          + urgent.couplingTerm collectA := by decide +kernel

theorem witness_ShelfResolution_covered :
    ((zoned State.reset).zones.get 0).base ≤ 47 ∧ 47 ≤ ((zoned State.reset).zones.get 0).limit
      ∧ ¬(((zoned State.reset).zones.get 0).classMask = 0 ∧ ((zoned State.reset).zones.get 0).serveMask = 0)
      ∧ ((zoned State.reset).resolve 47).conflicted = false := by decide +kernel

theorem witness_ShelfResolution_uncovered :
    ∀ k, (State.reset.zones.get k).classMask = 0 ∧ (State.reset.zones.get k).serveMask = 0 := by decide +kernel

theorem witness_StoreTarget_home :
    let s := zoned ((atNest .outLapsed).setSlot 0 .empty)
    s.selectionClass reclaimA = some (.one 0) ∧ s.homeOf reclaimA = some 0 ∧ s.isCandidate (.one 0) 0 = true := by
  decide +kernel

theorem witness_StoreTarget_nearest :
    let s := zoned ((atNest .outLapsed).setSlot 383 .empty)
    s.selectionClass reclaimA = some (.one 0) ∧ s.homeOf reclaimA = some 0 ∧ s.isCandidate (.one 0) 0 = false
      ∧ s.isCandidate (.one 0) 383 = true := by decide +kernel

theorem witness_ZoneSetWritesOneEntry : (⟨7, 0, 255, 255, 63, 255⟩ : ZoneBody).entry = (7 : Fin 8).val := rfl

theorem witness_ZoneSet_conflict :
    let s := { zoned State.reset with zones := (zoned State.reset).zones.set 7 ⟨5, 5, 1, 1, 0⟩ }
    (s.resolve 5).conflicted = true ∧ ∀ j : Shelf, j < 5 → (s.resolve j).conflicted = false := by decide +kernel

/-- A1 and B2 at the delivery limit of class 0. -/
def worn : State :=
  { State.reset with
    catalogue := [{ recA with deliveries := 500 }, { recA with id := idB, location := .tool 5, deliveries := 500 }]
    classes := State.reset.classes.set 0 ⟨500, 0, 0⟩ }

theorem witness_DueCheck_one :
    worn.CatalogueSound ∧ worn.newlyDue (fun r => r.id = idB) = [{ recA with id := idB, location := .tool 5, deliveries := 500 }] := by
  unfold State.CatalogueSound; decide +kernel

theorem witness_DueCheck_two : 2 ≤ (worn.newlyDue (fun _ => true)).length := by decide +kernel

theorem witness_DueCheck_none : ∀ r ∈ stocked.catalogue, stocked.comesDue r = false := by decide +kernel

theorem witness_MinuteTickAccruesAir :
    stocked.CatalogueSound ∧ recA.location = .slot 0 ∧ toStorage 0 = some 0 ∧ toStorage 384 = none := by
  unfold State.CatalogueSound; decide +kernel

theorem witness_QueriesAnswerFromState :
    identOk idA = true ∧ stocked.record idA = some recA ∧ stocked.record idB = none ∧ identOk [] = false := by
  decide +kernel

/-- A good HELLO. -/
def helloA : HelloBody := ⟨idA, 1, 0, 65535⟩

theorem witness_Hello_good : nameOk helloA.name = true ∧ helloA.base ≤ 1 := by decide

theorem witness_Hello_states :
    (State.reset.port 0).state = .silent ∧ (listed.port 0).state = .attached ∧ (listed.port 0).name = some helloA.name
      ∧ (listed.port 0).name ≠ some idB ∧ nameOk idB = true ∧ ((closePort State.reset).port 0).state = .closed := by
  decide +kernel

/-- Port 0 attached and served, A1 in slot 0. -/
def ready : State := zoned (attachPort stocked)

theorem witness_CallAdmitted :
    identOk idA = true ∧ (ready.port 0).state = .attached ∧ ready.record idA = some recA ∧ recA.location = .slot 0
      ∧ recA.condition = .ready ∧ recA.held = false ∧ Claim.free = ready.claim recA (callSetsAside 0)
      ∧ Claim.free ≠ .bound ∧ ready.checkedOut 0 < 8 ∧ (ready.serveMaskFor recA).getLsbD (0 : Port) = true
      ∧ ready.linkCount Claim.free.seq < 24
      ∧ ready.deciding ⟨.deliver, .tool 0, some 0, some idA, .named, .slot 0, .pos (.nest (.t 0)), none⟩ = none := by
  decide +kernel

/-- A waiting PRESTAGE of A1 for port 0, which a CALL sets aside. -/
def prestageA : Move := moveA .prestage .internal (some 0) (.pos (.slot 384)) .waiting

theorem witness_CallAdmitted_aside :
    let s := queued prestageA ready
    s.record idA = some { recA with binding := some 7 }
      ∧ s.claim { recA with binding := some 7 } (callSetsAside 0) = .aside prestageA := by decide +kernel

/-- A1 with its record changed. -/
def withRec (f : Rec → Rec) : State := ready.updRecord idA f

theorem witness_CallRefused_form : identOk [0x61] = false ∧ identOk idA = true := by decide

theorem witness_CallRefused_port : (stocked.port 0).state ≠ .attached ∧ ready.record idB = none := by decide +kernel

theorem witness_CallRefused_record :
    (∀ n, (withRec (Rec.moveTo .inspection)).record idA ≠ some { recA with location := .slot n })
      ∧ (withRec Rec.doubt).record idA = some (Rec.doubt recA) ∧ (Rec.doubt recA).condition ≠ .ready
      ∧ (withRec (fun r => { r with held := true })).record idA = some { recA with held := true } := by
  refine ⟨fun n h => ?_, by decide +kernel, by decide, by decide +kernel⟩
  have k : (withRec (Rec.moveTo .inspection)).record idA = some { recA with location := .inspection } := by decide +kernel
  rw [k] at h
  simp [recA, newRecord] at h

theorem witness_CallRefused_bound :
    (queued deliverA ready).claim { recA with binding := some 7 } (callSetsAside 0) = .bound := by decide +kernel

/-- Eight records at TOOL(0) beside A1. -/
def eightOut : State :=
  { ready with catalogue := recA :: (List.range 8).map (fun k =>
      { recA with id := [0x43, BitVec.ofNat 8 (0x30 + k)], location := .tool 0 }) }

theorem witness_CallRefused_limit : 8 ≤ eightOut.checkedOut 0 ∧ eightOut.record idA = some recA := by decide +kernel

theorem witness_CallRefused_zone :
    ((attachPort stocked).serveMaskFor recA).getLsbD (0 : Port) = false ∧ (attachPort stocked).checkedOut 0 < 8 := by
  decide +kernel

theorem witness_CallRefused_queueFull :
    let s := { ready with queue := List.replicate 24 { waitingA with reticle := some idB, beneficiary := some 5 } }
    24 ≤ s.linkCount (s.claim recA (callSetsAside 0)).seq ∧ (s.serveMaskFor recA).getLsbD (0 : Port) = true := by
  decide +kernel

/-- An intercept entry that catches A1's DELIVER. -/
def catching (a : InterceptAction) : State :=
  { ready with intercepts := ready.intercepts.set 15 ⟨7, 1023, .byPrefix [0x41], a, 255⟩ }

theorem witness_OffersFollowIntercept :
    (catching .note).deciding (deliverOffer 0 idA 0) = some 15 ∧ (catching .hold).deciding (deliverOffer 0 idA 0) = some 15
      ∧ (catching .divert).deciding (deliverOffer 0 idA 0) = some 15 ∧ recA.location = .slot 0
      ∧ (catching .divert).inspectionOut none < 16 := by decide +kernel

theorem witness_OffersFollowIntercept_limit :
    let s := { catching .divert with catalogue := recA :: (List.range 16).map (fun k =>
      { recA with id := [0x43, BitVec.ofNat 8 (0x30 + k)], location := .inspection }) }
    s.deciding (deliverOffer 0 idA 0) = some 15 ∧ 16 ≤ s.inspectionOut none := by decide +kernel

theorem witness_OffersFollowIntercept_prestage :
    (catching .hold).deciding (prestageOffer 0 idA 0 0 384) = some 15
      ∧ ((catching .hold).intercepts.get 15).action = .hold ∧ ready.deciding (prestageOffer 0 idA 0 0 384) = none
      ∧ (catching .hold).CatalogueSound ∧ (catching .hold).record idA = some recA ∧ recA.binding = none
      ∧ (catching .hold).deciding (destageOffer 0 idA 384) = some 15 := by
  unfold State.CatalogueSound; decide +kernel

theorem witness_Cancel_waiting :
    (callable.port 0).state ≠ .closed ∧ callable.deliverOf 0 idA = some waitingA ∧ waitingA.state = .waiting := by
  decide +kernel

theorem witness_Cancel_executing :
    (queued deliverA ready).deliverOf 0 idA = some deliverA ∧ deliverA.state = .executing := by decide +kernel

theorem witness_Cancel_onNest :
    (atNest .outWait).deliverOf 0 idA = none ∧ (atNest .outWait).toolNest 0 = .outWait
      ∧ (atNest .outWait).locatedAt idA (.nest (.t 0)) = true ∧ (atNest .outWait).tbusy 0 = false
      ∧ ((atNest .outWait).setTbusy 0 true).tbusy 0 = true := by decide +kernel

theorem witness_Cancel_notFound : ready.deliverOf 0 idB = none ∧ ready.toolNest 0 ≠ .outWait := by decide +kernel

theorem witness_Ahead :
    (listed.port 0).state = .attached ∧ [idA, idB, idA].all identOk = true ∧ [idA, idB, idA].length ≤ 16
      ∧ (listed.aheadOf 0).activeEntries.all (·.consumed) = false
      ∧ (ready.aheadOf 0).activeEntries.all (·.consumed) = true := by decide +kernel

theorem witness_Ahead_sound : (listed.aheadOf 0).Sound := (witness_StepKeepsPortAndCallAheadForm_lists).1 0

/-- Port 0 with A1 and B2 in its ACTIVE list and C3 in its NEXT list. -/
def twoLists : CallAhead :=
  { resetAhead with lists := #v[none, some [⟨[0x43, 0x33], false⟩], some [⟨idA, false⟩, ⟨idB, true⟩]] }

theorem witness_CallAhead_sound : twoLists.Sound ∧ resetAhead.Sound := by
  have h (a : CallAhead) (k : ∀ b, (a.lists.get b).all
      (fun es => decide (es.length ≤ Config.aheadCapacity ∧ (es.map (·.id)).Nodup)) = true) :
      ∀ b, listSound (a.lists.get b) := by
    intro b es he
    have := k b
    rw [he] at this
    simpa using this
  refine ⟨⟨?_, ?_, ?_, ?_, h _ (by decide +kernel)⟩, ⟨?_, ?_, ?_, ?_, h _ (by decide +kernel)⟩⟩ <;> decide +kernel

theorem witness_CallAhead_entries :
    twoLists.activeList = some ([] ++ (⟨idA, false⟩ : AheadEntry) :: [⟨idB, true⟩])
      ∧ twoLists.nextList = some ([] ++ (⟨[0x43, 0x33], false⟩ : AheadEntry) :: [])
      ∧ (∀ x ∈ twoLists.activeEntries, x.id ≠ [0x43, 0x33]) ∧ (∃ e ∈ twoLists.activeEntries, e.consumed = false)
      ∧ (∀ e ∈ resetAhead.activeEntries, e.consumed = true) ∧ (∀ x ∈ twoLists.nextList.getD [], x.id ≠ idA) := by
  decide +kernel

/-- Port 0 attached and served, A1 in slot 0 and in its ACTIVE list, its staging slots EMPTY. -/
def forecasting : State := ((zoned listed).setSlot 384 .empty).setSlot 385 .empty

theorem witness_Window_ask :
    (forecasting.port 0).state = .attached ∧ forecasting.record idA = some recA ∧ recA.location = .slot (ofStorage 0)
      ∧ recA.condition = .ready ∧ recA.held = false ∧ recA.binding = none
      ∧ (forecasting.resolve (shelfOf 0)).serveMask.getLsbD (0 : Port) = true
      ∧ forecasting.slot (stagingSlot 0 0) = .empty ∧ forecasting.execSourceSlot ≠ some (stagingSlot 0 0)
      ∧ forecasting.queue = [] ∧ forecasting.window 0 = [idA] := by decide +kernel

theorem witness_Window_review :
    let s := queued { prestageA with listPosition := some 1 } forecasting
    s.SeqsDistinct ∧ s.window 0 = [idA] ∧ (s.window 0)[(0 : Fin 2).val]? = some idA ∧ s.slot 384 = .empty
      ∧ s.record idA = some { recA with binding := some 7 } ∧ prestageA.source = .slot 0
      ∧ prestageA.target = .pos (.slot 384) ∧ prestageA.state = .waiting := by
  unfold State.SeqsDistinct; decide +kernel

theorem witness_Window_destage :
    let s := (forecasting.setSlot 384 (.filled idB)).setSlot 385 .unknown
    let t := { s with catalogue := s.catalogue ++ [{ recA with id := idB, location := .slot 384 }] }
    t.slot 384 = .filled idB ∧ idB ∉ (t.setAhead 0 { resetAhead with lists := #v[none, none, some [⟨idA, false⟩]] }).window 0
      ∧ t.record idB = some { recA with id := idB, location := .slot 384 }
      ∧ t.slot (stagingSlot 0 1) ≠ .empty ∧ (attachPort stocked).window 0 = [] := by decide +kernel

theorem witness_Window_events :
    (∀ q, windowEvent forecasting forecasting noTouch q = false)
      ∧ (∀ q, windowEvent stocked (attachPort stocked) noTouch q = true ↔ q = 0)
      ∧ ((attachPort stocked).reevaluate 0).handler = (attachPort stocked).handler
      ∧ (∀ q, q ≠ 0 →
          windowEvent (attachPort stocked) ((attachPort stocked).reevaluate 0) noTouch q = false) := by decide +kernel

/-- A1 at port 0's tool, nest T0 RETURNED with its return wait running. -/
def returned : State :=
  ((placedAt (.tool 0)).updPort 0 (fun r => { r with nest := .returned, window := some ⟨.returnWait, 300⟩ })).setPresT 0 true

theorem witness_Return :
    identOk idA = true ∧ (returned.port 0).state ≠ .closed ∧ returned.CatalogueSound ∧ (returned.port 0).lateOpen = false
      ∧ returned.locatedAt idA (.tool 0) = true ∧ returned.toolNest 0 = .returned
      ∧ (∀ m ∈ returned.queue, ¬(m.kind = .collect ∧ m.source = .nest (.t 0) ∧ m.state = .waiting))
      ∧ stocked.locatedAt idA (.tool 0) = false ∧ stocked.toolNest 0 ≠ .returned := by
  unfold State.CatalogueSound; decide +kernel

theorem witness_Return_late :
    ((returned.updPort 0 (fun r => { r with lateOpen := true })).port 0).lateOpen = true
      ∧ ∀ q, returned.locatedAt idA (.nest (.t q)) = false := by decide +kernel

theorem witness_Return_collectWaits :
    let s := { returned with queue := [collectA] }
    ∃ m ∈ s.queue, m.kind = .collect ∧ m.source = .nest (.t 0) ∧ m.state = .waiting := ⟨collectA, by decide +kernel⟩

theorem witness_Announcements :
    stocked.known idA = true ∧ stocked.known idB = false ∧ stocked.announcedAt idB = none
      ∧ stocked.announcements.length < 8
      ∧ { stocked with announcements := [⟨idB, 0, false⟩] }.announcedAt idB = some 0
      ∧ { stocked with announcements := List.replicate 8 ⟨[0x5A], 0, false⟩ }.announcedAt idB = none
      ∧ 8 ≤ { stocked with announcements := List.replicate 8 ⟨[0x5A], 0, false⟩ }.announcements.length := by
  decide +kernel

theorem witness_ExportAndInspect :
    stocked.record idA = some recA ∧ Claim.free = stocked.claim recA (fun _ => false) ∧ stocked.linkCount none < 24
      ∧ stocked.deciding ⟨.stockOut, .material, none, some idA, .named, .slot 0, .pos (.nest .bo), none⟩ = none
      ∧ stocked.inspectionOut none < 16 ∧ stocked.deciding (inspectOutOffer .service idA 0) = none
      ∧ stocked.deciding (inspectOutOffer .material idA 0) = none := by decide +kernel

/-- A waiting STOCK_OUT of A1 asked for on the material link. -/
def stockOutA : Move := moveA .stockOut .material none (.pos (.nest .bo)) .waiting

theorem witness_Export_aside :
    let s := queued stockOutA stocked
    s.claim { recA with binding := some 7 } (fun _ => true) = .aside stockOutA ∧ stockOutA.kind ≠ .scan
      ∧ s.linkCount (some 7) < 24 ∧ stockOutA.requester = .material ∧ stockOutA.reticle = some idA := by decide +kernel

theorem witness_Export_asideOfTool :
    callable.claim { recA with binding := some 7 } (fun _ => true) = .aside waitingA ∧ waitingA.kind ≠ .scan
      ∧ waitingA.requester.link = some (.tool 0) ∧ (callable.port 0).state ≠ .closed ∧ callable.inspectionOut (some 7) < 16
      ∧ callable.deciding (inspectOutOffer .service idA 0) = none := by decide +kernel

theorem witness_ExportRefused_record :
    identOk [0x61] = false ∧ stocked.record idB = none
      ∧ (placedAt .inspection).record idA = some { recA with location := .inspection }
      ∧ (queued deliverA ready).claim { recA with binding := some 7 } (fun _ => true) = .bound := by decide +kernel

theorem witness_ExportRefused_limits :
    let full := { ready with queue := List.replicate 24 { waitingA with reticle := some idB, beneficiary := some 5 } }
    let out := { stocked with catalogue := recA :: (List.range 16).map (fun k =>
      { recA with id := [0x43, BitVec.ofNat 8 (0x30 + k)], location := .inspection }) }
    full.claim recA (fun _ => true) = .free ∧ 24 ≤ full.linkCount none ∧ full.inspectionOut none < 16
      ∧ out.record idA = some recA ∧ out.claim recA (fun _ => true) = .free ∧ 16 ≤ out.inspectionOut none
      ∧ out.linkCount none < 24 := by decide +kernel

theorem witness_HoldAndRelease :
    let r := { recA with binding := some 7 }
    callable.record idA = some r ∧ r.held = false ∧ r.location = .slot 0 ∧ callable.boundMove r = some waitingA
      ∧ waitingA.kind = .deliver ∧ waitingA.requester = .tool 0 ∧ waitingA.reticle = some idA
      ∧ (callable.port 0).state ≠ .closed ∧ callable.CatalogueSound := by
  unfold State.CatalogueSound; decide +kernel

theorem witness_HoldOnNest :
    let s := atNest .outWait
    let r := { recA with location := .nest (.t 0) }
    let h := s.updRecord idA (fun x => { x with held := true })
    s.record idA = some r ∧ r.held = false ∧ s.toolNest 0 = .outWait ∧ s.boundMove r = none ∧ s.CatalogueSound
      ∧ r.fit = true ∧ h.record idA = some { r with held := true } ∧ h.toolNest 0 = .outWait := by
  unfold State.CatalogueSound; decide +kernel

theorem witness_ClassChanges :
    worn.CatalogueSound ∧ worn.known idA = true ∧ ¬((some 65536 : Option Nat) = none ∧ (none : Option Nat) = none
      ∧ (none : Option Nat) = none) := by
  unfold State.CatalogueSound; decide +kernel

theorem witness_Verdict :
    (placedAt .inspection).record idA = some { recA with location := .inspection }
      ∧ (placedAt (.nest .inn)).record idA = some { recA with location := .nest .inn }
      ∧ stocked.record idA = some recA ∧ recA.verdictOwed = false ∧ (placedAt .inspection).CatalogueSound := by
  unfold State.CatalogueSound; decide +kernel

theorem witness_Census :
    (47 : Shelf).val = min 255 47 ∧ (0 : Shelf).val = min 0 47 ∧ (0 : Shelf) < 47 ∧ (0 : Shelf) ≤ 47
      ∧ State.reset.census.state = .idle := by decide +kernel

/-- A census at work on shelf 3, its SCAN in a state. -/
def scanning (st : CensusState) (ms : MoveState) : State :=
  { working { waitingA with kind := .scan, requester := .internal, beneficiary := none, reticle := none, pickTest := .none,
                            source := .shelf 3, target := .pos (.shelf 3), state := ms } (execOf .scanning) .scanning with
    census := { resetCensus with state := st, range := some (2, 3), scan := some 7, nextShelf := some 3 } }

/-- The SCAN of that census. -/
def scanA (ms : MoveState) : Move :=
  { waitingA with kind := .scan, requester := .internal, beneficiary := none, reticle := none, pickTest := .none,
                  source := .shelf 3, target := .pos (.shelf 3), state := ms }

/-- R202: a scan that finds A1 gone raises MISMATCH within its change, and withdraws A1's STOCK_OUT once that is whole. -/
theorem test_scanRaisesThenTells :
    let m := { stockOutA with seq := 6, source := .slot (shelfSlot 3 0) }
    let s := (scanning .idle .executing).setSlot (shelfSlot 3 0) (.filled idA)
    let b := ({ s with queue := m :: s.queue }).updRecord idA (fun r => { r with location := .slot (shelfSlot 3 0), binding := some 6 })
    ((b.takeScanned (scanA .executing) (Vector.replicate 8 .unreadable)).sent (.request .material)).map
      (fun f => match f with
        | .notice _ => 0
        | .withdrawn _ _ => 1
        | _ => 2) = [0, 1] := by decide +kernel

theorem witness_CensusStops :
    (scanning .running .executing).census.state = .running ∧ (scanning .stopping .executing).census.state = .stopping
      ∧ (∃ m ∈ (scanning .running .executing).queue, m.kind = .scan ∧ m.state = .executing)
      ∧ ∀ m ∈ (scanning .running .waiting).queue, ¬(m.kind = .scan ∧ m.state = .executing) :=
  ⟨by decide +kernel, by decide +kernel, ⟨scanA .executing, by decide +kernel⟩, by decide +kernel⟩

theorem witness_Settings :
    (⟨15, 0, 0, .byPrefix idA, .note⟩ : InterceptBody).entry = (15 : Fin 16).val ∧ identOk idA = true
      ∧ (⟨5, 255, true, 255, 255, 255, 65535⟩ : PortSetBody).port = (5 : Port).val := by decide

theorem witness_ServiceCorrects :
    (State.reset.slot 395).content = .unknown ∧ State.reset.execSourceSlot ≠ some 395 ∧ State.reset.record idA = none
      ∧ State.reset.catalogue.length < 480
      ∧ (placedAt .unlocated).record idA = some { recA with location := .unlocated }
      ∧ (placedAt (.tool 5)).record idA = some { recA with location := .tool 5 }
      ∧ stocked.slot 0 = .filled idA
      ∧ (working deliverA (execOf .placing) .placing).execSourceSlot = some 0 := by decide +kernel

theorem witness_SetSlot_noRoom :
    480 ≤ { State.reset with catalogue := List.replicate 480 { recA with id := idB } }.catalogue.length
      ∧ { State.reset with catalogue := List.replicate 480 { recA with id := idB } }.record idA = none := by decide +kernel

theorem witness_Forget :
    (placedAt .inspection).record idA = some { recA with location := .inspection } ∧ recA.binding = none
      ∧ (withRec (fun r => { r with location := .unlocated, binding := some 7 })).record idA
          = some { recA with location := .unlocated, binding := some 7 } := by decide +kernel

theorem witness_Halted (ph : Phase) : (halted deliverA (execOf ph)).HaltedWith deliverA (execOf ph) ph := by
  unfold State.HaltedWith State.WorksOn
  cases ph <;> decide +kernel

theorem witness_Resume :
    deliverA.target = .pos (.nest (.t 0)) ∧ deliverA.beneficiary = some 0
      ∧ (halted deliverA (execOf .carrying)).tbusy 0 = false
      ∧ ((halted deliverA (execOf .carrying)).setTbusy 0 true).tbusy 0 = true
      ∧ State.reset.handler.state ≠ .halted := by decide +kernel

theorem witness_Resume_noTarget :
    let m := { reclaimA with state := .executing, target := .noTarget }
    (halted m (execOf .placing)).HaltedWith m (execOf .placing) .placing ∧ m.target.pos? = none := by
  unfold State.HaltedWith State.WorksOn; decide +kernel

theorem witness_Resume_sound :
    (halted deliverA (execOf .carrying)).SeqsDistinct ∧ (halted deliverA (execOf .carrying)).handler.Sound := by
  refine ⟨?_, by decide, by decide, by decide, by decide⟩
  unfold State.SeqsDistinct; decide +kernel

theorem witness_Resume_scanning :
    let s := { scanning .running .executing with
      handler := { resetHandler with state := .halted, exec := some (execOf .scanning), halt := some ⟨.timeout, .unknown⟩ } }
    s.HaltedWith (scanA .executing) (execOf .scanning) .scanning ∧ (scanA .executing).source = .shelf 3 := by
  unfold State.HaltedWith State.WorksOn; decide +kernel

theorem witness_ResolveAtTarget :
    deliverA.reticle = some idA ∧ deliverA.target = .pos (.nest (.t 0)) ∧ deliverA.kind ≠ .scan
      ∧ ({ prestageA with state := .executing }).target = .pos (.slot 384)
      ∧ ({ deliverA with reticle := none }).reticle = none := by decide

theorem witness_ResolveAtSource_slot :
    deliverA.source = .slot 0 ∧ deliverA.reticle = some idA ∧ ({ deliverA with standDown := true }).standDown = true := by
  decide

/-- A RECLAIM from T0 halted with the nest RETURNED meanwhile. -/
def haltedReclaim : State :=
  { (atNest .returned) with
    queue := [{ reclaimA with state := .executing }]
    handler := { resetHandler with state := .halted, exec := some (execOf .placing), halt := some ⟨.timeout, .unknown⟩ } }

theorem witness_ResolveAtSource_nest :
    haltedReclaim.HaltedWith { reclaimA with state := .executing } (execOf .placing) .placing
      ∧ haltedReclaim.nestAsGranted (.t 0) = false ∧ haltedReclaim.nestIsEmpty (.t 0) = false := by
  unfold State.HaltedWith State.WorksOn; decide +kernel

theorem witness_ResolveAtSource_taken :
    let s := haltedReclaim.setToolNest 0 .outbound
    let e := haltedReclaim.setToolNest 0 .empty
    s.HaltedWith { reclaimA with state := .executing } (execOf .placing) .placing ∧ s.nestAsGranted (.t 0) = true
      ∧ e.nestIsEmpty (.t 0) = true ∧ e.putRecorded 0 = false ∧ e.presT 0 = true ∧ reclaimA.kind ≠ .deliver := by
  unfold State.HaltedWith State.WorksOn; decide +kernel

theorem witness_ResolveAtSource_put :
    let s := ((haltedReclaim.setToolNest 0 .empty).setTbusy 0 true).setPresT 0 true
    s.HaltedWith { reclaimA with state := .executing } (execOf .placing) .placing ∧ s.nestAsGranted (.t 0) = false
      ∧ s.toolNest 0 = .empty ∧ s.presT 0 = true ∧ s.putRecorded 0 = true := by
  unfold State.HaltedWith State.WorksOn; decide +kernel

/-- A census halted in its SCAN of shelf 3. -/
def haltedScan (st : CensusState) : State :=
  { scanning st .executing with
    handler := { resetHandler with state := .halted, exec := some (execOf .scanning), halt := some ⟨.timeout, .unknown⟩ } }

theorem witness_Resolve_scan (st : CensusState) :
    (haltedScan st).HaltedWith (scanA .executing) (execOf .scanning) .scanning ∧ (haltedScan st).census.state = st
      ∧ (haltedScan st).census.range = some (2, 3) ∧ (scanA .executing).source = .shelf 3 := by
  unfold State.HaltedWith State.WorksOn
  cases st <;> decide +kernel

theorem witness_ResolveAtSource_putback (c : PutbackCause) :
    let e := { execOf .putback with cause := some c, read := some (.ident idB) }
    let r := { reclaimA with state := .executing }
    let s := { (atNest .outbound) with
      queue := [r], handler := { resetHandler with state := .halted, exec := some e, halt := some ⟨.timeout, .unknown⟩ } }
    (halted deliverA e).HaltedWith deliverA e .putback ∧ s.HaltedWith r e .putback ∧ s.nestAsGranted (.t 0) = true
      ∧ e.cause ≠ none ∧ e.ReadIs (some idB) := by
  unfold State.HaltedWith State.WorksOn
  refine ⟨?_, ?_, ?_, ?_, fun z => ?_⟩
  · cases c <;> decide +kernel
  · cases c <;> decide +kernel
  · cases c <;> decide +kernel
  · simp
  · simp

theorem witness_ResolveRemoved_nest :
    let s := haltedReclaim.setToolNest 0 .outbound
    let p := { s with handler := { s.handler with exec := some (execOf .picking) } }
    s.HaltedWith { reclaimA with state := .executing } (execOf .placing) .placing
      ∧ p.HaltedWith { reclaimA with state := .executing } (execOf .picking) .picking
      ∧ p.presAt (.t 0) = true ∧ (p.setPresT 0 false).presAt (.t 0) = false ∧ s.toolNest 0 ≠ .outWait
      ∧ reclaimA.target ≠ .pos (.nest (.t 0)) ∧ (execOf .placing).ReadIs none := by
  unfold State.HaltedWith State.WorksOn
  exact ⟨by decide +kernel, by decide +kernel, by decide +kernel, by decide +kernel, by decide +kernel, by decide,
    fun z => by simp [execOf]⟩

theorem witness_ResolveRemoved :
    let s := (halted deliverA (execOf .picking)).setSlot 0 (.outbound idA 7)
    s.slot 0 = .outbound idA 7 ∧ (State.haltWithoutMove State.reset).handler.state = .halted
      ∧ (State.haltWithoutMove State.reset).handler.exec.bind (·.move) = none := by decide +kernel

theorem witness_Restart :
    (working deliverA (execOf .picking) .picking).handler.state ≠ .idle ∧ State.reset.handler.state = .idle
      ∧ (halted deliverA (execOf .picking)).handler.state = .halted
      ∧ (queued deliverA ready).SeqsDistinct := by
  unfold State.SeqsDistinct; decide +kernel

theorem witness_Restart_pending :
    let b := State.updHandler State.reset (fun h => { h with restartPending := true })
    b.handler.restartPending = true ∧ b.handler.state = .idle ∧ State.reset.handler.restartPending = false := by
  decide +kernel

theorem witness_Restart_nests :
    (atNest .outWait).toolNest 0 = .outWait
      ∧ (atNest .outWait).recordAt (.nest (.t 0)) = some { recA with location := .nest (.t 0) }
      ∧ returned.toolNest 0 = .returned
      ∧ { returned with queue := [collectA] }.queue.find? (fun m => m.waitsAt .collect (.t 0)) = some collectA := by
  decide +kernel

theorem witness_Restart_told :
    waitingA ∈ callable.queue ∧ waitingA.isWaiting = true ∧ waitingA.kind ≠ .scan ∧ waitingA.reticle = some idA
      ∧ waitingA.requester.link = some (.tool 0) ∧ (∀ q, ReqLink.tool 0 = .tool q → (callable.port q).state ≠ .closed) := by
  refine ⟨by decide +kernel, rfl, by decide, rfl, rfl, ?_⟩
  intro q h
  cases h
  decide +kernel

theorem witness_Restart_census :
    let s := { scanning .running .executing with
      handler := { resetHandler with state := .halted, exec := some (execOf .scanning), halt := some ⟨.timeout, .unknown⟩ } }
    s.SeqsDistinct ∧ s.census.state ≠ .idle ∧ scanA .executing ∈ s.queue
      ∧ (∀ m ∈ s.queue, m.kind = .scan → m.state = .executing) := by
  unfold State.SeqsDistinct; decide +kernel

theorem witness_Reports_stale :
    (working deliverA (execOf .picking) .picking).handler.current ≠ some 4 ∧ State.reset.handler.current ≠ some 0 := by
  decide +kernel

theorem witness_Reports_unexpected :
    (working deliverA (execOf .placing) .placing).handler.current = some 5
      ∧ (working deliverA (execOf .placing) .placing).handler.state ≠ .picking
      ∧ (working deliverA (execOf .placing) .placing).handler.state ≠ .scanning
      ∧ (working deliverA (execOf .picking) .picking).handler.state ≠ .placing
      ∧ (working deliverA (execOf .picking) .picking).handler.state ≠ .putback ∧ readOk .noread = true := by decide +kernel

theorem witness_AcceptedPick :
    (working deliverA (execOf .picking) .picking).Awaits 5 deliverA (execOf .picking) .picking ∧ identOk idA = true
      ∧ deliverA.pickTest = .named ∧ deliverA.reticle = some idA ∧ deliverA.source = .slot 0
      ∧ reclaimA.source = .nest (.t 0) ∧ deliverA.target = .pos (.nest (.t 0)) ∧ deliverA.kind = .deliver ∧ deliverA.beneficiary = some 0
      ∧ ((working deliverA (execOf .picking) .picking).setTbusy 0 true).tbusy 0 = true
      ∧ (working deliverA (execOf .picking) .picking).tbusy 0 = false := by
  unfold State.Awaits State.WorksOn; decide +kernel

/-- The STOCK_IN from BI, executing. -/
def stockInA : Move :=
  { waitingA with kind := .stockIn, requester := .internal, beneficiary := none, reticle := none, pickTest := .stockIn,
                  source := .nest .bi, target := .pos (.slot 8), state := .executing }

/-- A store move from a nest that names no reticle, in PICKING with slot 8 reserved. -/
def unnamed (k : MoveKind) (x : Nest) (pt : PickTest) : Move := { stockInA with kind := k, source := .nest x, pickTest := pt }

/-- The handler interface picking for such a move. -/
def pickingFor (m : Move) : State := (working m (execOf .picking) .picking).setSlot 8 (.inbound none 7)

theorem witness_UnnamedPicks_stockIn :
    let m := unnamed .stockIn .bi .stockIn
    let s := { pickingFor m with announcements := [⟨idB, 3, true⟩] }
    s.Awaits 5 m (execOf .picking) .picking ∧ m.kind.isStore = true ∧ m.target = .pos (storagePosition 8)
      ∧ s.slot (ofStorage 8) = .inbound none m.seq ∧ s.known idA = true ∧ s.known idB = false ∧ s.catalogue.length < 480
      ∧ s.announcements.find? (fun y => y.id = idB) = some ⟨idB, 3, true⟩
      ∧ s.announcements.find? (fun y => y.id = [0x43]) = none ∧ s.known [0x43] = false
      ∧ (pickingFor m).announcements = [] := by
  unfold State.Awaits State.WorksOn; decide +kernel

theorem witness_ResolveRemoved_unnamed :
    (halted stockInA (execOf .picking)).HaltedWith stockInA (execOf .picking) .picking ∧ stockInA.reticle = none
      ∧ stockInA.source = .nest .bi ∧ ((halted stockInA (execOf .picking)).setSlot 8 (.inbound none 7)).slot 8 = .inbound none 7
      ∧ stockInA.target = .pos (.slot 8) := by
  unfold State.HaltedWith State.WorksOn; decide +kernel

theorem witness_UnnamedPicks_collect :
    let m := unnamed .collect (.t 0) .anyAtTool
    let s := (pickingFor m).updRecord idA (Rec.moveTo (.tool 5))
    s.Awaits 5 m (execOf .picking) .picking ∧ m.kind.isStore = true ∧ s.slot (ofStorage 8) = .inbound none m.seq
      ∧ s.record idA = some { recA with binding := some 7, location := .tool 5 } ∧ s.record idB = none
      ∧ (pickingFor m).record idA = some { recA with binding := some 7 } := by
  unfold State.Awaits State.WorksOn; decide +kernel

theorem witness_UnnamedPicks_reshelve :
    let m := unnamed .reshelve .inn .anyAtInspection
    let s := (pickingFor m).updRecord idA (Rec.moveTo .inspection)
    s.Awaits 5 m (execOf .picking) .picking ∧ m.kind.isStore = true ∧ s.slot (ofStorage 8) = .inbound none m.seq
      ∧ s.record idA = some { recA with binding := some 7, location := .inspection }
      ∧ s.locatedAt idB .inspection = false := by
  unfold State.Awaits State.WorksOn; decide +kernel

theorem witness_UnnamedPicks_full :
    let m := unnamed .collect (.t 0) .anyAtTool
    let s := { pickingFor m with catalogue := List.replicate 480 recA }
    s.Awaits 5 m (execOf .picking) .picking ∧ s.record idB = none ∧ 480 ≤ s.catalogue.length := by
  unfold State.Awaits State.WorksOn; decide +kernel

theorem witness_FailedPicks :
    (working deliverA (execOf .picking) .picking).Awaits 5 deliverA (execOf .picking) .picking
      ∧ ReadId.noread ≠ .ident idA ∧ ReadId.ident idB ≠ .ident idA ∧ readOk (.ident idB) = true := by
  unfold State.Awaits State.WorksOn; decide +kernel

theorem witness_SourceEmpty_nest :
    let m := { reclaimA with state := .executing, target := .pos (.slot 8) }
    (working m (execOf .picking) .picking).Awaits 5 m (execOf .picking) .picking ∧ m.source = .nest (.t 0)
      ∧ m.pickTest = .named ∧ m.reticle = some idA
      ∧ (working stockInA (execOf .picking) .picking).Awaits 5 stockInA (execOf .picking) .picking
      ∧ stockInA.source = .nest .bi ∧ stockInA.pickTest ≠ .named := by
  unfold State.Awaits State.WorksOn; decide +kernel

theorem witness_Placed :
    (working deliverA (execOf .placing) .placing).Awaits 5 deliverA (execOf .placing) .placing
      ∧ (working deliverA (execOf .placing) .placing).record idA = some { recA with binding := some 7 }
      ∧ deliverA.holdOnCompletion = false ∧ deliverA.standDown = false ∧ ({ recA with binding := some 7 } : Rec).fit = true := by
  unfold State.Awaits State.WorksOn; decide +kernel

theorem witness_Placed_targets :
    let p := { prestageA with state := .executing }
    let o := { stockOutA with state := .executing }
    let i := { stockOutA with state := .executing, kind := .inspectOut, target := .pos (.nest .inn) }
    let d := { reclaimA with state := .executing, target := .pos (.slot 0), holdOnCompletion := true }
    (working p (execOf .placing) .placing).Awaits 5 p (execOf .placing) .placing
      ∧ (working o (execOf .placing) .placing).Awaits 5 o (execOf .placing) .placing
      ∧ (working i (execOf .placing) .placing).Awaits 5 i (execOf .placing) .placing
      ∧ (working d (execOf .placing) .placing).Awaits 5 d (execOf .placing) .placing := by
  unfold State.Awaits State.WorksOn; decide +kernel

/-- A putback in progress, with its cause. -/
def putting (m : Move) (c : PutbackCause) : State :=
  working m { execOf .putback with cause := some c, read := some (.ident idB) } .putback

theorem witness_Putback (c : PutbackCause) :
    (putting deliverA c).Awaits 5 deliverA { execOf .putback with cause := some c, read := some (.ident idB) } .putback
      ∧ (putting { prestageA with state := .executing } c).Awaits 5 { prestageA with state := .executing }
          { execOf .putback with cause := some c, read := some (.ident idB) } .putback := by
  unfold State.Awaits State.WorksOn
  cases c <;> decide +kernel

theorem witness_Putback_nest :
    let m := { reclaimA with state := .executing }
    let e := { execOf .putback with cause := some .mismatch, read := some (.ident idB) }
    (putting m .mismatch).CatalogueSound ∧ (putting m .mismatch).Awaits 5 m e .putback ∧ e.cause = some .mismatch
      ∧ m.source = .nest (.t 0) ∧ m.expected = some idA ∧ (∀ z, some idB = some z ↔ e.read = some (.ident z)) := by
  refine ⟨?_, ?_, rfl, rfl, rfl, ?_⟩
  · unfold State.CatalogueSound; decide +kernel
  · unfold State.Awaits State.WorksOn; decide +kernel
  · intro z
    simp

theorem witness_Occupied_store :
    let m := { reclaimA with state := .executing, target := .pos (.slot 8) }
    let s := zoned ((working m (execOf .placing) .placing).setSlot 0 .empty)
    s.Awaits 5 m (execOf .placing) .placing ∧ (execOf .placing).retargets = 0
      ∧ (s.setSlot 8 (.fault none)).selectTarget m = some 0
      ∧ ({ execOf .placing with retargets := 1 } : ExecRecord).retargets = 1 := by
  unfold State.Awaits State.WorksOn; decide +kernel

theorem witness_Scanned :
    (scanning .running .executing).Awaits 5 (scanA .executing) (execOf .scanning) .scanning
      ∧ (scanA .executing).source = .shelf 3
      ∧ (scanning .running .executing).census.range = some (2, 3) ∧ (2 : Shelf) < 3
      ∧ (∀ y ∈ (scanning .running .executing).queue, y.kind = .scan → y.seq = (scanA .executing).seq)
      ∧ (scanning .running .executing).slot (shelfSlot 3 7) = .unknown := by
  unfold State.Awaits State.WorksOn; decide +kernel

theorem witness_Scanned_lastShelf :
    let s := { scanning .running .executing with census := { resetCensus with state := .running, range := some (3, 3) } }
    ¬((3 : Shelf) < 3) ∧ s.census.range = some (3, 3)
      ∧ (s.setSlot (shelfSlot 3 0) (.filled idB)).slot (shelfSlot 3 0) = .filled idB := by decide +kernel

theorem witness_Scanned_queue :
    let s := scanning .running .executing
    s.QueueSound ∧ s.SeqsFresh := by
  intro s
  refine ⟨⟨?_, ?_, ?_, ?_, ?_, ?_⟩, ?_⟩
  · unfold State.SeqsDistinct; decide +kernel
  · unfold Move.Shaped
    intro m hm
    have k : ∀ x ∈ s.queue, x = scanA .executing := by decide +kernel
    rw [k m hm]
    exact ⟨nofun, nofun, fun _ => ⟨3, rfl⟩, nofun, nofun⟩
  · decide +kernel
  · intro q h
    have k : s.handler.exec.bind (·.move) = some 7 := by decide +kernel
    rw [k] at h
    cases h
    exact ⟨scanA .executing, by decide +kernel, rfl, rfl⟩
  · intro r hr q h
    have k : ∀ r ∈ s.catalogue, r.binding = some 7 := by decide +kernel
    rw [k r hr] at h
    cases h
    exact ⟨scanA .executing, by decide +kernel, rfl⟩
  · intro m c _ _ h
    have k : s.handler.exec.bind (·.cause) = none := by decide +kernel
    rw [k] at h
    cases h
  · unfold State.SeqsFresh; decide +kernel

/-- A scan of shelf 3 that reads one identifier, at its last place. -/
def reading (id : Ident) : Vector ScanResult 8 := (Vector.replicate 8 .empty).set 7 (.ident id)

theorem witness_Scanned_reads :
    let s := scanning .running .executing
    let lost := { s with catalogue := s.catalogue ++ [{ recA with id := idB, location := .unlocated }] }
    s.CatalogueSound ∧ (reading idB).get 7 = .ident idB
      ∧ (∀ j, j ≠ (7 : Fin 8) → (reading idB).get j ≠ .ident idB ∧ s.slot (shelfSlot 3 j) ≠ .filled idB)
      ∧ s.record idB = none ∧ s.catalogue.length + 8 ≤ 480
      ∧ lost.record idB = some { recA with id := idB, location := .unlocated }
      ∧ s.record idA = some { recA with binding := some 7 } := by
  unfold State.CatalogueSound; decide +kernel

theorem witness_Scanned_filled :
    let s := (scanning .stopping .executing).setSlot (shelfSlot 3 7) (.filled idA)
    s.slot (shelfSlot 3 7) = .filled idA ∧ (reading idB).get 7 ≠ .ident idA ∧ identOk idB = true ∧ idB ≠ idA
      ∧ (∀ j, j ≠ (7 : Fin 8) → (reading idB).get j ≠ .ident idA ∧ s.slot (shelfSlot 3 j) ≠ .filled idA)
      ∧ s.census.state = .stopping := by decide +kernel

theorem witness_Halts :
    (working deliverA (execOf .picking) .picking).handler.current = some 5
      ∧ (working deliverA (execOf .picking) .picking).handler.timer.isSome = true
      ∧ (working deliverA (execOf .carrying) .carrying).handler.state = .carrying
      ∧ State.reset.handler.timer = none
      ∧ (halted deliverA (execOf .picking)).handler.halt = some ⟨.timeout, .unknown⟩ := by decide +kernel

theorem witness_Ports :
    (ready.port 0).state ≠ .closed ∧ (ready.port 0).livenessLeft ≠ none ∧ (State.reset.port 5).livenessLeft = none
      ∧ ((closePort ready).port 0).state = .closed
      ∧ (attachPort (atNest .outWait)).recordAt (.nest (.t 0)) = some { recA with location := .nest (.t 0) } := by
  decide +kernel

/-- T0 OUT_WAIT with its collect window running. -/
def waitingTake : State := (atNest .outWait).updPort 0 (fun r => { r with window := some ⟨.collect, 1⟩ })

theorem witness_WindowExpiries :
    (waitingTake.port 0).window = some ⟨.collect, 1⟩ ∧ waitingTake.toolNest 0 = .outWait ∧ waitingTake.tbusy 0 = false
      ∧ (waitingTake.setTbusy 0 true).tbusy 0 = true
      ∧ waitingTake.recordAt (.nest (.t 0)) = some { recA with location := .nest (.t 0) }
      ∧ (returned.port 0).window = some ⟨.returnWait, 300⟩ ∧ returned.toolNest 0 = .returned
      ∧ (State.reset.port 0).window = none := by decide +kernel

theorem witness_NoticeSets :
    (raisedHalt.noticeSet .material).gap = some 2
      ∧ (((raisedHalt.raise .halted noDetail).noticeSet .material).entry .halted).shown = true
      ∧ (((raisedHalt.raise .halted noDetail).noticeSet .material).entry .halted).fresh = true
      ∧ ((raisedHalt.noticeSet .material).entry .halted).fresh = false
      ∧ (State.reset.noticeSet .service).gap = none := by decide +kernel

theorem witness_Mask_uncovers :
    let s := (State.reset.maskKinds .material 0xFFFF).raise .exported noDetail
    ((s.noticeSet .material).entry .exported).masked = true ∧ ((s.noticeSet .material).entry .exported).pending = true
      ∧ (0 : BitVec 16).getLsbD NoticeKind.exported.number = false ∧ (s.noticeSet .material).gap = none := by decide +kernel

theorem witness_Tbusy :
    (atNest .outWait).CatalogueSound ∧ (atNest .outLapsed).tbusy 0 = false ∧ (atNest .outLapsed).pfree 0 = false
      ∧ (atNest .outLapsed).toolNest 0 ≠ .outWait ∧ (atNest .outLapsed).toolNest 0 ≠ .blocked
      ∧ (atNest .outWait).presT 0 = true ∧ ((atNest .outWait).setPresT 0 false).presT 0 = false
      ∧ (atNest .outWait).recordAt (.nest (.t 0)) = some { recA with location := .nest (.t 0) } := by
  unfold State.CatalogueSound; decide +kernel

theorem witness_Tbusy_put :
    let s := ((placedAt (.tool 0)).setPresT 0 true).setTbusy 0 true
    let r := s.updPort 0 (fun x => { x with pendingReturn := some ⟨idA, 65535⟩ })
    s.tbusy 0 = true ∧ s.toolNest 0 = .empty ∧ s.presT 0 = true ∧ (s.port 0).pendingReturn = none
      ∧ (r.port 0).pendingReturn = some ⟨idA, 65535⟩ ∧ r.locatedAt idA (.tool 0) = true := by decide +kernel

theorem witness_Tbusy_deferred :
    let s := (waitingTake.setTbusy 0 true).updPort 0 (fun x => { x with lapseDeferred := true })
    s.tbusy 0 = true ∧ (s.port 0).lapseDeferred = true ∧ s.presT 0 = true := by decide +kernel

theorem witness_Tbusy_carrying :
    let s := (working deliverA (execOf .carrying) .carrying).setToolNest 0 .inbound
    s.handler.state = .carrying ∧ s.toolNest 0 ≠ .outLapsed ∧ s.handler.exec = some (execOf .carrying)
      ∧ (execOf .carrying).move = some deliverA.seq ∧ s.move? deliverA.seq = some deliverA
      ∧ deliverA.beneficiary = some 0 := by decide +kernel

theorem witness_ToolPresence :
    State.reset.presT 0 = false ∧ State.reset.tbusy 0 = false ∧ State.reset.toolNest 0 = .empty
      ∧ (atNest .outLapsed).presT 0 = true ∧ (atNest .outLapsed).toolNest 0 = .outLapsed
      ∧ (atNest .returned).toolNest 0 = .returned ∧ (atNest .blocked).toolNest 0 = .blocked
      ∧ ((State.reset.setToolNest 0 .inbound).toolNest 0) = .inbound ∧ State.reset.CatalogueSound := by
  unfold State.CatalogueSound; decide +kernel

theorem witness_FabNests_bulk :
    State.reset.pins.presBi = false ∧ State.reset.bi = .empty
      ∧ (∀ m ∈ State.reset.queue, ¬(m.kind = .stockIn ∧ m.state = .executing))
      ∧ (placedAt (.nest .bo)).recordAt (.nest .bo) = some { recA with location := .nest .bo }
      ∧ stockInA ∈ (working stockInA (execOf .placing) .placing).queue ∧ stockInA.kind = .stockIn
      ∧ stockInA.state = .executing := by decide +kernel

theorem witness_FabNests_inspection :
    State.reset.pins.presIn = false ∧ State.reset.inn = .empty
      ∧ (∀ m ∈ State.reset.queue, ¬(m.kind = .reshelve ∧ m.state = .executing))
      ∧ (placedAt (.nest .inn)).recordAt (.nest .inn) = some { recA with location := .nest .inn } := by decide +kernel

end Sys2Proof.Tests
end

section
/-! PROOFS. What everything that follows a change leaves alone, for any change: the steady part, the held flags that stand,
and on every request link what was sent before, with no answer among what is added. One lemma for each operation that the
re-evaluations and the grant test are made of. -/

namespace Sys2Proof.Machine

/-! ## The relation -/

/-- Every record of an identifier is held. -/
def State.AllHeld (s : State) (id : Ident) : Prop := ∀ r ∈ s.catalogue, r.id = id → r.held = true

/-- From `s` to `t` every request link has been sent unrequested frames only, after what it was sent before. -/
def State.Told (s t : State) : Prop :=
  ∀ l : ReqLink, ∃ fs : List OutFrame, (∀ f ∈ fs, f.isAnswer = false)
    ∧ t.sent (.request l) = s.sent (.request l) ++ fs

/-- `t` may stand after `s` in what follows a change (R44, R89, R126). -/
structure State.Aftermath (s t : State) : Prop where
  steady : t.steady = s.steady
  held : ∀ id, s.AllHeld id → t.AllHeld id
  told : s.Told t

variable {s t u : State}

theorem State.Told.of_tx_eq (h : t.tx = s.tx) : s.Told t := fun l => ⟨[], by simp, by simp [State.sent, h]⟩

theorem State.Told.trans (h : s.Told t) (k : t.Told u) : s.Told u := by
  intro l
  obtain ⟨fs, hfs, hs⟩ := h l
  obtain ⟨gs, hgs, ht⟩ := k l
  refine ⟨fs ++ gs, fun f hf => ?_, by rw [ht, hs, List.append_assoc]⟩
  exact (List.mem_append.mp hf).elim (hfs f) (hgs f)

/-- A frame that is not an answer, or that goes to the handler, answers no request. -/
theorem State.told_send (s : State) (l : Link) {f : OutFrame} (h : l = .handler ∨ f.isAnswer = false) :
    s.Told (s.send l f) := by
  intro k
  by_cases e : Link.request k = l
  · subst e
    have unasked : f.isAnswer = false := h.resolve_left (by simp)
    exact ⟨[f], by simpa using unasked, s.sent_send_same _ f⟩
  · exact ⟨[], by simp, by rw [s.sent_send_other e, List.append_nil]⟩

theorem State.told_setNoticeSet (s : State) (l : NoticeLink) (x : NoticeSet) : s.Told (s.setNoticeSet l x) :=
  .of_tx_eq (by cases l <;> rfl)

theorem State.told_pushNotice (s : State) (l : NoticeLink) : s.Told (s.pushNotice l) := by
  rcases s.pushNotice_cases l with ⟨_, h⟩ | ⟨_, h⟩
  · rw [h]
    exact (s.told_send _ (.inr rfl)).trans (State.told_setNoticeSet _ l _)
  · rw [h]; exact .of_tx_eq rfl

theorem State.told_raiseOn (s : State) (l : NoticeLink) (k : NoticeKind) (d : Detail) : s.Told (s.raiseOn l k d) := by
  unfold State.raiseOn
  simp only
  split
  · exact s.told_setNoticeSet l _
  · exact (s.told_setNoticeSet l _).trans (State.told_pushNotice _ l)

/-- A raise hands over NOTICE frames only (R213). -/
theorem State.told_raise (s : State) (k : NoticeKind) (d : Detail) : s.Told (s.raise k d) :=
  (s.told_raiseOn .material k d).trans (State.told_raiseOn _ .service k d)

theorem State.Aftermath.trans (h : s.Aftermath t) (k : t.Aftermath u) : s.Aftermath u :=
  ⟨k.steady.trans h.steady, fun id a => k.held id (h.held id a), h.told.trans k.told⟩

/-- A change that keeps the steady part and the records and tells no request an answer. -/
theorem State.Aftermath.of_catalogue_eq (hs : t.steady = s.steady) (hc : t.catalogue = s.catalogue) (ht : s.Told t) :
    s.Aftermath t :=
  ⟨hs, fun _ a => by unfold State.AllHeld; rw [hc]; exact a, ht⟩

/-- A change outside the steady part that leaves the records and the transmitters. -/
theorem State.Aftermath.of_eq (hs : t.steady = s.steady) (hc : t.catalogue = s.catalogue) (ht : t.tx = s.tx) :
    s.Aftermath t := .of_catalogue_eq hs hc (.of_tx_eq ht)

theorem State.Aftermath.refl (s : State) : s.Aftermath s := .of_eq rfl rfl rfl

@[simp] theorem Rec.steady_id (r : Rec) : r.steady.id = r.id := rfl

/-- A change of records in their bindings and held flags alone, in which no held flag is cleared. -/
theorem State.aftermath_mapCatalogue (s : State) {f : Rec → Rec} (hf : ∀ r, (f r).steady = r.steady)
    (held : ∀ r, r.held = true → (f r).held = true) : s.Aftermath { s with catalogue := s.catalogue.map f } where
  steady := s.steady_mapCatalogue f hf
  held id a x hx := by
    obtain ⟨r, hr, rfl⟩ := List.mem_map.mp hx
    have sameId : (f r).id = r.id := by rw [← Rec.steady_id, hf, Rec.steady_id]
    exact fun e => held r (a r hr (sameId ▸ e))
  told := .of_tx_eq rfl

/-! ## Binding, entering and leaving the queue -/

theorem State.aftermath_release (s : State) (q : Seq) : s.Aftermath (s.release q) :=
  s.aftermath_mapCatalogue (fun r => by split <;> rfl) (fun r h => by split <;> exact h)

theorem State.aftermath_bind (s : State) (id : Ident) (q : Seq) : s.Aftermath (s.bind id q) :=
  s.aftermath_mapCatalogue (fun r => by split <;> rfl) (fun r h => by split <;> exact h)

theorem State.aftermath_dropMove (s : State) (q : Seq) : s.Aftermath (s.dropMove q) :=
  have unqueued : s.Aftermath { s with queue := s.queue.filter (fun m => !decide (m.seq = q)) } := .of_eq rfl rfl rfl
  unqueued.trans (State.aftermath_release _ q)

theorem State.aftermath_sendTool (s : State) (p : Port) {f : OutFrame} (h : f.isAnswer = false) :
    s.Aftermath (s.sendTool p f) := by
  refine .of_catalogue_eq (s.steady_sendTool p f) (s.sendTool_catalogue p f) ?_
  unfold State.sendTool
  split
  · exact .of_tx_eq rfl
  · exact s.told_send _ (.inr h)

theorem State.told_sendRequester (s : State) (r : Requester) {f : OutFrame} (h : f.isAnswer = false) :
    s.Told (s.sendRequester r f) := by
  unfold State.sendRequester
  split
  · exact .of_tx_eq rfl
  · exact (s.aftermath_sendTool _ h).told
  · exact s.told_send _ (.inr h)

theorem State.aftermath_tellWithdrawn (s : State) (m : Move) (r : Reason) : s.Aftermath (s.tellWithdrawn m r) := by
  refine .of_catalogue_eq (s.steady_tellWithdrawn m r) (s.tellWithdrawn_catalogue m r) ?_
  unfold State.tellWithdrawn
  split
  · exact s.told_sendRequester _ rfl
  · exact .of_tx_eq rfl

/-- A withdrawal of any move but a SCAN, whose withdrawal ends the census (R136, R198). -/
theorem State.aftermath_withdraw (s : State) {m : Move} (k : m.kind ≠ .scan) (r : Option Reason) :
    s.Aftermath (s.withdraw m r) := by
  unfold State.withdraw
  simp only [if_neg k]
  cases r with
  | none => exact s.aftermath_dropMove m.seq
  | some r => exact (s.aftermath_dropMove m.seq).trans (State.aftermath_tellWithdrawn _ m r)

theorem State.aftermath_enter (s : State) (o : Offer) (d h : Bool) : s.Aftermath (s.enter o d h) := by
  have queued : s.Aftermath { s with queue := s.queue ++ [s.entered o d h], nextSeq := s.nextSeq + 1 } :=
    .of_eq rfl rfl rfl
  unfold State.enter
  simp only
  split
  · exact queued.trans (State.aftermath_bind _ _ _)
  · exact queued

theorem State.aftermath_countHit (s : State) (n : Fin 16) (o : Offer) : s.Aftermath (s.countHit n o) := by
  refine .of_catalogue_eq (s.steady_countHit n o) (s.countHit_catalogue n o) ?_
  unfold State.countHit
  exact (State.Told.of_tx_eq rfl).trans (State.told_raise _ _ _)

theorem State.aftermath_offerInward (s : State) (o : Offer) : s.Aftermath (s.offerInward o) := by
  rcases s.offerInward_cases o with ⟨_, h⟩ | ⟨n, _, h⟩
  · rw [h]; exact s.aftermath_enter o _ _
  · rw [h]; exact (s.aftermath_countHit n o).trans (State.aftermath_enter _ o _ _)

/-! ## Holding a record (R65, R103) -/

theorem State.aftermath_lapseNest (s : State) (p : Port) : s.Aftermath (s.lapseNest p) :=
  .of_eq (s.steady_lapseNest p) rfl rfl

theorem State.aftermath_reclaimIfUnfit (s : State) (id : Ident) : s.Aftermath (s.reclaimIfUnfit id) := by
  rcases s.reclaimIfUnfit_cases id with h | ⟨r, p, _, _, _, _, h⟩
  · rw [h]; exact .refl s
  · rw [h]
    exact ((s.aftermath_lapseNest p).trans (State.aftermath_offerInward _ _)).trans (State.aftermath_sendTool _ p rfl)

theorem State.aftermath_withdrawHeldDeliver (s : State) (r : Rec) : s.Aftermath (s.withdrawHeldDeliver r) := by
  unfold State.withdrawHeldDeliver
  split
  · split
    · next m _ h => exact s.aftermath_withdraw (by simp [h.1]) _
    · exact .refl s
  · exact .refl s

theorem State.aftermath_setHeld (s : State) (id : Ident) : s.Aftermath (s.setHeld id) := by
  have flagged : s.Aftermath (s.updRecord id (fun x => { x with held := true })) :=
    s.aftermath_mapCatalogue (fun r => by split <;> rfl) (fun r h => by
      split
      · rfl
      · exact h)
  unfold State.setHeld
  split
  · split
    · exact .refl s
    · exact (flagged.trans (State.aftermath_withdrawHeldDeliver _ _)).trans (State.aftermath_reclaimIfUnfit _ id)
  · exact .refl s

/-! ## The parts of a re-evaluation (R86 to R88) -/

theorem State.aftermath_offerPrestage (s : State) (o : Offer) : s.Aftermath (s.offerPrestage o) := by
  unfold State.offerPrestage
  split
  · exact s.aftermath_enter o _ _
  · next n _ =>
    have hit := s.aftermath_countHit n o
    simp only
    split
    · split
      · exact hit.trans (State.aftermath_setHeld _ _)
      · exact hit
    · exact hit.trans (State.aftermath_enter _ o _ _)

theorem State.aftermath_askPrestage (s : State) (p : Port) (id : Ident) (k : Fin 2) :
    s.Aftermath (s.askPrestage p id k) := by
  unfold State.askPrestage
  split
  · exact s.aftermath_offerPrestage _
  · exact .refl s

theorem State.aftermath_askDestage (s : State) (p : Port) (k : Nat) (n : Slot) : s.Aftermath (s.askDestage p k n) := by
  unfold State.askDestage
  split
  · split
    · exact s.aftermath_offerInward _
    · exact .refl s
  · exact .refl s

theorem State.aftermath_updMove (s : State) (q : Seq) (f : Move → Move) : s.Aftermath (s.updMove q f) :=
  .of_eq rfl rfl rfl

theorem State.aftermath_reviewMove (s : State) (p : Port) (w : List Ident) (m : Move) :
    s.Aftermath (s.reviewMove p w m) := by
  unfold State.reviewMove
  split
  · split
    · next k =>
      split
      · exact s.aftermath_withdraw (by simp [k]) none
      · simp only
        split
        · exact .refl s
        · exact s.aftermath_updMove _ _
    · next k =>
      split
      · exact s.aftermath_withdraw (by simp [k]) none
      · exact .refl s
    · exact .refl s
  · exact .refl s

/-- Steps each of which may stand in what follows a change, one after the other. -/
theorem State.aftermath_foldl {α : Type} {step : State → α → State} (h : ∀ t x, State.Aftermath t (step t x))
    (xs : List α) (s : State) : s.Aftermath (xs.foldl step s) := by
  induction xs generalizing s with
  | nil => exact .refl s
  | cons x xs ih => exact (h s x).trans (ih _)

theorem State.aftermath_review (s : State) (p : Port) : s.Aftermath (s.review p) :=
  State.aftermath_foldl (fun t m => t.aftermath_reviewMove p (s.window p) m) s.queue s

/-! ## The NO_SLOT test and the grant test (R44, R125, R127) -/

theorem State.aftermath_testNoSlot (s : State) : s.Aftermath s.testNoSlot := by
  have flag : ∀ b, s.Aftermath { s with noSlot := b } := fun _ => .of_eq rfl rfl rfl
  unfold State.testNoSlot
  split
  · exact flag false
  · split
    · exact .refl s
    · exact (flag true).trans (.of_catalogue_eq (State.steady_raise _ _ _) (State.raise_catalogue _ _ _)
        (State.told_raise _ _ _))

theorem State.aftermath_sweep (s : State) : s.Aftermath s.sweep :=
  s.sweep_ind s.Aftermath (fun t _ r _ _ k h => h.trans (t.aftermath_withdraw (by simp [k]) (some r))) (.refl s)

theorem State.aftermath_reserve (s : State) (m : Move) : s.Aftermath (s.reserve m) := by
  have source : s.Aftermath (s.reserveSource m) := by
    have k := s.steady_reserveSource m
    unfold State.reserveSource at k ⊢
    split at k
    · split at k
      · exact .of_eq k rfl rfl
      · exact .refl s
    · exact .refl s
  have target : ∀ b : State, b.Aftermath (b.reserveTarget m) := by
    intro b
    have k := b.steady_reserveTarget m
    unfold State.reserveTarget at k ⊢
    split at k
    · split at k
      · exact .of_eq k rfl rfl
      · exact .refl b
    · exact .refl b
  exact source.trans (target _)

theorem State.aftermath_nestGranted (s : State) (x : Option Nest) : s.Aftermath (s.nestGranted x) := by
  have k := s.steady_nestGranted x
  unfold State.nestGranted at k ⊢
  split at k <;> exact .of_eq k rfl rfl

theorem State.aftermath_nestTargeted (s : State) (x : Option Nest) : s.Aftermath (s.nestTargeted x) := by
  have k := s.steady_nestTargeted x
  unfold State.nestTargeted at k ⊢
  split at k <;> exact .of_eq k rfl rfl

theorem State.aftermath_order (s : State) (f : Byte → OutFrame) (st : HandlerState) (n : Nat) (ph : Phase) :
    s.Aftermath ((s.order f st n).setPhase ph) :=
  .of_catalogue_eq rfl rfl ((s.told_send .handler (.inl rfl)).trans (.of_tx_eq rfl))

theorem State.aftermath_firstOrder (s : State) (m : Move) : s.Aftermath (s.firstOrder m) := by
  unfold State.firstOrder
  split
  · exact s.aftermath_order _ _ _ _
  · exact s.aftermath_order _ _ _ _

theorem State.aftermath_grant (s : State) (m : Move) (b : Bool) : s.Aftermath (s.grant m b) := by
  have recorded : ∀ (c : State) (x : Tenure) (f : Handler → Handler),
      c.Aftermath (State.updHandler { c with tenure := x } f) := fun _ _ _ => .of_eq rfl rfl rfl
  unfold State.grant
  exact (s.aftermath_updMove _ _).trans <| (State.aftermath_reserve _ _).trans <|
    (State.aftermath_nestGranted _ _).trans <| (State.aftermath_nestTargeted _ _).trans <|
    (recorded _ _ _).trans (State.aftermath_firstOrder _ _)

theorem State.aftermath_grantTest (s : State) : s.Aftermath s.grantTest := by
  rcases s.grantTest_cases with ⟨_, h⟩ | ⟨_, _, _, h⟩ | ⟨_, _, m, b, _, h⟩
  · rw [h]; exact .refl s
  · rw [h]; exact s.aftermath_sweep
  · rw [h]; exact s.aftermath_sweep.trans (State.aftermath_grant _ m b)

/-- Everything that follows a change (log entry 15). -/
theorem State.aftermath_settle (b a : State) (t : Touch) : b.Aftermath (b.settle a t) :=
  State.settle_ind b.Aftermath
    (fun _ _ h => h.trans (.of_eq rfl rfl rfl))
    (fun c p h => h.trans (c.aftermath_review p))
    (fun c p id k h => h.trans (c.aftermath_askPrestage p id k))
    (fun c p n k h => h.trans (c.aftermath_askDestage p n k))
    (fun c h => h.trans c.aftermath_testNoSlot)
    (fun c h => h.trans c.aftermath_grantTest) a b t (.refl b)

end Sys2Proof.Machine
end

section
/-! PROOFS. The service corrections SET_SLOT and FORGET (R21, R22, R24 to R27). -/

namespace Sys2Proof.Machine

/-! ## A request on the service line -/

/-- A request of the service line in form is its owner's reply, finished (R205). -/
theorem State.request_service {α : Type} (s : State) (tag : Byte) (k : FrameKind) (x : α)
    (owner : State → Unit → α → Reply) :
    s.request .service tag k (onService .service) (some x) owner = (owner s () x).finish s .service tag k.byte := rfl

/-- A change answered OK: what stands after all that follows it, with the one answer last (R206). -/
theorem Reply.changed_finish {s u : State} (h : s.Told u) (l : ReqLink) (tag : Byte) (k : FrameKind) :
    ((changed u).finish s l tag k.byte).steady = u.steady
      ∧ (∀ id, u.AllHeld id → ((changed u).finish s l tag k.byte).AllHeld id)
      ∧ s.Answered ((changed u).finish s l tag k.byte) l tag k .ok .none := by
  have settled : u.Aftermath (u.settle s noTouch) := u.aftermath_settle s noTouch
  obtain ⟨fs, unasked, sent⟩ := (h.trans settled.told) l
  refine ⟨settled.steady, settled.held, fs, unasked, ?_⟩
  exact (State.sent_send_same _ _ _).trans (congrArg (· ++ _) sent)

theorem selector_val {n : Nat} (k : Fin n) : selector n k.val = some k := by simp [selector]

theorem execSetSlotEmpty_service (s : State) (tag : Byte) (n : Slot) :
    exec (.setSlotEmpty .service tag (some n.val)) s
      = .next ((if s.correctable n then changed (s.setSlot n .empty) else refuse s .state).finish s .service tag
          FrameKind.setSlot.byte) := by
  change Host.Outcome.next ((replySetSlotEmpty s n.val).finish s .service tag FrameKind.setSlot.byte) = _
  simp only [replySetSlotEmpty, selector_val]

theorem execSetSlotReticle_service (s : State) (tag : Byte) (n : Slot) {id : Ident} (c : ClassNo) (h : identOk id = true) :
    exec (.setSlotReticle .service tag (some ⟨n.val, id, c.val⟩)) s
      = .next ((if s.correctable n then s.fillSlot n id c else refuse s .state).finish s .service tag
          FrameKind.setSlot.byte) := by
  change Host.Outcome.next ((replySetSlotReticle s ⟨n.val, id, c.val⟩).finish s .service tag FrameKind.setSlot.byte) = _
  simp only [replySetSlotReticle, selector_val, h]

theorem execForget_service (s : State) (tag : Byte) (id : Ident) :
    exec (.forget .service tag (some id)) s = .next ((replyForget s id).finish s .service tag FrameKind.forget.byte) := rfl

/-! ## The gate of R24 -/

theorem State.correctable_of_open {s : State} {n : Slot}
    (h : (s.slot n).content = .unknown ∨ s.slot n = .empty ∨ ∃ x, s.slot n = .fault x) (k : s.execSourceSlot ≠ some n) :
    s.correctable n = true := by
  unfold State.correctable
  rcases h with unknown | empty | ⟨x, fault⟩
  · cases e : s.slot n <;> simp_all [SlotEntry.content]
  · simp [k, empty]
  · simp [k, fault]

theorem State.not_correctable {s : State} {n : Slot}
    (h : (∃ x, s.slot n = .filled x) ∨ (s.slot n).move.isSome = true ∨ s.execSourceSlot = some n) :
    s.correctable n = false := by
  unfold State.correctable
  rcases h with ⟨x, filled⟩ | reserved | source
  · simp [filled]
  · cases e : s.slot n <;> simp_all [SlotEntry.move]
  · simp [source]

/-! ## The steady part after a correction -/

theorem State.steady_setSlot_eq (s : State) (n : Slot) (e : SlotEntry) :
    (s.setSlot n e).steady = s.steady.setSlot n e.content := by
  have written : (s.slots.set n.val e n.isLt).map SlotEntry.content
      = (s.slots.map SlotEntry.content).set n.val e.content n.isLt := by
    simp
  simp only [State.steady, Steady.setSlot, State.setSlot_slots, written]
  rfl

/-- A change of one record that neither reads nor writes its binding and held flag is that change of the steady part. -/
theorem State.steady_updRecord_eq (s : State) (id : Ident) {f : Rec → Rec} (h : ∀ r, (f r).steady = f r.steady) :
    (s.updRecord id f).steady = s.steady.updRecord id f := by
  have same : (s.updRecord id f).catalogue.map Rec.steady = (s.steady.updRecord id f).records := by
    simp only [State.updRecord_catalogue, Steady.updRecord, State.steady, List.map_map]
    refine List.map_congr_left (fun r _ => ?_)
    by_cases e : r.id = id <;> simp [e, h]
  exact congrArg (fun rs => { s.steady with records := rs }) same

theorem State.told_createAt (s : State) (n : Slot) (id : Ident) (c : ClassNo) : s.Told (s.createAt n id c) := by
  have created : ∀ r, s.Told (s.createRecord r) := by
    intro r
    unfold State.createRecord
    simp only
    split
    · exact (State.Told.of_tx_eq rfl).trans (State.told_raise _ _ _)
    · exact .of_tx_eq rfl
  exact (created _).trans (.of_tx_eq rfl)

/-- A record created at a slot (R19, R20, R93). -/
theorem State.steady_createAt (s : State) (n : Slot) (id : Ident) (c : ClassNo) :
    (s.createAt n id c).steady = { s.steady.setSlot n (.holds id) with
      records := s.steady.records ++ [⟨id, c, .slot n, .ready, false, false, false, none, toStorage n, 0, 0, 0⟩]
      announcements := s.announcements.filter (fun a => !decide (a.id = id)) } := by
  obtain ⟨m, v, tx, created⟩ := s.createRecord_eq (newRecord id (.slot n) c .ready true none (toStorage n))
  rw [State.createAt, State.steady_setSlot_eq, created]
  exact congrArg (fun rs => { s.steady.setSlot n (.holds id) with
    records := rs, announcements := s.announcements.filter (fun a => !decide (a.id = id)) }) List.map_append

theorem State.allHeld_createAt {s : State} {id : Ident} (h : s.record id = none) (n : Slot) (c : ClassNo) :
    (s.createAt n id c).AllHeld id := by
  intro r hr e
  simp only [State.createAt, State.setSlot_catalogue, State.createRecord_catalogue, List.mem_append,
    List.mem_singleton] at hr
  rcases hr with old | rfl
  · exact absurd e (by simpa using List.find?_eq_none.mp h r old)
  · rfl

/-- A record found UNLOCATED and put at a slot (R15, R16, R26). -/
theorem State.steady_relocate (s : State) (n : Slot) (id : Ident) :
    (s.relocate n id).steady
      = (s.steady.setSlot n (.holds id)).updRecord id (fun x => { Rec.putIn n x with suspect := false }) := by
  refine (State.steady_updRecord_eq (s.setSlot n (.filled id)) id ?_).trans ?_
  · exact fun _ => rfl
  · rw [State.steady_setSlot_eq]; rfl

theorem State.steady_removeRecord (s : State) (id : Ident) :
    (s.removeRecord id).steady
      = { s.steady with records := s.steady.records.filter (fun x => !decide (x.id = id)) } := by
  simp only [State.steady, State.removeRecord, List.filter_map]
  rfl

/-- The steady part shows which identifiers have no record. -/
theorem State.record_eq_none_iff (s : State) (id : Ident) : s.record id = none ↔ ∀ r ∈ s.steady.records, r.id ≠ id := by
  simp [State.record, State.steady, List.find?_eq_none]

/-- A creation refused raises CATALOGUE_FULL with the identifier and the slot, and does nothing else (R21). -/
theorem State.refuseCreation_eq (s : State) (id : Ident) (x : Position) :
    s.refuseCreation id x = { s with
        materialNotices := (s.refuseCreation id x).materialNotices
        serviceNotices := (s.refuseCreation id x).serviceNotices
        tx := (s.refuseCreation id x).tx } := by
  obtain ⟨m, v, tx, h⟩ := s.raise_eq .catalogueFull { noDetail with reticle := some id, position := some x }
  rw [State.refuseCreation, h]

theorem Rec.forgettable_iff (r : Rec) :
    r.forgettable = true ↔ r.location = .unlocated ∨ r.location = .inspection ∨ ∃ p, r.location = .tool p := by
  unfold Rec.forgettable
  cases r.location <;> simp

/-! ## SET_SLOT (R21, R24 to R26) -/

theorem setSlotEmpty_frees {s : State} {n : Slot} (gate : s.correctable n = true) (tag : Byte) :
    ∃ t, exec (.setSlotEmpty .service tag (some n.val)) s = .next t
      ∧ t.steady = s.steady.setSlot n .free ∧ s.Answered t .service tag .setSlot .ok .none := by
  have told : s.Told (s.setSlot n .empty) := .of_tx_eq rfl
  obtain ⟨steady, _, answered⟩ := Reply.changed_finish told .service tag .setSlot
  exact ⟨_, by rw [execSetSlotEmpty_service, if_pos gate], steady.trans (s.steady_setSlot_eq n .empty), answered⟩

section
variable {s : State} {n : Slot} {id : Ident} (ok : identOk id = true) (gate : s.correctable n = true) (tag : Byte)
  (c : ClassNo)
include ok gate

theorem execSetSlotReticle_gate :
    exec (.setSlotReticle .service tag (some ⟨n.val, id, c.val⟩)) s
      = .next ((s.fillSlot n id c).finish s .service tag FrameKind.setSlot.byte) := by
  rw [execSetSlotReticle_service s tag n c ok, if_pos gate]

theorem setSlotReticle_creates (unknown : s.record id = none) (room : s.catalogue.length < 480) :
    ∃ t, exec (.setSlotReticle .service tag (some ⟨n.val, id, c.val⟩)) s = .next t
      ∧ t.steady = { s.steady.setSlot n (.holds id) with
          records := s.steady.records
            ++ [⟨id, c, .slot n, .ready, false, false, false, none, toStorage n, 0, 0, 0⟩]
          announcements := s.announcements.filter (fun a => !decide (a.id = id)) }
      ∧ t.AllHeld id ∧ s.Answered t .service tag .setSlot .ok .none := by
  have notFull : s.catalogueFull = false := decide_eq_false (Nat.not_le.mpr room)
  have fill : s.fillSlot n id c = changed (s.createAt n id c) := by simp [State.fillSlot, unknown, notFull]
  obtain ⟨steady, held, answered⟩ := Reply.changed_finish (s.told_createAt n id c) .service tag .setSlot
  exact ⟨_, by rw [execSetSlotReticle_gate ok gate, fill], steady.trans (s.steady_createAt n id c),
    held id (State.allHeld_createAt unknown n c), answered⟩

theorem setSlotReticle_noRoom (unknown : s.record id = none) (full : 480 ≤ s.catalogue.length) :
    exec (.setSlotReticle .service tag (some ⟨n.val, id, c.val⟩)) s
      = .next ((s.refuseCreation id (.slot n)).send (.request .service)
          (.answer tag FrameKind.setSlot.byte .noRoom .none)) := by
  have isFull : s.catalogueFull = true := decide_eq_true full
  have fill : s.fillSlot n id c = refuse (s.refuseCreation id (.slot n)) .noRoom := by
    simp [State.fillSlot, unknown, isFull]
  rw [execSetSlotReticle_gate ok gate, fill]
  rfl

theorem setSlotReticle_relocates {r : Rec} (known : s.record id = some r) (stray : r.location = .unlocated) :
    ∃ t, exec (.setSlotReticle .service tag (some ⟨n.val, id, c.val⟩)) s = .next t
      ∧ t.steady = (s.steady.setSlot n (.holds id)).updRecord id (fun x => { Rec.putIn n x with suspect := false })
      ∧ s.Answered t .service tag .setSlot .ok .none := by
  have fill : s.fillSlot n id c = changed (s.relocate n id) := by simp [State.fillSlot, known, stray]
  have told : s.Told (s.relocate n id) := .of_tx_eq rfl
  obtain ⟨steady, _, answered⟩ := Reply.changed_finish told .service tag .setSlot
  exact ⟨_, by rw [execSetSlotReticle_gate ok gate, fill], steady.trans (s.steady_relocate n id), answered⟩

theorem setSlotReticle_elsewhere {r : Rec} (known : s.record id = some r) (placed : r.location ≠ .unlocated) :
    exec (.setSlotReticle .service tag (some ⟨n.val, id, c.val⟩)) s
      = .next (s.send (.request .service) (.answer tag FrameKind.setSlot.byte .elsewhere .none)) := by
  have fill : s.fillSlot n id c = refuse s .elsewhere := by simp [State.fillSlot, known, placed]
  rw [execSetSlotReticle_gate ok gate, fill]
  rfl

end

/-- A closed gate refuses both forms of SET_SLOT (R24). -/
theorem setSlot_refused {s : State} {n : Slot} {id : Ident} (ok : identOk id = true) (shut : s.correctable n = false)
    (tag : Byte) (c : ClassNo) :
    exec (.setSlotEmpty .service tag (some n.val)) s
        = .next (s.send (.request .service) (.answer tag FrameKind.setSlot.byte .state .none))
      ∧ exec (.setSlotReticle .service tag (some ⟨n.val, id, c.val⟩)) s
        = .next (s.send (.request .service) (.answer tag FrameKind.setSlot.byte .state .none)) := by
  rw [execSetSlotEmpty_service, execSetSlotReticle_service s tag n c ok, shut]
  exact ⟨rfl, rfl⟩

/-! ## FORGET (R22, R27) -/

section
variable {s : State} {id : Ident} (ok : identOk id = true) (tag : Byte)
include ok

theorem forget_unknown (unknown : s.record id = none) :
    exec (.forget .service tag (some id)) s
      = .next (s.send (.request .service) (.answer tag FrameKind.forget.byte .unknownReticle .none)) := by
  have reply : replyForget s id = refuse s .unknownReticle := by simp [replyForget, ok, unknown]
  rw [execForget_service, reply]
  rfl

theorem forget_elsewhere {r : Rec} (known : s.record id = some r) (placed : r.forgettable = false) :
    exec (.forget .service tag (some id)) s
      = .next (s.send (.request .service) (.answer tag FrameKind.forget.byte .elsewhere .none)) := by
  have reply : replyForget s id = refuse s .elsewhere := by simp [replyForget, ok, known, placed]
  rw [execForget_service, reply]
  rfl

theorem forget_bound {r : Rec} (known : s.record id = some r) (stray : r.forgettable = true) (bound : r.binding ≠ none) :
    exec (.forget .service tag (some id)) s
      = .next (s.send (.request .service) (.answer tag FrameKind.forget.byte .bound .none)) := by
  have isBound : r.binding.isSome = true := Option.isSome_iff_ne_none.mpr bound
  have reply : replyForget s id = refuse s .bound := by simp [replyForget, ok, known, stray, isBound]
  rw [execForget_service, reply]
  rfl

theorem forget_removes {r : Rec} (known : s.record id = some r) (stray : r.forgettable = true) (unbound : r.binding = none) :
    ∃ t, exec (.forget .service tag (some id)) s = .next t
      ∧ t.steady = { s.steady with records := s.steady.records.filter (fun x => !decide (x.id = id)) }
      ∧ t.record id = none ∧ s.Answered t .service tag .forget .ok .none := by
  have reply : replyForget s id = changed (s.removeRecord id) := by simp [replyForget, ok, known, stray, unbound]
  have told : s.Told (s.removeRecord id) := .of_tx_eq rfl
  obtain ⟨steady, _, answered⟩ := Reply.changed_finish told .service tag .forget
  have removed := steady.trans (s.steady_removeRecord id)
  refine ⟨_, by rw [execForget_service, reply], removed, ?_, answered⟩
  rw [State.record_eq_none_iff, removed]
  simp

end

/-- Settles O42: SET_SLOT by whether the gate of R24 lets the slot through and by what the catalogue holds of the
identifier, FORGET by the checks of R27 in their order. -/
theorem serviceCorrectsCatalogue : Obligations.ServiceCorrectsCatalogue := by
  unfold Obligations.ServiceCorrectsCatalogue
  refine ⟨fun s tag n id c ok => ⟨fun openSlot idle => ?_, fun closed => ?_⟩, fun s tag id ok => ⟨?_, ?_⟩⟩
  · have gate : s.correctable n = true := State.correctable_of_open openSlot idle
    refine ⟨setSlotEmpty_frees gate tag, setSlotReticle_creates ok gate tag c, fun unknown full => ?_, ?_, ?_⟩
    · exact ⟨_, setSlotReticle_noRoom ok gate tag c unknown full, State.raise_raised _ _ _, s.refuseCreation_eq id _⟩
    · exact fun _ => setSlotReticle_relocates ok gate tag c
    · exact fun _ => setSlotReticle_elsewhere ok gate tag c
  · exact setSlot_refused ok (State.not_correctable closed) tag c
  · exact forget_unknown ok tag
  · intro r known stray isStray
    have forgettable : stray ↔ r.forgettable = true := isStray.trans r.forgettable_iff.symm
    rw [forgettable, Bool.not_eq_true]
    exact ⟨forget_elsewhere ok tag known, forget_bound ok tag known, forget_removes ok tag known⟩

end Sys2Proof.Machine
end

section
/-! PROOFS. Selection at a grant point (R131 to R134). Under comparable sequence numbers the two folds of the dispatcher are
`List.argmin` for a key of each move, so that Mathlib's facts about a least element say what is chosen. -/

namespace Sys2Proof.Machine

/-! ## The order of sequence numbers (R1, R118) -/

/-- Of two readings within half the counter's range of one base, the earlier is the one less aged from that base. -/
theorem earlier_iff_ageAt_le {base a b : BitVec 32} (ha : ageAt a base < 2147483648) (hb : ageAt b base < 2147483648) :
    earlier a b = true ↔ ageAt a base ≤ ageAt b base := by
  unfold earlier
  rw [decide_eq_true_iff]
  unfold ageAt at *
  bv_omega

theorem ageAt_inj {base a b : BitVec 32} : ageAt a base = ageAt b base ↔ a = b := by
  simp only [ageAt]
  bv_omega

/-- The age of a move's sequence number from a base. -/
def Move.seqAge (base : Seq) (m : Move) : Nat := ageAt m.seq base

/-- Every sequence number of a list lies within half the counter's range of a base (R118). -/
def SeqsNear (base : Seq) (ms : List Move) : Prop := ∀ m ∈ ms, m.seqAge base < 2147483648

theorem SeqsNear.filter {base : Seq} {ms : List Move} (h : SeqsNear base ms) (f : Move → Bool) :
    SeqsNear base (ms.filter f) := fun m hm => h m (List.mem_of_mem_filter hm)

theorem SeqsNear.earlier_iff {base : Seq} {ms : List Move} (near : SeqsNear base ms) {m x : Move} (hm : m ∈ ms)
    (hx : x ∈ ms) : earlier m.seq x.seq = true ↔ m.seqAge base ≤ x.seqAge base :=
  earlier_iff_ageAt_le (near m hm) (near x hx)

/-- The earlier admitted of two moves is the one with the lesser age from the base; of equals the first stays. -/
theorem SeqsNear.earliest_eq {base : Seq} {ms : List Move} (near : SeqsNear base ms) {b x : Move} (hb : b ∈ ms)
    (hx : x ∈ ms) : earliest (some b) x = if x.seqAge base < b.seqAge base then some x else some b := by
  have sameAge : x.seqAge base = b.seqAge base ↔ x.seq = b.seq := ageAt_inj
  simp [earliest, near.earlier_iff hx hb, ← sameAge, lt_iff_le_and_ne]

/-! ## The two folds as a least element -/

/-- A fold that keeps its best so far unless the next move has a lesser key finds the first move of least key. -/
theorem foldl_eq_argmin {β : Type} [LinearOrder β] {pick : Option Move → Move → Option Move} (key : Move → β)
    (first : ∀ x, pick none x = some x) {ms : List Move}
    (next : ∀ b ∈ ms, ∀ x ∈ ms, pick (some b) x = if key x < key b then some x else some b) :
    ms.foldl pick none = ms.argmin key := by
  induction ms using List.reverseRecOn with
  | nil => rfl
  | append_singleton ms x ih =>
    have before : ∀ y ∈ ms, y ∈ ms ++ [x] := fun _ => List.mem_append_left _
    rw [List.foldl_concat, List.argmin_concat, ih fun b hb y hy => next b (before b hb) y (before y hy)]
    cases h : ms.argmin key with
    | none => exact first x
    | some b => exact next b (before b (List.argmin_mem h)) x (by simp)

theorem lowestSeq_eq_argmin {base : Seq} {ms : List Move} (near : SeqsNear base ms) :
    lowestSeq ms = ms.argmin (Move.seqAge base) :=
  foldl_eq_argmin _ (fun _ => rfl) fun _ hb _ hx => near.earliest_eq hb hx

/-- The key of R133 and R134: the higher urgency first, then the lower sequence number. -/
def State.urgencyKey (s : State) (base : Seq) (m : Move) : Natᵒᵈ ×ₗ Nat :=
  toLex (OrderDual.toDual (s.urgency m), m.seqAge base)

theorem State.urgencyKey_lt_iff (s : State) (base : Seq) (m x : Move) :
    s.urgencyKey base m < s.urgencyKey base x
      ↔ s.urgency x < s.urgency m ∨ (s.urgency x = s.urgency m ∧ m.seqAge base < x.seqAge base) := by
  simp [urgencyKey, Prod.Lex.toLex_lt_toLex, eq_comm]

theorem State.urgencyKey_le_iff (s : State) (base : Seq) (m x : Move) :
    s.urgencyKey base m ≤ s.urgencyKey base x
      ↔ s.urgency x ≤ s.urgency m ∧ (s.urgency x = s.urgency m → m.seqAge base ≤ x.seqAge base) := by
  rw [← not_lt, s.urgencyKey_lt_iff]
  omega

theorem State.mostUrgent_eq_argmin (s : State) {base : Seq} {ms : List Move} (near : SeqsNear base ms) :
    s.mostUrgent ms = ms.argmin (s.urgencyKey base) := by
  refine foldl_eq_argmin _ (fun _ => rfl) fun b hb x hx => ?_
  rcases lt_trichotomy (s.urgency b) (s.urgency x) with more | same | less
  · simp [State.moreUrgent, s.urgencyKey_lt_iff, more]
  · simp [State.moreUrgent, s.urgencyKey_lt_iff, same, near.earliest_eq hb hx]
  · simp [State.moreUrgent, s.urgencyKey_lt_iff, less.not_gt, less.ne']

/-! ## What the folds find -/

theorem lowestSeq_eq_none {base : Seq} {ms : List Move} (near : SeqsNear base ms) : lowestSeq ms = none ↔ ms = [] := by
  rw [lowestSeq_eq_argmin near, List.argmin_eq_none]

theorem earlier_of_lowestSeq {base : Seq} {ms : List Move} (near : SeqsNear base ms) {m : Move}
    (h : lowestSeq ms = some m) : m ∈ ms ∧ ∀ x ∈ ms, earlier m.seq x.seq = true := by
  rw [lowestSeq_eq_argmin near] at h
  have member : m ∈ ms := List.argmin_mem h
  exact ⟨member, fun x hx => (near.earlier_iff member hx).mpr (List.le_of_mem_argmin hx h)⟩

/-- A move before which no move of a list comes by urgency, ties going to the lowest sequence number (R133, R134). -/
def State.Foremost (s : State) (ms : List Move) (m : Move) : Prop :=
  ∀ x ∈ ms, s.urgency x ≤ s.urgency m ∧ (s.urgency x = s.urgency m → earlier m.seq x.seq = true)

theorem State.mostUrgent_eq_none (s : State) {base : Seq} {ms : List Move} (near : SeqsNear base ms) :
    s.mostUrgent ms = none ↔ ms = [] := by
  rw [s.mostUrgent_eq_argmin near, List.argmin_eq_none]

theorem State.foremost_of_mostUrgent (s : State) {base : Seq} {ms : List Move} (near : SeqsNear base ms) {m : Move}
    (h : s.mostUrgent ms = some m) : m ∈ ms ∧ s.Foremost ms m := by
  rw [s.mostUrgent_eq_argmin near] at h
  have member : m ∈ ms := List.argmin_mem h
  refine ⟨member, fun x hx => ?_⟩
  rw [near.earlier_iff member hx, ← s.urgencyKey_le_iff]
  exact List.le_of_mem_argmin hx h

/-! ## The choice (R132 to R134) -/

/-- The eligible moves of the queue (R124). -/
def State.eligibles (s : State) : List Move := s.queue.filter s.eligible

/-- The eligible moves whose beneficiary is the port whose tenure runs on (R133). -/
def State.tenured (s : State) : List Move :=
  s.eligibles.filter fun m => s.tenurePort.isSome && decide (m.beneficiary = s.tenurePort)

@[simp] theorem State.mem_eligibles (s : State) (m : Move) : m ∈ s.eligibles ↔ m ∈ s.queue ∧ s.eligible m = true :=
  List.mem_filter

theorem State.mem_tenured (s : State) (m : Move) :
    m ∈ s.tenured ↔ m ∈ s.queue ∧ s.eligible m = true ∧ ∃ p, s.tenurePort = some p ∧ m.beneficiary = some p := by
  cases h : s.tenurePort <;> simp [tenured, h, and_assoc]

theorem State.overdue_eligible {s : State} {m : Move} (h : s.overdue m = true) : s.eligible m = true := by
  simp only [overdue, Bool.and_eq_true] at h
  exact h.2

theorem State.mem_overdues (s : State) (m : Move) :
    m ∈ s.eligibles.filter s.overdue ↔ m ∈ s.queue ∧ s.overdue m = true := by
  rw [List.mem_filter, s.mem_eligibles, and_assoc, and_iff_right_of_imp State.overdue_eligible]

theorem State.chooseByTenure_eq (s : State) : s.chooseByTenure s.eligibles = s.mostUrgent s.tenured := by
  cases h : s.tenurePort <;> simp [chooseByTenure, tenured, h, mostUrgent]

/-- Each rule of selection is asked only when those before it choose nothing. -/
theorem State.choose_eq (s : State) :
    s.choose = ((lowestSeq (s.eligibles.filter s.overdue)).map (·, false)).or
      (((s.mostUrgent s.tenured).map (·, true)).or ((s.mostUrgent s.eligibles).map (·, false))) := by
  rw [← s.chooseByTenure_eq]
  unfold State.choose State.eligibles
  simp only
  split
  · next h => rw [h]; rfl
  · next h =>
    rw [h]
    split
    · next k => rw [k]; rfl
    · next k => rw [k]; rfl

theorem State.SeqsComparable.near {s : State} (h : s.SeqsComparable) : ∃ base, SeqsNear base s.queue := h

/-- How a move comes to be chosen: overdue (R132), else by tenure (R133), else by urgency (R134). -/
inductive State.Chosen (s : State) (m : Move) : Bool → Prop
  | overdue (here : m ∈ s.queue) (due : s.overdue m = true)
      (least : ∀ x ∈ s.queue, s.overdue x = true → earlier m.seq x.seq = true) : s.Chosen m false
  | tenure (noneDue : ∀ x ∈ s.queue, s.overdue x = false) (here : m ∈ s.tenured) (most : s.Foremost s.tenured m) :
      s.Chosen m true
  | urgency (noneDue : ∀ x ∈ s.queue, s.overdue x = false) (noneTenured : s.tenured = [])
      (here : m ∈ s.eligibles) (most : s.Foremost s.eligibles m) : s.Chosen m false

theorem State.overdues_eq_nil (s : State) : s.eligibles.filter s.overdue = [] ↔ ∀ x ∈ s.queue, s.overdue x = false := by
  simp [List.eq_nil_iff_forall_not_mem, s.mem_overdues]

theorem State.chosen_of_choose {s : State} (h : s.SeqsComparable) {m : Move} {byTenure : Bool}
    (c : s.choose = some (m, byTenure)) : s.Chosen m byTenure := by
  obtain ⟨base, near⟩ := h.near
  have nearEligibles : SeqsNear base s.eligibles := near.filter _
  have nearTenured : SeqsNear base s.tenured := nearEligibles.filter _
  have nearOverdues := nearEligibles.filter s.overdue
  rw [s.choose_eq] at c
  cases od : lowestSeq (s.eligibles.filter s.overdue) with
  | some x =>
    obtain ⟨rfl, rfl⟩ : x = m ∧ false = byTenure := by simpa [od] using c
    obtain ⟨member, least⟩ := earlier_of_lowestSeq nearOverdues od
    obtain ⟨here, due⟩ := (s.mem_overdues x).mp member
    exact .overdue here due fun y hy dy => least y ((s.mem_overdues y).mpr ⟨hy, dy⟩)
  | none =>
    have noneDue := s.overdues_eq_nil.mp ((lowestSeq_eq_none nearOverdues).mp od)
    cases tn : s.mostUrgent s.tenured with
    | some x =>
      obtain ⟨rfl, rfl⟩ : x = m ∧ true = byTenure := by simpa [od, tn] using c
      obtain ⟨here, most⟩ := s.foremost_of_mostUrgent nearTenured tn
      exact .tenure noneDue here most
    | none =>
      obtain ⟨ur, rfl⟩ : s.mostUrgent s.eligibles = some m ∧ false = byTenure := by simpa [od, tn] using c
      obtain ⟨here, most⟩ := s.foremost_of_mostUrgent nearEligibles ur
      exact .urgency noneDue ((s.mostUrgent_eq_none nearTenured).mp tn) here most

theorem State.eligibles_eq_nil_of_choose {s : State} (h : s.SeqsComparable) (c : s.choose = none) : s.eligibles = [] := by
  obtain ⟨base, near⟩ := h.near
  simp only [s.choose_eq, Option.or_eq_none_iff, Option.map_eq_none_iff] at c
  obtain ⟨-, -, noneUrgent⟩ := c
  exact (s.mostUrgent_eq_none (near.filter _)).mp noneUrgent

theorem State.Chosen.eligible {s : State} {m : Move} {byTenure : Bool} (c : s.Chosen m byTenure) :
    m ∈ s.queue ∧ s.eligible m = true := by
  cases c with
  | overdue here due _ => exact ⟨here, State.overdue_eligible due⟩
  | tenure _ here _ => exact ⟨((s.mem_tenured m).mp here).1, ((s.mem_tenured m).mp here).2.1⟩
  | urgency _ _ here _ => exact (s.mem_eligibles m).mp here

section
variable {s : State} {m : Move} {byTenure : Bool} (c : s.Chosen m byTenure)
include c

theorem State.Chosen.of_overdue (any : ∃ x ∈ s.queue, s.overdue x = true) :
    byTenure = false ∧ s.overdue m = true ∧ ∀ x ∈ s.queue, s.overdue x = true → earlier m.seq x.seq = true := by
  obtain ⟨x, hx, dx⟩ := any
  cases c with
  | overdue _ due least => exact ⟨rfl, due, least⟩
  | tenure noneDue | urgency noneDue => exact absurd dx (by simp [noneDue x hx])

theorem State.Chosen.of_tenure (noneDue : ∀ x ∈ s.queue, s.overdue x = false) (p : Port) (port : s.tenurePort = some p)
    (any : ∃ x ∈ s.queue, s.eligible x = true ∧ x.beneficiary = some p) :
    byTenure = true ∧ m.beneficiary = some p ∧ ∀ x ∈ s.queue, s.eligible x = true → x.beneficiary = some p →
      s.urgency x ≤ s.urgency m ∧ (s.urgency x = s.urgency m → earlier m.seq x.seq = true) := by
  have tenured : ∀ x, x ∈ s.tenured ↔ x ∈ s.queue ∧ s.eligible x = true ∧ x.beneficiary = some p := by
    simp [s.mem_tenured, port]
  obtain ⟨x, hx⟩ := any
  cases c with
  | overdue here due _ => exact absurd due (by simp [noneDue m here])
  | tenure _ here most =>
    exact ⟨rfl, ((tenured m).mp here).2.2, fun y hy able own => most y ((tenured y).mpr ⟨hy, able, own⟩)⟩
  | urgency _ noneTenured => exact absurd ((tenured x).mpr hx) (by simp [noneTenured])

theorem State.Chosen.of_urgency (noneDue : ∀ x ∈ s.queue, s.overdue x = false)
    (noneOwn : ∀ p, s.tenurePort = some p → ∀ x ∈ s.queue, s.eligible x = true → x.beneficiary ≠ some p) :
    byTenure = false ∧ ∀ x ∈ s.queue, s.eligible x = true →
      s.urgency x ≤ s.urgency m ∧ (s.urgency x = s.urgency m → earlier m.seq x.seq = true) := by
  cases c with
  | overdue here due _ => exact absurd due (by simp [noneDue m here])
  | tenure _ here _ =>
    obtain ⟨queued, able, p, port, own⟩ := (s.mem_tenured m).mp here
    exact absurd own (noneOwn p port m queued able)
  | urgency _ _ _ most => exact ⟨rfl, fun x hx able => most x ((s.mem_eligibles x).mpr ⟨hx, able⟩)⟩

end

/-! ## The urgency sum (R128 to R131) -/

theorem MoveKind.base_least (k : MoveKind) : 40 ≤ k.base := by cases k <;> decide

theorem State.agingTerm_le (s : State) (m : Move) : s.agingTerm m ≤ 959 := by
  have rate : s.agingRate m ≤ 15 := by
    unfold State.agingRate
    split <;> omega
  have aged : min (s.ageOf m) 1023 * s.agingRate m ≤ 1023 * 15 := Nat.mul_le_mul (min_le_right _ _) rate
  unfold State.agingTerm
  omega

theorem State.weightTerm_le (s : State) (m : Move) : s.weightTerm m ≤ 240 := by
  unfold State.weightTerm
  split
  · split <;> omega
  · omega

theorem MoveKind.base_le (k : MoveKind) : k.base ≤ 480 := by cases k <;> decide

/-- A DELIVER has the greatest base but no coupling, so base and coupling reach no more than a COLLECT's (R116, R130). -/
theorem State.base_add_couplingTerm_le (s : State) (m : Move) : m.kind.base + s.couplingTerm m ≤ 560 := by
  have base := m.kind.base_le
  unfold State.couplingTerm
  split
  case h_1 k | h_2 k =>
    rw [k, MoveKind.base]
    split
    · split <;> omega
    · omega
  case h_3 k =>
    rw [k, MoveKind.base]
    split <;> omega
  case h_4 => omega

/-- The sum is at most that of R131's COLLECT, 560 + 959 + 240. -/
theorem State.urgencySum_le (s : State) (m : Move) :
    m.kind.base + s.agingTerm m + s.weightTerm m + s.couplingTerm m ≤ 1759 := by
  have aging := s.agingTerm_le m
  have weight := s.weightTerm_le m
  have coupling := s.base_add_couplingTerm_le m
  omega

/-- A waiting DELIVER to T0, so that moves away from T0 are coupled (R130). -/
def deliverToT0 : Move :=
  ⟨7, .deliver, .tool 0, some 0, none, .named, .slot 0, .pos (.nest (.t 0)), none, 0, .waiting, false, false, false⟩

/-- A COLLECT from T0 admitted at time 0. -/
def collectFromT0 : Move := { deliverToT0 with kind := .collect, source := .nest (.t 0), target := .toSelect }

/-- Time 1023 with T0 at the greatest weight, priority and aging rate, and a DELIVER to T0 waiting (R131). -/
def greatestSum : State :=
  { State.reset with
    clock := 1023
    ports := State.reset.ports.set 0 { resetPort 0 with settings := ⟨7, true, 15, 1, 0, 30⟩ }
    queue := [deliverToT0] }

theorem greatestSum_collect : collectFromT0.kind.base = 360 ∧ greatestSum.agingTerm collectFromT0 = 959
    ∧ greatestSum.weightTerm collectFromT0 = 240 ∧ greatestSum.couplingTerm collectFromT0 = 200 := by decide

/-- Of two moves of the same urgency the sequence number alone decides (R134). -/
theorem State.moreUrgent_of_eq (s : State) {m x : Move} (h : s.urgency m = s.urgency x) :
    s.moreUrgent (some m) x = some (if earlier x.seq m.seq = true ∧ x.seq ≠ m.seq then x else m) := by
  simp [moreUrgent, earliest, h, apply_ite some]

/-- Settles O19: `choose` is read through `State.Chosen`, the urgency through the bounds of its terms, the rest by the sum
of R131 and by the tie of two moves of one urgency. -/
theorem grantChoiceFollowsSelection : Obligations.GrantChoiceFollowsSelection := by
  unfold Obligations.GrantChoiceFollowsSelection
  refine ⟨fun s comparable => ⟨fun nothing m here => ?_, fun m byTenure chosen => ?_⟩, fun s m => ?_, ⟨.scan, rfl⟩, ?_, ?_⟩
  · exact Bool.eq_false_iff.mpr fun able => by
      simpa [State.eligibles_eq_nil_of_choose comparable nothing] using (s.mem_eligibles m).mpr ⟨here, able⟩
  · have c := State.chosen_of_choose comparable chosen
    exact ⟨c.eligible.1, c.eligible.2, c.of_overdue, c.of_tenure, c.of_urgency⟩
  · have least := m.kind.base_least
    have most := s.urgencySum_le m
    have capped : s.urgency m = min 1023 (m.kind.base + s.agingTerm m + s.weightTerm m + s.couplingTerm m) := rfl
    exact ⟨capped, by omega, least, by omega, most, by omega⟩
  · exact ⟨greatestSum, collectFromT0, rfl, greatestSum_collect⟩
  · exact fun s m x hm hx => s.moreUrgent_of_eq (hm.trans hx.symm)

end Sys2Proof.Machine
end

section
/-! PROOFS. The DUE checks of one event on the steady part, and the minute tick (R173, R176 to R178). -/

namespace Sys2Proof.Machine

/-! ## Records made DUE (R177, R178) -/

/-- A record as R177 makes it. -/
def Rec.nowDue (r : Rec) : Rec := { r with condition := .due }

theorem State.steady_makeDue (s : State) (id : Ident) : (s.makeDue id).steady = s.steady.updRecord id Rec.nowDue :=
  (State.steady_reclaimIfUnfit _ id).trans (s.steady_updRecord_eq id fun _ => rfl)

/-- Records made DUE one after the other: every record whose identifier is among theirs. -/
theorem State.steady_makeDue_foldl (rs : List Rec) (s : State) :
    (rs.foldl (fun t r => t.makeDue r.id) s).steady
      = { s.steady with
          records := s.steady.records.map (fun x => if x.id ∈ rs.map (·.id) then x.nowDue else x) } := by
  induction rs generalizing s with
  | nil => simp
  | cons r rs ih =>
    rw [List.foldl_cons, ih, State.steady_makeDue]
    simp only [Steady.updRecord, List.map_map]
    congr 1
    refine List.map_congr_left fun x _ => ?_
    by_cases first : x.id = r.id
    · simp [first, Rec.nowDue]
    · simp [first]

/-- Beyond making its records DUE one after the other, a DUE check raises notices only (R178, R179). -/
theorem State.steady_dueCheck_foldl (s : State) (f : Rec → Bool) :
    (s.dueCheck f).steady = ((s.newlyDue f).foldl (fun t r => t.makeDue r.id) s).steady := by
  rcases s.dueCheck_cases f with ⟨due, checked⟩ | ⟨r, due, checked⟩ | ⟨_, checked⟩
  · rw [checked, due, List.foldl_nil]
  · rw [checked, due, State.steady_raise, List.foldl_cons, List.foldl_nil]
  · rw [checked, State.steady_raise]

/-- With one record to an identifier, the identifiers of the records made DUE name those records alone. -/
theorem State.CatalogueSound.id_mem_newlyDue {s : State} (sound : s.CatalogueSound) (f : Rec → Bool) {r : Rec}
    (here : r ∈ s.catalogue) : r.id ∈ (s.newlyDue f).map (·.id) ↔ f r = true ∧ s.comesDue r = true := by
  have mem : ∀ x, x ∈ s.newlyDue f ↔ x ∈ s.catalogue ∧ f x = true ∧ s.comesDue x = true := by simp [State.newlyDue]
  constructor
  · intro named
    obtain ⟨x, due, same⟩ := List.mem_map.mp named
    obtain ⟨there, passes⟩ := (mem x).mp due
    exact List.inj_on_of_nodup_map sound.1 there here same ▸ passes
  · exact fun passes => List.mem_map_of_mem ((mem r).mpr ⟨here, passes⟩)

theorem State.checked_limitsOf (s : State) (r : Rec) :
    r.checked (s.limitsOf r) = if s.comesDue r = true then r.nowDue else r := by
  simp [Rec.checked, State.comesDue, Rec.nowDue]

/-- The DUE checks of one event leave each record among those checked as R177 says, and nothing else steady is touched. -/
theorem State.steady_dueCheck {s : State} (sound : s.CatalogueSound) (f : Rec → Bool) :
    (s.dueCheck f).steady = { s.steady with
      records := s.catalogue.map (fun r => (if f r then r.checked (s.limitsOf r) else r).steady) } := by
  rw [s.steady_dueCheck_foldl f, State.steady_makeDue_foldl]
  refine congrArg (fun rs => { s.steady with records := rs }) ?_
  refine List.map_map.trans (List.map_congr_left fun r here => ?_)
  simp only [Function.comp_apply, Rec.steady_id, sound.id_mem_newlyDue f here, s.checked_limitsOf, ← ite_and]
  rw [apply_ite Rec.steady]
  rfl

/-! ## The accrual (R172, R173) -/

/-- A record with the air quarters of its location added (R173, R176). -/
def State.aired (s : State) (r : Rec) : Rec := { r with air := clampTo 65535 (r.air.val + s.airWeight r) }

theorem State.accrue_eq (s : State) :
    s.accrue = { s with tickPhase := 0, catalogue := s.catalogue.map s.aired } := rfl

/-- The weight is that of the location as it stands, before the tick and after it. -/
@[simp] theorem State.airWeight_aired (s : State) (r : Rec) : s.airWeight (s.aired r) = s.airWeight r := rfl

theorem State.CatalogueSound.accrue {s : State} (sound : s.CatalogueSound) : s.accrue.CatalogueSound := by
  simpa [State.CatalogueSound, State.accrue, Function.comp_def] using sound

/-- The DUE check takes the records with an addition, those whose location has a weight (R176, R178). -/
theorem State.gainsAir_iff (s : State) (r : Rec) : s.gainsAir r = true ↔ s.airWeight r ≠ 0 := by
  simp [State.gainsAir, Nat.pos_iff_ne_zero]

/-- The minute tick before anything that follows it. -/
theorem State.steady_minute {s : State} (sound : s.CatalogueSound) :
    s.minute.steady = { s.steady with
      tickPhase := 0
      records := s.catalogue.map (fun r =>
        (if s.airWeight r = 0 then s.aired r else (s.aired r).checked (s.limitsOf r)).steady) } := by
  refine (State.steady_dueCheck sound.accrue s.gainsAir).trans ?_
  rw [s.accrue_eq]
  refine congrArg (fun rs => { s.steady with tickPhase := 0, records := rs }) ?_
  refine List.map_map.trans (List.map_congr_left fun r _ => ?_)
  simp only [Function.comp_apply, s.gainsAir_iff, s.airWeight_aired, ite_not]
  rfl

/-! ## The weight of a location (R173) -/

/-- The air quarters of a purge class (R173). -/
def purgeQuarters : Fin 4 → Nat
  | 0 => 4
  | 1 => 2
  | 2 => 1
  | 3 => 0

theorem Resolution.purgeClass_of_conflicted {z : Resolution} (h : z.conflicted = true) : z.purgeClass = 0 := by
  rw [Resolution.purgeClass, Option.isNone_iff_eq_none.mp h, Option.getD_none]

/-- A shelf that no entry covers has purge class 0 (R34). -/
theorem State.purgeClass_of_uncovered {s : State} {n : Shelf} (h : ∀ e, (s.zones.get e).covers n = false) :
    (s.resolve n).purgeClass = 0 := by
  have unmatched : s.zoneMatches n = [] := by simp [State.zoneMatches, h]
  rw [State.resolve, unmatched]
  rfl

section
variable (s : State) {r : Rec}

theorem State.airWeight_storage {n : Slot} {k : Fin 384} (here : r.location = .slot n) (storage : toStorage n = some k) :
    s.airWeight r = purgeQuarters (s.resolve (shelfOf k)).purgeClass := by
  simp only [State.airWeight, here, storage]
  generalize (s.resolve (shelfOf k)).purgeClass = c
  fin_cases c <;> rfl

theorem State.airWeight_staging {n : Slot} (here : r.location = .slot n) (staging : toStorage n = none) :
    s.airWeight r = 2 := by
  simp only [State.airWeight, here, staging]

theorem State.airWeight_tool {p : Port} (here : r.location = .tool p) : s.airWeight r = 0 := by
  simp only [State.airWeight, here]

theorem State.airWeight_elsewhere
    (here : r.location = .gripper ∨ (∃ x, r.location = .nest x) ∨ r.location = .inspection ∨ r.location = .unlocated) :
    s.airWeight r = 4 := by
  rcases here with here | ⟨_, here⟩ | here | here <;> simp only [State.airWeight, here]

end

/-- Settles O25: the tick is the accrual and its DUE check, which nothing that follows a change takes back; the weights
are read location by location. -/
theorem minuteTickAccruesAir : Obligations.MinuteTickAccruesAir := by
  unfold Obligations.MinuteTickAccruesAir
  intro s sound
  refine ⟨s.minute.settle s noTouch, rfl, ?_, fun r => ⟨fun n k here storage => ?_, fun n => s.airWeight_staging,
    fun p => s.airWeight_tool, s.airWeight_elsewhere⟩⟩
  · exact (State.aftermath_settle s.minute s noTouch).steady.trans (State.steady_minute sound)
  · have weight := s.airWeight_storage here storage
    refine ⟨weight, fun conflicted => ?_, fun uncovered => ?_⟩
    · rw [weight, Resolution.purgeClass_of_conflicted conflicted, purgeQuarters]
    · rw [weight, State.purgeClass_of_uncovered uncovered, purgeQuarters]

end Sys2Proof.Machine
end

section
/-! PROOFS. What every operation of the block keeps, whatever the state before it: the invariants that stand alone, the
commands waiting, the records with their life counters, and that nothing is sent but unrequested frames and orders. Each
operation is said to advance the state; the statements about every step read their clause off that. -/

namespace Sys2Proof.Machine

/-! ## The relation -/

/-- Frames that are no answers are handed over, after what each link was sent before. -/
def State.Sends (s t : State) : Prop :=
  ∀ l : Link, ∃ fs : List OutFrame, (∀ f ∈ fs, f.isAnswer = false) ∧ t.sent l = s.sent l ++ fs

/-- The life counters of a record are no higher than those of another. -/
def Rec.Outlives (r r' : Rec) : Prop := r.deliveries ≤ r'.deliveries ∧ r.lots ≤ r'.lots ∧ r.air ≤ r'.air

/-- Every record of the catalogue stays in it, no counter lowered. -/
def State.Outlived (s t : State) : Prop :=
  ∀ id r, s.record id = some r → ∃ r', t.record id = some r' ∧ r.Outlives r'

/-- From `s` to `t` the commands waiting stand, each of the invariants that stand alone is kept but that of the notices, and
nothing is sent but frames that answer no request. -/
structure State.KeepsForm (s t : State) : Prop where
  pending : t.pending = s.pending
  catalogue : s.CatalogueSound ∧ s.AnnouncementsSound → t.CatalogueSound ∧ t.AnnouncementsSound
  ahead : s.AheadSound → t.AheadSound
  ports : s.PortsSound → t.PortsSound
  handler : s.handler.Sound → t.handler.Sound
  settings : s.SettingsSound → t.SettingsSound
  sends : s.Sends t

/-- From `s` to `t` every invariant that stands alone is kept, and no record is lost or has a counter lowered. -/
structure State.Advances (s t : State) : Prop extends s.KeepsForm t where
  notices : s.NoticesSound → t.NoticesSound
  outlived : s.Outlived t

variable {s t u : State}

theorem State.Sends.of_tx_eq (h : t.tx = s.tx) : s.Sends t := fun l => ⟨[], by simp, by simp [State.sent, h]⟩

theorem State.Sends.trans (h : s.Sends t) (k : t.Sends u) : s.Sends u := by
  intro l
  obtain ⟨fs, hfs, hs⟩ := h l
  obtain ⟨gs, hgs, ht⟩ := k l
  refine ⟨fs ++ gs, fun f hf => ?_, by rw [ht, hs, List.append_assoc]⟩
  exact (List.mem_append.mp hf).elim (hfs f) (hgs f)

theorem State.Sends.told (h : s.Sends t) : s.Told t := fun l => h (.request l)

theorem Rec.Outlives.refl (r : Rec) : r.Outlives r := ⟨le_rfl, le_rfl, le_rfl⟩

theorem State.Outlived.of_catalogue_eq (h : t.catalogue = s.catalogue) : s.Outlived t :=
  fun id r hr => ⟨r, by rw [State.record, h]; exact hr, .refl r⟩

theorem State.Outlived.trans (h : s.Outlived t) (k : t.Outlived u) : s.Outlived u := by
  intro id r hr
  obtain ⟨x, hx, deliveries, lots, air⟩ := h id r hr
  obtain ⟨y, hy, deliveries', lots', air'⟩ := k id x hx
  exact ⟨y, hy, deliveries.trans deliveries', lots.trans lots', air.trans air'⟩

theorem State.KeepsForm.trans (h : s.KeepsForm t) (k : t.KeepsForm u) : s.KeepsForm u where
  pending := k.pending.trans h.pending
  catalogue := k.catalogue ∘ h.catalogue
  ahead := k.ahead ∘ h.ahead
  ports := k.ports ∘ h.ports
  handler := k.handler ∘ h.handler
  settings := k.settings ∘ h.settings
  sends := h.sends.trans k.sends

theorem State.Advances.trans (h : s.Advances t) (k : t.Advances u) : s.Advances u where
  toKeepsForm := h.toKeepsForm.trans k.toKeepsForm
  notices := k.notices ∘ h.notices
  outlived := h.outlived.trans k.outlived

/-! ## What stands outside every invariant -/

theorem State.advances_free (s : State) (clock : Clock) (tick : Fin 60) (slots : Vector SlotEntry 396) (next : Seq)
    (classes : Vector ClassLimits 8) (intercepts : Vector InterceptEntry 16) (census : Census) (pins : Pins)
    (rx : Vector RxState 9) (choices : Nat) :
    s.Advances { s with
      clock := clock, tickPhase := tick, slots := slots, nextSeq := next, classes := classes, intercepts := intercepts
      census := census, pins := pins, rx := rx, choices := choices } :=
  ⟨⟨rfl, id, id, id, id, id, .of_tx_eq rfl⟩, id, .of_catalogue_eq rfl⟩

theorem State.Advances.refl (s : State) : s.Advances s := s.advances_free _ _ _ _ _ _ _ _ _ _

/-! ## Frames -/

/-- A frame that answers no request. -/
theorem State.sends_send (s : State) (l : Link) {f : OutFrame} (h : f.isAnswer = false) : s.Sends (s.send l f) := by
  intro k
  by_cases e : k = l
  · subst e; exact ⟨[f], by simpa using h, s.sent_send_same _ f⟩
  · exact ⟨[], by simp, by rw [s.sent_send_other e, List.append_nil]⟩

theorem State.Advances.of_tx (tx : Vector (List OutFrame) 9) (h : s.Sends { s with tx := tx }) :
    s.Advances { s with tx := tx } :=
  ⟨⟨rfl, id, id, id, id, id, h⟩, id, .of_catalogue_eq rfl⟩

theorem State.advances_send (s : State) (l : Link) {f : OutFrame} (h : f.isAnswer = false) : s.Advances (s.send l f) :=
  .of_tx _ (s.sends_send l h)

theorem State.advances_sendTool (s : State) (p : Port) {f : OutFrame} (h : f.isAnswer = false) :
    s.Advances (s.sendTool p f) := by
  unfold State.sendTool
  split
  · exact .refl s
  · exact s.advances_send _ h

theorem State.advances_sendRequester (s : State) (r : Requester) {f : OutFrame} (h : f.isAnswer = false) :
    s.Advances (s.sendRequester r f) := by
  unfold State.sendRequester
  split
  · exact .refl s
  · exact s.advances_sendTool _ h
  · exact s.advances_send _ h

theorem State.advances_tellWithdrawn (s : State) (m : Move) (r : Reason) : s.Advances (s.tellWithdrawn m r) := by
  unfold State.tellWithdrawn
  split
  · exact s.advances_sendRequester _ rfl
  · exact .refl s

theorem State.advances_tellEnd (s : State) (m : Move) (x : MoveOutcome) : s.Advances (s.tellEnd m x) := by
  unfold State.tellEnd
  split
  · split
    · exact .refl s
    · exact s.advances_sendRequester _ rfl
  · exact .refl s

/-! ## Notices -/

/-- The notice invariant but for the condition of one kind (R211). -/
def State.NoticesSoundBut (s : State) (k : NoticeKind) : Prop :=
  s.catalogue.length ≤ Config.catalogueCapacity
    ∧ ∀ l i, (i ≠ k → s.conditionHolds i = true → ((s.noticeSet l).entry i).pending = true)
      ∧ (((s.noticeSet l).entry i).fresh = true → ((s.noticeSet l).entry i).pending = true)

theorem State.NoticesSound.but (h : s.NoticesSound) (k : NoticeKind) : s.NoticesSoundBut k :=
  ⟨h.1, fun l i => ⟨fun _ => (h.2 l i).1, (h.2 l i).2⟩⟩

/-- The same notice sets, and no condition that did not hold before but that of one kind. -/
theorem State.NoticesSound.of_conditions_but (h : s.NoticesSound) {k : NoticeKind}
    (length : t.catalogue.length ≤ Config.catalogueCapacity) (sets : ∀ l, t.noticeSet l = s.noticeSet l)
    (conditions : ∀ i, i ≠ k → t.conditionHolds i = true → s.conditionHolds i = true) : t.NoticesSoundBut k := by
  refine ⟨length, fun l i => ?_⟩
  rw [sets]
  exact ⟨fun ne holds => (h.2 l i).1 (conditions i ne holds), (h.2 l i).2⟩

theorem State.NoticesSound.of_conditions (h : s.NoticesSound)
    (length : t.catalogue.length ≤ Config.catalogueCapacity) (sets : ∀ l, t.noticeSet l = s.noticeSet l)
    (conditions : ∀ i, t.conditionHolds i = true → s.conditionHolds i = true) : t.NoticesSound := by
  refine ⟨length, fun l i => ?_⟩
  rw [sets]
  exact ⟨fun holds => (h.2 l i).1 (conditions i holds), (h.2 l i).2⟩

theorem State.sends_setNoticeSet (s : State) (l : NoticeLink) (x : NoticeSet) : s.Sends (s.setNoticeSet l x) :=
  .of_tx_eq (s.setNoticeSet_tx l x)

theorem State.sends_sendNotice (s : State) (l : NoticeLink) : s.Sends (s.sendNotice l) :=
  (s.sends_send _ rfl).trans (State.sends_setNoticeSet _ l _)

theorem State.sends_pushNotice (s : State) (l : NoticeLink) : s.Sends (s.pushNotice l) := by
  rcases s.pushNotice_cases l with ⟨_, h⟩ | ⟨_, h⟩ <;> rw [h]
  · exact s.sends_sendNotice l
  · exact .of_tx_eq rfl

theorem State.sends_raiseOn (s : State) (l : NoticeLink) (k : NoticeKind) (d : Detail) : s.Sends (s.raiseOn l k d) := by
  unfold State.raiseOn
  simp only
  split
  · exact s.sends_setNoticeSet l _
  · exact (s.sends_setNoticeSet l _).trans (State.sends_pushNotice _ l)

theorem State.sends_raise (s : State) (k : NoticeKind) (d : Detail) : s.Sends (s.raise k d) :=
  (s.sends_raiseOn .material k d).trans (State.sends_raiseOn _ .service k d)

/-- A push makes nothing fresh (R213). -/
theorem State.fresh_pushNotice {l j : NoticeLink} {i : NoticeKind}
    (h : (((s.pushNotice l).noticeSet j).entry i).fresh = true) : ((s.noticeSet j).entry i).fresh = true := by
  rcases s.entry_pushNotice l j i with e | e <;> rw [e] at h
  · exact h
  · exact absurd h (by simp)

theorem State.pending_pushNotice (s : State) (l j : NoticeLink) (i : NoticeKind) :
    (((s.pushNotice l).noticeSet j).entry i).pending = ((s.noticeSet j).entry i).pending := by
  rcases s.entry_pushNotice l j i with e | e <;> rw [e]

/-- A raise makes its own kind fresh only (R211). -/
theorem State.fresh_raiseOn {l j : NoticeLink} {k i : NoticeKind} {d : Detail} (ne : i ≠ k)
    (h : (((s.raiseOn l k d).noticeSet j).entry i).fresh = true) : ((s.noticeSet j).entry i).fresh = true := by
  have written : ∀ x : NoticeEntry, ((s.setNoticeSet l
      { s.noticeSet l with entries := (s.noticeSet l).entries.set k.number.val x k.number.isLt }).noticeSet j).entry i
      = (s.noticeSet j).entry i := by
    intro x
    have other : k.number.val ≠ i.number.val := fun e => ne (NoticeKind.number_injective (Fin.ext e.symm))
    by_cases e : j = l
    · subst e; simp [NoticeSet.entry, Vector.get_eq_getElem, other]
    · rw [State.noticeSet_setNoticeSet_other _ e]
  unfold State.raiseOn at h
  simp only at h
  split at h
  · rwa [written] at h
  · have h := State.fresh_pushNotice h
    rwa [written] at h

theorem State.fresh_raise {l : NoticeLink} {k i : NoticeKind} {d : Detail} (ne : i ≠ k)
    (h : (((s.raise k d).noticeSet l).entry i).fresh = true) : ((s.noticeSet l).entry i).fresh = true :=
  State.fresh_raiseOn ne (State.fresh_raiseOn ne h)

@[simp] theorem State.conditionHolds_raise (s : State) (k i : NoticeKind) (d : Detail) :
    (s.raise k d).conditionHolds i = s.conditionHolds i := by
  obtain ⟨_, _, _, h⟩ := s.raise_eq k d
  rw [h]; cases i <;> rfl

/-- A raise of the one kind left out completes the invariant (R211). -/
theorem State.NoticesSoundBut.raise {k : NoticeKind} (h : s.NoticesSoundBut k) (d : Detail) : (s.raise k d).NoticesSound := by
  refine ⟨by simpa using h.1, fun l i => ?_⟩
  by_cases e : i = k
  · subst e
    have raised := (s.raise_raised i d l).1
    exact ⟨fun _ => raised, fun _ => raised⟩
  · obtain ⟨conditions, fresh⟩ := h.2 l i
    have pending := (s.raise_other e d l).1
    exact ⟨fun holds => by rw [pending]; exact conditions e (by simpa using holds),
      fun x => by rw [pending]; exact fresh (State.fresh_raise e x)⟩

/-- A change that keeps all but perhaps one condition without its notice, followed by the raise of that kind. -/
theorem State.KeepsForm.raise {k : NoticeKind} (h : s.KeepsForm u) (outlived : s.Outlived u)
    (notices : s.NoticesSound → u.NoticesSoundBut k) (d : Detail) : s.Advances (u.raise k d) := by
  have raised : u.KeepsForm (u.raise k d) := by
    have sends := u.sends_raise k d
    obtain ⟨_, _, _, e⟩ := u.raise_eq k d
    rw [e] at sends ⊢
    exact ⟨rfl, id, id, id, id, id, sends⟩
  exact ⟨h.trans raised, fun n => (notices n).raise d, outlived.trans (.of_catalogue_eq (u.raise_catalogue k d))⟩

theorem State.advances_raise (s : State) (k : NoticeKind) (d : Detail) : s.Advances (s.raise k d) :=
  (State.Advances.refl s).toKeepsForm.raise (.of_catalogue_eq rfl) (fun n => n.but k) d

/-! ## Nests and ports -/

theorem State.anyBlocked_iff (s : State) :
    s.anyBlocked = true ↔ (∃ p, s.toolNest p = .blocked) ∨ s.bi = .blocked ∨ s.bo = .blocked ∨ s.inn = .blocked := by
  have every : ∀ p : Port, p ∈ allPorts := by decide
  simp only [State.anyBlocked, Bool.or_eq_true, List.any_eq_true, decide_eq_true_eq, or_assoc]
  refine or_congr_left ⟨fun ⟨p, _, h⟩ => ⟨p, h⟩, fun ⟨p, h⟩ => ⟨p, every p, h⟩⟩

/-- The same notice sets and condition parts, and no nest newly BLOCKED. -/
theorem State.NoticesSound.of_blocked (h : s.NoticesSound) (catalogue : t.catalogue = s.catalogue)
    (sets : ∀ l, t.noticeSet l = s.noticeSet l) (state : t.handler.state = .halted → s.handler.state = .halted)
    (noSlot : t.noSlot = s.noSlot) (zones : t.zones = s.zones) (blocked : t.anyBlocked = true → s.anyBlocked = true) :
    t.NoticesSound := by
  refine h.of_conditions (by rw [catalogue]; exact h.1) sets fun i => ?_
  cases i <;> simp_all [State.conditionHolds, State.conflictedShelves, State.resolve, State.zoneMatches, State.catalogueFull]

theorem State.advances_fabNests (s : State) {x : BiNest} {y : BoNest} {z : InNest}
    (hx : x = .blocked → s.bi = .blocked) (hy : y = .blocked → s.bo = .blocked) (hz : z = .blocked → s.inn = .blocked) :
    s.Advances { s with bi := x, bo := y, inn := z } := by
  refine ⟨⟨rfl, id, id, id, id, id, .of_tx_eq rfl⟩, fun h => ?_, .of_catalogue_eq rfl⟩
  refine h.of_blocked rfl (fun l => by cases l <;> rfl) id rfl rfl fun b => ?_
  rw [State.anyBlocked_iff] at b ⊢
  exact b.imp id (Or.imp hx (Or.imp hy hz))

/-- A port record with the same port state, liveness and priority. -/
structure PortRec.Alike (r r' : PortRec) : Prop where
  state : r'.state = r.state
  liveness : r'.liveness = r.liveness
  left : r'.livenessLeft = r.livenessLeft
  priority : r'.settings.priority = r.settings.priority

theorem PortRec.Alike.refl (r : PortRec) : r.Alike r := ⟨rfl, rfl, rfl, rfl⟩

theorem State.PortsSound.of_alike (h : s.PortsSound) (alike : ∀ p, (s.port p).Alike (t.port p))
    (ahead : t.ahead = s.ahead) : t.PortsSound := by
  refine ⟨fun p => ?_, fun p q => ?_⟩
  · have k := h.1 p
    simpa only [State.PortSound, State.aheadOf, (alike p).state, (alike p).liveness, (alike p).left, ahead] using k
  · rw [(alike p).priority, (alike q).priority]; exact h.2 p q

theorem State.port_updPort_alike (s : State) (p : Port) {f : PortRec → PortRec} (h : (s.port p).Alike (f (s.port p)))
    (q : Port) : (s.port q).Alike ((s.updPort p f).port q) := by
  rw [s.port_updPort]
  split
  · next e => rw [e]; exact h
  · exact .refl _

theorem State.advances_updPort (s : State) (p : Port) {f : PortRec → PortRec} (h : (s.port p).Alike (f (s.port p)))
    (blocked : (f (s.port p)).nest = .blocked → (s.port p).nest = .blocked) : s.Advances (s.updPort p f) := by
  refine ⟨⟨rfl, id, id, fun k => k.of_alike (s.port_updPort_alike p h) rfl, id, id, .of_tx_eq rfl⟩, fun n => ?_,
    .of_catalogue_eq rfl⟩
  refine n.of_blocked rfl (fun l => by cases l <;> rfl) id rfl rfl fun b => ?_
  rw [State.anyBlocked_iff] at b ⊢
  refine b.imp ?_ id
  rintro ⟨q, hq⟩
  refine ⟨q, ?_⟩
  unfold State.toolNest at hq ⊢
  rw [s.port_updPort] at hq
  split at hq
  · next e => rw [e]; exact blocked hq
  · exact hq

theorem State.advances_setToolNest (s : State) (p : Port) {x : ToolNest} (h : x ≠ .blocked) :
    s.Advances (s.setToolNest p x) := s.advances_updPort p ⟨rfl, rfl, rfl, rfl⟩ (fun e => absurd e h)

theorem State.advances_lapseNest (s : State) (p : Port) : s.Advances (s.lapseNest p) :=
  s.advances_updPort p ⟨rfl, rfl, rfl, rfl⟩ (by simp)

theorem State.advances_clearNest (s : State) (p : Port) : s.Advances (s.clearNest p) :=
  s.advances_updPort p ⟨rfl, rfl, rfl, rfl⟩ (by simp)

theorem State.advances_startWindow (s : State) (p : Port) (x : WindowUse) : s.Advances (s.startWindow p x) :=
  s.advances_updPort p ⟨rfl, rfl, rfl, rfl⟩ id

/-- A nest enters BLOCKED with its notice (R113). -/
theorem State.advances_nestBlocks (s : State) (x : Nest) (id : Option Ident) : s.Advances (s.nestBlocks x id) := by
  have but : ∀ t : State, t.catalogue = s.catalogue → (∀ l, t.noticeSet l = s.noticeSet l) → t.handler = s.handler →
      t.noSlot = s.noSlot → t.zones = s.zones → s.NoticesSound → t.NoticesSoundBut .nestBlocked := by
    intro t catalogue sets handler noSlot zones n
    refine n.of_conditions_but (by rw [catalogue]; exact n.1) sets fun i ne => ?_
    cases i <;> simp_all [State.conditionHolds, State.conflictedShelves, State.resolve, State.zoneMatches, State.catalogueFull]
  unfold State.nestBlocks
  cases x with
  | t p =>
    have h : s.KeepsForm (s.setToolNest p .blocked) :=
      ⟨rfl, fun h => h, fun h => h, fun k => k.of_alike (s.port_updPort_alike p ⟨rfl, rfl, rfl, rfl⟩) rfl,
        fun h => h, fun h => h, .of_tx_eq rfl⟩
    exact h.raise (.of_catalogue_eq rfl) (but _ rfl (fun l => by cases l <;> rfl) rfl rfl rfl) _
  | bi =>
    have h : s.KeepsForm { s with bi := .blocked } :=
      ⟨rfl, fun h => h, fun h => h, fun h => h, fun h => h, fun h => h, .of_tx_eq rfl⟩
    exact h.raise (.of_catalogue_eq rfl) (but _ rfl (fun l => by cases l <;> rfl) rfl rfl rfl) _
  | bo =>
    have h : s.KeepsForm { s with bo := .blocked } :=
      ⟨rfl, fun h => h, fun h => h, fun h => h, fun h => h, fun h => h, .of_tx_eq rfl⟩
    exact h.raise (.of_catalogue_eq rfl) (but _ rfl (fun l => by cases l <;> rfl) rfl rfl rfl) _
  | inn =>
    have h : s.KeepsForm { s with inn := .blocked } :=
      ⟨rfl, fun h => h, fun h => h, fun h => h, fun h => h, fun h => h, .of_tx_eq rfl⟩
    exact h.raise (.of_catalogue_eq rfl) (but _ rfl (fun l => by cases l <;> rfl) rfl rfl rfl) _

/-! ## Records -/

theorem State.known_iff (s : State) (id : Ident) : s.known id = true ↔ id ∈ s.catalogue.map (·.id) := by
  simp [State.known, State.record]

theorem State.known_eq_false_iff (s : State) (id : Ident) : s.known id = false ↔ id ∉ s.catalogue.map (·.id) := by
  rw [← s.known_iff, Bool.not_eq_true]

/-- The catalogue and announcement invariants are about the identifiers of the records only. -/
theorem State.KeepsForm.catalogue_of_ids (ids : t.catalogue.map (·.id) = s.catalogue.map (·.id))
    (announcements : t.announcements = s.announcements) :
    s.CatalogueSound ∧ s.AnnouncementsSound → t.CatalogueSound ∧ t.AnnouncementsSound := by
  have length : t.catalogue.length = s.catalogue.length := by simpa using congrArg List.length ids
  simp only [State.CatalogueSound, State.AnnouncementsSound, State.known_eq_false_iff, ids, announcements, length]
  exact id

theorem State.record_mapCatalogue (s : State) {f : Rec → Rec} (h : ∀ r, (f r).id = r.id) (id : Ident) :
    State.record { s with catalogue := s.catalogue.map f } id = (s.record id).map f := by
  simp only [State.record, List.find?_map]
  congr 2
  funext r
  simp [h]

/-- A change of records that keeps their identifiers and lowers no counter. -/
theorem State.advances_mapCatalogue (s : State) {f : Rec → Rec} (ids : ∀ r, (f r).id = r.id)
    (counters : ∀ r : Rec, r.Outlives (f r)) : s.Advances { s with catalogue := s.catalogue.map f } := by
  have same : (s.catalogue.map f).map (·.id) = s.catalogue.map (·.id) := by simp [Function.comp_def, ids]
  refine ⟨⟨rfl, State.KeepsForm.catalogue_of_ids same rfl, id, id, id, id, .of_tx_eq rfl⟩, fun n => ?_, ?_⟩
  · refine n.of_conditions (by simpa using n.1) (fun l => by cases l <;> rfl) fun i => ?_
    cases i with
    | catalogueFull => simp [State.conditionHolds, State.catalogueFull]
    | _ => exact id
  · intro id r hr
    exact ⟨f r, by rw [s.record_mapCatalogue ids, hr]; rfl, counters r⟩

theorem State.advances_updRecord (s : State) (id : Ident) {f : Rec → Rec} (ids : ∀ r, (f r).id = r.id)
    (counters : ∀ r : Rec, r.Outlives (f r)) : s.Advances (s.updRecord id f) := by
  refine s.advances_mapCatalogue (fun r => ?_) (fun r => ?_) <;> split
  · exact ids r
  · rfl
  · exact counters r
  · exact .refl r

theorem State.advances_release (s : State) (q : Seq) : s.Advances (s.release q) := by
  refine s.advances_mapCatalogue (fun r => ?_) (fun r => ?_) <;> split
  · rfl
  · rfl
  · exact ⟨le_rfl, le_rfl, le_rfl⟩
  · exact .refl r

theorem State.advances_bind (s : State) (id : Ident) (q : Seq) : s.Advances (s.bind id q) :=
  s.advances_updRecord id (fun _ => rfl) (fun _ => ⟨le_rfl, le_rfl, le_rfl⟩)

theorem le_satAdd (c : Fin 65536) (n : Nat) : c ≤ satAdd c n := by
  have := c.isLt
  simp only [satAdd, clampTo, Fin.le_def]
  omega

/-- A record created while its identifier is unknown and the catalogue not full (R19 to R21, R93). -/
theorem State.advances_createRecord (s : State) {r : Rec} (unknown : s.known r.id = false)
    (room : s.catalogueFull = false) : s.Advances (s.createRecord r) := by
  rw [State.catalogueFull, decide_eq_false_iff_not, not_le] at room
  let u : State := { s with
    catalogue := s.catalogue ++ [r]
    announcements := s.announcements.filter (fun a => !decide (a.id = r.id)) }
  have form : s.KeepsForm u := by
    refine ⟨rfl, ?_, id, id, id, id, .of_tx_eq rfl⟩
    rintro ⟨⟨nodup, _⟩, length, distinct, unknowns⟩
    rw [State.known_eq_false_iff] at unknown
    refine ⟨⟨?_, ?_⟩, ?_, ?_, ?_⟩
    · simpa [u, List.nodup_append, nodup] using fun x hx e => unknown (List.mem_map.mpr ⟨x, hx, e⟩)
    · simpa [u] using room
    · exact (List.length_filter_le _ _).trans length
    · exact (List.filter_sublist.map _).nodup distinct
    · intro a ha
      obtain ⟨mem, ne⟩ := List.mem_filter.mp ha
      have old := unknowns a mem
      rw [State.known_eq_false_iff] at old ⊢
      have ne : a.id ≠ r.id := by simpa using ne
      simpa [u] using ⟨by simpa using old, ne⟩
  have outlived : s.Outlived u := fun id x hx => ⟨x, by simp [u, State.record, List.find?_append] at hx ⊢; simp [hx], .refl x⟩
  have but : s.NoticesSound → u.NoticesSoundBut .catalogueFull := fun n =>
    n.of_conditions_but (by simpa [u] using room) (fun l => by cases l <;> rfl) (fun i ne => by cases i <;> first | exact absurd rfl ne | exact id)
  have created : s.createRecord r
      = if u.catalogue.length = Config.catalogueCapacity then u.raise .catalogueFull noDetail else u := rfl
  rw [created]
  split
  · exact form.raise outlived but _
  · next short =>
    refine ⟨form, fun n => ?_, outlived⟩
    have below : u.catalogueFull = false := by
      rw [State.catalogueFull, decide_eq_false_iff_not, not_le]
      exact lt_of_le_of_ne (but n).1 short
    refine ⟨(but n).1, fun l i => ⟨fun holds => ?_, ((but n).2 l i).2⟩⟩
    refine ((but n).2 l i).1 ?_ holds
    rintro rfl
    exact absurd holds (by simp [State.conditionHolds, below])

/-! ## The queue -/

theorem State.advances_queue (s : State) (q : List Move) (next : Seq) :
    s.Advances { s with queue := q, nextSeq := next } :=
  ⟨⟨rfl, id, id, id, id, id, .of_tx_eq rfl⟩, id, .of_catalogue_eq rfl⟩

theorem State.advances_updMove (s : State) (q : Seq) (f : Move → Move) : s.Advances (s.updMove q f) :=
  s.advances_queue _ _

theorem State.advances_dropMove (s : State) (q : Seq) : s.Advances (s.dropMove q) :=
  (s.advances_queue _ _).trans (State.advances_release _ q)

theorem State.advances_withdraw (s : State) (m : Move) (r : Option Reason) : s.Advances (s.withdraw m r) := by
  have dropped : s.Advances (if m.kind = .scan then (s.dropMove m.seq).censusEnds else s.dropMove m.seq) := by
    split
    · exact (s.advances_dropMove _).trans (State.advances_free _ _ _ _ _ _ _ _ _ _ _)
    · exact s.advances_dropMove _
  unfold State.withdraw
  cases r with
  | none => exact dropped
  | some r => exact dropped.trans (State.advances_tellWithdrawn _ m r)

theorem State.advances_withdrawWhere (s : State) (f : Move → Bool) (r : Option Reason) :
    s.Advances (s.withdrawWhere f r) :=
  s.withdrawWhere_ind s.Advances f r (fun t m _ _ _ h => h.trans (t.advances_withdraw m r)) (.refl s)

theorem State.advances_foldl {α : Type} {step : State → α → State} (h : ∀ t x, State.Advances t (step t x))
    (xs : List α) (s : State) : s.Advances (xs.foldl step s) := by
  induction xs generalizing s with
  | nil => exact .refl s
  | cons x xs ih => exact (h s x).trans (ih _)

theorem State.advances_enter (s : State) (o : Offer) (d h : Bool) : s.Advances (s.enter o d h) := by
  have queued : s.Advances { s with queue := s.queue ++ [s.entered o d h], nextSeq := s.nextSeq + 1 } :=
    s.advances_queue _ _
  unfold State.enter
  simp only
  split
  · exact queued.trans (State.advances_bind _ _ _)
  · exact queued

theorem State.advances_countHit (s : State) (n : Fin 16) (o : Offer) : s.Advances (s.countHit n o) := by
  unfold State.countHit
  exact (s.advances_free _ _ _ _ _ _ _ _ _ _).trans (State.advances_raise _ _ _)

theorem State.advances_offerInward (s : State) (o : Offer) : s.Advances (s.offerInward o) := by
  rcases s.offerInward_cases o with ⟨_, e⟩ | ⟨n, _, e⟩ <;> rw [e]
  · exact s.advances_enter o _ _
  · exact (s.advances_countHit n o).trans (State.advances_enter _ o _ _)

theorem State.advances_stockInArrives (s : State) : s.Advances s.stockInArrives := by
  unfold State.stockInArrives
  split
  · exact .refl s
  · exact s.advances_offerInward _

theorem State.advances_reshelveArrives (s : State) : s.Advances s.reshelveArrives := by
  unfold State.reshelveArrives
  split
  · exact .refl s
  · exact s.advances_offerInward _

theorem State.advances_deferredAdmission (s : State) (k : MoveKind) : s.Advances (s.deferredAdmission k) := by
  unfold State.deferredAdmission
  split
  · split
    · exact s.advances_stockInArrives
    · exact .refl s
  · split
    · exact s.advances_reshelveArrives
    · exact .refl s
  · exact .refl s

/-! ## Fitness, holds and DUE checks -/

theorem State.advances_reclaimIfUnfit (s : State) (id : Ident) : s.Advances (s.reclaimIfUnfit id) := by
  rcases s.reclaimIfUnfit_cases id with h | ⟨r, p, _, _, _, _, h⟩ <;> rw [h]
  · exact .refl s
  · exact ((s.advances_lapseNest p).trans (State.advances_offerInward _ _)).trans (State.advances_sendTool _ p rfl)

theorem State.advances_withdrawHeldDeliver (s : State) (r : Rec) : s.Advances (s.withdrawHeldDeliver r) := by
  unfold State.withdrawHeldDeliver
  split
  · split
    · exact s.advances_withdraw _ _
    · exact .refl s
  · exact .refl s

theorem State.advances_setHeld (s : State) (id : Ident) : s.Advances (s.setHeld id) := by
  unfold State.setHeld
  split
  · split
    · exact .refl s
    · refine .trans (.trans ?_ (State.advances_withdrawHeldDeliver _ _)) (State.advances_reclaimIfUnfit _ id)
      exact s.advances_updRecord id (fun _ => rfl) (fun _ => ⟨le_rfl, le_rfl, le_rfl⟩)
  · exact .refl s

theorem State.advances_doubtRecord (s : State) (id : Ident) : s.Advances (s.doubtRecord id) := by
  refine .trans ?_ (State.advances_reclaimIfUnfit _ id)
  exact s.advances_updRecord id (fun _ => rfl) (fun _ => ⟨le_rfl, le_rfl, le_rfl⟩)

theorem State.advances_offerPrestage (s : State) (o : Offer) : s.Advances (s.offerPrestage o) := by
  unfold State.offerPrestage
  split
  · exact s.advances_enter o _ _
  · next n _ =>
    have hit := s.advances_countHit n o
    simp only
    split
    · split
      · exact hit.trans (State.advances_setHeld _ _)
      · exact hit
    · exact hit.trans (State.advances_enter _ o _ _)

theorem State.advances_makeDue (s : State) (id : Ident) : s.Advances (s.makeDue id) := by
  refine .trans ?_ (State.advances_reclaimIfUnfit _ id)
  exact s.advances_updRecord id (fun _ => rfl) (fun _ => ⟨le_rfl, le_rfl, le_rfl⟩)

theorem State.advances_dueCheck (s : State) (f : Rec → Bool) : s.Advances (s.dueCheck f) := by
  rcases s.dueCheck_cases f with ⟨_, h⟩ | ⟨r, _, h⟩ | ⟨_, h⟩ <;> rw [h]
  · exact .refl s
  · exact (s.advances_makeDue r.id).trans ((s.makeDue r.id).advances_raise .due _)
  · have due := State.advances_foldl (step := fun t (r : Rec) => t.makeDue r.id)
      (fun t r => t.advances_makeDue r.id)
    exact (due (s.newlyDue f) s).trans (State.advances_raise _ .due _)

theorem State.advances_addLots (s : State) (id : Ident) (n : Nat) : s.Advances (s.addLots id n) := by
  refine .trans ?_ (State.advances_dueCheck _ _)
  exact s.advances_updRecord id (fun _ => rfl) (fun r => ⟨le_rfl, le_satAdd r.lots n, le_rfl⟩)

end Sys2Proof.Machine
end

section
/-! PROOFS. The dispatcher, what follows a change, the tool nests and a RESTART advance the state. -/

namespace Sys2Proof.Machine

/-! ## The handler interface, the settings and the tenure record -/

/-- A change of the handler interface that keeps its form and its timeouts and does not halt it. -/
theorem State.advances_updHandler (s : State) (f : Handler → Handler) (sound : s.handler.Sound → (f s.handler).Sound)
    (pick : (f s.handler).pickTimeout = s.handler.pickTimeout)
    (place : (f s.handler).placeTimeout = s.handler.placeTimeout)
    (running : (f s.handler).state = .halted → s.handler.state = .halted) : s.Advances (s.updHandler f) := by
  refine ⟨⟨rfl, id, id, id, sound, fun h => ?_, .of_tx_eq rfl⟩, fun n => ?_, .of_catalogue_eq rfl⟩
  · simpa [State.SettingsSound, pick, place] using h
  · exact n.of_blocked rfl (fun l => by cases l <;> rfl) running rfl rfl id

/-- A handler interface with a move, an order outstanding and its timer running is in its form (R146 to R148). -/
theorem Handler.sound_of_ordered {h : Handler} (idle : h.state ≠ .idle) (halted : h.state ≠ .halted)
    (exec : h.exec.isSome) (halt : h.halt = none) (timer : h.timer.isSome) (current : h.numberCurrent = true) :
    h.Sound := by
  unfold Handler.Sound
  split
  · next e => exact absurd e idle
  · next e => exact absurd e halted
  · exact ⟨exec, halt, timer⟩
  · exact ⟨exec, halt, timer, current⟩

/-- The handler interface works on a move and is not halted. -/
def Handler.Works (h : Handler) : Prop := h.exec.isSome ∧ h.halt = none

theorem Handler.Sound.works {h : Handler} (sound : h.Sound) (idle : h.state ≠ .idle) (halted : h.state ≠ .halted) :
    h.Works := by
  unfold Handler.Sound at sound
  split at sound
  · next e => exact absurd e idle
  · next e => exact absurd e halted
  · exact ⟨sound.1, sound.2.1⟩
  · exact ⟨sound.1, sound.2.1⟩

theorem Phase.handlerState_ne_idle (ph : Phase) : ph.handlerState ≠ .idle := by cases ph <;> decide

theorem Phase.handlerState_ne_halted (ph : Phase) : ph.handlerState ≠ .halted := by cases ph <;> decide

/-- An order sent: its frame, and the handler interface in the state of a phase with its timer started (R146, R148). -/
theorem State.advances_ordered (s : State) (x : OutFrame) (f : Handler → Handler) (unasked : x.isAnswer = false)
    (works : s.handler.Sound → (f s.handler).exec.isSome ∧ (f s.handler).halt = none)
    (idle : (f s.handler).state ≠ .idle) (halted : (f s.handler).state ≠ .halted)
    (timer : (f s.handler).timer.isSome) (current : (f s.handler).numberCurrent = true)
    (pick : (f s.handler).pickTimeout = s.handler.pickTimeout)
    (place : (f s.handler).placeTimeout = s.handler.placeTimeout) :
    s.Advances ((s.send .handler x).updHandler f) := by
  refine (s.advances_send .handler unasked).trans (State.advances_updHandler _ f (fun h => ?_) pick place
    (fun h => absurd h halted))
  obtain ⟨exec, halt⟩ := works h
  exact Handler.sound_of_ordered idle halted exec halt timer current

/-- An order for a phase, the phase recorded with it. -/
theorem State.advances_order (s : State) (f : Byte → OutFrame) (n : Nat) (ph : Phase)
    (unasked : ∀ b, (f b).isAnswer = false) (works : s.handler.Sound → s.handler.Works) :
    s.Advances ((s.order f ph.handlerState n).setPhase ph) := by
  refine s.advances_ordered (f (s.handler.orderNumber + 1)) (fun h => { h with
      orderNumber := s.handler.orderNumber + 1, numberCurrent := true, state := ph.handlerState, timer := some n
      exec := h.exec.map (fun e => { e with phase := some ph }) }) (unasked _) (fun h => ?_) ph.handlerState_ne_idle
    ph.handlerState_ne_halted rfl rfl rfl rfl
  obtain ⟨exec, halt⟩ := works h
  exact ⟨by simpa using exec, halt⟩

theorem State.advances_sendMove (s : State) (m : Move) (works : s.handler.Sound → s.handler.Works) :
    s.Advances (s.sendMove m) := s.advances_order _ _ .picking (fun _ => rfl) works

theorem State.advances_sendScan (s : State) (n : Shelf) (works : s.handler.Sound → s.handler.Works) :
    s.Advances (s.sendScan n) := s.advances_order _ _ .scanning (fun _ => rfl) works

theorem State.advances_sendPlace (s : State) (x : Position) (ph : Phase) (works : s.handler.Sound → s.handler.Works) :
    s.Advances (s.sendPlace x ph) := s.advances_order _ _ ph (fun _ => rfl) works

theorem State.advances_tenure (s : State) (x : Tenure) (h : s.tenure.count ≤ 3 → x.count ≤ 3) :
    s.Advances { s with tenure := x } := by
  refine ⟨⟨rfl, id, id, id, id, fun k => ?_, .of_tx_eq rfl⟩, id, .of_catalogue_eq rfl⟩
  obtain ⟨starvation, pick, place, gap, count⟩ := k
  exact ⟨starvation, pick, place, gap, h count⟩

/-! ## The dispatcher (R44, R125, R127) -/

theorem State.advances_testNoSlot (s : State) : s.Advances s.testNoSlot := by
  have form : ∀ b, s.KeepsForm { s with noSlot := b } := fun _ => ⟨rfl, id, id, id, id, id, .of_tx_eq rfl⟩
  have but : ∀ b, s.NoticesSound → State.NoticesSoundBut { s with noSlot := b } .noSlot := fun b n =>
    n.of_conditions_but n.1 (fun l => by cases l <;> rfl) (fun i ne => by
      cases i with
      | noSlot => exact absurd rfl ne
      | _ => exact id)
  unfold State.testNoSlot
  split
  · refine ⟨form false, fun n => n.of_conditions n.1 (fun l => by cases l <;> rfl) fun i => ?_, .of_catalogue_eq rfl⟩
    cases i with
    | noSlot => exact fun h => absurd h (by simp [State.conditionHolds])
    | _ => exact id
  · split
    · exact .refl s
    · exact (form true).raise (.of_catalogue_eq rfl) (but true) _

theorem State.advances_noSlotStep (b a : State) (t : Touch) : b.Advances (b.noSlotStep a t) := by
  unfold State.noSlotStep
  split
  · exact b.advances_testNoSlot
  · exact .refl b

theorem State.advances_setSlot (s : State) (n : Slot) (e : SlotEntry) : s.Advances (s.setSlot n e) :=
  s.advances_free _ _ _ _ _ _ _ _ _ _

theorem State.advances_reserve (s : State) (m : Move) : s.Advances (s.reserve m) := by
  have source : s.Advances (s.reserveSource m) := by
    unfold State.reserveSource
    split
    · split
      · exact s.advances_setSlot _ _
      · exact .refl s
    · exact .refl s
  have target : ∀ b : State, b.Advances (b.reserveTarget m) := by
    intro b
    unfold State.reserveTarget
    split
    · split
      · exact b.advances_setSlot _ _
      · exact .refl b
    · exact .refl b
  exact source.trans (target _)

theorem State.advances_nestGranted (s : State) (x : Option Nest) : s.Advances (s.nestGranted x) := by
  unfold State.nestGranted
  split
  · exact s.advances_setToolNest _ (by decide)
  · exact s.advances_fabNests (by simp) id id
  · exact s.advances_fabNests id id (by simp)
  · exact .refl s

theorem State.advances_nestTargeted (s : State) (x : Option Nest) : s.Advances (s.nestTargeted x) := by
  unfold State.nestTargeted
  split
  · exact s.advances_updPort _ ⟨rfl, rfl, rfl, rfl⟩ (by simp)
  · exact s.advances_fabNests id (by simp) id
  · exact s.advances_fabNests id id (by simp)
  · exact .refl s

/-- The handler interface handed a move with its first order (R150). -/
theorem State.advances_handed (s : State) (m : Move) (q : Seq) (idle : s.handler.Sound → s.handler.halt = none) :
    s.Advances ((s.updHandler (fun h => { h with exec := some ⟨some q, none, none, none, 0⟩ })).firstOrder m) := by
  have ordered : ∀ (f : Byte → OutFrame) (n : Nat) (ph : Phase), (∀ b, (f b).isAnswer = false) →
      s.Advances (((s.updHandler (fun h => { h with exec := some ⟨some q, none, none, none, 0⟩ })).order f
        ph.handlerState n).setPhase ph) := by
    intro f n ph unasked
    refine s.advances_ordered (f (s.handler.orderNumber + 1)) (fun h => { h with
      orderNumber := s.handler.orderNumber + 1, numberCurrent := true, state := ph.handlerState, timer := some n
      exec := some ⟨some q, some ph, none, none, 0⟩ }) (unasked _) (fun h => ⟨rfl, idle h⟩) ph.handlerState_ne_idle
      ph.handlerState_ne_halted rfl rfl rfl rfl
  unfold State.firstOrder
  split
  · exact ordered _ _ .scanning (fun _ => rfl)
  · exact ordered _ _ .picking (fun _ => rfl)

@[simp] theorem State.reserve_handler (s : State) (m : Move) : (s.reserve m).handler = s.handler := by
  unfold State.reserve State.reserveTarget State.reserveSource
  grind [State.setSlot_handler]

@[simp] theorem State.nestGranted_handler (s : State) (x : Option Nest) : (s.nestGranted x).handler = s.handler := by
  unfold State.nestGranted; split <;> rfl

@[simp] theorem State.nestTargeted_handler (s : State) (x : Option Nest) : (s.nestTargeted x).handler = s.handler := by
  unfold State.nestTargeted; split <;> rfl

@[simp] theorem State.reserve_tenure (s : State) (m : Move) : (s.reserve m).tenure = s.tenure := by
  unfold State.reserve State.reserveTarget State.reserveSource
  grind [State.setSlot_tenure]

@[simp] theorem State.nestGranted_tenure (s : State) (x : Option Nest) : (s.nestGranted x).tenure = s.tenure := by
  unfold State.nestGranted; split <;> rfl

@[simp] theorem State.nestTargeted_tenure (s : State) (x : Option Nest) : (s.nestTargeted x).tenure = s.tenure := by
  unfold State.nestTargeted; split <;> rfl

theorem State.advances_grant (s : State) (m : Move) (b : Bool) (idle : s.handler.Sound → s.handler.halt = none)
    (count : s.tenure.count ≤ 3 → (tenureAfter s.tenure m b).count ≤ 3) : s.Advances (s.grant m b) := by
  unfold State.grant
  exact (s.advances_updMove _ _).trans <| (State.advances_reserve _ _).trans <|
    (State.advances_nestGranted _ _).trans <| (State.advances_nestTargeted _ _).trans <|
    (State.advances_tenure _ _ (by simpa using count)).trans
    (State.advances_handed _ _ _ (by simpa using idle))

theorem State.advances_sweep (s : State) : s.Advances s.sweep :=
  s.sweep_ind s.Advances (fun t m r _ _ _ h => h.trans (t.advances_withdraw m (some r))) (.refl s)

@[simp] theorem State.sweep_handler (s : State) : s.sweep.handler = s.handler :=
  s.sweep_ind (fun t => t.handler = s.handler) (fun _ _ _ _ _ _ h => by simpa using h) rfl

/-- A move chosen by tenure finds the count below a limit of at most 3 (R133). -/
theorem State.tenure_below_limit {s : State} {m : Move} (h : s.choose = some (m, true)) : s.tenure.count < 3 := by
  unfold State.choose at h
  simp only at h
  split at h
  · simp at h
  · split at h
    · next x byTenure =>
      unfold State.chooseByTenure State.tenurePort at byTenure
      split at byTenure
      · next q tenured =>
        split at tenured
        · next p _ =>
          simp only at tenured
          split at tenured
          · next limit => exact lt_of_lt_of_le limit.2 (by have := (s.port p).settings.tenureLimit.isLt; omega)
          · cases tenured
        · cases tenured
      · cases byTenure
    · obtain ⟨_, _, e⟩ := Option.map_eq_some_iff.mp h
      simp at e

theorem State.tenureAfter_le {s : State} {m : Move} {b : Bool} (h : s.choose = some (m, b)) (_ : s.tenure.count ≤ 3) :
    (tenureAfter s.tenure m b).count ≤ 3 := by
  cases b with
  | true => exact State.tenure_below_limit h
  | false => exact Nat.zero_le 3

theorem State.advances_grantTest (s : State) : s.Advances s.grantTest := by
  rcases s.grantTest_cases with ⟨_, h⟩ | ⟨_, _, _, h⟩ | ⟨idle, _, m, b, chosen, h⟩ <;> rw [h]
  · exact .refl s
  · exact s.advances_sweep
  · refine s.advances_sweep.trans (State.advances_grant _ m b (fun sound => ?_) (State.tenureAfter_le chosen))
    rw [State.sweep_handler] at sound ⊢
    unfold Handler.Sound at sound
    rw [idle] at sound
    exact sound.2.1

/-! ## What follows a change -/

theorem State.advances_askPrestage (s : State) (p : Port) (id : Ident) (k : Fin 2) :
    s.Advances (s.askPrestage p id k) := by
  unfold State.askPrestage
  split
  · exact s.advances_offerPrestage _
  · exact .refl s

theorem State.advances_askDestage (s : State) (p : Port) (k : Nat) (n : Slot) : s.Advances (s.askDestage p k n) := by
  unfold State.askDestage
  split
  · split
    · exact s.advances_offerInward _
    · exact .refl s
  · exact .refl s

theorem State.advances_reviewMove (s : State) (p : Port) (w : List Ident) (m : Move) :
    s.Advances (s.reviewMove p w m) := by
  unfold State.reviewMove
  split
  · split
    · split
      · exact s.advances_withdraw _ _
      · simp only
        split
        · exact .refl s
        · exact s.advances_updMove _ _
    · split
      · exact s.advances_withdraw _ _
      · exact .refl s
    · exact .refl s
  · exact .refl s

theorem State.advances_review (s : State) (p : Port) : s.Advances (s.review p) :=
  State.advances_foldl (fun t m => t.advances_reviewMove p (s.window p) m) s.queue s

/-- Everything that follows a change advances the state. -/
theorem State.advances_settle (b a : State) (t : Touch) : b.Advances (b.settle a t) :=
  State.settle_ind b.Advances
    (fun c _ h => h.trans (c.advances_free _ _ _ _ _ _ _ _ _ _))
    (fun c p h => h.trans (c.advances_review p))
    (fun c p id k h => h.trans (c.advances_askPrestage p id k))
    (fun c p n k h => h.trans (c.advances_askDestage p n k))
    (fun c h => h.trans c.advances_testNoSlot)
    (fun c h => h.trans c.advances_grantTest) a b t (.refl b)

/-! ## Call-ahead lists -/

theorem bufferGet_set (v : Vector (Option (List AheadEntry)) 3) (k b : Fin 3) (x : Option (List AheadEntry)) :
    (v.set k.val x k.isLt).get b = if b = k then x else v.get b := by
  by_cases e : b = k
  · subst e; simp [Vector.get_eq_getElem]
  · have : k.val ≠ b.val := fun q => e (Fin.ext q.symm)
    simp [Vector.get_eq_getElem, this, e]

/-- The state with a port's buffers written, and its record. -/
theorem State.aheadOf_setAhead (s : State) (p q : Port) (a : CallAhead) :
    (s.setAhead p a).aheadOf q = if q = p then a else s.aheadOf q := by
  split
  · next e => rw [e, State.aheadOf_setAhead_same]
  · next e => exact s.aheadOf_setAhead_other e a

theorem State.advances_setAhead (s : State) (p : Port) (a : CallAhead)
    (sound : (s.aheadOf p).Sound → a.Sound)
    (lists : (s.port p).state ≠ .attached → (s.aheadOf p).nextList = none → (s.aheadOf p).activeList = none →
      a.nextList = none ∧ a.activeList = none) : s.Advances (s.setAhead p a) := by
  refine ⟨⟨rfl, id, fun h q => ?_, fun h => ⟨fun q => ?_, h.2⟩, id, id, .of_tx_eq rfl⟩, id, .of_catalogue_eq rfl⟩
  · rw [s.aheadOf_setAhead]
    split
    · exact sound (h p)
    · exact h q
  · obtain ⟨timer, liveness, values, shut⟩ := h.1 q
    refine ⟨timer, liveness, values, fun ne => ?_⟩
    rw [s.aheadOf_setAhead]
    split
    · next e =>
      subst e
      exact lists ne (shut ne).1 (shut ne).2
    · exact shut ne

/-- No list is left by emptying (R84). -/
theorem CallAhead.emptied_lists (a : CallAhead) : a.emptied.nextList = none ∧ a.emptied.activeList = none := by
  simp [CallAhead.emptied, CallAhead.nextList, CallAhead.activeList, bufferGet_set]

theorem CallAhead.Sound.emptied {a : CallAhead} (h : a.Sound) : a.emptied.Sound := by
  obtain ⟨fn, na, fa, fill, lists⟩ := h
  refine ⟨fn, na, fa, ?_, fun b => ?_⟩
  · simp only [CallAhead.emptied, bufferGet_set, if_neg fa, if_neg fn, fill]
  · simp only [CallAhead.emptied, bufferGet_set]
    split
    · rintro _ ⟨⟩
    · split
      · rintro _ ⟨⟩
      · exact lists b

theorem State.advances_emptyLists (s : State) (p : Port) : s.Advances (s.emptyLists p) :=
  s.advances_setAhead p _ CallAhead.Sound.emptied (fun _ _ _ => CallAhead.emptied_lists _)

/-! ## Tool nests -/

theorem State.advances_goodFrame (s : State) (l : ReqLink) : s.Advances (s.goodFrame l) := by
  unfold State.goodFrame
  split
  · next p =>
    split
    · next attached =>
      refine ⟨⟨rfl, id, id, fun h => ⟨fun q => ?_, fun q r => ?_⟩, id, id, .of_tx_eq rfl⟩, fun n => ?_, .of_catalogue_eq rfl⟩
      · have old := h.1 q
        unfold State.PortSound at old ⊢
        rw [s.port_updPort]
        split
        · next e =>
          subst e
          obtain ⟨timer, liveness, values, shut⟩ := old
          refine ⟨?_, liveness, values, fun ne => absurd attached ne⟩
          simpa [attached] using liveness attached
        · exact old
      · have priority : ∀ x, ((s.updPort p (fun r => { r with livenessLeft := r.liveness.map livenessPeriod })).port x).settings
            = (s.port x).settings := fun x => by
          rw [s.port_updPort]
          split
          · next e => rw [e]
          · rfl
        rw [priority, priority]
        exact h.2 q r
      · refine n.of_blocked rfl (fun l => by cases l <;> rfl) id rfl rfl fun b => ?_
        rw [State.anyBlocked_iff] at b ⊢
        refine b.imp (fun ⟨q, hq⟩ => ⟨q, ?_⟩) id
        unfold State.toolNest at hq ⊢
        rw [s.port_updPort] at hq
        split at hq
        · next e => rw [e]; exact hq
        · exact hq
    · exact .refl s
  · exact .refl s

theorem State.advances_raiseUnsanctioned (s : State) (p : Port) (id : Option Ident) (c : Option Nat) :
    s.Advances (s.raiseUnsanctioned p id c) := s.advances_raise _ _

theorem State.advances_takeCompletes (s : State) (p : Port) : s.Advances (s.takeCompletes p) := by
  unfold State.takeCompletes
  split
  · refine .trans (.trans (s.advances_clearNest p) ?_) (State.advances_dueCheck _ _)
    exact State.advances_updRecord _ _ (fun _ => rfl) (fun r => ⟨le_satAdd r.deliveries 1, le_rfl, le_rfl⟩)
  · exact s.advances_clearNest p

theorem State.advances_unsanctionedTake (s : State) (p : Port) : s.Advances (s.unsanctionedTake p) := by
  have cleared := (s.advances_clearNest p).trans
    (State.advances_withdrawWhere _ (fun m => m.kind = .reclaim && m.source = .nest (.t p)) none)
  unfold State.unsanctionedTake
  simp only
  split
  · refine cleared.trans (.trans ?_ (State.advances_raiseUnsanctioned _ _ _ _))
    exact State.advances_updRecord _ _ (fun _ => rfl) (fun r => ⟨le_rfl, le_rfl, le_rfl⟩)
  · exact cleared.trans (State.advances_raiseUnsanctioned _ _ _ _)

theorem State.advances_reclaimNest (s : State) (p : Port) : s.Advances (s.reclaimNest p) := by
  unfold State.reclaimNest
  split
  · exact s.advances_offerInward _
  · exact .refl s

theorem State.advances_lapse (s : State) (p : Port) : s.Advances (s.lapse p) := by
  have lapsed := (s.advances_lapseNest p).trans (State.advances_reclaimNest _ p)
  unfold State.lapse
  simp only
  split
  · exact (lapsed.trans (State.advances_sendTool _ p rfl)).trans (State.advances_raise _ _ _)
  · exact lapsed.trans (State.advances_raise _ _ _)

theorem State.advances_completeReturn (s : State) (p : Port) (id : Ident) (n : Nat) :
    s.Advances (s.completeReturn p id n) := by
  refine .trans (.trans ?_ (State.advances_offerInward _ _)) (State.advances_addLots _ id n)
  exact s.advances_updPort p ⟨rfl, rfl, rfl, rfl⟩ (fun e => e)

theorem State.advances_enterReturned (s : State) (p : Port) : s.Advances (s.enterReturned p) := by
  have returned : s.Advances (s.updPort p (fun r => { r with nest := .returned, lateOpen := false })) :=
    s.advances_updPort p ⟨rfl, rfl, rfl, rfl⟩ (by simp)
  have discarded : ∀ t : State, t.Advances (t.updPort p (fun r => { r with pendingReturn := none })) := fun t =>
    t.advances_updPort p ⟨rfl, rfl, rfl, rfl⟩ (fun e => e)
  unfold State.enterReturned
  simp only
  split
  · split
    · exact returned.trans (State.advances_completeReturn _ _ _ _)
    · exact (returned.trans (discarded _)).trans (State.advances_startWindow _ _ _)
  · exact returned.trans (State.advances_startWindow _ _ _)

theorem State.advances_dropToolWork (s : State) (p : Port) : s.Advances (s.dropToolWork p) :=
  s.advances_withdrawWhere _ _

theorem State.advances_markStandDown (s : State) (p : Port) : s.Advances (s.markStandDown p) := s.advances_queue _ _

theorem State.advances_lapseQuietly (s : State) (p : Port) : s.Advances (s.lapseQuietly p) := by
  unfold State.lapseQuietly
  split
  · exact (s.advances_lapseNest p).trans (State.advances_reclaimNest _ p)
  · exact .refl s

theorem State.advances_placementTest (s : State) (p : Port) (id : Ident) (b : Bool) :
    s.Advances (s.placementTest p id b) := by
  have lapsed := (s.advances_lapseNest p).trans (State.advances_offerInward _ (reclaimOffer p id))
  unfold State.placementTest
  split
  · split
    · exact ((s.advances_setToolNest p (by decide)).trans (State.advances_sendTool _ p rfl)).trans
        (State.advances_startWindow _ p _)
    · simp only
      split
      · exact lapsed.trans (State.advances_sendTool _ p rfl)
      · exact lapsed
  · exact .refl s

theorem State.advances_nestEmptied (s : State) (x : Nest) : s.Advances (s.nestEmptied x) := by
  cases x with
  | t p => exact s.advances_setToolNest p (by decide)
  | bi => exact s.advances_fabNests (by simp) id id
  | bo => exact s.advances_fabNests id (by simp) id
  | inn => exact s.advances_fabNests id id (by simp)

theorem State.advances_nestRestored (s : State) (x : Nest) (k : MoveKind) : s.Advances (s.nestRestored x k) := by
  cases x with
  | t p => exact s.advances_setToolNest p (by split <;> decide)
  | bi => exact s.advances_fabNests (by simp) id id
  | bo => exact .refl s
  | inn => exact s.advances_fabNests id id (by simp)

theorem State.advances_nestOccupied (s : State) (x : Nest) : s.Advances (s.nestOccupied x) := by
  unfold State.nestOccupied
  split
  · split
    · exact s.advances_enterReturned _
    · exact s.advances_setToolNest _ (by decide)
  · split
    · exact s.advances_nestBlocks _ _
    · exact s.advances_fabNests id (by simp) id
  · split
    · exact .trans (s.advances_fabNests (z := .arrived) id id (by simp)) (State.advances_reshelveArrives _)
    · exact s.advances_fabNests id id (by simp)
  · exact .refl s

/-! ## A port shut: its lists emptied in the change that ends its attachment (R53, R54, R55, R84) -/

/-- A port made CLOSED or SILENT, its liveness timer stopped, with its lists emptied. -/
theorem State.advances_shut (s : State) (p : Port) {x : PortState} (shut : x ≠ .attached) :
    s.Advances ((s.updPort p (fun r => { r with state := x, livenessLeft := none })).emptyLists p) := by
  have record : ∀ q, ((s.updPort p (fun r => { r with state := x, livenessLeft := none })).emptyLists p).port q
      = if q = p then { s.port p with state := x, livenessLeft := none } else s.port q :=
    fun q => s.port_updPort p q (fun r => { r with state := x, livenessLeft := none })
  have buffers : ∀ q, ((s.updPort p (fun r => { r with state := x, livenessLeft := none })).emptyLists p).aheadOf q
      = if q = p then (s.aheadOf p).emptied else s.aheadOf q := fun q =>
    (s.updPort p (fun r => { r with state := x, livenessLeft := none })).aheadOf_setAhead p q _
  refine ⟨⟨rfl, id, fun h q => ?_, fun h => ⟨fun q => ?_, fun q r => ?_⟩, id, id, .of_tx_eq rfl⟩, fun n => ?_,
    .of_catalogue_eq rfl⟩
  · rw [buffers]
    split
    · exact (h p).emptied
    · exact h q
  · have old := h.1 q
    unfold State.PortSound at old ⊢
    rw [record, buffers]
    split
    · next e =>
      subst e
      obtain ⟨_, _, values, _⟩ := old
      refine ⟨?_, fun e => absurd e shut, values, fun _ => CallAhead.emptied_lists _⟩
      simpa using shut
    · exact old
  · have settings : ∀ y, (((s.updPort p (fun r => { r with state := x, livenessLeft := none })).emptyLists p).port y).settings
        = (s.port y).settings := fun y => by
      rw [record]
      split
      · next e => rw [e]
      · rfl
    rw [settings, settings]
    exact h.2 q r
  · refine n.of_blocked rfl (fun l => by cases l <;> rfl) id rfl rfl fun b => ?_
    rw [State.anyBlocked_iff] at b ⊢
    refine b.imp (fun ⟨q, hq⟩ => ⟨q, ?_⟩) id
    unfold State.toolNest at hq ⊢
    rw [record] at hq
    split at hq
    · next e => rw [e]; exact hq
    · exact hq

/-- Withdrawals that tell no link do not read the call-ahead buffers. -/
theorem State.withdraw_setAhead (s : State) (m : Move) (p : Port) (a : CallAhead) :
    (s.withdraw m none).setAhead p a = (s.setAhead p a).withdraw m none := by
  unfold State.withdraw
  split <;> rfl

theorem State.dropToolWork_setAhead (s : State) (p : Port) (a : CallAhead) :
    (s.dropToolWork p).setAhead p a = (s.setAhead p a).dropToolWork p := by
  unfold State.dropToolWork State.withdrawWhere
  rw [State.setAhead_queue]
  generalize s.queue.filter _ = ms
  induction ms generalizing s with
  | nil => rfl
  | cons m ms ih => rw [List.foldl_cons, ih, s.withdraw_setAhead m p a]; rfl

theorem State.dropToolWork_ahead (s : State) (p : Port) : (s.dropToolWork p).ahead = s.ahead :=
  s.withdrawWhere_ind (fun t => t.ahead = s.ahead) _ _ (fun t m _ _ _ h => by
    obtain ⟨_, e⟩ := t.withdraw_eq m none
    rw [e, ← h]
    split <;> rfl) rfl

/-- Emptying the lists commutes with withdrawing the tool's work. -/
theorem State.emptyLists_dropToolWork (s : State) (p : Port) :
    (s.dropToolWork p).emptyLists p = (s.emptyLists p).dropToolWork p := by
  unfold State.emptyLists State.updAhead
  rw [show (s.dropToolWork p).aheadOf p = s.aheadOf p by rw [State.aheadOf, s.dropToolWork_ahead, State.aheadOf],
    s.dropToolWork_setAhead]

theorem State.advances_standDown_of_shut (s : State) (p : Port) {x : PortState} (shut : x ≠ .attached) :
    s.Advances ((s.updPort p (fun r => { r with state := x, livenessLeft := none })).standDown p) := by
  unfold State.standDown
  rw [State.emptyLists_dropToolWork]
  exact (((s.advances_shut p shut).trans (State.advances_dropToolWork _ p)).trans (State.advances_markStandDown _ p)).trans
    (State.advances_lapseQuietly _ p)

/-- A raise does not read the call-ahead buffers. -/
theorem State.raise_setAhead (s : State) (k : NoticeKind) (d : Detail) (p : Port) (a : CallAhead) :
    (s.raise k d).setAhead p a = (s.setAhead p a).raise k d := by
  have sendNotice : ∀ (t : State) (l : NoticeLink), (t.sendNotice l).setAhead p a = (t.setAhead p a).sendNotice l := by
    intro t l
    have items : (t.setAhead p a).noticeItems l = t.noticeItems l := by
      unfold State.noticeItems
      refine List.filterMap_congr fun i _ => ?_
      cases l <;> cases i <;> rfl
    unfold State.sendNotice
    rw [items]
    cases l <;> rfl
  have push : ∀ (t : State) (l : NoticeLink), (t.pushNotice l).setAhead p a = (t.setAhead p a).pushNotice l := by
    intro t l
    have same : (t.setAhead p a).noticeSet l = t.noticeSet l := by cases l <;> rfl
    unfold State.pushNotice
    rw [same]
    split
    · exact sendNotice t l
    · rfl
  have on : ∀ (t : State) (l : NoticeLink), (t.raiseOn l k d).setAhead p a = (t.setAhead p a).raiseOn l k d := by
    intro t l
    have same : (t.setAhead p a).noticeSet l = t.noticeSet l := by cases l <;> rfl
    have written : ∀ x, (t.setNoticeSet l x).setAhead p a = (t.setAhead p a).setNoticeSet l x := fun x => by cases l <;> rfl
    unfold State.raiseOn
    simp only [same]
    split
    · exact written _
    · rw [push, written]
  unfold State.raise
  rw [on, on]

theorem State.advances_goSilent (s : State) (p : Port) : s.Advances (s.goSilent p) := by
  unfold State.goSilent State.standDown
  rw [State.emptyLists_dropToolWork]
  have emptied : ∀ (t : State) (k : NoticeKind) (d : Detail), (t.raise k d).emptyLists p = (t.emptyLists p).raise k d := by
    intro t k d
    unfold State.emptyLists State.updAhead
    rw [State.raise_setAhead, State.aheadOf, State.raise_ahead, State.aheadOf]
  rw [emptied]
  exact ((((s.advances_shut p (by decide)).trans (State.advances_raise _ _ _)).trans (State.advances_dropToolWork _ p)).trans
    (State.advances_markStandDown _ p)).trans (State.advances_lapseQuietly _ p)

/-! ## The RESTART taking effect (R55, R112, R142, R168, R193, R214) -/

theorem State.advances_restartQueue (s : State) : s.Advances s.restartQueue :=
  ((s.advances_withdrawWhere _ _).trans (State.advances_withdrawWhere _ _ _)).trans
    (State.advances_tenure _ _ (fun _ => Nat.zero_le 3))

theorem State.advances_restartPort (s : State) (p : Port) : s.Advances (s.restartPort p) := by
  have shut : s.Advances ((s.updPort p (fun r =>
      if r.state = .closed then r else { r with state := .silent, livenessLeft := none })).emptyLists p) := by
    by_cases closed : (s.port p).state = .closed
    · refine .trans ?_ (State.advances_emptyLists _ p)
      refine s.advances_updPort p ?_ ?_ <;> simp only [closed, if_true]
      · exact .refl _
      · exact id
    · have same : s.updPort p (fun r => if r.state = .closed then r else { r with state := .silent, livenessLeft := none })
          = s.updPort p (fun r => { r with state := .silent, livenessLeft := none }) := by
        simp only [State.updPort, if_neg closed]
      rw [same]
      exact s.advances_shut p (by decide)
  unfold State.restartPort
  simp only
  split
  · exact shut.trans (State.advances_lapseNest _ p)
  · exact shut

theorem State.advances_restartCensus (s : State) : s.Advances s.restartCensus := by
  unfold State.restartCensus
  split
  · exact .refl s
  · split
    · exact s.advances_free _ _ _ _ _ _ _ _ _ _
    · exact s.advances_free _ _ _ _ _ _ _ _ _ _

theorem State.advances_clearAnnouncements (s : State) : s.Advances { s with announcements := [] } :=
  ⟨⟨rfl, fun h => ⟨h.1, by simp [State.AnnouncementsSound]⟩, id, id, id, id, .of_tx_eq rfl⟩, id, .of_catalogue_eq rfl⟩

/-- Notice sets written in which every kind is pending whose condition holds, and none is fresh without being pending. -/
theorem State.advances_setNoticeSet (s : State) (l : NoticeLink) (x : NoticeSet)
    (sane : ∀ k, (s.NoticesSound → s.conditionHolds k = true → (x.entry k).pending = true)
      ∧ (s.NoticesSound → (x.entry k).fresh = true → (x.entry k).pending = true)) : s.Advances (s.setNoticeSet l x) := by
  have notices : s.NoticesSound → (s.setNoticeSet l x).NoticesSound := by
    refine fun n => ⟨by simpa using n.1, fun j k => ?_⟩
    have same : (s.setNoticeSet l x).conditionHolds k = s.conditionHolds k := by cases l <;> cases k <;> rfl
    rw [same]
    by_cases e : j = l
    · subst e
      rw [State.noticeSet_setNoticeSet_same]
      exact ⟨(sane k).1 n, (sane k).2 n⟩
    · rw [State.noticeSet_setNoticeSet_other s e]
      exact n.2 j k
  cases l <;> exact ⟨⟨rfl, id, id, id, id, id, .of_tx_eq rfl⟩, notices, .of_catalogue_eq rfl⟩

/-- A NOTICE sent: fresh flags go, pending flags stand (R213). -/
theorem State.advances_sendNotice (s : State) (l : NoticeLink) : s.Advances (s.sendNotice l) := by
  obtain ⟨x, h, _⟩ := s.sendNotice_eq l
  have written (k : NoticeKind) : x.entry k
      = if ((s.noticeSet l).entry k).shown then { (s.noticeSet l).entry k with fresh := false } else (s.noticeSet l).entry k := by
    have e := s.entry_sendNotice l k
    rwa [h, State.noticeSet_setNoticeSet_same] at e
  rw [h]
  refine (s.advances_send _ rfl).trans (State.advances_setNoticeSet _ l x fun k => ?_)
  have before (t : State) (sets : t.noticeSet l = s.noticeSet l) (n : t.NoticesSound) := sets ▸ n.2 l k
  have sets : (s.send (.request (noticeLinkOf l)) (.notice (s.noticeItems l))).noticeSet l = s.noticeSet l := by
    cases l <;> rfl
  rw [written]
  split
  · exact ⟨fun n => (before _ sets n).1, fun _ h => absurd h (by simp)⟩
  · exact ⟨fun n => (before _ sets n).1, fun n => (before _ sets n).2⟩

theorem State.advances_pushNotice (s : State) (l : NoticeLink) : s.Advances (s.pushNotice l) := by
  rcases s.pushNotice_cases l with ⟨_, h⟩ | ⟨_, h⟩ <;> rw [h]
  · exact s.advances_sendNotice l
  · exact .refl s

theorem State.advances_restartNoticesOn (s : State) (l : NoticeLink) : s.Advances (s.restartNoticesOn l) := by
  have written := s.advances_setNoticeSet l ((s.noticeSet l).mapKinds
    fun k e => { e with pending := s.conditionHolds k, fresh := s.conditionHolds k }) fun k => by
      rw [NoticeSet.entry_mapKinds]; exact ⟨fun _ => id, fun _ => id⟩
  unfold State.restartNoticesOn
  simp only
  split
  · exact written.trans (State.advances_pushNotice _ l)
  · exact written

theorem State.advances_admitFresh (s : State) (m : FreshMove) : s.Advances (s.admitFresh m) := by
  cases m with
  | reclaim p => exact s.advances_reclaimNest p
  | collect p id => exact s.advances_offerInward _
  | stockIn => exact s.advances_stockInArrives
  | reshelve => exact s.advances_reshelveArrives

theorem State.advances_freeOrder {α : Type} (xs : List α) (s : State) : s.Advances (freeOrder xs s).2 := by
  obtain ⟨n, h⟩ := freeOrder_state s xs
  rw [h]
  exact s.advances_free _ _ _ _ _ _ _ _ _ _

/-- A handler interface with its RESTART noted or cleared is in its form as before (R168). -/
theorem State.advances_setRestartPending (s : State) (b : Bool) :
    s.Advances (s.updHandler (fun h => { h with restartPending := b })) :=
  s.advances_updHandler _ (fun h => h) rfl rfl (fun h => h)

theorem State.advances_restartEffect (s : State) : s.Advances s.restartEffect := by
  unfold State.restartEffect
  exact s.advances_restartQueue.trans <| (State.advances_noSlotStep _ _ _).trans <|
    (State.advances_foldl State.advances_restartPort _ _).trans <| (State.advances_clearAnnouncements _).trans <|
    (State.advances_restartCensus _).trans <| (State.advances_restartNoticesOn _ .material).trans <|
    (State.advances_restartNoticesOn _ .service).trans <| (State.advances_freeOrder _ _).trans <|
    (State.advances_foldl State.advances_admitFresh _ _).trans (State.advances_setRestartPending _ false)

theorem State.advances_settleHandler (b a : State) : b.Advances (b.settleHandler a) := by
  unfold State.settleHandler
  split
  · exact b.advances_restartEffect.trans (State.advances_settle _ _ _)
  · exact b.advances_settle _ _

end Sys2Proof.Machine
end

section
/-! PROOFS. The count limits are not kept: the first clause supposes nothing of the sequence numbers of the queue, and a grant
writes the move chosen over every entry of its number. -/

namespace Sys2Proof.Machine

/-- A SCAN of shelf 0 that waits under sequence number 0. -/
def scanTwin (r : Requester) : Move where
  seq := 0
  kind := .scan
  requester := r
  beneficiary := none
  reticle := none
  pickTest := .named
  source := .shelf 0
  target := .pos (.shelf 0)
  listPosition := none
  enqueued := 0
  state := .waiting
  diverted := false
  holdOnCompletion := false
  standDown := false

/-- Twenty-four link-originated moves and an internal one under the same number, TBUSY of T1 about to be released, which leads
to a grant test (R126). -/
def twinsWaiting : State :=
  { State.reset with
    queue := List.replicate 24 (scanTwin .material) ++ [scanTwin .internal]
    pins := { State.reset.pins with tbusy := Vector.replicate 6 true }
    pending := [.tbusyReleased 0] }

/-- The number of link-originated moves after a step, if it has a next state. -/
def linkCountAfter (s : State) : Option Nat :=
  match step s with
  | .next t => some (t.linkCount none)
  | _ => none

theorem linkCountAfter_of_step {s t : State} (h : step s = .next t) : linkCountAfter s = some (t.linkCount none) := by
  simp [linkCountAfter, h]

theorem twinsWaiting_within_budget : twinsWaiting.BudgetSound := by
  unfold State.BudgetSound
  decide +kernel

/-- The grant of the first move makes the internal one link-originated. -/
theorem linkCountAfter_twinsWaiting : linkCountAfter twinsWaiting = some 25 := by decide +kernel

/-- Refutes O7: a grant writes the move chosen over all queue entries of its sequence number, so that from a queue with 24
link-originated entries and an internal one of the same number 25 link-originated entries are left. -/
theorem not_stepKeepsCountLimits : ¬ Obligations.StepKeepsCountLimits := by
  rintro ⟨budget, -⟩
  have after := linkCountAfter_twinsWaiting
  match h : step twinsWaiting with
  | .next t =>
    have kept : t.linkCount none ≤ 24 := budget _ t twinsWaiting_within_budget h
    rw [linkCountAfter_of_step h, Option.some_inj] at after
    omega
  | .fault _ => simp [linkCountAfter, h] at after
  | .refused _ => simp [linkCountAfter, h] at after

end Sys2Proof.Machine
end

section
/-! PROOFS. The handler interface's operations on a move, the census unit, the recovery from a halt and the reports of the robot
controller advance the state. -/

namespace Sys2Proof.Machine

/-! ## Halting and the return to IDLE (R146, R147, R161) -/

theorem Handler.Sound.works_of_busy {h : Handler} (sound : h.Sound) (busy : h.busy = true) : h.Works := by
  simp only [Handler.busy, Bool.and_eq_true, Bool.not_eq_true', decide_eq_false_iff_not] at busy
  exact sound.works busy.1 busy.2

/-- A number is current only while the handler interface works on a move (R146). -/
theorem Handler.Sound.works_of_current {h : Handler} (sound : h.Sound) (current : h.numberCurrent = true) : h.Works := by
  unfold Handler.Sound at sound
  split at sound
  · exact absurd current (by simp [sound.2.2.2])
  · exact absurd current (by simp [sound.2.2.2])
  · exact ⟨sound.1, sound.2.1⟩
  · exact ⟨sound.1, sound.2.1⟩

theorem Handler.Sound.works_of_timer {h : Handler} (sound : h.Sound) (timer : h.timer.isSome) : h.Works := by
  unfold Handler.Sound at sound
  split at sound
  · exact absurd timer (by simp [sound.2.2.1])
  · exact absurd timer (by simp [sound.2.2.1])
  · exact ⟨sound.1, sound.2.1⟩
  · exact ⟨sound.1, sound.2.1⟩

/-- The handler interface halted with a move in its execution record, and HALTED raised (R161). -/
theorem State.advances_halted (s : State) (f : Handler → Handler) (d : Detail)
    (sound : s.handler.Sound → (f s.handler).Sound) (pick : (f s.handler).pickTimeout = s.handler.pickTimeout)
    (place : (f s.handler).placeTimeout = s.handler.placeTimeout) : s.Advances ((s.updHandler f).raise .halted d) := by
  have form : s.KeepsForm (s.updHandler f) :=
    ⟨rfl, id, id, id, sound, fun h => by simpa [State.SettingsSound, pick, place] using h, .of_tx_eq rfl⟩
  refine form.raise (.of_catalogue_eq rfl) (fun n => ?_) d
  refine n.of_conditions_but n.1 (fun l => by cases l <;> rfl) fun i ne => ?_
  cases i with
  | halted => exact absurd rfl ne
  | _ => exact id

theorem State.advances_haltAt (s : State) (c : HaltCode) (g : GripperState) (x : Option Position)
    (works : s.handler.Sound → s.handler.exec.isSome) : s.Advances (s.haltAt c g x) :=
  s.advances_halted _ _ (fun h => ⟨works h, rfl, rfl, rfl⟩) rfl rfl

theorem State.advances_halt (s : State) (c : HaltCode) (g : GripperState)
    (works : s.handler.Sound → s.handler.exec.isSome) : s.Advances (s.halt c g) := s.advances_haltAt c g _ works

theorem State.advances_haltWithoutMove (s : State) : s.Advances s.haltWithoutMove :=
  s.advances_halted (fun h => { h with
    exec := some ⟨none, none, none, none, 0⟩, state := .halted, halt := some ⟨.restarted, .loaded⟩, numberCurrent := false
    timer := none }) _ (fun _ => ⟨rfl, rfl, rfl, rfl⟩) rfl rfl

theorem State.advances_handlerIdle (s : State) : s.Advances s.handlerIdle :=
  s.advances_updHandler _ (fun _ => ⟨rfl, rfl, rfl, rfl⟩) rfl rfl (by simp)

/-- A change of the execution record that keeps it (R147). -/
theorem State.advances_updExec (s : State) (f : ExecRecord → ExecRecord) :
    s.Advances (s.updHandler (fun h => { h with exec := h.exec.map f })) := by
  refine s.advances_updHandler _ (fun h => ?_) rfl rfl id
  unfold Handler.Sound at h ⊢
  split at h <;> simp_all

theorem State.advances_setCause (s : State) (c : PutbackCause) : s.Advances (s.setCause c) := s.advances_updExec _

/-- The handler interface withholds PLACE from a DELIVER (R153, R165). -/
theorem State.advances_carrying (s : State) (f : Handler → Handler) (state : (f s.handler).state = .carrying)
    (works : s.handler.Sound → (f s.handler).Works) (timer : (f s.handler).timer.isSome)
    (pick : (f s.handler).pickTimeout = s.handler.pickTimeout)
    (place : (f s.handler).placeTimeout = s.handler.placeTimeout) : s.Advances (s.updHandler f) := by
  refine s.advances_updHandler f (fun h => ?_) pick place (by simp [state])
  obtain ⟨exec, halt⟩ := works h
  unfold Handler.Sound
  rw [state]
  exact ⟨exec, halt, timer⟩

/-! ## The accepted pick (R42, R150, R151) -/

@[simp] theorem State.nestEmptied_handler (s : State) (x : Nest) : (s.nestEmptied x).handler = s.handler := by
  cases x <;> rfl

@[simp] theorem State.freeSource_handler (s : State) (x : Position) : (s.freeSource x).handler = s.handler := by
  cases x <;> simp [State.freeSource]

@[simp] theorem State.robCollect_handler (s : State) (id : Ident) : (s.robCollect id).handler = s.handler := by
  unfold State.robCollect
  split
  · split <;> rfl
  · rfl

@[simp] theorem State.nameMove_handler (s : State) (m : Move) (id : Ident) : (s.nameMove m id).handler = s.handler := by
  unfold State.nameMove
  split <;> simp

@[simp] theorem State.expectAt_handler (s : State) (n : Option Slot) (id : Ident) : (s.expectAt n id).handler = s.handler := by
  unfold State.expectAt
  split
  · split <;> rfl
  · rfl

@[simp] theorem State.acceptPick_handler (s : State) (m : Move) (id : Ident) : (s.acceptPick m id).handler = s.handler := by
  simp [State.acceptPick]

@[simp] theorem State.pickCheck_handler (s : State) (m : Move) (id : Ident) : (s.pickCheck m id).handler = s.handler := by
  unfold State.pickCheck
  split
  · split
    · split
      · rfl
      · split <;> rfl
    · rfl
  · rfl

theorem State.advances_moveTo (s : State) (id : Ident) (x : Location) : s.Advances (s.updRecord id (Rec.moveTo x)) :=
  s.advances_updRecord id (fun _ => rfl) (fun _ => ⟨le_rfl, le_rfl, le_rfl⟩)

theorem State.advances_putIn (s : State) (id : Ident) (n : Slot) : s.Advances (s.updRecord id (Rec.putIn n)) :=
  s.advances_updRecord id (fun _ => rfl) (fun _ => ⟨le_rfl, le_rfl, le_rfl⟩)

theorem State.advances_lose (s : State) (id : Ident) : s.Advances (s.updRecord id Rec.lose) :=
  s.advances_updRecord id (fun _ => rfl) (fun _ => ⟨le_rfl, le_rfl, le_rfl⟩)

theorem State.advances_freeSource (s : State) (x : Position) : s.Advances (s.freeSource x) := by
  cases x with
  | slot n => exact s.advances_setSlot n _
  | nest y => exact s.advances_nestEmptied y
  | shelf _ => exact .refl s

theorem State.advances_robCollect (s : State) (id : Ident) : s.Advances (s.robCollect id) := by
  unfold State.robCollect
  split
  · split
    · exact s.advances_updMove _ _
    · exact .refl s
  · exact .refl s

theorem State.advances_nameMove (s : State) (m : Move) (id : Ident) : s.Advances (s.nameMove m id) := by
  unfold State.nameMove
  split
  · exact .refl s
  · exact ((s.advances_robCollect id).trans (State.advances_updMove _ _ _)).trans (State.advances_bind _ _ _)

theorem State.advances_expectAt (s : State) (n : Option Slot) (id : Ident) : s.Advances (s.expectAt n id) := by
  unfold State.expectAt
  split
  · split
    · exact s.advances_setSlot _ _
    · exact .refl s
  · exact .refl s

theorem State.advances_acceptPick (s : State) (m : Move) (id : Ident) : s.Advances (s.acceptPick m id) :=
  (((s.advances_moveTo id .gripper).trans (State.advances_freeSource _ _)).trans (State.advances_nameMove _ m id)).trans
    (State.advances_expectAt _ _ id)

theorem State.advances_pickCheck (s : State) (m : Move) (id : Ident) : s.Advances (s.pickCheck m id) := by
  unfold State.pickCheck
  split
  · split
    · split
      · exact .refl s
      · split
        · exact ((s.advances_setSlot _ _).trans (State.advances_setSlot _ _ _)).trans (State.advances_updMove _ _ _)
        · exact .refl s
    · exact .refl s
  · exact .refl s

theorem State.advances_carryOn (s : State) (m : Move) (busy : s.handler.busy = true) : s.Advances (s.carryOn m) := by
  unfold State.carryOn
  extract_lets waits
  cases waits with
  | true =>
    refine s.advances_carrying (fun h => { h with
      state := .carrying, timer := some h.placeTimeout, exec := h.exec.map (fun e => { e with phase := some .carrying }) })
      rfl (fun h => ?_) rfl rfl rfl
    obtain ⟨exec, halt⟩ := h.works_of_busy busy
    exact ⟨by simpa using exec, halt⟩
  | false =>
    simp only [Bool.false_eq_true, if_false]
    split
    · exact s.advances_sendPlace _ _ (fun h => h.works_of_busy busy)
    · exact .refl s

theorem State.advances_picks (s : State) (m : Move) (id : Ident) (busy : s.handler.busy = true) :
    s.Advances (s.picks m id) := by
  have accepted := s.advances_acceptPick m id
  unfold State.picks
  simp only
  split
  · exact (accepted.trans (State.advances_pickCheck _ m id)).trans (State.advances_carryOn _ m (by simpa using busy))
  · exact accepted.trans (State.advances_carryOn _ m (by simpa using busy))

theorem State.advances_mismatch (s : State) (m : Move) (busy : s.handler.busy = true) : s.Advances (s.mismatch m) :=
  (s.advances_sendPlace _ _ (fun h => h.works_of_busy busy)).trans (State.advances_setCause _ _)

/-- What a creation at pick decides: a record created is new to the catalogue, which has room (R20, R21). -/
theorem State.createAtPick_create {s : State} {id : Ident} {c : ClassNo} {x : Condition} {held : Bool} {r : Rec}
    (h : s.createAtPick id c x held = .create r) : r.id = id ∧ s.catalogueFull = false := by
  unfold State.createAtPick at h
  split at h
  · cases h
  · next full =>
    cases h
    exact ⟨rfl, by simpa using full⟩

theorem State.judgePick_create {s : State} {m : Move} {read : ReadId} {r : Rec} (h : s.judgePick m read = .create r) :
    s.known r.id = false ∧ s.catalogueFull = false := by
  unfold State.judgePick at h
  split at h
  · cases h
  · next id =>
    split at h
    · split at h <;> cases h
    · unfold State.judgeAnyAtTool at h
      split at h
      · split at h <;> cases h
      · next unknown =>
        obtain ⟨e, room⟩ := State.createAtPick_create h
        exact ⟨by simp [State.known, e, unknown], room⟩
    · split at h <;> cases h
    · unfold State.judgeStockIn at h
      split at h
      · cases h
      · next unknown =>
        have unknown : s.known id = false := by simpa using unknown
        split at h
        · obtain ⟨e, room⟩ := State.createAtPick_create h
          exact ⟨by rw [e, unknown], room⟩
        · split at h
          · obtain ⟨e, room⟩ := State.createAtPick_create h
            exact ⟨by rw [e, unknown], room⟩
          · cases h
    · cases h

theorem State.advances_refuseCreation (s : State) (id : Ident) (x : Position) : s.Advances (s.refuseCreation id x) :=
  s.advances_raise _ _

@[simp] theorem State.refuseCreation_handler (s : State) (id : Ident) (x : Position) :
    (s.refuseCreation id x).handler = s.handler := s.raise_handler _ _

theorem State.advances_takePicked (s : State) (m : Move) (read : ReadId) (busy : s.handler.busy = true) :
    s.Advances (s.takePicked m read) := by
  have stored := s.advances_updExec (fun e => { e with read := some read })
  have busy' : (s.updHandler (fun h => { h with exec := h.exec.map (fun e => { e with read := some read }) })).handler.busy
      = true := busy
  unfold State.takePicked
  simp only
  split
  · exact stored.trans (State.advances_picks _ m _ busy')
  · next r judged =>
    obtain ⟨unknown, room⟩ := State.judgePick_create judged
    refine (stored.trans (State.advances_createRecord _ unknown room)).trans (State.advances_picks _ m _ ?_)
    rw [State.createRecord_handler]; exact busy'
  · exact stored.trans (State.advances_mismatch _ m busy')
  · refine (stored.trans (State.advances_refuseCreation _ _ _)).trans (State.advances_mismatch _ m ?_)
    rw [State.refuseCreation_handler]; exact busy'

/-! ## Ends of a move (R115, R154 to R156) -/

theorem State.advances_releaseTarget (s : State) (t : Target) : s.Advances (s.releaseTarget t) := by
  unfold State.releaseTarget
  split
  · split
    · exact s.advances_setSlot _ _
    · exact .refl s
  · split
    · exact s.advances_nestEmptied _
    · exact .refl s
  · exact .refl s

theorem State.advances_endMove (s : State) (m : Move) : s.Advances (s.endMove m) :=
  ((s.advances_dropMove _).trans (State.advances_handlerIdle _)).trans (State.advances_deferredAdmission _ _)

theorem State.advances_loseExpected (s : State) (m : Move) (read : Option Ident) : s.Advances (s.loseExpected m read) := by
  have lost (x : Option Ident) : s.Advances (match x with
      | some id => s.updRecord id Rec.lose
      | none => s) := by
    split
    · exact s.advances_lose _
    · exact .refl s
  unfold State.loseExpected
  simp only
  generalize (if m.pickTest = .named then m.reticle else none) = expected
  cases read with
  | none => exact lost expected
  | some id =>
    simp only
    split
    · exact lost expected
    · exact (lost expected).trans (State.advances_doubtRecord _ id)

theorem State.advances_faultSource (s : State) (m : Move) (read : Option Ident) : s.Advances (s.faultSource m read) := by
  unfold State.faultSource
  split
  · exact s.advances_setSlot _ _
  · exact s.advances_nestBlocks _ _
  · exact .refl s

theorem State.advances_mismatchEnd (s : State) (m : Move) : s.Advances (s.mismatchEnd m) := by
  unfold State.mismatchEnd
  exact (s.advances_faultSource m _).trans <| (State.advances_releaseTarget _ _).trans <| (State.advances_dropMove _ _).trans <|
    (State.advances_handlerIdle _).trans <| (State.advances_loseExpected _ m _).trans <| (State.advances_tellEnd _ m _).trans <|
    (State.advances_raise _ _ _).trans (State.advances_deferredAdmission _ _)

theorem State.advances_emptySource (s : State) (x : Position) : s.Advances (s.emptySource x) := by
  cases x with
  | slot n => exact s.advances_setSlot n _
  | nest y => exact s.advances_nestEmptied y
  | shelf _ => exact .refl s

theorem State.advances_sourceEmptyEnd (s : State) (m : Move) : s.Advances (s.sourceEmptyEnd m) := by
  unfold State.sourceEmptyEnd
  exact (s.advances_emptySource _).trans <| (State.advances_releaseTarget _ _).trans <| (State.advances_dropMove _ _).trans <|
    (State.advances_handlerIdle _).trans <| (State.advances_loseExpected _ m _).trans <| (State.advances_tellEnd _ m _).trans <|
    (State.advances_raise _ _ _).trans (State.advances_deferredAdmission _ _)

theorem State.advances_placeAt (s : State) (x : Position) (id : Ident) : s.Advances (s.placeAt x id) := by
  unfold State.placeAt
  split
  · exact (s.advances_setSlot _ _).trans (State.advances_putIn _ id _)
  · exact (s.advances_moveTo id (.nest .bo)).trans
      (State.advances_fabNests _ (y := .awayWait) (fun h => h) (by simp) (fun h => h))
  · refine .trans (s.advances_updRecord id (f := fun r => { r with location := .nest .inn, verdictOwed := true })
      (fun _ => rfl) (fun _ => ⟨le_rfl, le_rfl, le_rfl⟩)) ?_
    exact State.advances_fabNests _ (z := .awayWait) (fun h => h) (fun h => h) (by simp)
  · exact s.advances_moveTo id _
  · exact .refl s

/-! ## Call-ahead lists consumed and exchanged (R81 to R83) -/

/-- Entries marked consumed, their identifiers kept. -/
def KeepsIds (f : List AheadEntry → List AheadEntry) : Prop := ∀ es, (f es).map (·.id) = es.map (·.id)

theorem keepsIds_markBefore (id : Ident) : KeepsIds (markBefore id) := by
  intro es
  induction es with
  | nil => rfl
  | cons e es ih =>
    unfold markBefore
    split
    · rfl
    · simp [ih]

theorem keepsIds_markOwn (id : Ident) : KeepsIds (markOwn id) := by
  intro es
  simp only [markOwn, List.map_map]
  refine List.map_congr_left fun e _ => ?_
  simp only [Function.comp_apply]
  split <;> rfl

theorem listSound_map {x : Option (List AheadEntry)} {f : List AheadEntry → List AheadEntry} (h : listSound x)
    (ids : KeepsIds f) : listSound (x.map f) := by
  rintro es e
  obtain ⟨old, hold, rfl⟩ := Option.map_eq_some_iff.mp e
  obtain ⟨length, nodup⟩ := h old hold
  have same : (f old).length = old.length := by simpa using congrArg List.length (ids old)
  exact ⟨by rw [same]; exact length, by rw [ids]; exact nodup⟩

theorem CallAhead.Sound.mapActive {a : CallAhead} (h : a.Sound) {f : List AheadEntry → List AheadEntry} (ids : KeepsIds f) :
    (a.mapActive f).Sound := by
  obtain ⟨fn, na, fa, fill, lists⟩ := h
  refine ⟨fn, na, fa, by simpa only [CallAhead.mapActive, bufferGet_set, if_neg fa] using fill, fun b => ?_⟩
  simp only [CallAhead.mapActive, bufferGet_set]
  split
  · exact listSound_map (lists a.active) ids
  · exact lists b

theorem CallAhead.Sound.exchange {a : CallAhead} (h : a.Sound) : a.exchange.Sound := by
  obtain ⟨fn, na, fa, fill, lists⟩ := h
  refine ⟨fa, na.symm, fn, by simpa only [CallAhead.exchange, bufferGet_set, if_neg fa] using fill, fun b => ?_⟩
  simp only [CallAhead.exchange, bufferGet_set]
  split
  · rintro _ ⟨⟩
  · exact lists b

theorem CallAhead.Sound.exchangeTest {a : CallAhead} (h : a.Sound) : a.exchangeTest.Sound := by
  unfold CallAhead.exchangeTest
  split
  · exact h.exchange
  · exact h

theorem CallAhead.Sound.called {a : CallAhead} (h : a.Sound) (id : Ident) (d : Bool) : (a.called id d).Sound := by
  unfold CallAhead.called
  extract_lets b
  have marked : b.Sound := by
    unfold b
    split
    · exact h.mapActive (keepsIds_markBefore id)
    · split
      · exact h.exchange.mapActive (keepsIds_markBefore id)
      · exact h
  cases d with
  | true => exact (marked.mapActive (keepsIds_markOwn id)).exchangeTest
  | false => exact marked.exchangeTest

theorem CallAhead.Sound.placed {a : CallAhead} (h : a.Sound) (id : Ident) : (a.placed id).Sound :=
  (h.mapActive (keepsIds_markOwn id)).exchangeTest

/-- Neither NEXT nor ACTIVE holds a list, as outside ATTACHED (R84). -/
def CallAhead.Bare (a : CallAhead) : Prop := a.nextList = none ∧ a.activeList = none

theorem CallAhead.Bare.mapActive {a : CallAhead} (h : a.Bare) (f : List AheadEntry → List AheadEntry) :
    (a.mapActive f).Bare := by
  obtain ⟨next, active⟩ := h
  refine ⟨?_, ?_⟩ <;>
    simp only [CallAhead.nextList, CallAhead.activeList, CallAhead.mapActive, bufferGet_set] at next active ⊢
  · split
    · rw [active]; rfl
    · exact next
  · simp [active]

theorem CallAhead.Bare.exchangeTest {a : CallAhead} (h : a.Bare) : a.exchangeTest.Bare := by
  simpa [CallAhead.exchangeTest, CallAhead.usedUp, h.1] using h

theorem CallAhead.Bare.called {a : CallAhead} (h : a.Bare) (id : Ident) (d : Bool) : (a.called id d).Bare := by
  have names : a.names id = false := by simp [CallAhead.names, CallAhead.activeEntries, h.2]
  have namesNext : a.namesNext id = false := by simp [CallAhead.namesNext, h.1]
  simp only [CallAhead.called, names, namesNext, Bool.false_eq_true, if_false]
  cases d with
  | true => exact (h.mapActive _).exchangeTest
  | false => exact h.exchangeTest

theorem CallAhead.Bare.placed {a : CallAhead} (h : a.Bare) (id : Ident) : (a.placed id).Bare := (h.mapActive _).exchangeTest

theorem State.advances_aheadPlaced (s : State) (p : Port) (id : Ident) : s.Advances (s.updAhead p (fun a => a.placed id)) :=
  s.advances_setAhead p _ (fun h => h.placed id) (fun _ next active => CallAhead.Bare.placed ⟨next, active⟩ id)

theorem State.advances_aheadCalled (s : State) (p : Port) (id : Ident) (d : Bool) :
    s.Advances (s.updAhead p (fun a => a.called id d)) :=
  s.advances_setAhead p _ (fun h => h.called id d) (fun _ next active => CallAhead.Bare.called ⟨next, active⟩ id d)

/-! ## Completion and putback (R154, R155, R158, R159) -/

theorem State.advances_delivered (s : State) (m : Move) (id : Ident) : s.Advances (s.delivered m id) := by
  unfold State.delivered
  split
  · exact (s.advances_aheadPlaced _ id).trans (State.advances_placementTest _ _ id _)
  · exact .refl s

theorem State.advances_complete (s : State) (m : Move) : s.Advances (s.complete m) := by
  unfold State.complete
  split
  · next id x _ _ =>
    extract_lets s1 s2 s3
    have placed : s.Advances s2 := by
      refine (s.advances_placeAt x id).trans ?_
      unfold s2
      split
      · exact State.advances_setHeld _ id
      · exact .refl _
    exact placed.trans <| (State.advances_dropMove _ _).trans <| (State.advances_tellEnd _ m _).trans <|
      (State.advances_handlerIdle _).trans <| (State.advances_delivered _ m id).trans (State.advances_deferredAdmission _ _)
  · exact .refl s

theorem State.advances_backAtSource (s : State) (m : Move) : s.Advances (s.backAtSource m) := by
  unfold State.backAtSource
  split
  · exact (s.advances_setSlot _ _).trans (State.advances_putIn _ _ _)
  · simp only
    split
    · exact (s.advances_nestRestored _ _).trans (State.advances_moveTo _ _ _)
    · exact s.advances_nestRestored _ _
  · exact s.advances_nestRestored _ _
  · exact .refl s

theorem State.advances_backToWaiting (s : State) (m : Move) : s.Advances (s.backToWaiting m) := by
  have waiting := (s.advances_updMove m.seq (fun x =>
    { x with state := .waiting, target := if x.kind.isStore then .toSelect else x.target })).trans
    (State.advances_handlerIdle _)
  unfold State.backToWaiting
  simp only
  split
  · exact waiting.trans (State.advances_withdraw _ m none)
  · exact waiting

theorem State.advances_putbackEnds (s : State) (m : Move) (c : PutbackCause) : s.Advances (s.putbackEnds m c) := by
  cases c with
  | mismatch => exact s.advances_mismatchEnd m
  | occupiedNest => exact (s.advances_backAtSource m).trans (State.advances_backToWaiting _ m)
  | occupiedStaging => exact (s.advances_backAtSource m).trans (State.advances_endMove _ m)

theorem State.advances_takePlaced (s : State) (m : Move) : s.Advances (s.takePlaced m) := by
  unfold State.takePlaced
  split
  · exact s.advances_putbackEnds m _
  · exact .refl s
  · exact s.advances_complete m

/-! ## Occupied targets (R157 to R160) -/

theorem State.advances_faultTarget (s : State) (m : Move) : s.Advances (s.faultTarget m) := by
  unfold State.faultTarget
  split
  · exact (s.advances_setSlot _ _).trans (State.advances_raise _ _ _)
  · exact .refl s

@[simp] theorem State.faultTarget_handler (s : State) (m : Move) : (s.faultTarget m).handler = s.handler := by
  unfold State.faultTarget
  split <;> simp

theorem State.advances_putBack (s : State) (m : Move) (c : PutbackCause) (busy : s.handler.busy = true) :
    s.Advances (s.putBack m c) := by
  have source : s.Advances (match m.source.slot? with
      | some n => s.setSlot n (.inbound m.reticle m.seq)
      | none => s) := by
    split
    · exact s.advances_setSlot _ _
    · exact .refl s
  have same : (match m.source.slot? with
      | some n => s.setSlot n (.inbound m.reticle m.seq)
      | none => s).handler = s.handler := by split <;> rfl
  unfold State.putBack
  refine (source.trans (State.advances_sendPlace _ _ _ fun h => ?_)).trans (State.advances_setCause _ c)
  rw [same] at h ⊢
  exact h.works_of_busy busy

theorem State.advances_storeOccupied (s : State) (m : Move) (busy : s.handler.busy = true) :
    s.Advances (s.storeOccupied m) := by
  unfold State.storeOccupied
  extract_lets s1
  have faulted : s.Advances s1 := (s.advances_faultTarget m).trans (State.advances_updMove _ _ _)
  have same : s1.handler = s.handler := s.faultTarget_handler m
  have works : s1.handler.Sound → s1.handler.Works := fun h => by
    rw [same] at h ⊢
    exact h.works_of_busy busy
  split
  · split
    · next k _ =>
      have retargeted := ((s1.advances_setSlot (ofStorage k) (.inbound m.reticle m.seq)).trans
        (State.advances_updMove _ m.seq (fun x => { x with target := .pos (storagePosition k) }))).trans
        (State.advances_updExec _ (fun e => { e with retargets := 1 }))
      refine faulted.trans (retargeted.trans (State.advances_sendPlace _ _ _ fun h => h.works_of_busy ?_))
      change s1.handler.busy = true
      rw [same]; exact busy
    · exact faulted.trans (s1.advances_haltAt _ _ _ (fun h => (works h).1))
  · exact faulted.trans (s1.advances_haltAt _ _ _ (fun h => (works h).1))

/-! ### What leaves the handler interface as it is -/

@[simp] theorem State.reclaimIfUnfit_handler (s : State) (id : Ident) : (s.reclaimIfUnfit id).handler = s.handler := by
  rcases s.reclaimIfUnfit_cases id with h | ⟨r, p, _, _, _, _, h⟩ <;> rw [h]
  simp

@[simp] theorem State.makeDue_handler (s : State) (id : Ident) : (s.makeDue id).handler = s.handler := by
  unfold State.makeDue
  simp

theorem State.foldl_handler {α : Type} {step : State → α → State} (h : ∀ t x, (step t x).handler = t.handler) (xs : List α)
    (s : State) : (xs.foldl step s).handler = s.handler := by
  induction xs generalizing s with
  | nil => rfl
  | cons x xs ih => rw [List.foldl_cons, ih, h]

@[simp] theorem State.dueCheck_handler (s : State) (f : Rec → Bool) : (s.dueCheck f).handler = s.handler := by
  rcases s.dueCheck_cases f with ⟨_, h⟩ | ⟨r, _, h⟩ | ⟨_, h⟩ <;> rw [h]
  · simp
  · rw [State.raise_handler, State.foldl_handler (step := fun t (r : Rec) => t.makeDue r.id) (fun t r => t.makeDue_handler r.id)]

@[simp] theorem State.addLots_handler (s : State) (id : Ident) (n : Nat) : (s.addLots id n).handler = s.handler := by
  simp [State.addLots]

@[simp] theorem State.completeReturn_handler (s : State) (p : Port) (id : Ident) (n : Nat) :
    (s.completeReturn p id n).handler = s.handler := by
  simp [State.completeReturn]

@[simp] theorem State.startWindow_handler (s : State) (p : Port) (x : WindowUse) : (s.startWindow p x).handler = s.handler := rfl

@[simp] theorem State.enterReturned_handler (s : State) (p : Port) : (s.enterReturned p).handler = s.handler := by
  unfold State.enterReturned
  simp only
  split
  · split
    · simp
    · rfl
  · rfl

@[simp] theorem State.nestBlocks_handler (s : State) (x : Nest) (id : Option Ident) : (s.nestBlocks x id).handler = s.handler := by
  unfold State.nestBlocks
  cases x <;> simp

@[simp] theorem State.stockInArrives_handler (s : State) : s.stockInArrives.handler = s.handler := by
  unfold State.stockInArrives
  split <;> simp

@[simp] theorem State.reshelveArrives_handler (s : State) : s.reshelveArrives.handler = s.handler := by
  unfold State.reshelveArrives
  split <;> simp

@[simp] theorem State.nestOccupied_handler (s : State) (x : Nest) : (s.nestOccupied x).handler = s.handler := by
  unfold State.nestOccupied
  split
  · split <;> simp
  · split <;> simp
  · split <;> simp
  · rfl

theorem State.advances_takeOccupied (s : State) (m : Move) (busy : s.handler.busy = true) : s.Advances (s.takeOccupied m) := by
  unfold State.takeOccupied
  split
  · exact s.advances_storeOccupied m busy
  · split
    · exact (s.advances_faultTarget m).trans (State.advances_putBack _ m _ (by simpa using busy))
    · split
      · exact (s.advances_nestOccupied _).trans (State.advances_putBack _ m _ (by simpa using busy))
      · exact .refl s

theorem State.advances_takeOccupiedReport (s : State) (m : Move) (busy : s.handler.busy = true) :
    s.Advances (s.takeOccupiedReport m) := by
  unfold State.takeOccupiedReport
  split
  · exact s.advances_halt _ _ (fun h => (h.works_of_busy busy).1)
  · exact s.advances_takeOccupied m busy

/-! ## The census unit and a scan's results (R194 to R202) -/

theorem State.advances_updCensus (s : State) (f : Census → Census) : s.Advances (s.updCensus f) :=
  s.advances_free _ _ _ _ _ _ _ _ _ _

theorem State.advances_countTally (s : State) (f : Tally → Tally) : s.Advances (s.countTally f) := s.advances_updCensus _

theorem State.advances_censusEnds (s : State) : s.Advances s.censusEnds := s.advances_free _ _ _ _ _ _ _ _ _ _

theorem State.advances_offerScan (s : State) (n : Shelf) : s.Advances (s.offerScan n) :=
  (s.advances_updCensus _).trans (State.advances_enter _ _ _ _)

theorem State.advances_startCensus (s : State) (x y : Shelf) : s.Advances (s.startCensus x y) :=
  (s.advances_updCensus _).trans (State.advances_offerScan _ y)

theorem State.advances_stopCensus (s : State) : s.Advances s.stopCensus :=
  (s.advances_withdrawWhere _ _).trans (State.advances_censusEnds _)

theorem State.advances_censusMovesOn (s : State) (n : Shelf) : s.Advances (s.censusMovesOn n) := by
  unfold State.censusMovesOn
  split
  · split
    · exact s.advances_offerScan _
    · exact s.advances_censusEnds.trans (State.advances_raise _ _ _)
  · exact .refl s
  · exact s.advances_censusEnds

theorem State.advances_scanFaults (s : State) (n : Slot) (found : Option Ident) : s.Advances (s.scanFaults n found) :=
  ((s.advances_setSlot _ _).trans (State.advances_countTally _ _)).trans (State.advances_updCensus _ _)

theorem State.advances_relocate (s : State) (n : Slot) (id : Ident) : s.Advances (s.relocate n id) := by
  refine (s.advances_setSlot n (.filled id)).trans ?_
  exact State.advances_updRecord _ id (fun _ => rfl) (fun _ => ⟨le_rfl, le_rfl, le_rfl⟩)

theorem State.advances_createAt (s : State) (n : Slot) (id : Ident) (c : ClassNo) (unknown : s.known id = false)
    (room : s.catalogueFull = false) : s.Advances (s.createAt n id c) := by
  refine .trans ?_ (State.advances_setSlot _ n _)
  exact s.advances_createRecord unknown room

theorem State.advances_doubt (s : State) (id : Ident) : s.Advances (s.updRecord id Rec.doubt) :=
  s.advances_updRecord id (fun _ => rfl) (fun _ => ⟨le_rfl, le_rfl, le_rfl⟩)

theorem ScanFold.advances_found (f : ScanFold) (n : Slot) (id : Ident) : f.state.Advances (f.found n id).state := by
  unfold ScanFold.found
  split
  · next unknown =>
    split
    · exact f.state.advances_scanFaults n _
    · next full =>
      exact (f.state.advances_createAt n id 0 (by simp [State.known, unknown]) (by simpa using full)).trans
        ((f.state.createAt n id 0).advances_countTally (fun t => { t with created := t.created + 1 }))
  · split
    · exact (f.state.advances_relocate n id).trans
        ((f.state.relocate n id).advances_countTally (fun t => { t with relocated := t.relocated + 1 }))
    · exact (f.state.advances_scanFaults n _).trans (State.advances_doubt _ id)

theorem ScanFold.advances_bare (f : ScanFold) (n : Slot) (r : ScanResult) : f.state.Advances (f.bare n r).state := by
  cases r with
  | empty => exact f.state.advances_setSlot n _
  | ident id => exact f.advances_found n id
  | unreadable => exact f.state.advances_scanFaults n _

theorem ScanFold.advances_loses (f : ScanFold) (n : Slot) (id : Ident) (x : Option Ident) :
    f.state.Advances (f.loses n id x).state :=
  (f.state.advances_scanFaults n x).trans (State.advances_lose _ id)

theorem ScanFold.advances_held (f : ScanFold) (n : Slot) (id : Ident) (r : ScanResult) :
    f.state.Advances (f.held n id r).state := by
  cases r with
  | empty => exact f.advances_loses n id _
  | unreadable => exact f.advances_loses n id _
  | ident x =>
    unfold ScanFold.held
    simp only
    split
    · exact f.state.advances_updRecord id (f := fun r => { Rec.putIn n r with suspect := false })
        (fun _ => rfl) (fun _ => ⟨le_rfl, le_rfl, le_rfl⟩)
    · exact (f.advances_loses n id _).trans (State.advances_doubt _ x)

theorem ScanFold.advances_apply (f : ScanFold) (n : Slot) (r : ScanResult) : f.state.Advances (f.apply n r).state := by
  unfold ScanFold.apply
  split
  · exact f.advances_held n _ _
  · exact .refl _
  · exact .refl _
  · exact f.advances_bare n _

theorem State.advances_scanFold (s : State) (n : Shelf) (results : Vector ScanResult 8) :
    s.Advances (s.scanFold n results).state := by
  have fold (ks : List (Fin 8)) (f : ScanFold) :
      f.state.Advances (ks.foldl (fun f k => f.apply (shelfSlot n k) (results.get k)) f).state := by
    induction ks generalizing f with
    | nil => exact .refl _
    | cons k ks ih => exact (f.advances_apply _ _).trans (ih _)
  exact fold eightPlaces ⟨s, none, none, none, [], []⟩

theorem State.advances_withdrawLost (s : State) (id : Ident) : s.Advances (s.withdrawLost id) := by
  unfold State.withdrawLost
  split
  · split
    · exact s.advances_withdraw _ _
    · exact .refl s
  · exact .refl s

theorem State.advances_raiseIf (s : State) (k : NoticeKind) (d : Option Detail) : s.Advances (s.raiseIf k d) := by
  cases d with
  | none => exact .refl s
  | some d => exact s.advances_raise k d

theorem State.advances_takeScanned (s : State) (m : Move) (results : Vector ScanResult 8) :
    s.Advances (s.takeScanned m results) := by
  unfold State.takeScanned
  split
  · next n _ =>
    exact (s.advances_scanFold n results).trans <| (State.advances_dropMove _ _).trans <| (State.advances_handlerIdle _).trans <|
      (State.advances_raiseIf _ _ _).trans <| (State.advances_raiseIf _ _ _).trans <| (State.advances_raiseIf _ _ _).trans <|
      (State.advances_countTally _ _).trans <| (State.advances_censusMovesOn _ n).trans <|
      (State.advances_foldl State.advances_withdrawLost _ _).trans (State.advances_foldl State.advances_reclaimIfUnfit _ _)
  · exact .refl s

theorem State.advances_scanSkipped (s : State) (n : Shelf) : s.Advances (s.scanSkipped n) := by
  unfold State.scanSkipped
  split
  · exact (s.advances_countTally _).trans (State.advances_censusMovesOn _ n)
  · exact s.advances_censusEnds

theorem State.advances_scanPutBack (s : State) (m : Move) : s.Advances (s.scanPutBack m) := by
  have waiting := (s.advances_updMove m.seq (fun x => { x with state := .waiting })).trans (State.advances_handlerIdle _)
  unfold State.scanPutBack
  simp only
  split
  · exact waiting
  · exact waiting.trans (State.advances_withdraw _ m none)

/-! ## Reports taken (R146, R149, R161, R162) -/

/-- A report that carries an order number advances the state, when what it does in the states that expect it does. -/
theorem State.advances_takeReport (s : State) (number : Byte) (expects : List HandlerState) (f : State → Move → State)
    (busy : ∀ x ∈ expects, x ≠ .idle ∧ x ≠ .halted) (h : ∀ m, s.handler.busy = true → s.Advances (f s m)) :
    s.Advances (s.takeReport number expects f) := by
  unfold State.takeReport
  split
  · next current =>
    split
    · next expected =>
      split
      · exact (h _ (by simpa [Handler.busy] using busy _ expected)).trans (State.advances_settleHandler _ _)
      · exact .refl s
    · refine (s.advances_halt _ _ fun sound => (sound.works_of_current ?_).1).trans (State.advances_settleHandler _ _)
      unfold Handler.current at current
      split at current
      · cases current
      · cases current
      · split at current
        · assumption
        · cases current
  · exact .refl s

theorem State.advances_takeRestarted (s : State) (loaded : Bool) : s.Advances (s.takeRestarted loaded) := by
  unfold State.takeRestarted
  split
  · split
    · exact s.advances_haltWithoutMove
    · exact .refl s
  · next halted =>
    refine s.advances_updHandler _ (fun h => ?_) rfl rfl id
    unfold Handler.Sound at h ⊢
    rw [halted] at h ⊢
    simpa using h
  · next idle halted =>
    exact s.advances_halt _ _ (fun h => (h.works idle halted).1)

/-! ## Recovery (R165 to R168) -/

/-- An order sent as a halt is resumed, its record discarded (R165). -/
theorem State.advances_orderAgain (s : State) (f : Byte → OutFrame) (n : Nat) (ph : Phase)
    (unasked : ∀ b, (f b).isAnswer = false) (works : s.handler.Sound → s.handler.exec.isSome) :
    s.Advances ((s.clearHalt.order f ph.handlerState n).setPhase ph) :=
  s.advances_ordered (f (s.handler.orderNumber + 1)) (fun h => { h with
      halt := none, orderNumber := s.handler.orderNumber + 1, numberCurrent := true, state := ph.handlerState, timer := some n
      exec := h.exec.map (fun e => { e with phase := some ph }) }) (unasked _)
    (fun h => ⟨by simpa using works h, rfl⟩) ph.handlerState_ne_idle ph.handlerState_ne_halted rfl rfl rfl rfl

theorem State.advances_resumed (s : State) {m : Move} {ph : Phase} {z : State} (h : s.clearHalt.resumed m ph = some z)
    (works : s.handler.Sound → s.handler.exec.isSome) : s.Advances z := by
  unfold State.resumed at h
  cases ph with
  | picking => cases h; exact s.advances_orderAgain _ _ .picking (fun _ => rfl) works
  | placing =>
    obtain ⟨x, _, rfl⟩ := Option.map_eq_some_iff.mp h
    exact s.advances_orderAgain _ _ .placing (fun _ => rfl) works
  | putback => cases h; exact s.advances_orderAgain _ _ .putback (fun _ => rfl) works
  | carrying =>
    obtain ⟨x, _, rfl⟩ := Option.map_eq_some_iff.mp h
    unfold State.resumeCarrying
    split
    · exact s.advances_carrying (fun h => { h with
        halt := none, state := .carrying, timer := some h.placeTimeout
        exec := h.exec.map (fun e => { e with phase := some .carrying }) }) rfl
        (fun h => ⟨by simpa using works h, rfl⟩) rfl rfl rfl
    · exact s.advances_orderAgain _ _ .placing (fun _ => rfl) works
  | scanning =>
    simp only at h
    split at h
    · cases h; exact s.advances_orderAgain _ _ .scanning (fun _ => rfl) works
    · cases h

theorem State.advances_resolvedAtTarget (s : State) (m : Move) (ph : Phase) (id : Ident) :
    s.Advances (s.resolvedAtTarget m ph id) := by
  unfold State.resolvedAtTarget
  simp only
  split
  · exact (s.advances_acceptPick m id).trans (State.advances_complete _ m)
  · exact s.advances_complete m

theorem State.advances_resolvedAtSource (s : State) (m : Move) (ph : Phase) (c : Option PutbackCause) :
    s.Advances (s.resolvedAtSource m ph c) := by
  unfold State.resolvedAtSource
  split
  · exact s.advances_scanPutBack m
  · exact s.advances_putbackEnds m _
  · exact ((s.advances_backAtSource m).trans (State.advances_releaseTarget _ _)).trans (State.advances_backToWaiting _ m)

theorem State.advances_removedSource (s : State) (x : Position) (b : Bool) (read : Option Ident) :
    s.Advances (s.removedSource x b read) := by
  unfold State.removedSource
  split
  · split
    · exact s.advances_setSlot _ _
    · exact s.advances_setSlot _ _
  · split
    · exact .refl s
    · split
      · exact s.advances_nestBlocks _ _
      · exact s.advances_nestEmptied _
  · exact .refl s

theorem State.advances_removedRecords (s : State) (m : Move) (read : Option Ident) : s.Advances (s.removedRecords m read) := by
  have lost : s.Advances (match m.reticle with
      | some id => s.updRecord id Rec.lose
      | none => s) := by
    split
    · exact s.advances_lose _
    · exact .refl s
  unfold State.removedRecords
  simp only
  cases read with
  | none => exact lost
  | some id =>
    simp only
    split
    · exact lost
    · exact lost.trans (State.advances_doubtRecord _ id)

theorem State.advances_resolvedRemoved (s : State) (m : Move) (e : ExecRecord) : s.Advances (s.resolvedRemoved m e) := by
  unfold State.resolvedRemoved
  split
  · exact ((s.advances_dropMove _).trans (State.advances_handlerIdle _)).trans (State.advances_scanSkipped _ _)
  · exact (s.advances_removedSource _ _ _).trans <| (State.advances_releaseTarget _ _).trans <| (State.advances_dropMove _ _).trans <|
      (State.advances_handlerIdle _).trans <| (State.advances_removedRecords _ m _).trans <|
      (State.advances_tellEnd _ m _).trans (State.advances_deferredAdmission _ _)

end Sys2Proof.Machine
end

section
/-! PROOFS. Every command: what each request makes of the state, and what the other commands do, told by one shape for all of
them. -/

namespace Sys2Proof.Machine

/-! ## Replies -/

/-- The state a reply leaves before what follows it. -/
def Reply.core : Reply → State
  | .quiet s _ _ => s
  | .change s _ _ _ => s
  | .handler s _ => s

/-- The state a request has left when its answer is handed over. -/
def Reply.outcome (r : Reply) (a : State) : State :=
  match r with
  | .quiet s _ _ => s
  | .change s t _ _ => s.settle a t
  | .handler s _ => s.settleHandler a

theorem Reply.finish_eq (r : Reply) (a : State) (l : ReqLink) (tag kind : Byte) :
    ∃ code fields, r.finish a l tag kind = (r.outcome a).answer l tag kind code fields := by
  cases r <;> exact ⟨_, _, rfl⟩

theorem Reply.advances_outcome (r : Reply) (a : State) : r.core.Advances (r.outcome a) := by
  cases r with
  | quiet s _ _ => exact .refl s
  | change s t _ _ => exact s.advances_settle a t
  | handler s _ => exact s.advances_settleHandler a

/-- A request ends in an answer on its link, in the state its owner's reply leaves; a refusal of the link interface leaves the
state as the good frame made it. -/
theorem State.request_ends {α β : Type} {s : State} {l : ReqLink} {tag : Byte} {k : FrameKind} {place : Option β}
    {body : Option α} {owner : State → β → α → Reply} {P : State → Prop} (refused : P (s.goodFrame l))
    (owned : ∀ b x, place = some b → body = some x → P ((owner (s.goodFrame l) b x).outcome (s.goodFrame l))) :
    ∃ u code fields, s.request l tag k place body owner = u.answer l tag k.byte code fields ∧ P u := by
  unfold State.request
  simp only
  split
  · exact ⟨_, _, _, rfl, refused⟩
  · exact ⟨_, _, _, rfl, refused⟩
  · next b x =>
    obtain ⟨code, fields, h⟩ := (owner (s.goodFrame l) b x).finish_eq (s.goodFrame l) l tag k.byte
    exact ⟨_, code, fields, h, owned b x rfl rfl⟩

/-- A reply whose own change advances the state. -/
def Reply.Advances (r : Reply) (a : State) : Prop := a.Advances r.core

theorem State.request_advances {α β : Type} (s : State) (l : ReqLink) (tag : Byte) (k : FrameKind) (place : Option β)
    (body : Option α) {owner : State → β → α → Reply} (h : ∀ a b x, (owner a b x).Advances a) :
    ∃ u code fields, s.request l tag k place body owner = u.answer l tag k.byte code fields ∧ s.Advances u :=
  State.request_ends (s.advances_goodFrame l) fun b x _ _ =>
    (s.advances_goodFrame l).trans ((h _ b x).trans (Reply.advances_outcome _ _))

/-! ## Tool requests (chapters 3 and 4) -/

theorem clampBetween_sound {lo hi : Nat} (h : lo ≤ hi) (n : Nat) : lo ≤ clampBetween lo hi n ∧ clampBetween lo hi n ≤ hi := by
  unfold clampBetween
  constructor <;> omega

theorem clampFactor_sound (n : Nat) : 1 ≤ clampFactor n ∧ clampFactor n ≤ 255 := clampBetween_sound (by decide) n

theorem livenessOf_sound (b : HelloBody) : (livenessOf b).Sound :=
  ⟨(clampFactor_sound b.f1).1, (clampFactor_sound b.f1).2, (clampFactor_sound b.f2).1, (clampFactor_sound b.f2).2⟩

/-- A port record written with liveness values and ATTACHED (R51, R52). -/
theorem State.advances_attachRecord (s : State) (p : Port) {f : PortRec → PortRec} (v : Liveness) (sound : v.Sound)
    (state : (f (s.port p)).state = .attached) (liveness : (f (s.port p)).liveness = some v)
    (left : (f (s.port p)).livenessLeft.isSome) (settings : (f (s.port p)).settings = (s.port p).settings)
    (nest : (f (s.port p)).nest = (s.port p).nest) : s.Advances (s.updPort p f) := by
  refine ⟨⟨rfl, id, id, fun h => ⟨fun q => ?_, fun q r => ?_⟩, id, id, .of_tx_eq rfl⟩, fun n => ?_, .of_catalogue_eq rfl⟩
  · have old := h.1 q
    unfold State.PortSound at old ⊢
    rw [s.port_updPort]
    split
    · refine ⟨by simpa [state] using left, fun _ => by rw [liveness]; rfl, fun x hx => ?_, fun ne => absurd state ne⟩
      rw [liveness] at hx
      cases hx
      exact sound
    · exact old
  · have same : ∀ x, ((s.updPort p f).port x).settings = (s.port x).settings := fun x => by
      rw [s.port_updPort]
      split
      · next e => rw [e, settings]
      · rfl
    rw [same, same]
    exact h.2 q r
  · refine n.of_blocked rfl (fun l => by cases l <;> rfl) id rfl rfl fun b => ?_
    rw [State.anyBlocked_iff] at b ⊢
    refine b.imp (fun ⟨q, hq⟩ => ⟨q, ?_⟩) id
    unfold State.toolNest at hq ⊢
    rw [s.port_updPort] at hq
    split at hq
    · next e => rw [e, ← nest]; exact hq
    · exact hq

theorem State.advances_attach (s : State) (p : Port) (b : HelloBody) : s.Advances (s.attach p b) :=
  (s.advances_attachRecord p _ (livenessOf_sound b) rfl rfl rfl rfl rfl).trans (State.advances_raise _ _ _)

theorem State.advances_rehello (s : State) (p : Port) (b : HelloBody) (attached : (s.port p).state = .attached) :
    s.Advances (s.rehello p b) := by
  have renewed : s.Advances (s.updPort p (PortRec.withLiveness (livenessOf b))) :=
    s.advances_attachRecord p _ (livenessOf_sound b) attached rfl rfl rfl rfl
  unfold State.rehello
  simp only
  split
  · exact renewed
  · exact renewed.trans <| (State.advances_updPort _ p ⟨rfl, rfl, rfl, rfl⟩ (fun e => e)).trans <|
      (State.advances_emptyLists _ p).trans <| (State.advances_dropToolWork _ p).trans (State.advances_raise _ _ _)

theorem advances_replyHello (s : State) (p : Port) (b : HelloBody) : (replyHello s p b).Advances s := by
  unfold replyHello
  split
  · split
    · exact .refl s
    · exact s.advances_attach p b
    · next attached => exact s.advances_rehello p b attached
  · exact .refl s

theorem State.advances_takeAside (s : State) (c : Claim) (r : Option Reason) : s.Advances (s.takeAside c r) := by
  unfold State.takeAside
  split
  · exact s.advances_withdraw _ _
  · exact .refl s

theorem State.advances_holdOffered (s : State) (o : Offer) : s.Advances (s.holdOffered o) := by
  unfold State.holdOffered
  split
  · exact s.advances_setHeld _
  · exact .refl s

theorem State.advances_offerLink (s : State) (o : Offer) (c : Claim) (r : Option Reason) :
    s.Advances (s.offerLink o c r).state := by
  unfold State.offerLink
  split
  · exact (s.advances_takeAside c r).trans (State.advances_enter _ _ _ _)
  · next n _ =>
    have hit := s.advances_countHit n o
    simp only
    split
    · exact hit.trans ((State.advances_takeAside _ c r).trans (State.advances_enter _ _ _ _))
    · exact hit.trans (State.advances_holdOffered _ o)
    · split
      · exact hit
      · exact hit.trans ((State.advances_takeAside _ c r).trans (State.advances_enter _ _ _ _))

theorem State.advances_reportCall (s : State) (p : Port) (id : Ident) (c : AnswerCode) :
    s.Advances (s.reportCall p id c) := by
  unfold State.reportCall
  split
  · exact s.advances_aheadCalled p id _
  · exact .refl s

theorem advances_replyCall (s : State) (p : Port) (id : Ident) : (replyCall s p id).Advances s := by
  unfold replyCall
  split
  · exact .refl s
  · split
    · exact .refl s
    · split
      · exact .refl s
      · split
        · exact .refl s
        · simp only
          split
          · exact .refl s
          · exact (s.advances_offerLink _ _ none).trans (State.advances_reportCall _ p id _)

theorem advances_replyCancel (s : State) (p : Port) (id : Ident) : (replyCancel s p id).Advances s := by
  unfold replyCancel
  split
  · exact .refl s
  · split
    · exact .refl s
    · split
      · split
        · exact s.advances_withdraw _ none
        · exact s.advances_updMove _ _
      · split
        · split
          · exact .refl s
          · exact s.advances_lapseQuietly p
        · exact .refl s

/-- Repeats dropped: no identifier twice, and no more identifiers than were given (R80). -/
theorem dropRepeats_form (ids : List Ident) : (dropRepeats ids).Nodup ∧ (dropRepeats ids).length ≤ ids.length := by
  have fold (xs kept : List Ident) (h : kept.Nodup) :
      (xs.foldl (fun kept id => if kept.contains id then kept else kept ++ [id]) kept).Nodup
      ∧ (xs.foldl (fun kept id => if kept.contains id then kept else kept ++ [id]) kept).length
          ≤ kept.length + xs.length := by
    induction xs generalizing kept with
    | nil => exact ⟨h, by simp⟩
    | cons x xs ih =>
      simp only [List.foldl_cons]
      split
      · obtain ⟨nodup, length⟩ := ih kept h
        exact ⟨nodup, length.trans (by simp)⟩
      · next new =>
        have fresh : (kept ++ [x]).Nodup := by
          simp only [List.contains_eq_mem, decide_eq_true_eq] at new
          simpa [List.nodup_append, h] using fun y hy (e : y = x) => new (e ▸ hy)
        obtain ⟨nodup, length⟩ := ih _ fresh
        exact ⟨nodup, length.trans (by simp; omega)⟩
  simpa [dropRepeats] using fold ids [] List.nodup_nil

theorem CallAhead.Sound.taken {a : CallAhead} (h : a.Sound) (now : Bool) (ids : List Ident)
    (length : ids.length ≤ Config.aheadCapacity) : (a.taken now ids).Sound := by
  obtain ⟨fn, na, fa, fill, lists⟩ := h
  obtain ⟨nodup, short⟩ := dropRepeats_form ids
  have swapped : (a.fillSwap (dropRepeats ids)).Sound := by
    refine ⟨fn.symm, fa, na, by simp [CallAhead.fillSwap, bufferGet_set], fun b => ?_⟩
    simp only [CallAhead.fillSwap, bufferGet_set]
    split
    · rintro _ ⟨⟩
    · split
      · rintro es ⟨⟩
        exact ⟨by simpa using short.trans length, by simpa [Function.comp_def] using nodup⟩
      · exact lists b
  unfold CallAhead.taken
  cases now with
  | true => exact swapped.exchange
  | false => exact swapped.exchangeTest

theorem advances_replyAhead (s : State) (p : Port) (b : AheadBody) : (replyAhead s p b).Advances s := by
  unfold replyAhead
  split
  · exact .refl s
  · split
    · exact .refl s
    · next attached =>
      split
      · exact .refl s
      · next short =>
        exact s.advances_setAhead p _ (fun h => h.taken b.replaceNow b.ids (not_lt.mp short))
          (fun ne => absurd ne attached)

theorem advances_replyReturn (s : State) (p : Port) (b : ReturnBody) : (replyReturn s p b).Advances s := by
  unfold replyReturn
  split
  · exact .refl s
  · split
    · exact .refl s
    · split
      · unfold changed Reply.Advances Reply.core State.lateLots
        simp only
        split
        · exact s.advances_addLots _ _
        · exact .refl s
      · split
        · unfold changed Reply.Advances Reply.core State.acceptReturn
          simp only
          split
          · exact s.advances_completeReturn _ _ _
          · exact s.advances_updPort p ⟨rfl, rfl, rfl, rfl⟩ (fun e => e)
        · exact .refl s

/-! ## Material requests (chapter 5) -/

theorem State.announcements_entry {s : State} {id : Ident} (h : s.announcedAt id = none) :
    id ∉ s.announcements.map (·.id) := by
  rintro listed
  obtain ⟨a, ha, e⟩ := List.mem_map.mp listed
  have absent := List.findIdx?_eq_none_iff.mp h a ha
  exact absurd e (by simpa using absent)

/-- An announcement list written in its form (R93). -/
theorem State.advances_announcements (s : State) (as : List Announcement)
    (form : s.AnnouncementsSound → State.AnnouncementsSound { s with announcements := as }) :
    s.Advances { s with announcements := as } :=
  ⟨⟨rfl, fun h => ⟨h.1, form h.2⟩, id, id, id, id, .of_tx_eq rfl⟩, id, .of_catalogue_eq rfl⟩

theorem advances_replyAnnounce (s : State) (b : AnnounceBody) : (replyAnnounce s b).Advances s := by
  unfold replyAnnounce
  split
  · next c _ _ =>
    split
    · exact .refl s
    · next unknown =>
      split
      · refine s.advances_announcements _ fun ⟨length, nodup, unknowns⟩ => ?_
        have ids : (s.announcements.map (fun a => if a.id = b.id then ⟨b.id, c, b.hold⟩ else a)).map (·.id)
            = s.announcements.map (·.id) := by
          rw [List.map_map]
          refine List.map_congr_left fun a _ => ?_
          simp only [Function.comp_apply]
          split
          · next e => exact e.symm
          · rfl
        refine ⟨by simpa using length, by rw [ids]; exact nodup, fun a ha => ?_⟩
        have : a.id ∈ s.announcements.map (·.id) := ids ▸ List.mem_map_of_mem ha
        obtain ⟨x, hx, e⟩ := List.mem_map.mp this
        rw [← e]
        exact unknowns x hx
      · next absent =>
        split
        · exact .refl s
        · next room =>
          refine s.advances_announcements _ fun ⟨length, nodup, unknowns⟩ => ⟨by simpa using room, ?_, fun a ha => ?_⟩
          · have new := State.announcements_entry absent
            rw [List.map_append, List.nodup_append]
            refine ⟨nodup, by simp, fun x hx y hy e => new ?_⟩
            have y_eq : y = b.id := by simpa using hy
            exact (e.trans y_eq) ▸ hx
          · rcases List.mem_append.mp ha with old | new
            · exact unknowns a old
            · rw [List.mem_singleton.mp new]
              change s.known b.id = false
              simpa using unknown
  · exact .refl s

theorem advances_replyUnannounce (s : State) (id : Ident) : (replyUnannounce s id).Advances s := by
  unfold replyUnannounce
  split
  · exact .refl s
  · split
    · exact .refl s
    · exact s.advances_announcements _ fun ⟨length, nodup, unknowns⟩ =>
        ⟨(List.length_filter_le _ _).trans length, (List.filter_sublist.map _).nodup nodup,
          fun a ha => unknowns a (List.mem_of_mem_filter ha)⟩

theorem advances_replyExport (s : State) (b : WithdrawBody) : (replyExport s b).Advances s := by
  unfold replyExport
  split
  · exact .refl s
  · split
    · exact .refl s
    · split
      · exact .refl s
      · simp only
        split
        · exact .refl s
        · split
          · exact .refl s
          · exact s.advances_offerLink _ _ _

theorem advances_replyInspect (s : State) (l : NoticeLink) (b : WithdrawBody) : (replyInspect s l b).Advances s := by
  unfold replyInspect
  split
  · exact .refl s
  · split
    · exact .refl s
    · split
      · exact .refl s
      · simp only
        split
        · exact .refl s
        · split
          · exact .refl s
          · split
            · exact .refl s
            · exact s.advances_offerLink _ _ _

theorem advances_replyHold (s : State) (id : Ident) : (replyHold s id).Advances s := by
  unfold replyHold
  split
  · exact .refl s
  · split
    · exact s.advances_setHeld id
    · exact .refl s

theorem advances_replyRelease (s : State) (id : Ident) : (replyRelease s id).Advances s := by
  unfold replyRelease
  split
  · exact .refl s
  · split
    · exact s.advances_updRecord id (f := fun r => { r with held := false }) (fun _ => rfl) (fun _ => ⟨le_rfl, le_rfl, le_rfl⟩)
    · exact .refl s

theorem State.advances_setClassOf (s : State) (id : Ident) (c : ClassNo) : s.Advances (s.setClassOf id c) := by
  refine .trans ?_ (State.advances_dueCheck _ _)
  exact s.advances_updRecord id (fun _ => rfl) (fun _ => ⟨le_rfl, le_rfl, le_rfl⟩)

theorem advances_replySetClass (s : State) (b : SetClassBody) : (replySetClass s b).Advances s := by
  unfold replySetClass
  split
  · split
    · exact s.advances_setClassOf _ _
    · exact .refl s
  · exact .refl s

theorem State.advances_failVerdict (s : State) (id : Ident) : s.Advances (s.failVerdict id) := by
  refine .trans (.trans ?_ (State.advances_setHeld _ id)) (State.advances_reclaimIfUnfit _ id)
  exact s.advances_updRecord id (fun _ => rfl) (fun _ => ⟨le_rfl, le_rfl, le_rfl⟩)

theorem advances_replyCensus (s : State) (b : CensusBody) : (replyCensus s b).Advances s := by
  unfold replyCensus
  simp only
  split
  · exact .refl s
  · split
    · exact .refl s
    · exact s.advances_startCensus _ _

theorem advances_replyCensusStop (s : State) : (replyCensusStop s).Advances s := by
  unfold replyCensusStop
  split
  · exact .refl s
  · exact .refl s
  · split
    · exact s.advances_updCensus (fun c => { c with state := .stopping })
    · exact s.advances_stopCensus

/-! ## Settings and notice requests -/

theorem advances_replyInterceptSet (s : State) (b : InterceptBody) : (replyInterceptSet s b).Advances s := by
  unfold replyInterceptSet
  split
  · exact s.advances_free _ _ _ _ _ _ _ _ _ _
  · exact .refl s

theorem State.advances_ackKinds (s : State) (l : NoticeLink) (kinds : BitVec 16) : s.Advances (s.ackKinds l kinds) := by
  refine s.advances_setNoticeSet l _ fun k => ?_
  rw [NoticeSet.entry_mapKinds]
  split
  · split
    · exact ⟨fun n => (n.2 l k).1, fun _ h => absurd h (by simp)⟩
    · next ended => exact ⟨fun _ holds => absurd holds ended, fun _ h => absurd h (by simp)⟩
  · exact ⟨fun n => (n.2 l k).1, fun n => (n.2 l k).2⟩

theorem State.advances_maskKinds (s : State) (l : NoticeLink) (kinds : BitVec 16) : s.Advances (s.maskKinds l kinds) := by
  have written := s.advances_setNoticeSet l
    ((s.noticeSet l).mapKinds fun k e => e.remask (kinds.getLsbD k.number.val)) fun k => by
      rw [NoticeSet.entry_mapKinds]
      refine ⟨fun n => (n.2 l k).1, fun n h => ?_⟩
      simp only [NoticeEntry.remask, Bool.or_eq_true, Bool.and_eq_true] at h
      exact h.elim (n.2 l k).2 (fun h => h.2)
  unfold State.maskKinds
  simp only
  split
  · exact written.trans (State.advances_pushNotice _ l)
  · exact written

theorem State.advances_gapExpires (s : State) (l : NoticeLink) : s.Advances (s.gapExpires l) := by
  unfold State.gapExpires
  simp only
  split
  · exact s.advances_sendNotice l
  · exact s.advances_setNoticeSet l _ fun k => ⟨fun n => (n.2 l k).1, fun n => (n.2 l k).2⟩

/-- The zone table written, ZONE_CONFLICT raised when it leaves slots conflicted (R37). -/
theorem State.advances_writeZone (s : State) (k : Fin 8) (e : ZoneEntry) : s.Advances (s.writeZone k e) := by
  let u : State := { s with zones := s.zones.set k.val e k.isLt }
  have form : s.KeepsForm u := ⟨rfl, id, id, id, id, id, .of_tx_eq rfl⟩
  have but : s.NoticesSound → u.NoticesSoundBut .zoneConflict := fun n =>
    n.of_conditions_but n.1 (fun l => by cases l <;> rfl) fun i ne => by
      cases i with
      | zoneConflict => exact absurd rfl ne
      | _ => exact id
  change s.Advances u.raiseConflict
  unfold State.raiseConflict
  simp only
  split
  · exact form.raise (.of_catalogue_eq rfl) but _
  · next none =>
    refine ⟨form, fun n => ⟨(but n).1, fun l i => ⟨fun holds => ((but n).2 l i).1 ?_ holds, ((but n).2 l i).2⟩⟩, .of_catalogue_eq rfl⟩
    rintro rfl
    have clear : u.conflictedShelves = [] := by simpa [State.conflictSummary] using none
    exact absurd holds (by simp [State.conditionHolds, clear])

theorem advances_replyZoneSet (s : State) (b : ZoneBody) : (replyZoneSet s b).Advances s := by
  unfold replyZoneSet
  split
  · exact s.advances_writeZone _ _
  · exact .refl s

theorem advances_replyClassSet (s : State) (b : ClassBody) : (replyClassSet s b).Advances s := by
  unfold replyClassSet
  split
  · split
    · exact .refl s
    · exact (s.advances_free _ _ _ _ _ _ _ _ _ _).trans (State.advances_dueCheck _ _)
  · exact .refl s

/-- A port's record after a PORT_SET of port p (R49). -/
theorem State.port_writeSettings (s : State) (p q : Port) (x : PortSettings) :
    (s.writeSettings p x).port q = if q = p then { s.port q with settings := x }
      else if x.priority then { s.port q with settings := { (s.port q).settings with priority := false } } else s.port q := by
  simp [State.writeSettings, State.port, Vector.get_eq_getElem]

theorem State.advances_writeSettings (s : State) (p : Port) (x : PortSettings) : s.Advances (s.writeSettings p x) := by
  have same (q : Port) : ∃ y, (s.writeSettings p x).port q = { s.port q with settings := y } := by
    rw [s.port_writeSettings]
    split
    · exact ⟨_, rfl⟩
    · split
      · exact ⟨_, rfl⟩
      · exact ⟨_, rfl⟩
  refine ⟨⟨rfl, id, id, fun h => ⟨fun q => ?_, fun q r => ?_⟩, id, id, .of_tx_eq rfl⟩, fun n => ?_, .of_catalogue_eq rfl⟩
  · obtain ⟨y, e⟩ := same q
    have old := h.1 q
    unfold State.PortSound at old ⊢
    rw [e]
    exact old
  · rw [s.port_writeSettings, s.port_writeSettings]
    have := h.2 q r
    grind
  · refine n.of_blocked rfl (fun l => by cases l <;> rfl) id rfl rfl fun b => ?_
    rw [State.anyBlocked_iff] at b ⊢
    refine b.imp (fun ⟨q, hq⟩ => ⟨q, ?_⟩) id
    obtain ⟨y, e⟩ := same q
    unfold State.toolNest at hq ⊢
    rwa [e] at hq

theorem advances_replyPortSet (s : State) (b : PortSetBody) : (replyPortSet s b).Advances s := by
  unfold replyPortSet
  split
  · exact s.advances_writeSettings _ _
  · exact .refl s

theorem State.advances_openPort (s : State) (p : Port) : s.Advances (s.openPort p) := by
  unfold State.openPort
  by_cases closed : (s.port p).state = .closed
  · have written : s.updPort p (fun r => if r.state = .closed then { r with state := .silent } else r)
        = s.updPort p (fun r => { r with state := .silent }) := by
      simp only [State.updPort, if_pos closed]
    rw [written]
    refine ⟨⟨rfl, id, id, fun h => ⟨fun q => ?_, fun q r => ?_⟩, id, id, .of_tx_eq rfl⟩, fun n => ?_, .of_catalogue_eq rfl⟩
    · have old := h.1 q
      unfold State.PortSound at old ⊢
      rw [s.port_updPort]
      split
      · next e =>
        subst e
        obtain ⟨timer, _, values, shut⟩ := old
        rw [closed] at timer shut
        exact ⟨by simpa using timer, by simp, values, fun _ => shut (by simp)⟩
      · exact old
    · have same : ∀ x, ((s.updPort p (fun r => { r with state := .silent })).port x).settings = (s.port x).settings := fun x => by
        rw [s.port_updPort]
        split
        · next e => rw [e]
        · rfl
      rw [same, same]
      exact h.2 q r
    · refine n.of_blocked rfl (fun l => by cases l <;> rfl) id rfl rfl fun b => ?_
      rw [State.anyBlocked_iff] at b ⊢
      refine b.imp (fun ⟨q, hq⟩ => ⟨q, ?_⟩) id
      unfold State.toolNest at hq ⊢
      rw [s.port_updPort] at hq
      split at hq
      · next e => rw [e]; exact hq
      · exact hq
  · refine s.advances_updPort p ?_ ?_ <;> simp only [closed, if_false]
    · exact .refl _
    · exact id

theorem advances_replyPortOpen (s : State) (x : Nat) : (replyPortOpen s x).Advances s := by
  unfold replyPortOpen
  split
  · exact s.advances_openPort _
  · exact .refl s

theorem advances_replyPortClose (s : State) (x : Nat) : (replyPortClose s x).Advances s := by
  unfold replyPortClose
  split
  · split
    · exact .refl s
    · exact s.advances_standDown_of_shut _ (by decide)
  · exact .refl s

theorem clampStarvation_sound (n : Nat) : clampStarvation n = 0 ∨ (30 ≤ clampStarvation n ∧ clampStarvation n ≤ 3600) := by
  unfold clampStarvation
  split
  · exact .inl rfl
  · exact .inr (clampBetween_sound (by decide) n)

/-- A field present is stored clamped, and an absent one leaves the value in its range. -/
theorem getD_map_sound {α : Type} {P : α → Prop} {x : Option Nat} {f : Nat → α} {old : α} (h : P old) (new : ∀ n, P (f n)) :
    P ((x.map f).getD old) := by
  cases x with
  | none => exact h
  | some n => exact new n

theorem State.advances_writeTiming (s : State) (b : TimingBody) : s.Advances (s.writeTiming b) := by
  refine ⟨⟨rfl, id, id, id, fun h => h, fun h => ?_, .of_tx_eq rfl⟩, fun n => ?_, .of_catalogue_eq rfl⟩
  · obtain ⟨starvation, pick, place, gap, count⟩ := h
    exact ⟨getD_map_sound (P := fun n => n = 0 ∨ (30 ≤ n ∧ n ≤ 3600)) starvation clampStarvation_sound,
      getD_map_sound (P := fun n => 5 ≤ n ∧ n ≤ 255) pick (clampBetween_sound (by decide)),
      getD_map_sound (P := fun n => 5 ≤ n ∧ n ≤ 255) place (clampBetween_sound (by decide)),
      getD_map_sound (P := fun n => 1 ≤ n ∧ n ≤ 60) gap (clampBetween_sound (by decide)), count⟩
  · exact n.of_blocked rfl (fun l => by cases l <;> rfl) (fun h => h) rfl rfl id

/-! ## Recovery requests (R165 to R168) -/

theorem State.haltedAt_exec {s : State} {m : Move} {ph : Phase} (h : s.haltedAt = some (m, ph)) : s.handler.exec.isSome := by
  unfold State.haltedAt at h
  split at h
  · split at h
    · next phase _ =>
      obtain ⟨e, he, _⟩ := Option.bind_eq_some_iff.mp ‹_›
      rw [he]; rfl
    · cases h
  · cases h

theorem advances_replyResume (s : State) : (replyResume s).Advances s := by
  unfold replyResume
  split
  · next halted =>
    split
    · next resumed => exact s.advances_resumed resumed (fun _ => State.haltedAt_exec halted)
    · exact .refl s
  · exact .refl s

theorem advances_replyResolveAtTarget (s : State) : (replyResolveAtTarget s).Advances s := by
  unfold replyResolveAtTarget
  split
  · split
    · split
      · exact .refl s
      · exact s.advances_resolvedAtTarget _ _ _
    · exact .refl s
  · exact .refl s

theorem advances_replyResolveAtSource (s : State) : (replyResolveAtSource s).Advances s := by
  unfold replyResolveAtSource
  split
  · split
    · exact .refl s
    · exact s.advances_resolvedAtSource _ _ _
  · exact .refl s

theorem advances_replyResolveRemoved (s : State) : (replyResolveRemoved s).Advances s := by
  unfold replyResolveRemoved
  split
  · split
    · exact s.advances_resolvedRemoved _ _
    · exact s.advances_handlerIdle
  · exact .refl s

/-! ## Corrections (chapter 1.6) -/

theorem advances_replySetSlotEmpty (s : State) (x : Nat) : (replySetSlotEmpty s x).Advances s := by
  unfold replySetSlotEmpty
  split
  · split
    · exact s.advances_setSlot _ _
    · exact .refl s
  · exact .refl s

theorem advances_replySetSlotReticle (s : State) (b : SetSlotBody) : (replySetSlotReticle s b).Advances s := by
  unfold replySetSlotReticle
  split
  · split
    · unfold State.fillSlot
      split
      · next unknown =>
        split
        · exact s.advances_refuseCreation _ _
        · next room => exact s.advances_createAt _ _ _ (by simp [State.known, unknown]) (by simpa using room)
      · split
        · exact s.advances_relocate _ _
        · exact .refl s
    · exact .refl s
  · exact .refl s

/-! ## Queries -/

theorem advances_replyQSlot (s : State) (x : Nat) : (replyQSlot s x).Advances s := by
  unfold replyQSlot
  split <;> exact .refl s

theorem advances_replyQZoneEntry (s : State) (x : Nat) : (replyQZoneEntry s x).Advances s := by
  unfold replyQZoneEntry
  split <;> exact .refl s

theorem advances_replyQZoneSlot (s : State) (x : Nat) : (replyQZoneSlot s x).Advances s := by
  unfold replyQZoneSlot
  split <;> exact .refl s

theorem advances_replyQPort (s : State) (x : Nat) : (replyQPort s x).Advances s := by
  unfold replyQPort
  split <;> exact .refl s

theorem advances_replyQInterceptEntry (s : State) (x : Nat) : (replyQInterceptEntry s x).Advances s := by
  unfold replyQInterceptEntry
  split <;> exact .refl s

theorem advances_replyQReticle (s : State) (id : Ident) : (replyQReticle s id).Advances s := by
  unfold replyQReticle
  split
  · split
    · exact .refl s
    · exact .refl s
  · exact .refl s

end Sys2Proof.Machine
end

section
/-! PROOFS. One shape for every command but POWER_ON_RESET: a state that keeps every invariant that stands alone, and after it
at most one answer; POWER_ON_RESET by itself. The statements about every step and every command follow (O3, O6, O8, O11, O12,
O14 and parts of O9). -/

namespace Sys2Proof.Machine

/-! ## The shape of a command -/

/-- From `s` to `t` the invariants that stand alone are kept, records perhaps removed or reset. -/
structure State.Keeps (s t : State) : Prop extends s.KeepsForm t where
  notices : s.NoticesSound → t.NoticesSound

theorem State.Advances.keeps {s t : State} (h : s.Advances t) : s.Keeps t := ⟨h.toKeepsForm, h.notices⟩

theorem State.Keeps.trans {s t u : State} (h : s.Keeps t) (k : t.Keeps u) : s.Keeps u :=
  ⟨h.toKeepsForm.trans k.toKeepsForm, k.notices ∘ h.notices⟩

/-- No counter of a record that stays in the catalogue is lowered (R176). -/
def State.Ages (s t : State) : Prop :=
  ∀ id r r', s.record id = some r → t.record id = some r' → r.Outlives r'

theorem State.Advances.ages {s t : State} (h : s.Advances t) : s.Ages t := by
  intro id r r' hr hr'
  obtain ⟨x, hx, older⟩ := h.outlived id r hr
  rw [hr'] at hx
  cases hx
  exact older

/-- The commands that may lower a life counter (R176, R181). -/
def resetsLife : Instr → Bool
  | .powerOnReset _ => true
  | .verdict _ _ (some ⟨_, .pass⟩) => true
  | .setCondition _ _ _ => true
  | _ => false

/-- How a command ends in the state `u` it leaves: a request with its answer, an unknown request kind with BAD_FORM, any other
command with nothing more. -/
def EndsIn (c : Instr) (s u : State) : Prop :=
  match c.request? with
  | some (l, tag, k) => ∃ code fields, exec c s = .next (u.answer l tag k.byte code fields)
  | none => exec c s = .next u ∨ ∃ l tag kind, exec c s = .next (u.answer l tag kind .badForm .none)

/-- What a command leaves before its answer. -/
def Does (c : Instr) (s : State) : Prop := ∃ u, EndsIn c s u ∧ s.Keeps u ∧ (resetsLife c = false → s.Ages u)

theorem Does.of_request {c : Instr} {s : State} {l : ReqLink} {tag : Byte} {k : FrameKind} {t : State}
    (request : c.request? = some (l, tag, k)) (runs : exec c s = .next t)
    (ends : ∃ u code fields, t = u.answer l tag k.byte code fields ∧ s.Keeps u ∧ (resetsLife c = false → s.Ages u)) :
    Does c s := by
  obtain ⟨u, code, fields, e, keeps⟩ := ends
  refine ⟨u, ?_, keeps⟩
  unfold EndsIn
  rw [request]
  exact ⟨code, fields, by rw [runs, e]⟩

theorem Does.of_advances {c : Instr} {s : State} {l : ReqLink} {tag : Byte} {k : FrameKind} {t : State}
    (request : c.request? = some (l, tag, k)) (runs : exec c s = .next t)
    (ends : ∃ u code fields, t = u.answer l tag k.byte code fields ∧ s.Advances u) : Does c s := by
  obtain ⟨u, code, fields, e, advances⟩ := ends
  exact .of_request request runs ⟨u, code, fields, e, advances.keeps, fun _ => advances.ages⟩

theorem Does.of_command {c : Instr} {s t : State} (request : c.request? = none) (runs : exec c s = .next t)
    (advances : s.Advances t) : Does c s := by
  refine ⟨t, ?_, advances.keeps, fun _ => advances.ages⟩
  unfold EndsIn
  rw [request]
  exact .inl runs

/-! ## The commands that remove or reset records -/

theorem State.keeps_mapCatalogue (s : State) {f : Rec → Rec} (ids : ∀ r, (f r).id = r.id) :
    s.Keeps { s with catalogue := s.catalogue.map f } := by
  have same : (s.catalogue.map f).map (·.id) = s.catalogue.map (·.id) := by simp [Function.comp_def, ids]
  refine ⟨⟨rfl, State.KeepsForm.catalogue_of_ids same rfl, id, id, id, id, .of_tx_eq rfl⟩, fun n => ?_⟩
  refine n.of_conditions (by simpa using n.1) (fun l => by cases l <;> rfl) fun i => ?_
  cases i with
  | catalogueFull => simp [State.conditionHolds, State.catalogueFull]
  | _ => exact id

theorem State.keeps_updRecord (s : State) (id : Ident) {f : Rec → Rec} (ids : ∀ r, (f r).id = r.id) :
    s.Keeps (s.updRecord id f) := by
  refine s.keeps_mapCatalogue (fun r => ?_)
  split
  · exact ids r
  · rfl

/-- Records removed from the catalogue (R22). -/
theorem State.keeps_filterCatalogue (s : State) (f : Rec → Bool) : s.Keeps { s with catalogue := s.catalogue.filter f } := by
  have length : (s.catalogue.filter f).length ≤ s.catalogue.length := List.length_filter_le _ _
  refine ⟨⟨rfl, ?_, id, id, id, id, .of_tx_eq rfl⟩, fun n => ?_⟩
  · rintro ⟨⟨nodup, short⟩, few, distinct, unknowns⟩
    refine ⟨⟨(List.filter_sublist.map _).nodup nodup, length.trans short⟩, few, distinct, fun a ha => ?_⟩
    have old := unknowns a ha
    rw [State.known_eq_false_iff] at old ⊢
    exact fun listed => old ((List.filter_sublist.map _).subset listed)
  · refine n.of_conditions (length.trans n.1) (fun l => by cases l <;> rfl) fun i => ?_
    cases i with
    | catalogueFull =>
      simp only [State.conditionHolds, State.catalogueFull, decide_eq_true_eq]
      exact fun full => full.trans length
    | _ => exact id

/-- A record of a state whose catalogue was filtered was there before. -/
theorem State.ages_filter {s : State} {f : Rec → Bool} (byId : ∀ r r' : Rec, r.id = r'.id → f r = f r') :
    s.Ages { s with catalogue := s.catalogue.filter f } := by
  intro id r r' hr hr'
  have kept : State.record { s with catalogue := s.catalogue.filter f } id = s.record id := by
    simp only [State.record] at hr' ⊢
    rw [List.find?_filter] at hr' ⊢
    have found := List.find?_some hr'
    obtain ⟨fits, named⟩ : f r' = true ∧ r'.id = id := by simpa using found
    congr 1
    funext x
    by_cases e : x.id = id
    · simp [e, byId x r' (e.trans named.symm), fits]
    · simp [e]
  rw [kept, hr] at hr'
  cases hr'
  exact .refl r

/-- What follows a change re-creates no record and lowers no counter. -/
theorem State.Ages.settle {s u : State} (h : s.Ages u) (a : State) (t : Touch) : s.Ages (u.settle a t) := by
  intro id r r' hr hr'
  have steady := congrArg Steady.records (u.aftermath_settle a t).steady
  have found (v : State) : (v.record id).map Rec.steady = (v.steady.records).find? (fun x => decide (x.id = id)) := by
    simp only [State.record, State.steady, List.find?_map]
    rfl
  have same : ((u.settle a t).record id).map Rec.steady = (u.record id).map Rec.steady := by
    rw [found, found, steady]
  rw [hr'] at same
  obtain ⟨x, hx, e⟩ := Option.map_eq_some_iff.mp same.symm
  obtain ⟨deliveries, lots, air⟩ := h id r x hr hx
  have counters : x.deliveries = r'.deliveries ∧ x.lots = r'.lots ∧ x.air = r'.air :=
    ⟨congrArg (·.deliveries) e, congrArg (·.lots) e, congrArg (·.air) e⟩
  exact ⟨counters.1 ▸ deliveries, counters.2.1 ▸ lots, counters.2.2 ▸ air⟩

/-- The liveness timer restarted leaves the records. -/
theorem State.record_goodFrame (s : State) (l : ReqLink) (id : Ident) : (s.goodFrame l).record id = s.record id := by
  unfold State.goodFrame
  split
  · split <;> rfl
  · rfl

theorem Reply.keeps_outcome (r : Reply) (a : State) : r.core.Keeps (r.outcome a) := (r.advances_outcome a).keeps

/-- FORGET keeps the counters of the records that stay. -/
theorem replyForget_outcome (a : State) (id : Ident) :
    a.Keeps ((replyForget a id).outcome a) ∧ a.Ages ((replyForget a id).outcome a) := by
  have refused (c : AnswerCode) : a.Keeps ((refuse a c).outcome a) ∧ a.Ages ((refuse a c).outcome a) :=
    ⟨(State.Advances.refl a).keeps, (State.Advances.refl a).ages⟩
  unfold replyForget
  split
  · exact refused _
  · split
    · exact refused _
    · split
      · exact refused _
      · split
        · exact refused _
        · refine ⟨(a.keeps_filterCatalogue _).trans (State.advances_settle _ _ _).keeps, State.Ages.settle ?_ _ _⟩
          exact State.ages_filter fun r r' e => by simp [e]

theorem replyVerdict_outcome (a : State) (b : VerdictBody) :
    a.Keeps ((replyVerdict a b).outcome a) ∧ (b.outcome = .fail → a.Ages ((replyVerdict a b).outcome a)) := by
  have refused (c : AnswerCode) : a.Keeps ((refuse a c).outcome a) ∧ (b.outcome = .fail → a.Ages ((refuse a c).outcome a)) :=
    ⟨(State.Advances.refl a).keeps, fun _ => (State.Advances.refl a).ages⟩
  unfold replyVerdict
  split
  · exact refused _
  · split
    · exact refused _
    · split
      · split
        · next pass =>
          have reset : a.Keeps (a.passVerdict b.id) := a.keeps_updRecord b.id (fun _ => rfl)
          refine ⟨reset.trans (State.advances_settle _ a noTouch).keeps, fun fail => ?_⟩
          rw [pass] at fail
          cases fail
        · have failed := (a.advances_failVerdict b.id).trans (State.advances_settle _ a noTouch)
          exact ⟨failed.keeps, fun _ => failed.ages⟩
      · exact refused _

theorem replySetCondition_outcome (a : State) (b : SetConditionBody) : a.Keeps ((replySetCondition a b).outcome a) := by
  unfold replySetCondition
  split
  · exact (State.Advances.refl a).keeps
  · split
    · have reset : a.Keeps (a.resetCondition b.id) := a.keeps_updRecord b.id (fun _ => rfl)
      exact reset.trans (State.advances_settle _ a noTouch).keeps
    · exact (State.Advances.refl a).keeps

theorem does_forget (l : ReqLink) (tag : Byte) (b : Option Ident) (s : State) : Does (.forget l tag b) s := by
  refine .of_request rfl rfl (State.request_ends (P := fun u => s.Keeps u ∧ (_ → s.Ages u)) ?_ fun _ id _ _ => ?_)
  · exact ⟨(s.advances_goodFrame l).keeps, fun _ => (s.advances_goodFrame l).ages⟩
  · obtain ⟨keeps, ages⟩ := replyForget_outcome (s.goodFrame l) id
    refine ⟨(s.advances_goodFrame l).keeps.trans keeps, fun _ x r r' hr hr' => ages x r r' ?_ hr'⟩
    rw [s.record_goodFrame, hr]

theorem does_verdict (l : ReqLink) (tag : Byte) (b : Option VerdictBody) (s : State) :
    Does (.verdict l tag b) s := by
  refine .of_request rfl rfl (State.request_ends (P := fun u => s.Keeps u ∧ (_ → s.Ages u)) ?_ fun _ x _ hx => ?_)
  · exact ⟨(s.advances_goodFrame l).keeps, fun _ => (s.advances_goodFrame l).ages⟩
  · obtain ⟨keeps, ages⟩ := replyVerdict_outcome (s.goodFrame l) x
    refine ⟨(s.advances_goodFrame l).keeps.trans keeps, fun lives id r r' hr hr' => ages ?_ id r r' ?_ hr'⟩
    · subst hx
      match x, lives with
      | ⟨_, .fail⟩, _ => rfl
    · rw [s.record_goodFrame, hr]

theorem does_setCondition (l : ReqLink) (tag : Byte) (b : Option SetConditionBody) (s : State) :
    Does (.setCondition l tag b) s := by
  refine .of_request rfl rfl (State.request_ends (P := fun u => s.Keeps u ∧ (_ → s.Ages u)) ?_ fun _ x _ _ => ?_)
  · exact ⟨(s.advances_goodFrame l).keeps, fun h => absurd h (by simp [resetsLife])⟩
  · exact ⟨(s.advances_goodFrame l).keeps.trans (replySetCondition_outcome _ x), fun h => absurd h (by simp [resetsLife])⟩

/-! ## Lines, timers and reports -/

theorem State.advances_setTbusy (s : State) (p : Port) (b : Bool) : s.Advances (s.setTbusy p b) :=
  s.advances_free _ _ _ _ _ _ _ _ _ _

theorem State.advances_setPresT (s : State) (p : Port) (b : Bool) : s.Advances (s.setPresT p b) :=
  s.advances_free _ _ _ _ _ _ _ _ _ _

theorem State.advances_pins (s : State) (x : Pins) : s.Advances { s with pins := x } := s.advances_free _ _ _ _ _ _ _ _ _ _

/-- A change of the lines is settled, and nothing happens without an edge. -/
theorem State.advances_edge (s : State) {b : Prop} [Decidable b] {x : State} (h : s.Advances x) :
    s.Advances (if b then x.settle s noTouch else s) := by
  split
  · exact h.trans (State.advances_settle _ _ _)
  · exact .refl s

theorem State.advances_busyAsserted (s : State) (p : Port) : s.Advances (s.busyAsserted p) := by
  unfold State.busyAsserted
  simp only
  split
  · exact (s.advances_setTbusy p true).trans (State.advances_raiseUnsanctioned _ _ _ _)
  · exact s.advances_setTbusy p true

theorem State.advances_releaseAtNest (s : State) (p : Port) : s.Advances (s.releaseAtNest p) := by
  unfold State.releaseAtNest
  split
  · exact s.advances_enterReturned p
  · exact s.advances_takeCompletes p
  · split
    · exact s.advances_lapse p
    · exact .refl s
  · exact s.advances_unsanctionedTake p
  · exact .refl s

theorem State.advances_releaseCarried (s : State) (p : Port) : s.Advances (s.releaseCarried p) := by
  unfold State.releaseCarried
  split
  · split
    · next carrying =>
      split
      · exact s.advances_sendPlace _ _ (fun h => h.works (by simp [carrying.1]) (by simp [carrying.1]))
      · exact .refl s
    · exact .refl s
  · exact .refl s

theorem State.advances_tFull (s : State) (p : Port) : s.Advances (s.tFull p) := by
  have level := s.advances_setPresT p true
  unfold State.tFull
  simp only
  split
  · exact level
  · split
    · exact (level.trans (State.advances_enterReturned _ p)).trans (State.advances_raiseUnsanctioned _ _ _ _)
    · exact level.trans (State.advances_raiseUnsanctioned _ _ _ _)
    · exact level

theorem State.advances_liftedBack (s : State) (p : Port) : s.Advances (s.liftedBack p) :=
  ((s.advances_clearNest p).trans (State.advances_withdrawWhere _ _ _)).trans (State.advances_raiseUnsanctioned _ _ _ _)

theorem State.advances_tEmpty (s : State) (p : Port) : s.Advances (s.tEmpty p) := by
  have level := s.advances_setPresT p false
  unfold State.tEmpty
  simp only
  split
  · split
    · exact level
    · exact level.trans (State.advances_unsanctionedTake _ p)
  · exact level.trans (State.advances_unsanctionedTake _ p)
  · exact level.trans (State.advances_liftedBack _ p)
  · exact level.trans (State.advances_setToolNest _ p (by decide))
  · exact level

theorem State.advances_bi (s : State) (x : BiNest) (pins : Pins) (h : x ≠ .blocked) :
    s.Advances { s with bi := x, pins := pins } :=
  (s.advances_pins pins).trans (State.advances_fabNests _ (x := x) (fun e => absurd e h) id id)

theorem State.advances_bo (s : State) (x : BoNest) (pins : Pins) (h : x ≠ .blocked) :
    s.Advances { s with bo := x, pins := pins } :=
  (s.advances_pins pins).trans (State.advances_fabNests _ (y := x) id (fun e => absurd e h) id)

theorem State.advances_inn (s : State) (x : InNest) (pins : Pins) (h : x ≠ .blocked) :
    s.Advances { s with inn := x, pins := pins } :=
  (s.advances_pins pins).trans (State.advances_fabNests _ (z := x) id id (fun e => absurd e h))

theorem State.advances_biFull (s : State) : s.Advances s.biFull := by
  unfold State.biFull
  simp only
  split
  · exact (s.advances_bi .arrived _ (by decide)).trans (State.advances_stockInArrives _)
  · exact s.advances_pins _

theorem State.advances_biEmpty (s : State) : s.Advances s.biEmpty := by
  unfold State.biEmpty
  simp only
  split
  · exact (s.advances_bi .empty _ (by decide)).trans (State.advances_withdrawWhere _ _ _)
  · exact s.advances_bi .empty _ (by decide)
  · exact s.advances_pins _

theorem State.advances_boFull (s : State) : s.Advances s.boFull := by
  unfold State.boFull
  simp only
  split
  · exact (s.advances_pins _).trans (State.advances_nestBlocks _ _ _)
  · exact s.advances_pins _

theorem State.advances_inFull (s : State) : s.Advances s.inFull := by
  unfold State.inFull
  simp only
  split
  · exact (s.advances_inn .arrived _ (by decide)).trans (State.advances_reshelveArrives _)
  · exact s.advances_pins _

theorem State.advances_inspectionTake (s : State) : s.Advances s.inspectionTake := by
  have emptied : s.Advances { s with inn := .empty } := s.advances_inn .empty s.pins (by decide)
  unfold State.inspectionTake
  simp only
  split
  · exact emptied.trans (State.advances_moveTo _ _ _)
  · exact emptied

theorem State.advances_inEmpty (s : State) : s.Advances s.inEmpty := by
  unfold State.inEmpty
  simp only
  split
  · exact (s.advances_pins _).trans (State.advances_inspectionTake _)
  · exact (s.advances_inn .empty _ (by decide)).trans (State.advances_withdrawWhere _ _ _)
  · exact s.advances_inn .empty _ (by decide)
  · exact s.advances_pins _

/-- The take at BO removes its record and lowers no counter of the others (R22, R102). -/
theorem State.keeps_exported (s : State) : s.Keeps s.exported ∧ s.Ages s.exported := by
  unfold State.exported
  simp only
  generalize (s.recordAt (.nest .bo)).map (·.id) = x
  have removed := (s.advances_bo .empty s.pins (by decide)).keeps.trans
    (State.keeps_filterCatalogue _ (fun r => !decide (some r.id = x)))
  refine ⟨removed.trans (State.advances_raise _ _ _).keeps, fun id r r' hr hr' => ?_⟩
  rw [State.record, State.raise_catalogue] at hr'
  exact State.ages_filter (s := { s with bo := .empty }) (fun r r' e => by simp [e]) id r r' hr hr'

theorem State.keeps_boEmpty (s : State) : s.Keeps s.boEmpty ∧ s.Ages s.boEmpty := by
  unfold State.boEmpty
  simp only
  split
  · obtain ⟨keeps, ages⟩ := State.keeps_exported { s with pins := { s.pins with presBo := false } }
    exact ⟨(s.advances_pins _).keeps.trans keeps, ages⟩
  · have emptied := s.advances_bo .empty { s.pins with presBo := false } (by decide)
    exact ⟨emptied.keeps, emptied.ages⟩
  · exact ⟨(s.advances_pins _).keeps, (s.advances_pins _).ages⟩

theorem does_presBoEmpty (s : State) : Does .presBoEmpty s := by
  obtain ⟨keeps, ages⟩ := s.keeps_boEmpty
  have done : s.Keeps (if s.pins.presBo then s.boEmpty.settle s noTouch else s)
      ∧ s.Ages (if s.pins.presBo then s.boEmpty.settle s noTouch else s) := by
    split
    · exact ⟨keeps.trans (State.advances_settle _ _ _).keeps, ages.settle _ _⟩
    · exact ⟨(State.Advances.refl s).keeps, (State.Advances.refl s).ages⟩
  exact ⟨_, .inl rfl, done.1, fun _ => done.2⟩

theorem State.advances_collectExpires (s : State) (p : Port) : s.Advances (s.collectExpires p) := by
  unfold State.collectExpires
  split
  · exact s.advances_updPort p ⟨rfl, rfl, rfl, rfl⟩ (fun e => e)
  · exact s.advances_lapse p

theorem State.advances_returnWaitExpires (s : State) (p : Port) : s.Advances (s.returnWaitExpires p) := by
  refine .trans (.trans ?_ (State.advances_offerInward _ _)) (State.advances_raise _ _ _)
  exact s.advances_updPort p ⟨rfl, rfl, rfl, rfl⟩ (fun e => e)

theorem State.advances_minute (s : State) : s.Advances s.minute := by
  refine .trans ?_ (State.advances_dueCheck _ _)
  exact (s.advances_free s.clock 0 _ _ _ _ _ _ _ _).trans
    (State.advances_mapCatalogue _ (f := fun r => { r with air := satAdd r.air (s.airWeight r) }) (fun _ => rfl)
      (fun r => ⟨le_rfl, le_rfl, le_satAdd _ _⟩))

/-! ## Every command but POWER_ON_RESET -/

theorem does_unknownRequestKind (l : ReqLink) (tag kind : Byte) (s : State) :
    Does (.unknownRequestKind l tag kind) s :=
  ⟨s.goodFrame l, .inr ⟨l, tag, kind, rfl⟩, (s.advances_goodFrame l).keeps, fun _ => (s.advances_goodFrame l).ages⟩

theorem does_picked (n : Byte) (read : ReadId) (s : State) : Does (.picked n read) s := by
  refine .of_command rfl rfl ?_
  split
  · exact s.advances_takeReport n _ _ (by decide) (fun m busy => s.advances_takePicked m read busy)
  · exact .refl s

theorem does_faultReport (n code : Byte) (loaded : Bool) (s : State) : Does (.faultReport n code loaded) s := by
  refine .of_command rfl rfl ?_
  split
  · next current =>
    refine (s.advances_halt _ _ fun sound => (sound.works_of_current ?_).1).trans (State.advances_settleHandler _ _)
    unfold Handler.current at current
    split at current
    · cases current
    · cases current
    · split at current
      · assumption
      · cases current
  · exact .refl s

theorem does_phaseTimeout (s : State) : Does .phaseTimeout s := by
  refine .of_command rfl rfl ?_
  split
  · next timer =>
    exact (s.advances_halt _ _ fun sound => (sound.works_of_timer timer).1).trans (State.advances_settleHandler _ _)
  · exact .refl s

theorem does (c : Instr) (s : State) (h : ∀ x, c ≠ .powerOnReset x) : Does c s := by
  cases c with
  | powerOnReset x => exact absurd rfl (h x)
  | hello l tag b => exact .of_advances rfl rfl (s.request_advances l tag _ _ _ advances_replyHello)
  | alive l tag b => exact .of_advances rfl rfl (s.request_advances l tag _ _ _ fun a _ _ => .refl a)
  | call l tag b => exact .of_advances rfl rfl (s.request_advances l tag _ _ _ advances_replyCall)
  | cancel l tag b => exact .of_advances rfl rfl (s.request_advances l tag _ _ _ advances_replyCancel)
  | ahead l tag b => exact .of_advances rfl rfl (s.request_advances l tag _ _ _ advances_replyAhead)
  | returnLots l tag b => exact .of_advances rfl rfl (s.request_advances l tag _ _ _ advances_replyReturn)
  | portState l tag b => exact .of_advances rfl rfl (s.request_advances l tag _ _ _ fun a _ _ => .refl a)
  | announce l tag b => exact .of_advances rfl rfl (s.request_advances l tag _ _ _ fun a _ => advances_replyAnnounce a)
  | unannounce l tag b => exact .of_advances rfl rfl (s.request_advances l tag _ _ _ fun a _ => advances_replyUnannounce a)
  | exportOut l tag b => exact .of_advances rfl rfl (s.request_advances l tag _ _ _ fun a _ => advances_replyExport a)
  | hold l tag b => exact .of_advances rfl rfl (s.request_advances l tag _ _ _ fun a _ => advances_replyHold a)
  | release l tag b => exact .of_advances rfl rfl (s.request_advances l tag _ _ _ fun a _ => advances_replyRelease a)
  | setClass l tag b => exact .of_advances rfl rfl (s.request_advances l tag _ _ _ fun a _ => advances_replySetClass a)
  | inspect l tag b => exact .of_advances rfl rfl (s.request_advances l tag _ _ _ advances_replyInspect)
  | verdict l tag b => exact does_verdict l tag b s
  | census l tag b => exact .of_advances rfl rfl (s.request_advances l tag _ _ _ fun a _ => advances_replyCensus a)
  | censusStop l tag b => exact .of_advances rfl rfl (s.request_advances l tag _ _ _ fun a _ _ => advances_replyCensusStop a)
  | interceptSet l tag b => exact .of_advances rfl rfl (s.request_advances l tag _ _ _ fun a _ => advances_replyInterceptSet a)
  | ack l tag b => exact .of_advances rfl rfl (s.request_advances l tag _ _ _ fun a l k => a.advances_ackKinds l k)
  | mask l tag b => exact .of_advances rfl rfl (s.request_advances l tag _ _ _ fun a l k => a.advances_maskKinds l k)
  | qReticle l tag b => exact .of_advances rfl rfl (s.request_advances l tag _ _ _ fun a _ => advances_replyQReticle a)
  | qSlot l tag b => exact .of_advances rfl rfl (s.request_advances l tag _ _ _ fun a _ => advances_replyQSlot a)
  | qZoneEntry l tag b => exact .of_advances rfl rfl (s.request_advances l tag _ _ _ fun a _ => advances_replyQZoneEntry a)
  | qZoneSlot l tag b => exact .of_advances rfl rfl (s.request_advances l tag _ _ _ fun a _ => advances_replyQZoneSlot a)
  | qPort l tag b => exact .of_advances rfl rfl (s.request_advances l tag _ _ _ fun a _ => advances_replyQPort a)
  | qQueue l tag b => exact .of_advances rfl rfl (s.request_advances l tag _ _ _ fun a _ _ => .refl a)
  | qInterceptEntry l tag b => exact .of_advances rfl rfl (s.request_advances l tag _ _ _ fun a _ => advances_replyQInterceptEntry a)
  | qInterceptAll l tag b => exact .of_advances rfl rfl (s.request_advances l tag _ _ _ fun a _ _ => .refl a)
  | zoneSet l tag b => exact .of_advances rfl rfl (s.request_advances l tag _ _ _ fun a _ => advances_replyZoneSet a)
  | classSet l tag b => exact .of_advances rfl rfl (s.request_advances l tag _ _ _ fun a _ => advances_replyClassSet a)
  | portSet l tag b => exact .of_advances rfl rfl (s.request_advances l tag _ _ _ fun a _ => advances_replyPortSet a)
  | portOpen l tag b => exact .of_advances rfl rfl (s.request_advances l tag _ _ _ fun a _ => advances_replyPortOpen a)
  | portClose l tag b => exact .of_advances rfl rfl (s.request_advances l tag _ _ _ fun a _ => advances_replyPortClose a)
  | timingSet l tag b => exact .of_advances rfl rfl (s.request_advances l tag _ _ _ fun a _ => a.advances_writeTiming)
  | setSlotEmpty l tag b => exact .of_advances rfl rfl (s.request_advances l tag _ _ _ fun a _ => advances_replySetSlotEmpty a)
  | setSlotReticle l tag b => exact .of_advances rfl rfl (s.request_advances l tag _ _ _ fun a _ => advances_replySetSlotReticle a)
  | forget l tag b => exact does_forget l tag b s
  | setCondition l tag b => exact does_setCondition l tag b s
  | resume l tag b => exact .of_advances rfl rfl (s.request_advances l tag _ _ _ fun a _ _ => advances_replyResume a)
  | resolveAtTarget l tag b => exact .of_advances rfl rfl (s.request_advances l tag _ _ _ fun a _ _ => advances_replyResolveAtTarget a)
  | resolveAtSource l tag b => exact .of_advances rfl rfl (s.request_advances l tag _ _ _ fun a _ _ => advances_replyResolveAtSource a)
  | resolveRemoved l tag b => exact .of_advances rfl rfl (s.request_advances l tag _ _ _ fun a _ _ => advances_replyResolveRemoved a)
  | restart l tag b => exact .of_advances rfl rfl (s.request_advances l tag _ _ _ fun a _ _ => a.advances_setRestartPending true)
  | unknownRequestKind l tag k => exact does_unknownRequestKind l tag k s
  | bodyLengthExcess l => exact .of_command rfl rfl (s.advances_free _ _ _ _ _ _ _ _ _ _)
  | crcFailure l => exact .of_command rfl rfl (s.advances_free _ _ _ _ _ _ _ _ _ _)
  | byteGapTimeout l => exact .of_command rfl rfl (s.advances_free _ _ _ _ _ _ _ _ _ _)
  | handlerFrameNotTaken => exact .of_command rfl rfl (.refl s)
  | picked n read => exact does_picked n read s
  | sourceEmpty n =>
    exact .of_command rfl rfl (s.advances_takeReport n _ _ (by decide) (fun m _ => s.advances_sourceEmptyEnd m))
  | placed n => exact .of_command rfl rfl (s.advances_takeReport n _ _ (by decide) (fun m _ => s.advances_takePlaced m))
  | occupied n =>
    exact .of_command rfl rfl (s.advances_takeReport n _ _ (by decide) (fun m busy => s.advances_takeOccupiedReport m busy))
  | scanned n results =>
    exact .of_command rfl rfl (s.advances_takeReport n _ _ (by decide) (fun m _ => s.advances_takeScanned m results))
  | faultReport n code loaded => exact does_faultReport n code loaded s
  | restarted n loaded =>
    exact .of_command rfl rfl ((s.advances_takeRestarted loaded).trans (State.advances_settleHandler _ _))
  | phaseTimeout => exact does_phaseTimeout s
  | livenessExpiry p => exact .of_command rfl rfl (s.advances_edge (s.advances_goSilent p))
  | collectWindowExpiry p => exact .of_command rfl rfl (s.advances_edge (s.advances_collectExpires p))
  | returnWaitExpiry p => exact .of_command rfl rfl (s.advances_edge (s.advances_returnWaitExpires p))
  | gapTimerExpiry l =>
    refine .of_command rfl rfl ?_
    split
    · exact s.advances_gapExpires l
    · exact .refl s
  | minuteTick => exact .of_command rfl rfl (s.advances_minute.trans (State.advances_settle _ _ _))
  | tbusyAsserted p =>
    refine .of_command rfl rfl ?_
    split
    · exact .refl s
    · exact (s.advances_busyAsserted p).trans (State.advances_settle _ _ _)
  | tbusyReleased p =>
    exact .of_command rfl rfl (s.advances_edge (((s.advances_setTbusy p false).trans (State.advances_releaseAtNest _ p)).trans
      (State.advances_releaseCarried _ p)))
  | presTFull p =>
    refine .of_command rfl rfl ?_
    split
    · exact .refl s
    · exact (s.advances_tFull p).trans (State.advances_settle _ _ _)
  | presTEmpty p => exact .of_command rfl rfl (s.advances_edge (s.advances_tEmpty p))
  | presBiFull =>
    refine .of_command rfl rfl ?_
    split
    · exact .refl s
    · exact s.advances_biFull.trans (State.advances_settle _ _ _)
  | presBiEmpty => exact .of_command rfl rfl (s.advances_edge s.advances_biEmpty)
  | presBoFull =>
    refine .of_command rfl rfl ?_
    split
    · exact .refl s
    · exact s.advances_boFull.trans (State.advances_settle _ _ _)
  | presBoEmpty => exact does_presBoEmpty s
  | presInFull =>
    refine .of_command rfl rfl ?_
    split
    · exact .refl s
    · exact s.advances_inFull.trans (State.advances_settle _ _ _)
  | presInEmpty => exact .of_command rfl rfl (s.advances_edge s.advances_inEmpty)

/-! ## POWER_ON_RESET and the idle second -/

/-- The power-on state meets every invariant that stands alone. -/
theorem State.powerOnBase_sound (s : State) (x : Straps) :
    (s.powerOnBase x).CatalogueSound ∧ (s.powerOnBase x).AnnouncementsSound ∧ (s.powerOnBase x).AheadSound
    ∧ (s.powerOnBase x).PortsSound ∧ (s.powerOnBase x).handler.Sound ∧ (s.powerOnBase x).SettingsSound
    ∧ (s.powerOnBase x).NoticesSound := by
  have record (p : Port) : ∃ n, (s.powerOnBase x).port p = { State.reset.port p with nest := n } := by
    have written : (s.powerOnBase x).port p = portAtReset (State.reset.port p) (x.presT.get p) := by
      simp [State.powerOnBase, State.port, Vector.get_eq_getElem]
    rw [written]
    unfold portAtReset
    split
    · exact ⟨_, rfl⟩
    · exact ⟨_, rfl⟩
  have ports : (s.powerOnBase x).PortsSound := by
    have reset : ∀ p, (State.reset.port p).state = .silent ∧ (State.reset.port p).livenessLeft = none
        ∧ (State.reset.port p).liveness = none ∧ (State.reset.port p).settings.priority = false
        ∧ (State.reset.aheadOf p).nextList = none ∧ (State.reset.aheadOf p).activeList = none := by decide +kernel
    refine ⟨fun p => ?_, fun p q hp => ?_⟩
    · obtain ⟨n, e⟩ := record p
      obtain ⟨state, left, liveness, _, next, active⟩ := reset p
      unfold State.PortSound
      rw [e]
      exact ⟨by simp [state, left], by simp [state], by simp [liveness], fun _ => ⟨next, active⟩⟩
    · obtain ⟨n, e⟩ := record p
      rw [e] at hp
      exact absurd hp (by simp [(reset p).2.2.2.1])
  have ahead : (s.powerOnBase x).AheadSound := by
    have reset : ∀ p, State.reset.aheadOf p = ⟨0, 1, 2, Vector.replicate 3 none⟩ := by decide +kernel
    intro p
    change (State.reset.aheadOf p).Sound
    rw [reset]
    exact ⟨by decide, by decide, by decide, by decide, fun b es h => absurd h (by simp)⟩
  have settings : (s.powerOnBase x).SettingsSound := by
    change State.reset.SettingsSound
    exact ⟨.inr ⟨by decide, by decide⟩, ⟨by decide, by decide⟩, ⟨by decide, by decide⟩, ⟨by decide, by decide⟩, by decide⟩
  have notices : (s.powerOnBase x).NoticesSound := by
    have fresh : ∀ l k, ((State.reset.noticeSet l).entry k).fresh = false := by
      intro l k
      cases l <;> cases k <;> rfl
    have conditions : ∀ k, (s.powerOnBase x).conditionHolds k = false := by
      intro k
      cases k with
      | nestBlocked =>
        change (s.powerOnBase x).anyBlocked = false
        rw [Bool.eq_false_iff, ne_eq, State.anyBlocked_iff]
        rintro (⟨p, hp⟩ | h | h | h)
        · have written : (s.powerOnBase x).toolNest p = (portAtReset (State.reset.port p) (x.presT.get p)).nest := by
            simp [State.toolNest, State.powerOnBase, State.port, Vector.get_eq_getElem]
          have reset : ∀ p, (State.reset.port p).nest = .empty := by decide +kernel
          rw [written] at hp
          unfold portAtReset at hp
          split at hp
          · cases hp
          · rw [reset] at hp; cases hp
        · simp only [State.powerOnBase] at h
          split at h <;> cases h
        · cases h
        · simp only [State.powerOnBase] at h
          split at h <;> cases h
      | zoneConflict =>
        change (!decide (State.reset.conflictedShelves = [])) = false
        decide +kernel
      | _ => rfl
    refine ⟨Nat.zero_le _, fun l k => ⟨fun h => absurd h (by simp [conditions k]), fun h => ?_⟩⟩
    have same : (s.powerOnBase x).noticeSet l = State.reset.noticeSet l := by cases l <;> rfl
    rw [same, fresh] at h
    cases h
  exact ⟨⟨List.nodup_nil, Nat.zero_le _⟩, ⟨Nat.zero_le _, List.nodup_nil, by simp [State.powerOnBase, State.reset]⟩, ahead, ports,
    ⟨rfl, rfl, rfl, rfl⟩, settings, notices⟩

theorem State.advances_admitFirst (s : State) (m : FirstMove) : s.Advances (s.admitFirst m) := by
  cases m with
  | nest f => exact s.advances_admitFresh f
  | census => exact s.advances_startCensus 0 47

theorem State.advances_powerOn (s : State) (x : Straps) : (s.powerOnBase x).Advances (s.powerOn x) := by
  have blocked : (s.powerOnBase x).Advances ((s.powerOnBase x).blockBo x) := by
    unfold State.blockBo
    split
    · exact State.advances_nestBlocks _ _ _
    · exact .refl _
  unfold State.powerOn
  simp only
  refine (blocked.trans (State.advances_freeOrder _ _)).trans (State.advances_foldl (fun t m => ?_) _ _)
  exact (t.advances_admitFirst m).trans (State.advances_settle _ t noTouch)

theorem State.idleSecond_eq (s : State) : ∃ n, s.idleSecond = { s with
    clock := s.clock + 1
    tickPhase := s.tickPhase + 1
    ports := s.ports.map PortRec.second
    handler := { s.handler with timer := countDown s.handler.timer }
    materialNotices := { s.materialNotices with gap := countDown s.materialNotices.gap }
    serviceNotices := { s.serviceNotices with gap := countDown s.serviceNotices.gap }
    choices := n
    pending := s.pending ++ (freeOrder s.expiries s).1 } := by
  obtain ⟨n, e⟩ := freeOrder_state s s.expiries
  exact ⟨n, by simp only [State.idleSecond, e]⟩

/-- A port's timers one second on leave the rest of its record. -/
theorem State.port_second (s : State) (p : Port) :
    State.port { s with ports := s.ports.map PortRec.second } p = (s.port p).second := by
  simp [State.port, Vector.get_eq_getElem]

/-- The same entries in the notice sets, and no new condition. -/
theorem State.NoticesSound.of_entries {s t : State} (h : s.NoticesSound)
    (length : t.catalogue.length ≤ Config.catalogueCapacity)
    (material : t.materialNotices.entries = s.materialNotices.entries)
    (service : t.serviceNotices.entries = s.serviceNotices.entries)
    (conditions : ∀ k, t.conditionHolds k = true → s.conditionHolds k = true) : t.NoticesSound := by
  have entry (l : NoticeLink) (k : NoticeKind) : (t.noticeSet l).entry k = (s.noticeSet l).entry k := by
    cases l <;> simp [State.noticeSet, NoticeSet.entry, material, service]
  refine ⟨length, fun l k => ?_⟩
  rw [entry]
  exact ⟨fun holds => (h.2 l k).1 (conditions k holds), (h.2 l k).2⟩

/-- One second of station time, its queued commands apart, keeps every invariant that stands alone. -/
theorem State.keeps_idleSecond (s : State) : s.Keeps { s.idleSecond with pending := s.pending } := by
  obtain ⟨n, e⟩ := s.idleSecond_eq
  rw [e]
  refine ⟨⟨rfl, id, id, fun h => ⟨fun p => ?_, fun p q => ?_⟩, fun h => ?_, fun h => h, .of_tx_eq rfl⟩, fun h => h.of_entries h.1 rfl rfl ?_⟩
  · obtain ⟨timer, liveness, values, shut⟩ := h.1 p
    have record := s.port_second p
    unfold State.port at record
    unfold State.PortSound State.port
    rw [record]
    exact ⟨by simpa [PortRec.second, State.port] using timer, liveness, values, shut⟩
  · have priority := fun p => congrArg (·.settings.priority) (s.port_second p)
    exact fun hp hq => h.2 p q ((priority p).symm.trans hp) ((priority q).symm.trans hq)
  · unfold Handler.Sound countDown at *
    split at h <;> simp_all
  · intro k holds
    cases k with
    | nestBlocked =>
      simp only [State.conditionHolds] at holds ⊢
      rw [State.anyBlocked_iff] at holds ⊢
      refine holds.imp (fun ⟨p, hp⟩ => ⟨p, ?_⟩) (fun x => x)
      have nest := congrArg (·.nest) (s.port_second p)
      unfold State.toolNest at hp ⊢
      exact nest.symm.trans hp
    | _ => exact holds

/-! ## Every command, and every step -/

/-- The invariants that stand alone hold of `t` where they hold of `s`. -/
structure State.Preserves (s t : State) : Prop where
  catalogue : s.CatalogueSound → s.AnnouncementsSound → t.CatalogueSound ∧ t.AnnouncementsSound
  ahead : s.AheadSound → t.AheadSound
  ports : s.PortsSound → t.PortsSound
  handler : s.handler.Sound → t.handler.Sound
  settings : s.SettingsSound → t.SettingsSound
  notices : s.NoticesSound → t.NoticesSound

/-- The invariants say nothing of the frames handed over and of the commands waiting. -/
theorem State.Keeps.preserves {s u : State} (h : s.Keeps u) (tx : Vector (List OutFrame) 9) (pending : List Instr) :
    s.Preserves { u with tx := tx, pending := pending } :=
  ⟨fun c a => h.catalogue ⟨c, a⟩, h.ahead, h.ports, h.handler, h.settings, h.notices⟩

/-- A command but POWER_ON_RESET completes in a state that its change and at most one answer give. -/
theorem exec_completes (c : Instr) (s : State) (h : ∀ x, c ≠ .powerOnReset x) :
    ∃ u tx, exec c s = .next { u with tx := tx } ∧ s.Keeps u ∧ (resetsLife c = false → s.Ages u) := by
  obtain ⟨u, ends, keeps⟩ := does c s h
  unfold EndsIn at ends
  split at ends
  · obtain ⟨code, fields, e⟩ := ends
    exact ⟨u, _, e, keeps⟩
  · rcases ends with e | ⟨l, tag, kind, e⟩
    · exact ⟨u, u.tx, e, keeps⟩
    · exact ⟨u, _, e, keeps⟩

theorem exec_preserves {c : Instr} {s t : State} (h : exec c s = .next t) : s.Preserves t := by
  by_cases reset : ∃ x, c = .powerOnReset x
  · obtain ⟨x, rfl⟩ := reset
    cases h
    obtain ⟨catalogue, announcements, ahead, ports, handler, settings, notices⟩ := s.powerOnBase_sound x
    have k := (s.advances_powerOn x).keeps
    exact ⟨fun _ _ => k.catalogue ⟨catalogue, announcements⟩, fun _ => k.ahead ahead, fun _ => k.ports ports,
      fun _ => k.handler handler, fun _ => k.settings settings, fun _ => k.notices notices⟩
  · obtain ⟨u, tx, e, keeps, _⟩ := exec_completes c s fun x ne => reset ⟨x, ne⟩
    rw [h] at e
    cases e
    exact keeps.preserves tx u.pending

theorem step_preserves {s t : State} (h : step s = .next t) : s.Preserves t := by
  unfold step at h
  split at h
  · cases h
    exact s.keeps_idleSecond.preserves s.idleSecond.tx s.idleSecond.pending
  · next c rest _ =>
    have p : State.Preserves { s with pending := rest } t := exec_preserves h
    exact ⟨p.catalogue, p.ahead, p.ports, p.handler, p.settings, p.notices⟩

/-- Settles O3: a command ends in a state of its own, with the queue behind it. -/
theorem everyCommandCompletes : Obligations.EveryCommandCompletes := by
  intro c s
  by_cases reset : ∃ x, c = .powerOnReset x
  · obtain ⟨x, rfl⟩ := reset
    exact ⟨_, rfl, (s.advances_powerOn x).pending⟩
  · obtain ⟨u, tx, e, keeps, _⟩ := exec_completes c s fun x ne => reset ⟨x, ne⟩
    exact ⟨_, e, keeps.pending⟩

/-- Settles O6: records are created for unknown identifiers while there is room, and a creation drops its announcement. -/
theorem stepKeepsCatalogueForm : Obligations.StepKeepsCatalogueForm :=
  fun _ _ catalogue announcements h => (step_preserves h).catalogue catalogue announcements

/-- Settles O8, by what each operation keeps of the buffers and the port records. -/
theorem stepKeepsPortAndCallAheadForm : Obligations.StepKeepsPortAndCallAheadForm :=
  ⟨fun _ _ sound h => (step_preserves h).ahead sound, fun _ _ sound h => (step_preserves h).ports sound⟩

/-- Settles O11: a condition begins with the raise of its kind, and pending flags go only with their conditions. -/
theorem stepKeepsConditionsPending : Obligations.StepKeepsConditionsPending :=
  fun _ _ sound h => (step_preserves h).notices sound

/-- Settles O12: counters are written by additions only, but for the commands left out. -/
theorem countersNeverDecrease : Obligations.CountersNeverDecrease := by
  intro c s t h reset pass condition id r r' hr hr'
  obtain ⟨u, tx, e, _, ages⟩ := exec_completes c s reset
  rw [h] at e
  cases e
  refine ages ?_ id r r' hr hr'
  unfold resetsLife
  split
  · exact absurd rfl (reset _)
  · exact absurd rfl (pass _ _ _)
  · exact absurd rfl (condition _ _ _)
  · rfl

/-- Settles O14: what a request changes hands over unrequested frames only, and its one answer comes last. -/
theorem everyRequestAnsweredOnceLast : Obligations.EveryRequestAnsweredOnceLast := by
  intro c s t l tag k request h
  obtain ⟨u, ends, keeps, _⟩ := does c s (fun x e => by rw [e] at request; cases request)
  unfold EndsIn at ends
  rw [request] at ends
  obtain ⟨code, fields, e⟩ := ends
  rw [h] at e
  cases e
  refine ⟨⟨code, fields, ?_⟩, fun other ne => ?_⟩
  · obtain ⟨fs, unasked, sent⟩ := keeps.sends (.request l)
    exact ⟨fs, unasked, by rw [State.answer, State.sent_send_same, sent]⟩
  · obtain ⟨fs, unasked, sent⟩ := keeps.sends other
    exact ⟨fs, unasked, by rw [State.answer, State.sent_send_other _ ne, sent]⟩

end Sys2Proof.Machine
end

section
/-! PROOFS. The statements that need no more than one operation each: the step, the idle second, the reset state, the checks of the
link interface and the receivers (O1, O2, O5, O13, O16). -/

namespace Sys2Proof.Machine

/-- Settles O1, by the definition of a step. -/
theorem stepRunsFrontCommand : Obligations.StepRunsFrontCommand := by
  intro s c rest h
  rw [step, h]

/-! ## The idle second (R1, R172) -/

/-- Every free order is an order of the list. -/
theorem permuteBy_perm {α : Type} (fuel k : Nat) (xs : List α) (h : xs.length ≤ fuel) : (permuteBy fuel k xs).Perm xs := by
  induction fuel generalizing k xs with
  | zero => simp [List.length_eq_zero_iff.mp (Nat.le_zero.mp h), permuteBy]
  | succ fuel ih =>
    unfold permuteBy
    cases xs with
    | nil => simp
    | cons y ys =>
      have below : k % (y :: ys).length < (y :: ys).length := Nat.mod_lt _ (by simp)
      rw [List.getElem?_eq_getElem below]
      simp only
      refine ((ih _ _ ?_).cons _).trans (List.getElem_cons_eraseIdx_perm below)
      rw [List.length_eraseIdx_of_lt below]
      simp at h ⊢
      omega

theorem freeOrder_perm {α : Type} (xs : List α) (s : State) : (freeOrder xs s).1.Perm xs := by
  unfold freeOrder
  split
  · exact .refl _
  · exact .refl _
  · exact permuteBy_perm _ _ _ le_rfl

theorem mem_allPorts (p : Port) : p ∈ allPorts := by revert p; decide

theorem runsOut_iff (n : Nat) (t : Option Nat) : runsOut n t = true ↔ ∃ x, t = some x ∧ x ≤ n := by
  cases t <;> simp [runsOut]

theorem State.mem_portExpiries (s : State) (p : Port) (c : Instr) :
    c ∈ s.portExpiries p ↔
      (∃ n, c = .livenessExpiry p ∧ (s.port p).livenessLeft = some n ∧ n ≤ 10)
      ∨ (∃ n, c = .collectWindowExpiry p ∧ (s.port p).window = some ⟨.collect, n⟩ ∧ n ≤ 1)
      ∨ (∃ n, c = .returnWaitExpiry p ∧ (s.port p).window = some ⟨.returnWait, n⟩ ∧ n ≤ 1) := by
  have liveness : c ∈ (if runsOut 10 (s.port p).livenessLeft then [Instr.livenessExpiry p] else [])
      ↔ ∃ n, c = .livenessExpiry p ∧ (s.port p).livenessLeft = some n ∧ n ≤ 10 := by
    rw [exists_and_left, ← runsOut_iff]
    split
    · next h => simp [h]
    · next h => simp [h]
  unfold State.portExpiries
  rw [List.mem_append, liveness]
  refine or_congr_right ?_
  split
  · next n h =>
    rw [h]
    split <;> simp_all
  · next n h =>
    rw [h]
    split <;> simp_all
  · next h => simp [h]

theorem State.mem_expiries (s : State) (c : Instr) :
    c ∈ s.expiries ↔ (∃ p, c ∈ s.portExpiries p) ∨ (c = .phaseTimeout ∧ runsOut 1 s.handler.timer = true)
      ∨ (∃ l, c = .gapTimerExpiry l ∧ runsOut 1 (s.noticeSet l).gap = true) ∨ (c = .minuteTick ∧ s.tickPhase = 59) := by
  have links : (∃ l, c = .gapTimerExpiry l ∧ runsOut 1 (s.noticeSet l).gap = true)
      ↔ (c = .gapTimerExpiry .material ∧ runsOut 1 s.materialNotices.gap = true)
        ∨ (c = .gapTimerExpiry .service ∧ runsOut 1 s.serviceNotices.gap = true) := by
    constructor
    · rintro ⟨_ | _, h⟩
      · exact .inl h
      · exact .inr h
    · rintro (h | h)
      · exact ⟨.material, h⟩
      · exact ⟨.service, h⟩
  have single (b : Bool) (x : Instr) : c ∈ (if b = true then [x] else []) ↔ c = x ∧ b = true := by
    cases b <;> simp
  have minute : c ∈ (if s.tickPhase = 59 then [Instr.minuteTick] else []) ↔ c = .minuteTick ∧ s.tickPhase = 59 := by
    split <;> simp_all
  simp only [State.expiries, List.mem_append, List.mem_flatMap, mem_allPorts, true_and, single, minute, links, or_assoc]

/-- The expiries of a port carry its number. -/
theorem State.portExpiries_nodup (s : State) (p : Port) : (s.portExpiries p).Nodup := by
  unfold State.portExpiries
  split <;> split <;> (try split) <;> simp

theorem nodup_append_single {α : Type} {xs : List α} {b : Prop} [Decidable b] {x : α} (h : xs.Nodup) (new : x ∉ xs) :
    (xs ++ if b then [x] else []).Nodup := by
  split
  · simpa [List.nodup_append, h] using fun y hy (e : y = x) => new (e ▸ hy)
  · simpa using h

theorem not_mem_append_single {α : Type} {xs : List α} {b : Prop} [Decidable b] {x y : α} (h : x ∉ xs) (ne : x ≠ y) :
    x ∉ xs ++ if b then [y] else [] := by
  split <;> simp [h, ne]

theorem State.expiries_nodup (s : State) : s.expiries.Nodup := by
  have ports : (allPorts.flatMap s.portExpiries).Nodup := by
    rw [List.nodup_flatMap]
    refine ⟨fun p _ => s.portExpiries_nodup p, ?_⟩
    have distinct : allPorts.Nodup := by decide
    refine distinct.imp fun {p q} ne c hp hq => ?_
    rw [State.mem_portExpiries] at hp hq
    rcases hp with ⟨_, rfl, _⟩ | ⟨_, rfl, _⟩ | ⟨_, rfl, _⟩ <;> simp [ne] at hq
  have apart (c : Instr) (h : c ∈ allPorts.flatMap s.portExpiries) :
      c ≠ .phaseTimeout ∧ (∀ l, c ≠ .gapTimerExpiry l) ∧ c ≠ .minuteTick := by
    obtain ⟨p, _, hp⟩ := List.mem_flatMap.mp h
    rw [State.mem_portExpiries] at hp
    rcases hp with ⟨_, rfl, _⟩ | ⟨_, rfl, _⟩ | ⟨_, rfl, _⟩ <;> simp
  unfold State.expiries
  refine nodup_append_single (nodup_append_single (nodup_append_single (nodup_append_single ports ?_) ?_) ?_) ?_
  · exact fun h => (apart _ h).1 rfl
  · exact not_mem_append_single (fun h => (apart _ h).2.1 _ rfl) (by simp)
  · exact not_mem_append_single (not_mem_append_single (fun h => (apart _ h).2.1 _ rfl) (by simp)) (by simp)
  · exact not_mem_append_single (not_mem_append_single (not_mem_append_single (fun h => (apart _ h).2.2 rfl) (by simp))
      (by simp)) (by simp)

/-- Settles O2: the free order of the expiries is a permutation of them. -/
theorem idleStepIsOneSecond : Obligations.IdleStepIsOneSecond := by
  intro s idle
  obtain ⟨n, e⟩ := s.idleSecond_eq
  have order := freeOrder_perm s.expiries s
  refine ⟨s.idleSecond, by rw [step, idle], ?_, ?_, fun c => ?_⟩
  · rw [e]
    rfl
  · rw [e, idle]
    exact (order.nodup_iff).mpr s.expiries_nodup
  · have mem : c ∈ s.idleSecond.pending ↔ c ∈ s.expiries := by
      rw [e, idle]
      exact order.mem_iff
    rw [mem, State.mem_expiries]
    simp only [State.mem_portExpiries, runsOut_iff, exists_or, or_assoc, exists_and_left]

/-! ## The reset state -/

theorem reset_conditions (k : NoticeKind) : State.reset.conditionHolds k = false := by
  cases k <;> decide +kernel

/-- Settles O5: the reset state is the power-on state with no pod on any nest, and its queue is empty. -/
theorem resetIsSound : Obligations.ResetIsSound := by
  have base : State.reset.powerOnBase ⟨Vector.replicate 6 false, false, false, false, false⟩ = State.reset := by
    decide +kernel
  obtain ⟨catalogue, announcements, ahead, ports, handler, settings, notices⟩ :=
    State.reset.powerOnBase_sound ⟨Vector.replicate 6 false, false, false, false, false⟩
  rw [base] at catalogue announcements ahead ports handler settings notices
  refine ⟨catalogue, announcements, Nat.zero_le _, ahead, ports, handler, settings, notices, ?_⟩
  have empty : State.reset.queue = [] := rfl
  refine ⟨List.nodup_nil, by simp [empty], by simp [empty], ?_, ?_, ?_⟩
  · rintro q ⟨⟩
  · rintro r ⟨⟩
  · rintro m c ⟨⟩

/-! ## The checks of the link interface (R205, R209) -/

theorem onTool_none (l : ReqLink) : onTool l = none ↔ Placement.tools.includes l = false := by
  cases l <;> simp [onTool, Placement.includes]

theorem onMaterial_none (l : ReqLink) : onMaterial l = none ↔ Placement.material.includes l = false := by
  cases l <;> simp [onMaterial, Placement.includes]

theorem onEither_none (l : ReqLink) : onEither l = none ↔ Placement.both.includes l = false := by
  cases l <;> simp [onEither, Placement.includes]

theorem onService_none (l : ReqLink) : onService l = none ↔ Placement.service.includes l = false := by
  cases l <;> simp [onService, Placement.includes]

/-- Checks 2 and 3 of a good frame: the placement, then the form (R205). -/
def ChecksFirst (c : Instr) (s : State) (l : ReqLink) (tag : Byte) (k : FrameKind) : Prop :=
  ((placementOf k).includes l = false →
    exec c s = .next ((s.goodFrame l).send (.request l) (.answer tag k.byte .notHere .none)))
  ∧ ((placementOf k).includes l = true → c.outOfForm = true →
    exec c s = .next ((s.goodFrame l).send (.request l) (.answer tag k.byte .badForm .none)))

theorem ChecksFirst.of_request {α β : Type} {c : Instr} {s : State} {l : ReqLink} {tag : Byte} {k : FrameKind}
    {place : ReqLink → Option β} {body : Option α} {owner : State → β → α → Reply}
    (placed : ∀ l, place l = none ↔ (placementOf k).includes l = false)
    (runs : exec c s = .next (s.request l tag k (place l) body owner)) (form : c.outOfForm = body.isNone) :
    ChecksFirst c s l tag k := by
  refine ⟨fun outside => ?_, fun inside out => ?_⟩
  · rw [runs, (placed l).mpr outside]
    rfl
  · rw [form, Option.isNone_iff_eq_none] at out
    have here : place l ≠ none := fun h => by rw [(placed l).mp h] at inside; cases inside
    obtain ⟨b, hb⟩ := Option.ne_none_iff_exists'.mp here
    rw [runs, hb, out]
    rfl

/-- Settles O13, one request kind at a time. -/
theorem linkChecksComeFirst : Obligations.LinkChecksComeFirst := by
  refine ⟨fun _ _ _ _ => rfl, fun c s l tag k request => ?_⟩
  change ChecksFirst c s l tag k
  cases c with
  | hello | alive | call | cancel | ahead | returnLots | portState =>
    cases request
    exact .of_request onTool_none rfl rfl
  | announce | unannounce | exportOut =>
    cases request
    exact .of_request onMaterial_none rfl rfl
  | hold | release | setClass | inspect | verdict | census | censusStop | interceptSet | ack | mask | qReticle | qSlot
  | qZoneEntry | qZoneSlot | qPort | qQueue | qInterceptEntry | qInterceptAll =>
    cases request
    exact .of_request onEither_none rfl rfl
  | zoneSet | classSet | portSet | portOpen | portClose | timingSet | setSlotEmpty | setSlotReticle | forget | setCondition
  | resume | resolveAtTarget | resolveAtSource | resolveRemoved | restart =>
    cases request
    exact .of_request onService_none rfl rfl
  | _ => cases request

/-! ## The receivers (R204, R205) -/

@[simp] theorem State.setRx_setRx (s : State) (l : Link) (x y : RxState) : (s.setRx l x).setRx l y = s.setRx l y := by
  simp [State.setRx]

theorem State.setRx_rxOf (s : State) (l : Link) : s.setRx l (s.rxOf l) = s := by
  unfold State.setRx State.rxOf
  congr 1
  simp [Vector.get_eq_getElem]

/-- A byte taken inside a frame. -/
theorem State.receiveByte_inFrame (s : State) (l : Link) (taken : List Byte) (b : Byte) :
    (s.setRx l (.inFrame taken)).receiveByte l b = (s.setRx l (.inFrame taken)).takeInFrame l (taken ++ [b]) := by
  unfold State.receiveByte
  rw [State.rxOf_setRx_same]

theorem bodyLength_append {taken : List Byte} (h : 3 ≤ taken.length) (xs : List Byte) :
    bodyLength (taken ++ xs) = bodyLength taken := by
  unfold bodyLength
  rw [List.getD_append _ _ _ _ (by omega), List.getD_append _ _ _ _ (by omega)]

/-- The bytes of a frame before its last are taken up one after the other. -/
theorem State.receive_inFrame (s : State) (l : Link) (xs taken : List Byte) (started : 3 ≤ taken.length)
    (short : taken.length + xs.length < frameLength taken) :
    (s.setRx l (.inFrame taken)).receive l xs = s.setRx l (.inFrame (taken ++ xs)) := by
  induction xs generalizing taken with
  | nil => simp [State.receive]
  | cons x xs ih =>
    have same : bodyLength (taken ++ [x]) = bodyLength taken := bodyLength_append started _
    have step : (s.setRx l (.inFrame taken)).receiveByte l x = s.setRx l (.inFrame (taken ++ [x])) := by
      rw [State.receiveByte_inFrame]
      unfold State.takeInFrame frameLength at *
      rw [same]
      simp only [List.length_append, List.length_cons, List.length_nil] at *
      rw [if_neg (by omega), if_neg (by omega), State.setRx_setRx]
    have rest := ih (taken ++ [x]) (by simp; omega) (by
      unfold frameLength at *
      rw [same]
      simp at *
      omega)
    rw [State.receive, List.foldl_cons, step]
    simpa [State.receive] using rest

/-- A hunting receiver takes up the start byte and the length. -/
theorem State.receive_length (s : State) (l : Link) (hunting : s.rxOf l = .hunting) (hi lo : Byte)
    (fits : 256 * hi.toNat + lo.toNat ≤ 320) : s.receive l [0xC3, hi, lo] = s.setRx l (.inFrame [0xC3, hi, lo]) := by
  have start : s.receiveByte l 0xC3 = s.setRx l (.inFrame [0xC3]) := by
    unfold State.receiveByte
    rw [hunting]
    exact if_pos rfl
  have second : (s.setRx l (.inFrame [0xC3])).receiveByte l hi = s.setRx l (.inFrame [0xC3, hi]) := by
    rw [State.receiveByte_inFrame]
    simp [State.takeInFrame]
  have third : (s.setRx l (.inFrame [0xC3, hi])).receiveByte l lo = s.setRx l (.inFrame [0xC3, hi, lo]) := by
    rw [State.receiveByte_inFrame]
    simp [State.takeInFrame, bodyLength, Config.receivedBodyLimit]
    omega
  simp only [State.receive, List.foldl_cons, List.foldl_nil, start, second, third]

/-- A length above 320 is discarded with its third byte (R205). -/
theorem State.receive_excess (s : State) (l : Link) (hunting : s.rxOf l = .hunting) (hi lo : Byte)
    (excess : 320 < 256 * hi.toNat + lo.toNat) : s.receive l [0xC3, hi, lo] = s := by
  have start : s.receiveByte l 0xC3 = s.setRx l (.inFrame [0xC3]) := by
    unfold State.receiveByte
    rw [hunting]
    exact if_pos rfl
  have second : (s.setRx l (.inFrame [0xC3])).receiveByte l hi = s.setRx l (.inFrame [0xC3, hi]) := by
    rw [State.receiveByte_inFrame]
    simp [State.takeInFrame]
  have third : (s.setRx l (.inFrame [0xC3, hi])).receiveByte l lo = s.setRx l .hunting := by
    rw [State.receiveByte_inFrame]
    simp [State.takeInFrame, bodyLength, Config.receivedBodyLimit, excess]
  simp only [State.receive, List.foldl_cons, List.foldl_nil, start, second, third]
  rw [← hunting, State.setRx_rxOf]

/-- The two bytes of a number spell it. -/
theorem putNumber_value {n : Nat} (h : n < 65536) :
    256 * (BitVec.ofNat 8 (n / 256)).toNat + (BitVec.ofNat 8 n).toNat = n := by
  simp only [BitVec.toNat_ofNat]
  omega

/-- A whole frame, its body within the limit, is taken by its last byte: it spells its command when the CRC carried is good. -/
theorem State.receive_frame (s : State) (l : Link) (hunting : s.rxOf l = .hunting) (kind tag : Byte) (body : List Byte)
    (fits : body.length ≤ 320) (hi lo : Byte) :
    s.receive l (0xC3 :: putNumber body.length ++ kind :: tag :: body ++ [hi, lo])
      = if crc16 (putNumber body.length ++ kind :: tag :: body) = hi ++ lo then
          s.enqueue (decodeFrame l kind tag body)
        else s := by
  obtain ⟨x, y, number, value⟩ : ∃ x y : Byte, putNumber body.length = [x, y] ∧ 256 * x.toNat + y.toNat = body.length :=
    ⟨_, _, rfl, putNumber_value (by omega)⟩
  let taken : List Byte := 0xC3 :: x :: y :: kind :: tag :: body ++ [hi, lo]
  have length : bodyLength taken = body.length := by simpa [bodyLength, taken] using value
  have split : 0xC3 :: putNumber body.length ++ kind :: tag :: body ++ [hi, lo]
      = [0xC3, x, y] ++ (kind :: tag :: body ++ [hi]) ++ [lo] := by simp [number]
  have before : s.receive l ([0xC3, x, y] ++ (kind :: tag :: body ++ [hi]))
      = s.setRx l (.inFrame ([0xC3, x, y] ++ (kind :: tag :: body ++ [hi]))) := by
    have first := s.receive_length l hunting x y (by omega)
    have go := s.receive_inFrame l (kind :: tag :: body ++ [hi]) [0xC3, x, y] (by simp) (by
      simp [frameLength, bodyLength]; omega)
    simpa only [State.receive, List.foldl_append, ← first] using go
  have last : s.receive l ([0xC3, x, y] ++ (kind :: tag :: body ++ [hi]) ++ [lo])
      = (s.setRx l (.inFrame ([0xC3, x, y] ++ (kind :: tag :: body ++ [hi])))).takeInFrame l taken := by
    rw [State.receive, List.foldl_append]
    change State.receiveByte (s.receive l _) l lo = _
    rw [before, State.receiveByte_inFrame]
    congr 1
    simp [taken]
  have crc : crcGood taken = decide (crc16 (putNumber body.length ++ kind :: tag :: body) = hi ++ lo) := by
    have covered : (taken.drop 1).take (4 + body.length) = putNumber body.length ++ kind :: tag :: body := by
      rw [number, show 4 + body.length = (x :: y :: kind :: tag :: body).length by simp; omega]
      simp only [taken, List.cons_append, List.drop_succ_cons, List.drop_zero]
      exact List.take_left' rfl
    have getHi : taken.getD (5 + body.length) 0 = hi := by
      simp [taken, show 5 + body.length = body.length + 5 by omega]
    have getLo : taken.getD (6 + body.length) 0 = lo := by
      simp [taken, show 6 + body.length = body.length + 1 + 5 by omega]
    simp only [crcGood, length, covered, getHi, getLo]
  have spells : decodeTaken l taken = decodeFrame l kind tag body := by
    unfold decodeTaken
    rw [length]
    simp [taken]
  have whole : taken.length = frameLength taken := by
    rw [frameLength, length]
    simp [taken]
    omega
  have hunts : s.setRx l .hunting = s := by rw [← hunting, State.setRx_rxOf]
  rw [split, last]
  unfold State.takeInFrame
  rw [if_neg (by rw [length]; simp [taken]), if_pos ⟨by simp [taken], whole⟩]
  simp only [State.setRx_setRx, hunts, crc, decide_eq_true_eq, spells]

/-- The two bytes of a CRC spell it. -/
theorem crc_bytes (c : BitVec 16) : BitVec.ofNat 8 (c.toNat / 256) ++ BitVec.ofNat 8 c.toNat = c := by
  apply BitVec.eq_of_toNat_eq
  have := c.isLt
  simp only [BitVec.toNat_append, BitVec.toNat_ofNat, Nat.shiftLeft_eq]
  rw [← Nat.shiftLeft_eq, ← Nat.shiftLeft_add_eq_or_of_lt (by omega), Nat.shiftLeft_eq]
  omega

/-- Settles O16: a frame is taken up byte by byte, and its last byte decides. -/
theorem receiverTakesGoodFramesAlone : Obligations.ReceiverTakesGoodFramesAlone := by
  refine ⟨fun s l hunting => ⟨fun kind tag body fits => ⟨?_, fun hi lo bad => ?_⟩, fun hi lo excess => ?_⟩, fun _ => rfl,
    fun s l => ⟨s.discardFrame l, rfl, rfl, rfl, s.rxOf_setRx_same l _, fun l' ne => s.rxOf_setRx_other ne _, rfl⟩⟩
  · have taken := s.receive_frame l hunting kind tag body fits
      (BitVec.ofNat 8 ((crc16 (putNumber body.length ++ kind :: tag :: body)).toNat / 256))
      (BitVec.ofNat 8 (crc16 (putNumber body.length ++ kind :: tag :: body)).toNat)
    rw [crc_bytes, if_pos rfl] at taken
    exact taken
  · rw [s.receive_frame l hunting kind tag body fits, if_neg (Ne.symm bad)]
  · exact s.receive_excess l hunting hi lo excess

end Sys2Proof.Machine
end

section
/-! PROOFS. The liveness timer of a tool link (O15), and what the queries answer (O26). -/

namespace Sys2Proof.Machine

variable {s t u : State}

/-! ## The liveness timer (R52) -/

/-- Every port's state and liveness values stand. -/
def State.LinksStand (s t : State) : Prop :=
  ∀ p, (t.port p).state = (s.port p).state ∧ (t.port p).liveness = (s.port p).liveness
    ∧ (t.port p).livenessLeft = (s.port p).livenessLeft

theorem State.LinksStand.trans (h : s.LinksStand t) (k : t.LinksStand u) : s.LinksStand u := fun p => by
  obtain ⟨state, liveness, left⟩ := h p
  obtain ⟨state', liveness', left'⟩ := k p
  exact ⟨state'.trans state, liveness'.trans liveness, left'.trans left⟩

theorem State.LinksStand.of_ports (h : t.ports = s.ports) : s.LinksStand t := fun p => by
  unfold State.port
  rw [h]
  exact ⟨rfl, rfl, rfl⟩

/-- A port's record in the steady part. -/
theorem State.steady_port (s : State) (p : Port) : s.steady.ports.get p = (s.port p).steady := by
  simp [State.steady, State.port, Vector.get_eq_getElem]

theorem State.LinksStand.of_steady (h : t.steady = s.steady) : s.LinksStand t := fun p => by
  have same : (t.port p).steady = (s.port p).steady := by rw [← t.steady_port, h, s.steady_port]
  exact ⟨congrArg (·.state) same, congrArg (·.liveness) same, congrArg (·.livenessLeft) same⟩

theorem State.linksStand_settle (b a : State) (x : Touch) : b.LinksStand (b.settle a x) :=
  .of_steady (b.aftermath_settle a x).steady

theorem State.linksStand_withdrawWhere (s : State) (f : Move → Bool) (r : Option Reason) :
    s.LinksStand (s.withdrawWhere f r) :=
  .of_ports (s.withdrawWhere_ind (fun t => t.ports = s.ports) f r (fun t m _ _ _ h => by simpa using h) rfl)

theorem State.linksStand_offerLink (s : State) (o : Offer) (c : Claim) (r : Option Reason) :
    s.LinksStand (s.offerLink o c r).state := by
  have aside (t : State) : t.LinksStand (t.takeAside c r) := by
    unfold State.takeAside
    split
    · exact .of_ports (by simp)
    · exact .of_ports rfl
  have entered (t : State) (o : Offer) (d h : Bool) : t.LinksStand (t.enter o d h) := .of_steady (t.steady_enter o d h)
  unfold State.offerLink
  split
  · exact (aside s).trans (entered _ _ _ _)
  · next n _ =>
    have hit : s.LinksStand (s.countHit n o) := .of_steady (s.steady_countHit n o)
    simp only
    split
    · exact hit.trans ((aside _).trans (entered _ _ _ _))
    · refine hit.trans ?_
      unfold State.holdOffered
      split
      · exact .of_steady (State.steady_setHeld _ _)
      · exact .of_ports rfl
    · split
      · exact hit
      · exact hit.trans ((aside _).trans (entered _ _ _ _))

/-- An ATTACHED port whose liveness timer has just been started with the period stored. -/
def PortRec.Renewed (r : PortRec) : Prop := r.state = .attached ∧ r.livenessLeft = r.liveness.map livenessPeriod

theorem State.LinksStand.renewed {p : Port} (h : s.LinksStand t) (k : (s.port p).Renewed) : (t.port p).Renewed := by
  obtain ⟨state, liveness, left⟩ := h p
  exact ⟨state.trans k.1, by rw [left, liveness]; exact k.2⟩

theorem State.renewed_goodFrame {p : Port} (attached : (s.port p).state = .attached) :
    ((s.goodFrame (.tool p)).port p).Renewed := by
  unfold State.goodFrame
  simp only [attached, if_true, State.port_updPort]
  exact ⟨rfl, rfl⟩

/-- A reply leaves the port it came from renewed, and does not concern the handler interface. -/
def Reply.Renews (r : Reply) (p : Port) : Prop :=
  match r with
  | .quiet s _ _ => (s.port p).Renewed
  | .change s _ _ _ => (s.port p).Renewed
  | .handler _ _ => False

theorem Reply.Renews.outcome {r : Reply} {p : Port} (h : r.Renews p) (a : State) : ((r.outcome a).port p).Renewed := by
  cases r with
  | quiet s _ _ => exact h
  | change s t _ _ => exact (s.linksStand_settle a t).renewed h
  | handler _ _ => exact h.elim

theorem replyHello_renews {a : State} {p : Port} (h : (a.port p).Renewed) (b : HelloBody) : (replyHello a p b).Renews p := by
  have values : ((a.updPort p (PortRec.withLiveness (livenessOf b))).port p).Renewed := by
    rw [State.port_updPort, if_pos rfl]
    exact ⟨h.1, rfl⟩
  unfold replyHello
  split
  · rw [h.1]
    simp only
    unfold changed Reply.Renews State.rehello
    simp only
    split
    · exact values
    · let named := (a.updPort p (PortRec.withLiveness (livenessOf b))).updPort p (fun r => { r with name := some b.name })
      have renewed : (named.port p).Renewed := by
        rw [State.port_updPort, if_pos rfl]
        exact values
      have emptied : named.LinksStand (named.emptyLists p) := .of_ports rfl
      have dropped : (named.emptyLists p).LinksStand ((named.emptyLists p).dropToolWork p) := State.linksStand_withdrawWhere _ _ _
      have raised : ((named.emptyLists p).dropToolWork p).LinksStand (((named.emptyLists p).dropToolWork p).raiseAttached p) :=
        .of_ports (State.raise_ports _ _ _)
      exact State.LinksStand.renewed (emptied.trans (dropped.trans raised)) renewed
  · exact h

theorem State.linksStand_reportCall (s : State) (p : Port) (id : Ident) (c : AnswerCode) :
    s.LinksStand (s.reportCall p id c) := by
  unfold State.reportCall
  split <;> exact .of_ports rfl

theorem replyCall_renews {a : State} {p : Port} (h : (a.port p).Renewed) (id : Ident) : (replyCall a p id).Renews p := by
  unfold replyCall
  split
  · exact h
  · split
    · exact h
    · split
      · exact h
      · split
        · exact h
        · simp only
          split
          · exact h
          · exact State.LinksStand.renewed ((a.linksStand_offerLink _ _ none).trans (State.linksStand_reportCall _ p id _)) h

theorem State.linksStand_lapseQuietly (s : State) (p : Port) : s.LinksStand (s.lapseQuietly p) := by
  unfold State.lapseQuietly State.reclaimNest
  split
  · split
    · exact .of_steady ((State.steady_offerInward _ _).trans (s.steady_lapseNest p))
    · exact .of_steady (s.steady_lapseNest p)
  · exact .of_ports rfl

theorem replyCancel_renews {a : State} {p : Port} (h : (a.port p).Renewed) (id : Ident) : (replyCancel a p id).Renews p := by
  unfold replyCancel
  split
  · exact h
  · split
    · exact h
    · split
      · split
        · exact State.LinksStand.renewed (.of_ports (a.withdraw_ports _ none)) h
        · exact h
      · split
        · split
          · exact h
          · exact State.LinksStand.renewed (a.linksStand_lapseQuietly p) h
        · exact h

theorem replyAhead_renews {a : State} {p : Port} (h : (a.port p).Renewed) (b : AheadBody) : (replyAhead a p b).Renews p := by
  unfold replyAhead
  split
  · exact h
  · split
    · exact h
    · split
      · exact h
      · exact h

theorem State.linksStand_makeDue (s : State) (id : Ident) : s.LinksStand (s.makeDue id) := by
  unfold State.makeDue
  exact .trans (.of_ports (t := s.updRecord id _) rfl) (.of_steady (State.steady_reclaimIfUnfit _ id))

theorem State.linksStand_dueCheck (s : State) (f : Rec → Bool) : s.LinksStand (s.dueCheck f) := by
  have fold (rs : List Rec) (t : State) : t.LinksStand (rs.foldl (fun t r => t.makeDue r.id) t) := by
    induction rs generalizing t with
    | nil => exact .of_ports rfl
    | cons r rs ih => exact (t.linksStand_makeDue r.id).trans (ih _)
  have raised (t : State) (d : Detail) : t.LinksStand (t.raise .due d) := .of_ports (t.raise_ports _ _)
  rcases s.dueCheck_cases f with ⟨_, h⟩ | ⟨r, _, h⟩ | ⟨_, h⟩ <;> rw [h]
  · exact .of_ports rfl
  · exact (s.linksStand_makeDue r.id).trans (raised _ _)
  · exact (fold _ s).trans (raised _ _)

theorem State.linksStand_addLots (s : State) (id : Ident) (n : Nat) : s.LinksStand (s.addLots id n) := by
  unfold State.addLots
  exact .trans (.of_ports (t := s.updRecord id _) rfl) (State.linksStand_dueCheck _ _)

/-- A port's record written apart from its state and liveness. -/
theorem State.linksStand_updPort (s : State) (p : Port) {f : PortRec → PortRec} (state : (f (s.port p)).state = (s.port p).state)
    (liveness : (f (s.port p)).liveness = (s.port p).liveness) (left : (f (s.port p)).livenessLeft = (s.port p).livenessLeft) :
    s.LinksStand (s.updPort p f) := fun q => by
  rw [State.port_updPort]
  split
  · next e => rw [e]; exact ⟨state, liveness, left⟩
  · exact ⟨rfl, rfl, rfl⟩

theorem State.linksStand_acceptReturn (s : State) (p : Port) (id : Ident) (n : Nat) :
    s.LinksStand (s.acceptReturn p id n) := by
  unfold State.acceptReturn
  split
  · unfold State.completeReturn
    refine .trans (.trans (s.linksStand_updPort p (f := fun r => { r with window := none, pendingReturn := none }) rfl rfl rfl) (.of_steady (State.steady_offerInward _ (collectOffer p (some id))))) ?_
    exact State.linksStand_addLots _ id n
  · exact s.linksStand_updPort p (f := fun r => { r with pendingReturn := some ⟨id, n⟩ }) rfl rfl rfl

theorem replyReturn_renews {a : State} {p : Port} (h : (a.port p).Renewed) (b : ReturnBody) : (replyReturn a p b).Renews p := by
  unfold replyReturn
  split
  · exact h
  · split
    · exact h
    · split
      · refine State.LinksStand.renewed (t := a.lateLots b.id b.lots) ?_ h
        unfold State.lateLots
        split
        · exact a.linksStand_addLots _ _
        · exact .of_ports rfl
      · split
        · exact State.LinksStand.renewed (t := a.acceptReturn p b.id b.lots) (a.linksStand_acceptReturn p _ _) h
        · exact h

theorem State.renewed_answer {u : State} {p : Port} (h : (u.port p).Renewed) (l : ReqLink) (tag kind : Byte) (c : AnswerCode)
    (f : AnswerFields) : ((u.answer l tag kind c f).port p).Renewed := h

/-- A request of the tool links on the link of an ATTACHED port, taken or refused. -/
theorem State.request_renews {α : Type} {s : State} {p : Port} (tag : Byte) (k : FrameKind) (body : Option α)
    {owner : State → Port → α → Reply} (attached : (s.port p).state = .attached)
    (owned : ∀ a x, (a.port p).Renewed → (owner a p x).Renews p) :
    ((s.request (.tool p) tag k (onTool (.tool p)) body owner).port p).Renewed := by
  have renewed := State.renewed_goodFrame attached
  obtain ⟨u, code, fields, e, h⟩ := State.request_ends (s := s) (l := .tool p) (tag := tag) (k := k) (place := onTool (.tool p))
    (body := body) (owner := owner) (P := fun u => (u.port p).Renewed) renewed fun b x hb _ => by
      cases hb
      exact (owned _ x renewed).outcome _
  rw [e]
  exact State.renewed_answer h _ _ _ _ _

/-- Settles O15: a request of another link is refused NOT_HERE with the timer restarted, and what a tool request changes keeps
the timer. -/
theorem goodFrameRestartsLiveness : Obligations.GoodFrameRestartsLiveness := by
  intro c s t p source attached runs
  have renewed := State.renewed_goodFrame attached
  change (t.port p).Renewed
  rcases source with ⟨tag, k, request⟩ | ⟨tag, k, rfl⟩
  · by_cases tools : (placementOf k).includes (.tool p) = true
    · cases c with
      | hello l tag b => cases request; cases runs; exact State.request_renews tag _ b attached fun a x h => replyHello_renews h x
      | alive l tag b => cases request; cases runs; exact State.request_renews tag _ b attached fun a x h => h
      | call l tag b => cases request; cases runs; exact State.request_renews tag _ b attached fun a x h => replyCall_renews h x
      | cancel l tag b => cases request; cases runs; exact State.request_renews tag _ b attached fun a x h => replyCancel_renews h x
      | ahead l tag b => cases request; cases runs; exact State.request_renews tag _ b attached fun a x h => replyAhead_renews h x
      | returnLots l tag b => cases request; cases runs; exact State.request_renews tag _ b attached fun a x h => replyReturn_renews h x
      | portState l tag b => cases request; cases runs; exact State.request_renews tag _ b attached fun a x h => h
      | _ => cases request <;> cases tools
    · have refused := (linkChecksComeFirst.2 c s (.tool p) tag k request).1 (by simpa using tools)
      rw [runs] at refused
      cases refused
      exact State.renewed_answer renewed _ _ _ _ _
  · cases runs
    exact State.renewed_answer renewed _ _ _ _ _

/-! ## The queries (R29, R30, R47, R50, R76, R143, R192) -/

/-- What QPORT and PORTSTATE answer does not show the liveness timer. -/
theorem State.portAnswer_goodFrame (s : State) (p : Port) : (s.goodFrame (.tool p)).portAnswer p = s.portAnswer p := by
  unfold State.goodFrame
  simp only
  split
  · have record : ((s.updPort p (fun r => { r with livenessLeft := r.liveness.map livenessPeriod })).port p)
        = { s.port p with livenessLeft := (s.port p).liveness.map livenessPeriod } := by simp
    have nest : (s.updPort p (fun r => { r with livenessLeft := r.liveness.map livenessPeriod })).toolNest p = s.toolNest p := by
      simp [State.toolNest, record]
    have out : (s.updPort p (fun r => { r with livenessLeft := r.liveness.map livenessPeriod })).checkedOut p = s.checkedOut p := by
      simp [State.checkedOut, nest]
    have prdy : (s.updPort p (fun r => { r with livenessLeft := r.liveness.map livenessPeriod })).prdy p = s.prdy p := by
      simp [State.prdy, nest]
    have pfree : (s.updPort p (fun r => { r with livenessLeft := r.liveness.map livenessPeriod })).pfree p = s.pfree p := by
      simp [State.pfree, nest, record]
    unfold State.portAnswer
    rw [record, nest, out, prdy, pfree]
    rfl
  · rfl

theorem State.goodFrame_port_state (s : State) (l : ReqLink) (p : Port) :
    ((s.goodFrame l).port p).state = (s.port p).state := by
  unfold State.goodFrame
  split
  · split
    · rw [State.port_updPort]
      split
      · next e => rw [e]
      · rfl
    · rfl
  · rfl

/-- On the material link and the service line a good frame changes nothing, and a query is answered at once. -/
theorem State.request_either {α : Type} (s : State) (l : NoticeLink) (tag : Byte) (k : FrameKind) (x : α)
    (owner : State → NoticeLink → α → Reply) :
    s.request (noticeLinkOf l) tag k (onEither (noticeLinkOf l)) (some x) owner
      = (owner s l x).finish s (noticeLinkOf l) tag k.byte := by
  cases l <;> rfl

theorem selector_of_le {n x : Nat} (h : n ≤ x) : selector n x = none := by simp [selector, h]

/-- Settles O26, one query at a time. -/
theorem queriesAnswerFromState : Obligations.QueriesAnswerFromState := by
  refine ⟨fun s p tag => ⟨?_, ?_, ?_, ?_, rfl⟩, fun s l tag => ⟨?_, ?_, ?_, ?_, ?_, ?_, ?_, ?_, ?_, ?_, ?_, ?_, ?_, ?_⟩⟩
  · rw [← s.goodFrame_port_state (.tool p) p]
    rfl
  · rw [← s.portAnswer_goodFrame p]
    rfl
  · exact decide_eq_true_iff
  · simp [State.portAnswer, State.pfree]
  · intro id form r known
    refine congrArg Host.Outcome.next ((s.request_either l tag _ id _).trans ?_)
    simp only [replyQReticle, form, if_true, known]
    rfl
  · intro id form unknown
    refine congrArg Host.Outcome.next ((s.request_either l tag _ id _).trans ?_)
    simp only [replyQReticle, form, if_true, unknown]
    rfl
  · intro n
    refine congrArg Host.Outcome.next ((s.request_either l tag _ n.val _).trans ?_)
    simp only [replyQSlot, selector_val]
    rfl
  · intro k
    refine congrArg Host.Outcome.next ((s.request_either l tag _ k.val _).trans ?_)
    simp only [replyQZoneEntry, selector_val]
    rfl
  · intro n
    refine congrArg Host.Outcome.next ((s.request_either l tag _ n.val _).trans ?_)
    simp only [replyQZoneSlot, selector_val]
    rfl
  · intro p
    refine congrArg Host.Outcome.next ((s.request_either l tag _ p.val _).trans ?_)
    simp only [replyQPort, selector_val]
    rfl
  · exact congrArg Host.Outcome.next (s.request_either l tag _ () _)
  · intro n
    refine congrArg Host.Outcome.next ((s.request_either l tag _ n.val _).trans ?_)
    simp only [replyQInterceptEntry, selector_val]
    rfl
  · exact congrArg Host.Outcome.next (s.request_either l tag _ () _)
  · intro n out
    refine ⟨congrArg Host.Outcome.next ((s.request_either l tag _ n _).trans ?_),
      congrArg Host.Outcome.next ((s.request_either l tag _ n _).trans ?_)⟩
    · simp only [replyQSlot, selector_of_le out]
      rfl
    · simp only [replyQZoneSlot, selector_of_le out]
      rfl
  · intro n out
    refine congrArg Host.Outcome.next ((s.request_either l tag _ n _).trans ?_)
    simp only [replyQZoneEntry, selector_of_le out]
    rfl
  · intro n out
    refine congrArg Host.Outcome.next ((s.request_either l tag _ n _).trans ?_)
    simp only [replyQPort, selector_of_le out]
    rfl
  · intro n out
    refine congrArg Host.Outcome.next ((s.request_either l tag _ n _).trans ?_)
    simp only [replyQInterceptEntry, selector_of_le out]
    rfl
  · intro id bad
    refine congrArg Host.Outcome.next ((s.request_either l tag _ id _).trans ?_)
    simp only [replyQReticle, bad, Bool.false_eq_true, if_false]
    rfl

end Sys2Proof.Machine
end

section
/-! PROOFS. What follows a change moves nothing but by a grant: everything else leaves the slots, the handler interface and the
orders handed over, and clears no held flag (O17, O18, O20). -/

namespace Sys2Proof.Machine

variable {s t u : State}

/-! ## The relation -/

/-- Every record stays in the catalogue, and none is released from hold. -/
def State.HoldsStand (s t : State) : Prop :=
  ∀ id r, s.record id = some r → ∃ r', t.record id = some r' ∧ (r.held = true → r'.held = true)

/-- From `s` to `t` no move is granted: the slots, the handler interface and the orders handed over stand, and no record is
released from hold. -/
structure State.Ungranted (s t : State) : Prop where
  handler : t.handler = s.handler
  slots : t.slots = s.slots
  orders : t.sent .handler = s.sent .handler
  held : s.HoldsStand t

theorem State.HoldsStand.of_catalogue (h : t.catalogue = s.catalogue) : s.HoldsStand t := fun id r hr =>
  ⟨r, by rw [State.record, h]; exact hr, fun h => h⟩

theorem State.HoldsStand.trans (h : s.HoldsStand t) (k : t.HoldsStand u) : s.HoldsStand u := fun id r hr => by
  obtain ⟨x, hx, held⟩ := h id r hr
  obtain ⟨y, hy, held'⟩ := k id x hx
  exact ⟨y, hy, held' ∘ held⟩

theorem State.Ungranted.trans (h : s.Ungranted t) (k : t.Ungranted u) : s.Ungranted u :=
  ⟨k.handler.trans h.handler, k.slots.trans h.slots, k.orders.trans h.orders, h.held.trans k.held⟩

theorem State.Ungranted.refl (s : State) : s.Ungranted s := ⟨rfl, rfl, rfl, .of_catalogue rfl⟩

/-- A change outside slots, records, handler interface and transmitters. -/
theorem State.Ungranted.of_eq (handler : t.handler = s.handler) (slots : t.slots = s.slots)
    (catalogue : t.catalogue = s.catalogue) (tx : t.tx = s.tx) : s.Ungranted t :=
  ⟨handler, slots, by rw [State.sent, tx, State.sent], .of_catalogue catalogue⟩

/-- A change of records that clears no held flag. -/
theorem State.ungranted_mapCatalogue (s : State) {f : Rec → Rec} (ids : ∀ r, (f r).id = r.id)
    (held : ∀ r : Rec, r.held = true → (f r).held = true) : s.Ungranted { s with catalogue := s.catalogue.map f } :=
  ⟨rfl, rfl, rfl, fun id r hr => ⟨f r, by rw [s.record_mapCatalogue ids, hr]; rfl, held r⟩⟩

/-- A frame handed to a request link. -/
theorem State.ungranted_sendRequest (s : State) (l : ReqLink) (f : OutFrame) : s.Ungranted (s.send (.request l) f) :=
  ⟨rfl, rfl, s.sent_send_other (k := .handler) (by simp) f, .of_catalogue rfl⟩

theorem State.ungranted_sendTool (s : State) (p : Port) (f : OutFrame) : s.Ungranted (s.sendTool p f) := by
  unfold State.sendTool
  split
  · exact .refl s
  · exact s.ungranted_sendRequest _ f

theorem State.ungranted_sendRequester (s : State) (r : Requester) (f : OutFrame) : s.Ungranted (s.sendRequester r f) := by
  unfold State.sendRequester
  split
  · exact .refl s
  · exact s.ungranted_sendTool _ f
  · exact s.ungranted_sendRequest _ f

theorem State.ungranted_tellWithdrawn (s : State) (m : Move) (r : Reason) : s.Ungranted (s.tellWithdrawn m r) := by
  unfold State.tellWithdrawn
  split
  · exact s.ungranted_sendRequester _ _
  · exact .refl s

/-! ## Notices -/

theorem State.ungranted_setNoticeSet (s : State) (l : NoticeLink) (x : NoticeSet) : s.Ungranted (s.setNoticeSet l x) :=
  .of_eq (s.setNoticeSet_handler l x) (s.setNoticeSet_slots l x) (s.setNoticeSet_catalogue l x) (s.setNoticeSet_tx l x)

theorem State.ungranted_pushNotice (s : State) (l : NoticeLink) : s.Ungranted (s.pushNotice l) := by
  rcases s.pushNotice_cases l with ⟨_, h⟩ | ⟨_, h⟩ <;> rw [h]
  · obtain ⟨x, e, _⟩ := s.sendNotice_eq l
    rw [e]
    exact (s.ungranted_sendRequest _ _).trans (State.ungranted_setNoticeSet _ l x)
  · exact .refl s

theorem State.ungranted_raiseOn (s : State) (l : NoticeLink) (k : NoticeKind) (d : Detail) :
    s.Ungranted (s.raiseOn l k d) := by
  unfold State.raiseOn
  simp only
  split
  · exact s.ungranted_setNoticeSet l _
  · exact (s.ungranted_setNoticeSet l _).trans (State.ungranted_pushNotice _ l)

theorem State.ungranted_raise (s : State) (k : NoticeKind) (d : Detail) : s.Ungranted (s.raise k d) :=
  (s.ungranted_raiseOn .material k d).trans (State.ungranted_raiseOn _ .service k d)

/-! ## Moves, bindings and holds -/

theorem State.ungranted_release (s : State) (q : Seq) : s.Ungranted (s.release q) := by
  refine s.ungranted_mapCatalogue (fun r => ?_) (fun r h => ?_) <;> split
  · rfl
  · rfl
  · exact h
  · exact h

theorem State.ungranted_bind (s : State) (id : Ident) (q : Seq) : s.Ungranted (s.bind id q) := by
  refine s.ungranted_mapCatalogue (fun r => ?_) (fun r h => ?_) <;> split
  · rfl
  · rfl
  · exact h
  · exact h

theorem State.ungranted_dropMove (s : State) (q : Seq) : s.Ungranted (s.dropMove q) :=
  have unqueued : s.Ungranted { s with queue := s.queue.filter (fun m => !decide (m.seq = q)) } := .of_eq rfl rfl rfl rfl
  unqueued.trans (State.ungranted_release _ q)

theorem State.ungranted_withdraw (s : State) (m : Move) (r : Option Reason) : s.Ungranted (s.withdraw m r) := by
  have dropped : s.Ungranted (if m.kind = .scan then (s.dropMove m.seq).censusEnds else s.dropMove m.seq) := by
    split
    · exact (s.ungranted_dropMove m.seq).trans (.of_eq rfl rfl rfl rfl)
    · exact s.ungranted_dropMove m.seq
  unfold State.withdraw
  cases r with
  | none => exact dropped
  | some r => exact dropped.trans (State.ungranted_tellWithdrawn _ m r)

theorem State.ungranted_enter (s : State) (o : Offer) (d h : Bool) : s.Ungranted (s.enter o d h) := by
  have queued : s.Ungranted { s with queue := s.queue ++ [s.entered o d h], nextSeq := s.nextSeq + 1 } :=
    .of_eq rfl rfl rfl rfl
  unfold State.enter
  simp only
  split
  · exact queued.trans (State.ungranted_bind _ _ _)
  · exact queued

theorem State.ungranted_countHit (s : State) (n : Fin 16) (o : Offer) : s.Ungranted (s.countHit n o) := by
  unfold State.countHit
  have written (v : Vector InterceptEntry 16) : s.Ungranted { s with intercepts := v } := .of_eq rfl rfl rfl rfl
  exact (written _).trans (State.ungranted_raise _ _ _)

theorem State.ungranted_offerInward (s : State) (o : Offer) : s.Ungranted (s.offerInward o) := by
  rcases s.offerInward_cases o with ⟨_, h⟩ | ⟨n, _, h⟩ <;> rw [h]
  · exact s.ungranted_enter o _ _
  · exact (s.ungranted_countHit n o).trans (State.ungranted_enter _ o _ _)

theorem State.ungranted_updPort (s : State) (p : Port) (f : PortRec → PortRec) : s.Ungranted (s.updPort p f) :=
  .of_eq rfl rfl rfl rfl

theorem State.ungranted_reclaimIfUnfit (s : State) (id : Ident) : s.Ungranted (s.reclaimIfUnfit id) := by
  rcases s.reclaimIfUnfit_cases id with h | ⟨r, p, _, _, _, _, h⟩ <;> rw [h]
  · exact .refl s
  · exact ((s.ungranted_updPort p _).trans (State.ungranted_offerInward _ _)).trans (State.ungranted_sendTool _ p _)

theorem State.ungranted_withdrawHeldDeliver (s : State) (r : Rec) : s.Ungranted (s.withdrawHeldDeliver r) := by
  unfold State.withdrawHeldDeliver
  split
  · split
    · exact s.ungranted_withdraw _ _
    · exact .refl s
  · exact .refl s

theorem State.ungranted_setHeld (s : State) (id : Ident) : s.Ungranted (s.setHeld id) := by
  have flagged : s.Ungranted (s.updRecord id (fun x => { x with held := true })) := by
    refine s.ungranted_mapCatalogue (fun r => ?_) (fun r h => ?_) <;> split
    · rfl
    · rfl
    · rfl
    · exact h
  unfold State.setHeld
  split
  · split
    · exact .refl s
    · exact (flagged.trans (State.ungranted_withdrawHeldDeliver _ _)).trans (State.ungranted_reclaimIfUnfit _ id)
  · exact .refl s

theorem State.ungranted_offerPrestage (s : State) (o : Offer) : s.Ungranted (s.offerPrestage o) := by
  unfold State.offerPrestage
  split
  · exact s.ungranted_enter o _ _
  · next n _ =>
    have hit := s.ungranted_countHit n o
    simp only
    split
    · split
      · exact hit.trans (State.ungranted_setHeld _ _)
      · exact hit
    · exact hit.trans (State.ungranted_enter _ o _ _)

theorem State.ungranted_askPrestage (s : State) (p : Port) (id : Ident) (k : Fin 2) :
    s.Ungranted (s.askPrestage p id k) := by
  unfold State.askPrestage
  split
  · exact s.ungranted_offerPrestage _
  · exact .refl s

theorem State.ungranted_askDestage (s : State) (p : Port) (k : Nat) (n : Slot) : s.Ungranted (s.askDestage p k n) := by
  unfold State.askDestage
  split
  · split
    · exact s.ungranted_offerInward _
    · exact .refl s
  · exact .refl s

theorem State.ungranted_updMove (s : State) (q : Seq) (f : Move → Move) : s.Ungranted (s.updMove q f) :=
  .of_eq rfl rfl rfl rfl

theorem State.ungranted_reviewMove (s : State) (p : Port) (w : List Ident) (m : Move) :
    s.Ungranted (s.reviewMove p w m) := by
  unfold State.reviewMove
  split
  · split
    · split
      · exact s.ungranted_withdraw _ none
      · simp only
        split
        · exact .refl s
        · exact s.ungranted_updMove _ _
    · split
      · exact s.ungranted_withdraw _ none
      · exact .refl s
    · exact .refl s
  · exact .refl s

theorem State.ungranted_foldl {α : Type} {step : State → α → State} (h : ∀ t x, State.Ungranted t (step t x))
    (xs : List α) (s : State) : s.Ungranted (xs.foldl step s) := by
  induction xs generalizing s with
  | nil => exact .refl s
  | cons x xs ih => exact (h s x).trans (ih _)

theorem State.ungranted_review (s : State) (p : Port) : s.Ungranted (s.review p) :=
  State.ungranted_foldl (fun t m => t.ungranted_reviewMove p (s.window p) m) s.queue s

theorem State.ungranted_testNoSlot (s : State) : s.Ungranted s.testNoSlot := by
  unfold State.testNoSlot
  split
  · exact .of_eq rfl rfl rfl rfl
  · split
    · exact .refl s
    · exact State.Ungranted.trans (t := { s with noSlot := true }) (.of_eq rfl rfl rfl rfl) (State.ungranted_raise _ _ _)

theorem State.ungranted_noSlotStep (b a : State) (x : Touch) : b.Ungranted (b.noSlotStep a x) := by
  unfold State.noSlotStep
  split
  · exact b.ungranted_testNoSlot
  · exact .refl b

theorem State.ungranted_sweep (s : State) : s.Ungranted s.sweep :=
  s.sweep_ind s.Ungranted (fun t m r _ _ _ h => h.trans (t.ungranted_withdraw m (some r))) (.refl s)

/-! ## The grant (R5, R127, R150) -/

/-- The handler interface is not IDLE, or a RESTART is pending: no grant point passes (R125). -/
def Handler.Engaged (h : Handler) : Prop := h.state ≠ .idle ∨ h.restartPending = true

theorem State.grantTest_of_engaged (h : s.handler.Engaged) : s.grantTest = s := by
  unfold State.grantTest
  refine if_neg fun ⟨idle, clear⟩ => ?_
  rcases h with h | h
  · exact h idle
  · rw [clear] at h
    cases h

/-- What follows a grant or meets the handler interface engaged grants nothing. -/
theorem State.forecastStep_engaged (b a : State) (x : Touch) (h : b.handler.Engaged) : b.Ungranted (b.forecastStep a x) :=
  State.forecastStep_ind b.Ungranted b a x (fun c n k => k.trans (.of_eq rfl rfl rfl rfl))
    (fun c p k => State.reevaluate_ind b.Ungranted
      (fun c p k => k.trans (c.ungranted_review p))
      (fun c p id n k => k.trans (c.ungranted_askPrestage p id n))
      (fun c p n m k => k.trans (c.ungranted_askDestage p n m))
      (fun c k => k.trans c.ungranted_testNoSlot)
      (fun c k => by rw [State.grantTest_of_engaged (s := c) (by rw [k.handler]; exact h)]; exact k) c p k) (.refl b)

theorem State.serve_engaged (b a : State) (x : Touch) (h : b.handler.Engaged) : b.Ungranted (b.serve a x) :=
  State.serve_ind b.Ungranted (fun c k => k.trans c.ungranted_testNoSlot)
    (fun c k => by rw [State.grantTest_of_engaged (s := c) (by rw [k.handler]; exact h)]; exact k) a b x (.refl b)

theorem State.settle_engaged (b a : State) (x : Touch) (h : b.handler.Engaged) : b.Ungranted (b.settle a x) := by
  have served := b.serve_engaged a x h
  exact served.trans (State.forecastStep_engaged _ a x (by rw [served.handler]; exact h))

/-- A slot that at most a grant has touched: FILLED taken to OUTBOUND or EMPTY to INBOUND (R5). -/
def SlotEntry.Reserved (x y : SlotEntry) : Prop :=
  y = x ∨ (∃ id q, x = .filled id ∧ y = .outbound id q) ∨ (x = .empty ∧ ∃ id q, y = .inbound id q)

theorem State.slot_reserveSource (s : State) (m : Move) (n : Slot) :
    (s.reserveSource m).slot n = if m.source = .slot n then
      (match s.slot n with
        | .filled id => .outbound id m.seq
        | x => x) else s.slot n := by
  unfold State.reserveSource
  cases source : m.source with
  | slot k =>
    simp only [Position.slot?, Position.slot.injEq]
    by_cases e : k = n
    · subst e
      cases content : s.slot k <;> simp [content]
    · rw [if_neg e]
      split
      · exact s.slot_setSlot_other (Ne.symm e) _
      · rfl
  | nest x => simp [Position.slot?]
  | shelf x => simp [Position.slot?]

theorem State.slot_reserveTarget (s : State) (m : Move) (n : Slot) :
    (s.reserveTarget m).slot n = if m.target = .pos (.slot n) ∧ s.slot n = .empty then .inbound m.reticle m.seq
      else s.slot n := by
  unfold State.reserveTarget
  by_cases e : m.target.slot? = some n
  · have target : m.target = .pos (.slot n) := by
      unfold Target.slot? Target.pos? at e
      cases h : m.target with
      | pos x =>
        rw [h] at e
        cases x <;> simp_all [Position.slot?]
      | _ => rw [h] at e; simp at e
    rw [e]
    simp only [target, true_and]
    cases content : s.slot n <;> simp [content]
  · rw [if_neg]
    · split
      · next k hk =>
        have ne : n ≠ k := fun h => e (h ▸ hk)
        split
        · exact s.slot_setSlot_other ne _
        · rfl
      · rfl
    · rintro ⟨target, _⟩
      exact e (by rw [target]; rfl)

/-- Reservations write slots only. -/
theorem State.reserve_eq (s : State) (m : Move) : ∃ v, s.reserve m = { s with slots := v } := by
  have source (t : State) : ∃ v, t.reserveSource m = { t with slots := v } := by
    unfold State.reserveSource
    split
    · split
      · exact ⟨_, rfl⟩
      · exact ⟨t.slots, rfl⟩
    · exact ⟨t.slots, rfl⟩
  have target (t : State) : ∃ v, t.reserveTarget m = { t with slots := v } := by
    unfold State.reserveTarget
    split
    · split
      · exact ⟨_, rfl⟩
      · exact ⟨t.slots, rfl⟩
    · exact ⟨t.slots, rfl⟩
  obtain ⟨v, hv⟩ := source s
  obtain ⟨w, hw⟩ := target (s.reserveSource m)
  exact ⟨w, by rw [State.reserve, hw, hv]⟩

theorem State.nestGranted_eq (s : State) (x : Option Nest) :
    ∃ ports bi inn, s.nestGranted x = { s with ports := ports, bi := bi, inn := inn } := by
  unfold State.nestGranted
  split
  · exact ⟨_, s.bi, s.inn, rfl⟩
  · exact ⟨s.ports, _, s.inn, rfl⟩
  · exact ⟨s.ports, s.bi, _, rfl⟩
  · exact ⟨s.ports, s.bi, s.inn, rfl⟩

theorem State.nestTargeted_eq (s : State) (x : Option Nest) :
    ∃ ports bo inn, s.nestTargeted x = { s with ports := ports, bo := bo, inn := inn } := by
  unfold State.nestTargeted
  split
  · exact ⟨_, s.bo, s.inn, rfl⟩
  · exact ⟨s.ports, _, s.inn, rfl⟩
  · exact ⟨s.ports, s.bo, _, rfl⟩
  · exact ⟨s.ports, s.bo, s.inn, rfl⟩

/-- The move a grant leaves in the queue: EXECUTING, with its target (R41, R127). -/
def State.granted (s : State) (m : Move) : Move := { m with state := .executing, target := s.grantTarget m }

/-- The nests and slots as a grant leaves them. -/
def State.placedFor (s : State) (m : Move) : State :=
  ((((s.updMove m.seq (fun _ => s.granted m)).reserve (s.granted m)).nestGranted m.source.nest?).nestTargeted
    (s.grantTarget m).nest?)

theorem State.placedFor_eq (s : State) (m : Move) : ∃ ports bi bo inn, s.placedFor m
    = { (s.reserve (s.granted m)) with
        queue := s.queue.map (fun x => if x.seq = m.seq then s.granted m else x)
        ports := ports, bi := bi, bo := bo, inn := inn } := by
  obtain ⟨v, hv⟩ := State.reserve_eq (s.updMove m.seq (fun _ => s.granted m)) (s.granted m)
  obtain ⟨w, hw⟩ := s.reserve_eq (s.granted m)
  have slots : v = w := by
    have source (t r : State) (h : t.slots = r.slots) : (t.reserveSource (s.granted m)).slots = (r.reserveSource (s.granted m)).slots := by
      unfold State.reserveSource State.slot
      rw [h]
      split
      · split <;> simp [State.setSlot, h]
      · exact h
    have target (t r : State) (h : t.slots = r.slots) : (t.reserveTarget (s.granted m)).slots = (r.reserveTarget (s.granted m)).slots := by
      unfold State.reserveTarget State.slot
      rw [h]
      split
      · split <;> simp [State.setSlot, h]
      · exact h
    have same := target _ _ (source (s.updMove m.seq (fun _ => s.granted m)) s rfl)
    have left := congrArg State.slots hv
    have right := congrArg State.slots hw
    exact left.symm.trans (same.trans right)
  obtain ⟨ports, bi, inn, h⟩ := State.nestGranted_eq
    ((s.updMove m.seq (fun _ => s.granted m)).reserve (s.granted m)) m.source.nest?
  obtain ⟨ports', bo, inn', h'⟩ := State.nestTargeted_eq
    (((s.updMove m.seq (fun _ => s.granted m)).reserve (s.granted m)).nestGranted m.source.nest?) (s.grantTarget m).nest?
  refine ⟨ports', bi, bo, inn', ?_⟩
  unfold State.placedFor
  rw [h', h, hv, hw, slots]
  rfl

theorem State.grant_eq (s : State) (m : Move) (b : Bool) : s.grant m b
    = ({ (s.placedFor m) with tenure := tenureAfter (s.placedFor m).tenure m b }.updHandler
        (fun h => { h with exec := some ⟨some m.seq, none, none, none, 0⟩ })).firstOrder (s.granted m) := rfl

/-- The first order hands over one frame and writes the handler interface. -/
theorem State.firstOrder_eq (s : State) (m : Move) :
    ∃ tx h, s.firstOrder m = { s with tx := tx, handler := h } ∧ h.state ≠ .idle := by
  unfold State.firstOrder
  split
  · exact ⟨_, _, rfl, (by decide : HandlerState.scanning ≠ .idle)⟩
  · exact ⟨_, _, rfl, (by decide : HandlerState.picking ≠ .idle)⟩

theorem State.grant_slot (s : State) (m : Move) (b : Bool) (n : Slot) :
    (s.grant m b).slot n = (s.reserve (s.granted m)).slot n := by
  obtain ⟨ports, bi, bo, inn, h⟩ := s.placedFor_eq m
  obtain ⟨tx, x, e, _⟩ := State.firstOrder_eq ({ (s.placedFor m) with tenure := tenureAfter (s.placedFor m).tenure m b }.updHandler
    (fun h => { h with exec := some ⟨some m.seq, none, none, none, 0⟩ })) (s.granted m)
  rw [s.grant_eq, e, h]
  rfl

theorem State.grant_engaged (s : State) (m : Move) (b : Bool) : (s.grant m b).handler.Engaged := by
  obtain ⟨tx, x, e, busy⟩ := State.firstOrder_eq ({ (s.placedFor m) with tenure := tenureAfter (s.placedFor m).tenure m b }.updHandler
    (fun h => { h with exec := some ⟨some m.seq, none, none, none, 0⟩ })) (s.granted m)
  rw [s.grant_eq, e]
  exact .inl busy

theorem State.grant_ports (s : State) (m : Move) (b : Bool) :
    (s.grant m b).ports = (s.placedFor m).ports ∧ (s.grant m b).bi = (s.placedFor m).bi ∧ (s.grant m b).bo = (s.placedFor m).bo
      ∧ (s.grant m b).inn = (s.placedFor m).inn ∧ (s.grant m b).queue = (s.placedFor m).queue
      ∧ (s.grant m b).tenure = tenureAfter s.tenure m b ∧ (s.grant m b).catalogue = s.catalogue := by
  obtain ⟨ports, bi, bo, inn, h⟩ := s.placedFor_eq m
  obtain ⟨v, hv⟩ := s.reserve_eq (s.granted m)
  obtain ⟨tx, x, e, _⟩ := State.firstOrder_eq ({ (s.placedFor m) with tenure := tenureAfter (s.placedFor m).tenure m b }.updHandler
    (fun h => { h with exec := some ⟨some m.seq, none, none, none, 0⟩ })) (s.granted m)
  rw [s.grant_eq, e, h, hv]
  exact ⟨rfl, rfl, rfl, rfl, rfl, rfl, rfl⟩

/-- The slots a grant has reserved: its source from FILLED to OUTBOUND, then its target from EMPTY to INBOUND (R5). -/
theorem State.slot_reserve (s : State) (m : Move) (n : Slot) : (s.reserve m).slot n =
    if m.source = .slot n ∧ (s.slot n).content ≠ .free then
      (match s.slot n with
        | .filled id => .outbound id m.seq
        | x => x)
    else if m.target = .pos (.slot n) ∧ s.slot n = .empty then .inbound m.reticle m.seq else s.slot n := by
  unfold State.reserve
  rw [State.slot_reserveTarget, State.slot_reserveSource]
  cases h : s.slot n <;> by_cases source : m.source = .slot n <;> simp [source, SlotEntry.content]

theorem State.slot_reserve_reserved (s : State) (m : Move) (n : Slot) : (s.slot n).Reserved ((s.reserve m).slot n) := by
  rw [State.slot_reserve]
  split
  · split
    · exact .inr (.inl ⟨_, _, ‹_›, rfl⟩)
    · exact .inl rfl
  · split
    · next h => exact .inr (.inr ⟨h.2, _, _, rfl⟩)
    · exact .inl rfl

theorem State.sent_order (t : State) (f : Byte → OutFrame) (x : HandlerState) (n : Nat) (ph : Phase) :
    ((t.order f x n).setPhase ph).sent .handler = t.sent .handler ++ [f (t.handler.orderNumber + 1)] :=
  t.sent_send_same .handler _

theorem State.order_handler (t : State) (f : Byte → OutFrame) (x : HandlerState) (n : Nat) (ph : Phase) :
    ((t.order f x n).setPhase ph).handler = { t.handler with
      state := x, timer := some n, orderNumber := t.handler.orderNumber + 1, numberCurrent := true
      exec := t.handler.exec.map (fun e => { e with phase := some ph }) } := rfl

/-- Settles O20, by what the parts of a grant write. -/
theorem grantReservesAndOrders : Obligations.GrantReservesAndOrders := by
  intro s m byTenure
  obtain ⟨ports, bi, bo, inn, queue, tenure, _⟩ := s.grant_ports m byTenure
  obtain ⟨_, _, _, _, placed⟩ := s.placedFor_eq m
  obtain ⟨_, reserved⟩ := s.reserve_eq (s.granted m)
  have nest (p : Port) : (s.grant m byTenure).port p = (s.placedFor m).port p := by rw [State.port, ports, State.port]
  have target_nest {x : Nest} (h : (s.grantTarget m).nest? = some x) : s.grantTarget m = .pos (.nest x) := by
    unfold Target.nest? Target.pos? at h
    cases e : s.grantTarget m with
    | pos y => rw [e] at h; cases y <;> simp_all [Position.nest?]
    | _ => rw [e] at h; simp at h
  obtain ⟨t, grant, sent, handler⟩ : ∃ t : State, s.grant m byTenure = t.firstOrder (s.granted m)
      ∧ t.sent .handler = s.sent .handler
      ∧ t.handler = { s.handler with exec := some ⟨some m.seq, none, none, none, 0⟩ } := by
    refine ⟨_, s.grant_eq m byTenure, ?_, ?_⟩ <;> rw [placed, reserved] <;> rfl
  refine ⟨by rw [queue, placed]; rfl, ?_, ?_, ?_, ?_, ?_, ?_, ?_, ?_, ?_, tenure, ?_, ?_, ?_, ?_⟩
  · intro n id source filled
    rw [State.grant_slot, State.slot_reserve, if_pos ⟨source, by simp [filled, SlotEntry.content]⟩, filled]
    rfl
  · intro n target empty
    rw [State.grant_slot, State.slot_reserve, if_neg (by simp [empty, SlotEntry.content]), if_pos ⟨target, empty⟩]
    rfl
  · intro n source target
    rw [State.grant_slot, State.slot_reserve, if_neg (fun h => source h.1), if_neg (fun h => target h.1)]
  · intro p target
    rw [State.toolNest, nest, State.placedFor, target]
    simp [Target.nest?, Target.pos?, Position.nest?, State.nestTargeted]
  · intro p source target
    rw [State.toolNest, nest, State.placedFor, source]
    have granted (t : State) : ((t.nestGranted (some (.t p))).port p).nest = .outbound := by
      simp [State.nestGranted, State.setToolNest]
    have other (t : State) (h : (t.port p).nest = .outbound) : ((t.nestTargeted (s.grantTarget m).nest?).port p).nest = .outbound := by
      unfold State.nestTargeted
      split
      · next q hq =>
        have ne : p ≠ q := by
          rintro rfl
          exact target (target_nest hq)
        rw [State.port_updPort, if_neg ne]
        exact h
      · exact h
      · exact h
      · exact h
    exact other _ (granted _)
  · intro source
    have other (t : State) (x : Option Nest) : (t.nestTargeted x).bi = t.bi := by unfold State.nestTargeted; split <;> rfl
    rw [bi, State.placedFor, source, other]
    rfl
  · intro target
    rw [bo, State.placedFor, target]
    rfl
  · intro target
    rw [inn, State.placedFor, target]
    rfl
  · intro source target
    have other (t : State) (h : t.inn = .outbound) : (t.nestTargeted (s.grantTarget m).nest?).inn = .outbound := by
      unfold State.nestTargeted
      split
      · exact h
      · exact h
      · next hq => exact absurd (target_nest hq) target
      · exact h
    rw [inn, State.placedFor, source]
    exact other _ rfl
  · intro store k selected
    simp [State.grantTarget, store, selected, storagePosition]
  · intro other
    simp [State.grantTarget, other]
  · intro kind x target
    have first (t : State) : t.firstOrder (s.granted m) = t.sendMove (s.granted m) := by
      unfold State.firstOrder
      split
      · next scan _ => exact absurd scan kind
      · rfl
    have frame : (s.granted m).target.pos?.getD (s.granted m).source = x := by
      rw [show (s.granted m).target = .pos x from target]
      rfl
    rw [grant, first]
    constructor
    · rw [State.sendMove, State.order_handler, handler]
      rfl
    · rw [State.sendMove, State.sent_order, sent, handler, frame]
      rfl
  · intro kind n source
    have first (t : State) : t.firstOrder (s.granted m) = t.sendScan n := by
      unfold State.firstOrder
      split
      · next k _ at_source =>
        have e : Position.shelf k = Position.shelf n := at_source.symm.trans source
        cases e
        rfl
      · next none => exact absurd source (none n kind)
    rw [grant, first]
    constructor
    · rw [State.sendScan, State.order_handler, handler]
      rfl
    · rw [State.sendScan, State.sent_order, sent, handler]

/-! ## What follows a change (R44, R86 to R89, R126) -/

/-- What may stand after `b` in what follows a change: nothing granted yet, or one move granted, whose reservations alone have
touched the slots. -/
def State.Settling (b c : State) : Prop :=
  b.Ungranted c
    ∨ (¬ b.handler.Engaged ∧ c.handler.Engaged ∧ (∀ n, (b.slot n).Reserved (c.slot n)) ∧ b.HoldsStand c)

theorem State.Settling.step {b c d : State} (h : b.Settling c) (k : c.Ungranted d) : b.Settling d := by
  rcases h with h | ⟨free, engaged, slots, held⟩
  · exact .inl (h.trans k)
  · refine .inr ⟨free, by rw [k.handler]; exact engaged, fun n => ?_, held.trans k.held⟩
    have same : d.slot n = c.slot n := by rw [State.slot, k.slots, State.slot]
    rw [same]
    exact slots n

theorem State.Settling.grantTest {b c : State} (h : b.Settling c) : b.Settling c.grantTest := by
  rcases h with h | ⟨free, engaged, slots, held⟩
  · rcases c.grantTest_cases with ⟨_, e⟩ | ⟨_, _, _, e⟩ | ⟨idle, clear, m, t, _, e⟩ <;> rw [e]
    · exact .inl h
    · exact .inl (h.trans c.ungranted_sweep)
    · have swept := h.trans c.ungranted_sweep
      refine .inr ⟨?_, State.grant_engaged _ _ _, fun n => ?_, swept.held.trans (.of_catalogue (State.grant_ports _ _ _).2.2.2.2.2.2)⟩
      · rw [← h.handler]
        rintro (busy | pending)
        · exact busy idle
        · rw [clear] at pending
          cases pending
      · have same : b.slot n = c.sweep.slot n := by rw [State.slot, State.slot, swept.slots]
        rw [State.grant_slot, same]
        exact State.slot_reserve_reserved _ _ n
  · rw [State.grantTest_of_engaged engaged]
    exact .inr ⟨free, engaged, slots, held⟩

theorem State.settling_settle (b a : State) (x : Touch) : b.Settling (b.settle a x) :=
  State.settle_ind b.Settling
    (fun _ _ k => k.step (.of_eq rfl rfl rfl rfl))
    (fun c p k => k.step (c.ungranted_review p))
    (fun c p id n k => k.step (c.ungranted_askPrestage p id n))
    (fun c p n m k => k.step (c.ungranted_askDestage p n m))
    (fun c k => k.step c.ungranted_testNoSlot)
    (fun _ k => k.grantTest) a b x (.inl (.refl b))

/-- Records read by their identifier, their bindings and held flags apart, are those of the steady part. -/
theorem State.record_steady_of_steady {s t : State} (h : t.steady = s.steady) (id : Ident) :
    (t.record id).map Rec.steady = (s.record id).map Rec.steady := by
  have found (v : State) : (v.record id).map Rec.steady = (v.steady.records).find? (fun x => decide (x.id = id)) := by
    simp only [State.record, State.steady, List.find?_map]
    rfl
  rw [found, found, h]

/-- Settles O17: only a grant reserves, and it passes at most once. -/
theorem consequencesKeepSteadyPart : Obligations.ConsequencesKeepSteadyPart := by
  intro a b x
  have steady := (b.aftermath_settle a x).steady
  refine ⟨steady, fun n => ?_, fun engaged => ?_, fun id r hr => ?_, fun l => ?_⟩
  · rcases b.settling_settle a x with h | ⟨_, _, slots, _⟩
    · exact .inl (by rw [State.slot, h.slots, State.slot])
    · exact slots n
  · have h := b.settle_engaged a x engaged
    exact ⟨h.handler, h.slots, h.orders⟩
  · have held : b.HoldsStand (b.settle a x) := by
      rcases b.settling_settle a x with h | ⟨_, _, _, h⟩
      · exact h.held
      · exact h
    obtain ⟨r', hr', stays⟩ := held id r hr
    have same := State.record_steady_of_steady steady id
    rw [hr, hr'] at same
    exact ⟨r', hr', Option.some_inj.mp same, stays⟩
  · obtain ⟨fs, _, sent⟩ := (b.advances_settle a x).sends l
    exact ⟨fs, sent.symm⟩

/-! ## The sweep (R125) -/

/-- A WAITING DELIVER whose record is held or not READY, with the reason told (R125). -/
theorem State.sweeps_iff (s : State) (m : Move) (why : Reason) :
    s.sweeps m = some why ↔ ∃ id, m.kind = .deliver ∧ m.state = .waiting ∧ m.reticle = some id
      ∧ ∃ r, s.record id = some r ∧ ((r.held = true ∧ why = .held) ∨ (r.held = false ∧ r.condition ≠ .ready ∧ why = .notReady)) := by
  unfold State.sweeps
  constructor
  · intro h
    split at h
    · next waits =>
      simp only [Bool.and_eq_true, Move.isWaiting, decide_eq_true_eq] at waits
      split at h
      · next r named =>
        obtain ⟨id, hid, hr⟩ := Option.bind_eq_some_iff.mp named
        refine ⟨id, waits.2, waits.1, hid, r, hr, ?_⟩
        unfold Rec.fit Rec.unfitReason at h
        cases held : r.held <;> simp_all
      · cases h
    · cases h
  · rintro ⟨id, deliver, waiting, hid, r, hr, reason⟩
    rw [if_pos (by simp [Move.isWaiting, deliver, waiting]), hid, Option.bind_some, hr]
    unfold Rec.fit Rec.unfitReason
    rcases reason with ⟨held, rfl⟩ | ⟨held, ready, rfl⟩
    · simp [held]
    · simp [held, ready]

/-- One withdrawal of a sweep. -/
def State.sweepStep (s : State) (t : State) (m : Move) : State :=
  match s.sweeps m with
  | some r => t.withdraw m (some r)
  | none => t

theorem State.sweep_eq (s : State) : s.sweep = s.queue.foldl s.sweepStep s := rfl

theorem State.sweepStep_queue (s t : State) (m : Move) :
    (s.sweepStep t m).queue = t.queue.filter (fun x => !((s.sweeps m).isSome && decide (x.seq = m.seq))) := by
  unfold State.sweepStep
  cases h : s.sweeps m <;> simp

theorem State.sweepFold_queue (s : State) (ms : List Move) (t : State) : (ms.foldl s.sweepStep t).queue
    = t.queue.filter (fun x => !ms.any (fun m => (s.sweeps m).isSome && decide (x.seq = m.seq))) := by
  induction ms generalizing t with
  | nil => simp
  | cons m ms ih =>
    rw [List.foldl_cons, ih, State.sweepStep_queue, List.filter_filter]
    refine List.filter_congr fun x _ => ?_
    simp [Bool.and_comm]

/-- With different sequence numbers the sweep takes the unfit moves and no other (R118, R125). -/
theorem State.mem_sweep (s : State) (distinct : s.SeqsDistinct) {m : Move} (h : m ∈ s.queue) :
    m ∈ s.sweep.queue ↔ s.sweeps m = none := by
  rw [State.sweep_eq, State.sweepFold_queue, List.mem_filter]
  simp only [h, true_and, Bool.not_eq_true', List.any_eq_false, Bool.and_eq_true, decide_eq_true_eq, not_and]
  constructor
  · intro all
    by_contra swept
    exact all m h (by simpa [Option.isSome_iff_ne_none] using swept) rfl
  · intro fit x hx swept same
    have e : x = m := List.inj_on_of_nodup_map distinct hx h same.symm
    rw [e, fit] at swept
    cases swept

theorem State.told_withdraw (s : State) (m : Move) (r : Option Reason) : s.Told (s.withdraw m r) :=
  (s.advances_withdraw m r).sends.told

theorem State.told_sweepStep (s t : State) (m : Move) : t.Told (s.sweepStep t m) := by
  unfold State.sweepStep
  split
  · exact t.told_withdraw m _
  · exact .of_tx_eq rfl

theorem State.told_sweepFold (s : State) (ms : List Move) (t : State) : t.Told (ms.foldl s.sweepStep t) := by
  induction ms generalizing t with
  | nil => exact .of_tx_eq rfl
  | cons m ms ih => exact (s.told_sweepStep t m).trans (ih _)

/-- What a link was newly told stays told. -/
theorem State.Told.mem_drop {s t u : State} (h : s.Told t) (k : t.Told u) {l : ReqLink} {f : OutFrame}
    (told : f ∈ (t.sent (.request l)).drop (s.sent (.request l)).length) :
    f ∈ (u.sent (.request l)).drop (s.sent (.request l)).length := by
  obtain ⟨fs, _, ht⟩ := h l
  obtain ⟨gs, _, hu⟩ := k l
  rw [ht, List.drop_left] at told
  rw [hu, ht, List.append_assoc, List.drop_left]
  exact List.mem_append_left _ told

theorem State.Told.mem_drop_later {s t u : State} (h : s.Told t) {l : ReqLink} {f : OutFrame} (k : t.Told u)
    (told : f ∈ (u.sent (.request l)).drop (t.sent (.request l)).length) :
    f ∈ (u.sent (.request l)).drop (s.sent (.request l)).length := by
  obtain ⟨fs, _, ht⟩ := h l
  obtain ⟨gs, _, hu⟩ := k l
  rw [hu, List.drop_left] at told
  rw [hu, ht, List.append_assoc, List.drop_left]
  exact List.mem_append_right _ told

/-- A withdrawal with a reason is told on the link of its requester, unless its port is CLOSED (R137). -/
theorem State.withdraw_told (s : State) {m : Move} {id : Ident} (why : Reason) {l : ReqLink} (named : m.reticle = some id)
    (from_ : m.requester.link = some l) (open_ : ∀ q, l = .tool q → (s.port q).state ≠ .closed) :
    (s.withdraw m (some why)).sent (.request l) = s.sent (.request l) ++ [.withdrawn id why] := by
  unfold State.withdraw
  simp only
  generalize ht : (if m.kind = .scan then (s.dropMove m.seq).censusEnds else s.dropMove m.seq) = t
  have ports : t.ports = s.ports := by rw [← ht]; split <;> rfl
  have sent : t.sent (.request l) = s.sent (.request l) := by rw [← ht]; split <;> rfl
  unfold State.tellWithdrawn State.sendRequester
  rw [named]
  cases r : m.requester with
  | internal => rw [r] at from_; cases from_
  | tool p =>
    rw [r] at from_
    cases from_
    have opened : (t.port p).state ≠ .closed := by rw [State.port, ports]; exact open_ p rfl
    simp only [Requester.link, State.sendTool, if_neg opened, State.sent_send_same, sent]
  | material => rw [r] at from_; cases from_; simp only [Requester.link, State.sent_send_same, sent]
  | service => rw [r] at from_; cases from_; simp only [Requester.link, State.sent_send_same, sent]

end Sys2Proof.Machine
end

section
/-! PROOFS. The grant test (R125 to R127): what its sweep tells, the choice it grants, and the events that lead to it. -/

namespace Sys2Proof.Machine

open Sys2Proof

variable {s t u : State}

/-! ## What the sweep tells (R125) -/

theorem State.sweepStep_ports (s t : State) (m : Move) : (s.sweepStep t m).ports = t.ports := by
  unfold State.sweepStep
  split
  · exact t.withdraw_ports m _
  · rfl

/-- A move the sweep takes is told on the link of its requester. -/
theorem State.sweepFold_told (s : State) {m : Move} {id : Ident} {why : Reason} {q : Port} (swept : s.sweeps m = some why)
    (named : m.reticle = some id) (by_ : m.requester = .tool q) (open_ : (s.port q).state ≠ .closed) (ms : List Move)
    (h : m ∈ ms) (t : State) (ports : t.ports = s.ports) :
    .withdrawn id why ∈ ((ms.foldl s.sweepStep t).sent (.request (.tool q))).drop (t.sent (.request (.tool q))).length := by
  induction ms generalizing t with
  | nil => cases h
  | cons x ms ih =>
    have first := s.told_sweepStep t x
    rcases List.mem_cons.mp h with rfl | later
    · refine first.mem_drop (s.told_sweepFold ms _) ?_
      rw [State.sweepStep, swept]
      have same (p : Port) : t.port p = s.port p := by rw [State.port, ports, State.port]
      rw [t.withdraw_told why named (l := .tool q) (by rw [by_]; rfl)
        (fun p e => by cases e; rw [same]; exact open_), List.drop_left]
      exact List.mem_singleton.mpr rfl
    · exact first.mem_drop_later (s.told_sweepFold ms _) (ih later _ ((s.sweepStep_ports t x).trans ports))

theorem State.sweep_queue_sublist (s : State) : s.sweep.queue.Sublist s.queue := by
  rw [State.sweep_eq, State.sweepFold_queue]
  exact List.filter_sublist

/-! ## The tests of a change (R126) -/

theorem State.grantTest_of_choice {m : Move} {byTenure : Bool} (idle : s.handler.state = .idle)
    (clear : s.handler.restartPending = false) (chosen : s.sweep.choose = some (m, byTenure)) :
    s.grantTest = s.sweep.grant m byTenure := by
  rw [State.grantTest, if_pos ⟨idle, clear⟩]
  simp only [chosen]

theorem State.grantTest_of_no_choice (idle : s.handler.state = .idle) (clear : s.handler.restartPending = false)
    (chosen : s.sweep.choose = none) : s.grantTest = s.sweep := by
  rw [State.grantTest, if_pos ⟨idle, clear⟩]
  simp only [chosen]

theorem State.serve_of_no_event (b a : State) (t : Touch) (h : grantEvent a b t = false) : b.serve a t = b.noSlotStep a t := by
  rw [State.serve, h]
  rfl

theorem State.serve_of_event (b a : State) (t : Touch) (h : grantEvent a b t = true) :
    b.serve a t = (b.noSlotStep a t).grantTest.noSlotStep (b.noSlotStep a t) noTouch := by
  rw [State.serve, h]
  rfl

theorem State.forecastStep_of_no_event (b a : State) (t : Touch) (h : ∀ q, windowEvent a b t q = false) :
    b.forecastStep a t = b := by
  have none_ : allPorts.filter (windowEvent a b t) = [] := List.filter_eq_nil_iff.mpr fun q _ => by simp [h q]
  rw [State.forecastStep, none_]
  rfl

/-- The grant of a change stands in all that follows the change. -/
theorem State.grant_kept (b a : State) (t : Touch) {m : Move} {byTenure : Bool} (event : grantEvent a b t = true)
    (idle : (b.noSlotStep a t).handler.state = .idle) (clear : (b.noSlotStep a t).handler.restartPending = false)
    (chosen : (b.noSlotStep a t).sweep.choose = some (m, byTenure)) :
    ((b.noSlotStep a t).sweep.grant m byTenure).Ungranted (b.serve a t)
      ∧ ((b.noSlotStep a t).sweep.grant m byTenure).Ungranted (b.settle a t) := by
  have served : ((b.noSlotStep a t).sweep.grant m byTenure).Ungranted (b.serve a t) := by
    rw [b.serve_of_event a t event, State.grantTest_of_choice idle clear chosen]
    exact State.ungranted_noSlotStep _ _ _
  refine ⟨served, served.trans (State.forecastStep_engaged _ _ _ ?_)⟩
  rw [served.handler]
  exact State.grant_engaged _ _ _

/-! ## The events of R126 -/

theorem queueChanged_of_new {a b : State} {m : Move} (h : m ∈ b.queue) (new : a.move? m.seq = none) :
    queueChanged a b = true := by
  refine Bool.or_eq_true_iff.mpr (.inl (List.any_eq_true.mpr ⟨m, h, ?_⟩))
  rw [new]
  rfl

theorem queueChanged_of_end {a b : State} {m : Move} (h : m ∈ a.queue) (gone : b.move? m.seq = none) :
    queueChanged a b = true := by
  refine Bool.or_eq_true_iff.mpr (.inr (List.any_eq_true.mpr ⟨m, h, ?_⟩))
  rw [gone]

theorem queueChanged_of_return {a b : State} {m x : Move} (h : m ∈ a.queue) (was : m.state = .executing)
    (now : b.move? m.seq = some x) (waits : x.state = .waiting) : queueChanged a b = true := by
  refine Bool.or_eq_true_iff.mpr (.inr (List.any_eq_true.mpr ⟨m, h, ?_⟩))
  rw [now]
  simp [Move.isWaiting, was, waits]

/-- A slot that differs between two states stands at its number in the pairs the change is read from. -/
theorem slotChanged_of_slot {a b : State} (n : Slot)
    (h : (a.slot n ≠ .empty ∧ b.slot n = .empty) ∨ (a.slot n).reticle ≠ (b.slot n).reticle) : slotChanged a b = true := by
  refine List.any_eq_true.mpr ⟨(a.slot n, b.slot n), ?_, ?_⟩
  · refine List.mem_iff_getElem.mpr ⟨n.val, by simp, ?_⟩
    simp [State.slot, Vector.get]
  · rcases h with ⟨full, empty⟩ | other
    · simp [full, empty]
    · simp [other]

theorem recordChanged_of_removed {a b : State} {r : Rec} (h : r ∈ a.catalogue) (gone : b.record r.id = none) :
    recordChanged a b = true := by
  refine List.any_eq_true.mpr ⟨r, h, ?_⟩
  rw [gone]

theorem recordChanged_of_change {a b : State} {r x : Rec} (h : r ∈ a.catalogue) (now : b.record r.id = some x)
    (other : x.condition ≠ r.condition ∨ x.held ≠ r.held) : recordChanged a b = true := by
  refine List.any_eq_true.mpr ⟨r, h, ?_⟩
  rw [now]
  simpa using other

/-- The change of one port is the change of some port. -/
theorem anyPortOpened {a b : State} (p : Port) (h : portOpened a b p = true) : allPorts.any (portOpened a b) = true :=
  List.any_eq_true.mpr ⟨p, mem_allPorts p, h⟩

/-- Settles O18: the sweep's fold taken move by move, and the events of R126 read off the two states. -/
theorem grantTestSweepsAndGrants : Obligations.GrantTestSweepsAndGrants := by
  refine ⟨fun s busy => State.grantTest_of_engaged busy, ?_, ?_, fun _ _ => rfl, ?_⟩
  · rintro s unfit distinct isUnfit idle clear u rfl
    have swept (m : Move) (h : m ∈ s.queue) (why : Reason) : s.sweeps m = some why ↔ ∃ id, unfit m id why := by
      rw [State.sweeps_iff]
      exact exists_congr fun id => by rw [isUnfit]; simp [h]
    refine ⟨s.aftermath_sweep.steady, s.ungranted_sweep.slots, s.ungranted_sweep.handler, s.sweep_queue_sublist,
      fun m h => ?_, fun m id why q h by_ open_ => ?_, fun m byTenure chosen => State.grantTest_of_choice idle clear chosen,
      State.grantTest_of_no_choice idle clear⟩
    · rw [s.mem_sweep distinct h, Option.eq_none_iff_forall_ne_some, forall_comm]
      exact forall_congr' fun why => by rw [ne_eq, swept m h why, not_exists]
    · obtain ⟨queued, _, _, named, _⟩ := (isUnfit m id why).mp h
      exact s.sweepFold_told ((swept m queued why).mpr ⟨id, h⟩) named by_ open_ s.queue queued s rfl
  · rintro a b c t rfl
    refine ⟨fun h => ⟨b.serve_of_no_event a t h, fun quiet => ?_⟩, b.serve_of_event a t,
      fun m byTenure event idle clear chosen u hu => ?_⟩
    · rw [State.settle, b.serve_of_no_event a t h]
      exact State.forecastStep_of_no_event _ _ _ quiet
    · obtain ⟨served, settled⟩ := b.grant_kept a t event idle clear chosen
      rcases hu with rfl | rfl
      · exact ⟨served.handler, served.orders⟩
      · exact ⟨settled.handler, settled.orders⟩
  · intro a b t h
    simp only [grantEvent, Bool.or_eq_true]
    rcases h with h | h | h | h | ⟨m, hm, h⟩ | ⟨m, hm, h⟩ | ⟨m, hm, was, x, now, waits⟩ | ⟨was, now⟩ | ⟨p, was, now⟩
      | ⟨p, was, now⟩ | ⟨p, was, now⟩ | ⟨was, now⟩ | ⟨was, now⟩ | ⟨was, now⟩ | ⟨n, h⟩ | ⟨n, h⟩ | ⟨r, hr, h⟩ | ⟨r, hr, x, now, h⟩
    · simp [h]
    · simp [Option.isSome_iff_ne_none, h]
    · simp [h]
    · simp [h]
    · simp [queueChanged_of_new hm h]
    · simp [queueChanged_of_end hm h]
    · simp [queueChanged_of_return hm was now waits]
    · simp [was, now]
    · simp [-List.any_eq_true, anyPortOpened p (show portOpened a b p = true by simp [portOpened, was, now])]
    · simp [-List.any_eq_true, anyPortOpened p (show portOpened a b p = true by simp [portOpened, was, now])]
    · simp [-List.any_eq_true, anyPortOpened p (show portOpened a b p = true by simp [portOpened, was, now])]
    · simp [fabNestOpened, was, now]
    · simp [fabNestOpened, was, now]
    · simp [fabNestOpened, was, now]
    · simp [slotChanged_of_slot n (.inl h)]
    · simp [slotChanged_of_slot n (.inr h)]
    · simp [recordChanged_of_removed hr h]
    · simp [recordChanged_of_change hr now h]

end Sys2Proof.Machine
end

section
/-! PROOFS. The zone unit: the resolution of a shelf (R31, R34, R35) and store target selection (R38, R40). -/

namespace Sys2Proof.Machine

open Sys2Proof

/-! ## Resolution -/

theorem ZoneEntry.enabled_iff (e : ZoneEntry) : e.enabled = true ↔ e.base ≤ e.limit ∧ ¬(e.classMask = 0 ∧ e.serveMask = 0) := by
  rw [ZoneEntry.enabled, Bool.and_eq_true, Bool.not_eq_true', Bool.not_eq_true', decide_eq_false_iff_not, not_lt,
    ← Bool.not_eq_true, Bool.and_eq_true, decide_eq_true_eq, decide_eq_true_eq]

/-- An entry covers the shelves from its base to its limit when a mask of it is not empty (R31). -/
theorem ZoneEntry.covers_iff (e : ZoneEntry) (n : Shelf) :
    e.covers n = true ↔ e.base ≤ n ∧ n ≤ e.limit ∧ ¬(e.classMask = 0 ∧ e.serveMask = 0) := by
  simp only [ZoneEntry.covers, Bool.and_eq_true, decide_eq_true_eq, e.enabled_iff]
  constructor
  · rintro ⟨⟨⟨_, masks⟩, low⟩, high⟩
    exact ⟨low, high, masks⟩
  · rintro ⟨low, high, masks⟩
    exact ⟨⟨⟨low.trans high, masks⟩, low⟩, high⟩

theorem State.mem_zoneMatches (s : State) (n : Shelf) (k : Fin 8) : k ∈ s.zoneMatches n ↔ (s.zones.get k).covers n = true := by
  have every : k ∈ eightEntries := by revert k; decide
  rw [State.zoneMatches, List.mem_filter, and_iff_right every]

/-- A bit of the union of masks is a bit of one of them. -/
theorem getLsbD_foldl_or {α : Type} {w : Nat} (f : α → BitVec w) (xs : List α) (m : BitVec w) (i : Nat) :
    (xs.foldl (fun m x => m ||| f x) m).getLsbD i = true ↔ m.getLsbD i = true ∨ ∃ x ∈ xs, (f x).getLsbD i = true := by
  induction xs generalizing m with
  | nil => simp
  | cons x xs ih =>
    rw [List.foldl_cons, ih]
    simp [or_assoc]

theorem getLsbD_foldl_or_zero {α : Type} {w : Nat} (f : α → BitVec w) (xs : List α) (i : Nat) :
    (xs.foldl (fun m x => m ||| f x) 0).getLsbD i = true ↔ ∃ x ∈ xs, (f x).getLsbD i = true := by
  rw [getLsbD_foldl_or]
  simp

/-- Entries have no common purge class exactly when two of them disagree (R35). -/
theorem commonPurge_eq_none_iff (es : List ZoneEntry) :
    commonPurge es = none ↔ ∃ e ∈ es, ∃ f ∈ es, e.purge ≠ f.purge := by
  cases es with
  | nil => simp [commonPurge]
  | cons e es =>
    rw [commonPurge]
    split
    · next same =>
      have common (f : ZoneEntry) (h : f ∈ e :: es) : f.purge = e.purge := by
        rcases List.mem_cons.mp h with rfl | h
        · rfl
        · exact of_decide_eq_true (List.all_eq_true.mp same f h)
      refine iff_of_false (by simp) ?_
      rintro ⟨f, hf, g, hg, other⟩
      exact other ((common f hf).trans (common g hg).symm)
    · next differ =>
      refine iff_of_true rfl ?_
      obtain ⟨f, hf, other⟩ : ∃ f ∈ es, f.purge ≠ e.purge := by
        simpa using differ
      exact ⟨f, List.mem_cons_of_mem _ hf, e, List.mem_cons_self, other⟩

theorem commonPurge_of_mem {es : List ZoneEntry} {e : ZoneEntry} (h : e ∈ es) {c : Fin 4} (common : commonPurge es = some c) :
    c = e.purge := by
  cases es with
  | nil => cases h
  | cons f es =>
    have agree : ∀ x ∈ f :: es, ∀ y ∈ f :: es, x.purge = y.purge := by
      by_contra differ
      push Not at differ
      rw [(commonPurge_eq_none_iff _).mpr differ] at common
      cases common
    rw [commonPurge] at common
    split at common
    · cases common
      exact agree f List.mem_cons_self e h
    · cases common

section Resolve

variable (s : State) (n : Shelf)

theorem State.resolve_classMask_iff (c : Nat) : (s.resolve n).classMask.getLsbD c = true
    ↔ ∃ k, (s.zones.get k).covers n = true ∧ (s.zones.get k).classMask.getLsbD c = true := by
  refine (getLsbD_foldl_or_zero ZoneEntry.classMask _ _).trans ?_
  simp [State.mem_zoneMatches]

theorem State.resolve_serveUnion_iff (p : Nat) : (s.resolve n).serveUnion.getLsbD p = true
    ↔ ∃ k, (s.zones.get k).covers n = true ∧ (s.zones.get k).serveMask.getLsbD p = true := by
  refine (getLsbD_foldl_or_zero ZoneEntry.serveMask _ _).trans ?_
  simp [State.mem_zoneMatches]

theorem State.resolve_conflicted_iff : (s.resolve n).conflicted = true ↔ ∃ j k, (s.zones.get j).covers n = true
    ∧ (s.zones.get k).covers n = true ∧ (s.zones.get j).purge ≠ (s.zones.get k).purge := by
  simp [Resolution.conflicted, State.resolve, commonPurge_eq_none_iff, State.mem_zoneMatches]

theorem State.resolve_purgeClass_of_covers {k : Fin 8} (h : (s.zones.get k).covers n = true)
    (sound : (s.resolve n).conflicted = false) : (s.resolve n).purgeClass = (s.zones.get k).purge := by
  obtain ⟨c, common⟩ := Option.ne_none_iff_exists'.mp (mt Option.isNone_iff_eq_none.mpr (Bool.eq_false_iff.mp sound))
  rw [Resolution.purgeClass, common, Option.getD_some]
  exact commonPurge_of_mem (List.mem_map_of_mem ((s.mem_zoneMatches n k).mpr h)) common

theorem State.resolve_of_uncovered (h : ∀ k, ¬ (s.zones.get k).covers n = true) : (s.resolve n).purge = some 0 := by
  have unmatched : s.zoneMatches n = [] := List.eq_nil_iff_forall_not_mem.mpr fun k => mt (s.mem_zoneMatches n k).mp (h k)
  simp [State.resolve, unmatched, commonPurge]

theorem Resolution.serveMask_iff (r : Resolution) (p : Nat) :
    r.serveMask.getLsbD p = true ↔ r.conflicted = false ∧ r.serveUnion.getLsbD p = true := by
  unfold Resolution.serveMask
  split <;> simp_all

end Resolve

/-- Settles O21: each fold over the matches read as a statement about the entries that cover the shelf. -/
theorem shelfResolution : Obligations.ShelfResolution := by
  intro s n covers isCover
  have same (k : Fin 8) : covers k ↔ (s.zones.get k).covers n = true := (isCover k).trans (ZoneEntry.covers_iff _ n).symm
  simp only [same]
  refine ⟨fun c => s.resolve_classMask_iff n c, s.resolve_conflicted_iff n, fun p => ?_,
    fun k h sound => s.resolve_purgeClass_of_covers n h sound, fun h => ?_, fun h => Resolution.purgeClass_of_conflicted h⟩
  · rw [Resolution.serveMask_iff, s.resolve_serveUnion_iff]
  · have purge := s.resolve_of_uncovered n h
    exact ⟨by rw [Resolution.purgeClass, purge, Option.getD_some], by rw [Resolution.conflicted, purge]; rfl⟩

/-! ## Store target selection -/

/-- A slot that a store move takes before another: nearer the anchor, or as near and lower-numbered (R40). -/
def Precedes (anchor : Shelf) (n k : Fin 384) : Prop :=
  shelfDistance (shelfOf n) anchor < shelfDistance (shelfOf k) anchor
    ∨ (shelfDistance (shelfOf n) anchor = shelfDistance (shelfOf k) anchor ∧ n ≤ k)

theorem Precedes.trans {anchor : Shelf} {n k j : Fin 384} (h : Precedes anchor n k) (g : Precedes anchor k j) :
    Precedes anchor n j := by
  rcases h with h | ⟨h, le⟩ <;> rcases g with g | ⟨g, le'⟩
  · exact .inl (h.trans g)
  · exact .inl (by omega)
  · exact .inl (by omega)
  · exact .inr ⟨h.trans g, le.trans le'⟩

theorem Precedes.refl (anchor : Shelf) (n : Fin 384) : Precedes anchor n n := .inr ⟨rfl, le_refl n⟩

/-- Of slots in ascending order after a best so far the one taken precedes them all. -/
theorem foldl_nearer_some (anchor : Shelf) (ns : List (Fin 384)) (b : Fin 384) (ascending : (b :: ns).Pairwise (· < ·)) :
    ∃ n, ns.foldl (nearer anchor) (some b) = some n ∧ n ∈ b :: ns ∧ ∀ k ∈ b :: ns, Precedes anchor n k := by
  induction ns generalizing b with
  | nil => exact ⟨b, rfl, List.mem_singleton.mpr rfl, fun k h => by rw [List.mem_singleton.mp h]; exact .refl _ _⟩
  | cons m ns ih =>
    obtain ⟨below, rest⟩ := List.pairwise_cons.mp ascending
    obtain ⟨above, tail⟩ := List.pairwise_cons.mp rest
    rw [List.foldl_cons, nearer]
    split
    · next closer =>
      obtain ⟨n, taken, mem, least⟩ := ih m rest
      refine ⟨n, taken, List.mem_cons_of_mem _ mem, fun k h => ?_⟩
      rcases List.mem_cons.mp h with rfl | h
      · exact (least m List.mem_cons_self).trans (.inl closer)
      · exact least k h
    · next stays =>
      obtain ⟨n, taken, mem, least⟩ := ih b (List.pairwise_cons.mpr ⟨fun k h => below k (List.mem_cons_of_mem _ h), tail⟩)
      refine ⟨n, taken, ?_, fun k h => ?_⟩
      · rcases List.mem_cons.mp mem with rfl | h
        · exact List.mem_cons_self
        · exact List.mem_cons_of_mem _ (List.mem_cons_of_mem _ h)
      · rcases List.mem_cons.mp h with rfl | h
        · exact least k List.mem_cons_self
        · rcases List.mem_cons.mp h with rfl | h
          · refine (least b List.mem_cons_self).trans ?_
            rcases Nat.lt_or_eq_of_le (Nat.le_of_not_lt stays) with closer | same
            · exact .inl closer
            · exact .inr ⟨same, le_of_lt (below k List.mem_cons_self)⟩
          · exact least k (List.mem_cons_of_mem _ h)

/-- The candidates nearest an anchor: none exactly when there is no candidate, and else one that precedes every other. -/
theorem State.nearestCandidate_cases (s : State) (c : SelectionClass) (anchor : Shelf) :
    (s.nearestCandidate c anchor = none ∧ ∀ n, s.isCandidate c n = false)
      ∨ ∃ n, s.nearestCandidate c anchor = some n ∧ s.isCandidate c n = true
          ∧ ∀ k, s.isCandidate c k = true → Precedes anchor n k := by
  have candidate (n : Fin 384) : n ∈ allStorage.filter (s.isCandidate c) ↔ s.isCandidate c n = true := by
    simp [allStorage]
  have ascending : (allStorage.filter (s.isCandidate c)).Pairwise (· < ·) := (List.pairwise_lt_finRange 384).filter _
  unfold State.nearestCandidate
  generalize allStorage.filter (s.isCandidate c) = ns at candidate ascending
  cases ns with
  | nil => exact .inl ⟨rfl, fun n => by simpa using (candidate n).not.mp (List.not_mem_nil)⟩
  | cons b ns =>
    obtain ⟨n, taken, mem, least⟩ := foldl_nearer_some anchor ns b ascending
    exact .inr ⟨n, taken, (candidate n).mp mem, fun k h => least k ((candidate k).mpr h)⟩

theorem State.isCandidate_iff (s : State) (c : SelectionClass) (n : Fin 384) : s.isCandidate c n = true
    ↔ s.slot (ofStorage n) = .empty ∧ (s.resolve (shelfOf n)).conflicted = false
        ∧ c.admits (s.resolve (shelfOf n)).classMask = true := by
  simp [State.isCandidate]

/-- The selection of a store move: its home slot, or else the nearest candidate (R40). -/
theorem State.selectTarget_cases (s : State) (m : Move) {c : SelectionClass} (class_ : s.selectionClass m = some c) :
    (∃ h, s.homeOf m = some h ∧ s.isCandidate c h = true ∧ s.selectTarget m = some h)
      ∨ ((∀ h, s.homeOf m = some h → s.isCandidate c h = false) ∧ s.selectTarget m = s.nearestCandidate c (s.anchorOf m)) := by
  unfold State.selectTarget
  rw [class_]
  unfold State.selectBy
  cases home : s.homeOf m with
  | none => exact .inr ⟨fun h e => (Option.some_ne_none h e.symm).elim, rfl⟩
  | some h =>
    cases is : s.isCandidate c h with
    | true => exact .inl ⟨h, rfl, is, by simp [is]⟩
    | false => exact .inr ⟨fun k e => by cases e; exact is, by simp [is]⟩

/-- Settles O22: the home slot first, then the fold over the candidates in ascending order. -/
theorem storeTargetIsNearestCandidate : Obligations.StoreTargetIsNearestCandidate := by
  intro s m c class_
  refine ⟨s.isCandidate_iff c, ?_⟩
  rcases s.selectTarget_cases m class_ with ⟨h, home, is, e⟩ | ⟨away, e⟩
  · refine ⟨fun k hk _ => by rw [← hk, home, ← e], fun n hn => ?_, fun n _ none_ => ?_, ?_⟩
    · cases e.symm.trans hn
      exact is
    · rw [none_ h home] at is
      cases is
    · refine iff_of_false (by rw [e]; exact Option.some_ne_none h) fun none_ => ?_
      rw [none_ h] at is
      cases is
  · rw [e]
    refine ⟨fun h hh is => ?_, ?_⟩
    · rw [away h hh] at is
      cases is
    · rcases s.nearestCandidate_cases c (s.anchorOf m) with ⟨e', none_⟩ | ⟨n, e', is, least⟩ <;> rw [e']
      · exact ⟨fun n h => (Option.some_ne_none n h.symm).elim, fun n h => (Option.some_ne_none n h.symm).elim,
          iff_of_true rfl none_⟩
      · refine ⟨fun k hk => by cases hk; exact is, fun k hk _ => by cases hk; exact least,
          iff_of_false (Option.some_ne_none n) fun none_ => ?_⟩
        rw [none_ n] at is
        cases is

end Sys2Proof.Machine
end

section
/-! PROOFS. What follows a change raises NO_SLOT and INTERCEPT and no other notice kind (R44, R186, R211); ZONE_SET (R33, R36,
R37) and the DUE checks (R177 to R179). -/

namespace Sys2Proof.Machine

open Sys2Proof

variable {s t u : State}

/-! ## The notice kinds that what follows a change leaves alone -/

/-- From `s` to `t` no kind but NO_SLOT and INTERCEPT is raised or cleared. -/
def State.NoticesStand (s t : State) : Prop :=
  ∀ l k, k ≠ .noSlot → k ≠ .intercept → ((t.noticeSet l).entry k).pending = ((s.noticeSet l).entry k).pending
    ∧ ((t.noticeSet l).entry k).detail = ((s.noticeSet l).entry k).detail

theorem State.NoticesStand.of_eq (material : t.materialNotices = s.materialNotices)
    (service : t.serviceNotices = s.serviceNotices) : s.NoticesStand t := fun l k _ _ => by
  have same : t.noticeSet l = s.noticeSet l := by
    cases l
    · exact material
    · exact service
  rw [same]
  exact ⟨rfl, rfl⟩

theorem State.NoticesStand.refl (s : State) : s.NoticesStand s := .of_eq rfl rfl

theorem State.NoticesStand.trans (h : s.NoticesStand t) (k : t.NoticesStand u) : s.NoticesStand u := fun l x noSlot intercept =>
  ⟨(k l x noSlot intercept).1.trans (h l x noSlot intercept).1, (k l x noSlot intercept).2.trans (h l x noSlot intercept).2⟩

theorem State.NoticesStand.raised (h : s.NoticesStand t) {k : NoticeKind} {d : Detail} (noSlot : k ≠ .noSlot)
    (intercept : k ≠ .intercept) (raised : s.Raised k d) : t.Raised k d := fun l => by
  obtain ⟨pending, detail⟩ := h l k noSlot intercept
  rw [pending, detail]
  exact raised l

theorem State.noticesStand_raise (s : State) {k : NoticeKind} (d : Detail) (h : k = .noSlot ∨ k = .intercept) :
    s.NoticesStand (s.raise k d) := fun l x noSlot intercept => by
  have other : x ≠ k := by
    rintro rfl
    rcases h with rfl | rfl
    · exact noSlot rfl
    · exact intercept rfl
  obtain ⟨pending, detail, _⟩ := s.raise_other other d l
  exact ⟨pending, detail⟩

theorem State.noticesStand_enter (s : State) (o : Offer) (d h : Bool) : s.NoticesStand (s.enter o d h) :=
  .of_eq (s.enter_materialNotices o d h) (s.enter_serviceNotices o d h)

theorem State.noticesStand_countHit (s : State) (n : Fin 16) (o : Offer) : s.NoticesStand (s.countHit n o) := by
  unfold State.countHit
  exact State.NoticesStand.trans (.of_eq rfl rfl) (State.noticesStand_raise _ _ (.inr rfl))

theorem State.noticesStand_offerInward (s : State) (o : Offer) : s.NoticesStand (s.offerInward o) := by
  rcases s.offerInward_cases o with ⟨_, h⟩ | ⟨n, _, h⟩ <;> rw [h]
  · exact s.noticesStand_enter o _ _
  · exact (s.noticesStand_countHit n o).trans (State.noticesStand_enter _ o _ _)

theorem State.noticesStand_withdraw (s : State) (m : Move) (r : Option Reason) : s.NoticesStand (s.withdraw m r) := by
  obtain ⟨tx, h⟩ := s.withdraw_eq m r
  rw [h]
  split <;> exact .of_eq rfl rfl

theorem State.noticesStand_reclaimIfUnfit (s : State) (id : Ident) : s.NoticesStand (s.reclaimIfUnfit id) := by
  rcases s.reclaimIfUnfit_cases id with h | ⟨r, p, _, _, _, _, h⟩ <;> rw [h]
  · exact .refl s
  · exact (State.NoticesStand.of_eq (s := s) (t := s.lapseNest p) rfl rfl).trans
      ((State.noticesStand_offerInward _ _).trans (.of_eq (State.sendTool_materialNotices _ _ _) (State.sendTool_serviceNotices _ _ _)))

theorem State.noticesStand_withdrawHeldDeliver (s : State) (r : Rec) : s.NoticesStand (s.withdrawHeldDeliver r) := by
  unfold State.withdrawHeldDeliver
  split
  · split
    · exact s.noticesStand_withdraw _ _
    · exact .refl s
  · exact .refl s

theorem State.noticesStand_setHeld (s : State) (id : Ident) : s.NoticesStand (s.setHeld id) := by
  unfold State.setHeld
  split
  · split
    · exact .refl s
    · exact ((State.NoticesStand.of_eq (s := s) (t := s.updRecord id (fun x => { x with held := true })) rfl rfl).trans
        (State.noticesStand_withdrawHeldDeliver _ _)).trans (State.noticesStand_reclaimIfUnfit _ id)
  · exact .refl s

theorem State.noticesStand_offerPrestage (s : State) (o : Offer) : s.NoticesStand (s.offerPrestage o) := by
  unfold State.offerPrestage
  split
  · exact s.noticesStand_enter o _ _
  · next n _ =>
    simp only
    split
    · split
      · exact (s.noticesStand_countHit n o).trans (State.noticesStand_setHeld _ _)
      · exact s.noticesStand_countHit n o
    · exact (s.noticesStand_countHit n o).trans (State.noticesStand_enter _ o _ _)

theorem State.noticesStand_askPrestage (s : State) (p : Port) (id : Ident) (k : Fin 2) :
    s.NoticesStand (s.askPrestage p id k) := by
  unfold State.askPrestage
  split
  · exact s.noticesStand_offerPrestage _
  · exact .refl s

theorem State.noticesStand_askDestage (s : State) (p : Port) (k : Nat) (n : Slot) : s.NoticesStand (s.askDestage p k n) := by
  unfold State.askDestage
  split
  · split
    · exact s.noticesStand_offerInward _
    · exact .refl s
  · exact .refl s

theorem State.noticesStand_reviewMove (s : State) (p : Port) (w : List Ident) (m : Move) :
    s.NoticesStand (s.reviewMove p w m) := by
  unfold State.reviewMove
  split
  · split
    · split
      · exact s.noticesStand_withdraw _ _
      · simp only
        split
        · exact .refl s
        · exact .of_eq rfl rfl
    · split
      · exact s.noticesStand_withdraw _ _
      · exact .refl s
    · exact .refl s
  · exact .refl s

theorem State.noticesStand_foldl {α : Type} {step : State → α → State} (h : ∀ t x, State.NoticesStand t (step t x))
    (xs : List α) (s : State) : s.NoticesStand (xs.foldl step s) := by
  induction xs generalizing s with
  | nil => exact .refl s
  | cons x xs ih => exact (h s x).trans (ih _)

theorem State.noticesStand_testNoSlot (s : State) : s.NoticesStand s.testNoSlot := by
  unfold State.testNoSlot
  split
  · exact .of_eq rfl rfl
  · split
    · exact .refl s
    · exact State.NoticesStand.trans (t := { s with noSlot := true }) (.of_eq rfl rfl) (State.noticesStand_raise _ _ (.inl rfl))

theorem State.noticesStand_grant (s : State) (m : Move) (b : Bool) : s.NoticesStand (s.grant m b) := by
  obtain ⟨ports, bi, bo, inn, h⟩ := s.placedFor_eq m
  obtain ⟨v, hv⟩ := s.reserve_eq (s.granted m)
  obtain ⟨tx, x, e, _⟩ := State.firstOrder_eq ({ (s.placedFor m) with tenure := tenureAfter (s.placedFor m).tenure m b }.updHandler
    (fun h => { h with exec := some ⟨some m.seq, none, none, none, 0⟩ })) (s.granted m)
  rw [s.grant_eq, e, h, hv]
  exact .of_eq rfl rfl

theorem State.noticesStand_grantTest (s : State) : s.NoticesStand s.grantTest := by
  have swept : s.NoticesStand s.sweep :=
    s.sweep_ind s.NoticesStand (fun t m r _ _ _ h => h.trans (t.noticesStand_withdraw m (some r))) (.refl s)
  rcases s.grantTest_cases with ⟨_, h⟩ | ⟨_, _, _, h⟩ | ⟨_, _, m, b, _, h⟩ <;> rw [h]
  · exact .refl s
  · exact swept
  · exact swept.trans (State.noticesStand_grant _ m b)

theorem State.noticesStand_settle (b a : State) (x : Touch) : b.NoticesStand (b.settle a x) :=
  State.settle_ind b.NoticesStand
    (fun _ _ h => h.trans (.of_eq rfl rfl))
    (fun c p h => h.trans (State.noticesStand_foldl (fun t m => t.noticesStand_reviewMove p (c.window p) m) c.queue c))
    (fun c p id k h => h.trans (c.noticesStand_askPrestage p id k))
    (fun c p n k h => h.trans (c.noticesStand_askDestage p n k))
    (fun c h => h.trans c.noticesStand_testNoSlot)
    (fun c h => h.trans c.noticesStand_grantTest) a b x (.refl b)

/-- A kind raised by a change stands raised in the answered state. -/
theorem State.Raised.settled {k : NoticeKind} {d : Detail} (h : u.Raised k d) (noSlot : k ≠ .noSlot) (intercept : k ≠ .intercept)
    (a : State) (x : Touch) : (u.settle a x).Raised k d := (u.noticesStand_settle a x).raised noSlot intercept h

/-! ## ZONE_SET (R33, R36, R37) -/

theorem State.raiseConflict_steady (s : State) : s.raiseConflict.steady = s.steady := by
  unfold State.raiseConflict
  simp only
  split
  · exact s.steady_raise _ _
  · rfl

theorem State.raiseConflict_resolve (s : State) (n : Shelf) : s.raiseConflict.resolve n = s.resolve n := by
  unfold State.raiseConflict
  simp only
  split
  · rw [State.resolve, State.zoneMatches, State.raise_zones, State.resolve, State.zoneMatches]
  · rfl

/-- The first shelf in ascending order that meets a test. -/
theorem head?_filter_finRange {k : Nat} {f : Fin k → Bool} {n : Fin k} (h : f n = true) (least : ∀ j, j < n → f j = false) :
    ((List.finRange k).filter f).head? = some n := by
  rw [List.head?_filter, List.find?_eq_some_iff_append]
  refine ⟨h, (List.finRange k).take n.val, (List.finRange k).drop (n.val + 1), ?_, fun j hj => ?_⟩
  · conv_lhs => rw [← List.take_append_drop n.val (List.finRange k)]
    rw [List.drop_eq_getElem_cons (by simp)]
    simp
  · obtain ⟨i, hi, e⟩ := List.mem_iff_getElem.mp hj
    simp only [List.length_take, List.length_finRange, List.getElem_take, List.getElem_finRange] at hi e
    rw [Bool.not_eq_true', ← e]
    exact least _ (by rw [Fin.lt_def]; simp only [Fin.val_cast]; omega)

theorem State.raiseConflict_raised (s : State) {n : Shelf} (h : (s.resolve n).conflicted = true)
    (least : ∀ j : Shelf, j < n → (s.resolve j).conflicted = false) :
    s.raiseConflict.Raised .zoneConflict ⟨none, none, some (.slot (shelfSlot n 0)), none,
      some (8 * ((List.finRange 48).countP (fun j => (s.resolve j).conflicted)))⟩ := by
  have first : s.conflictedShelves.head? = some n := head?_filter_finRange (f := fun j => (s.resolve j).conflicted) h least
  have count : s.conflictedShelves.length = (List.finRange 48).countP (fun j => (s.resolve j).conflicted) :=
    List.countP_eq_length_filter.symm
  unfold State.raiseConflict
  simp only [State.conflictSummary, first, count, Option.map_some]
  exact s.raise_raised .zoneConflict _

theorem State.steady_settle (b a : State) (x : Touch) : (b.settle a x).steady = b.steady := (b.aftermath_settle a x).steady

theorem State.resolve_of_steady (h : t.steady = s.steady) (n : Shelf) : t.resolve n = s.resolve n := by
  have zones : t.zones = s.zones := congrArg Steady.zones h
  rw [State.resolve, State.zoneMatches, zones, State.resolve, State.zoneMatches]

theorem clampTo_val (n x : Nat) : (clampTo n x).val = min x n := rfl

/-- A request answered after what follows its change: the steady part and the raised kinds of the change stand, and the
answer is its last frame on the link. -/
theorem State.Told.answered (h : s.Told u) (a : State) (x : Touch) (l : ReqLink) (tag : Byte) (k : FrameKind) (c : AnswerCode)
    (f : AnswerFields) : s.Answered ((u.settle a x).answer l tag k.byte c f) l tag k c f := by
  obtain ⟨fs, unasked, sent⟩ := h.trans (u.aftermath_settle a x).told l
  exact ⟨fs, unasked, by rw [State.answer, State.sent_send_same, sent]⟩

theorem State.noticeSet_send (s : State) (l : Link) (f : OutFrame) (j : NoticeLink) : (s.send l f).noticeSet j = s.noticeSet j := by
  cases j <;> rfl

theorem State.Raised.answer {k : NoticeKind} {d : Detail} (h : u.Raised k d) (l : ReqLink) (tag kind : Byte) (c : AnswerCode)
    (f : AnswerFields) : (u.answer l tag kind c f).Raised k d := fun j => by
  rw [State.answer, State.noticeSet_send]
  exact h j

theorem execZoneSet_service (s : State) (tag : Byte) (b : ZoneBody) :
    exec (.zoneSet .service tag (some b)) s = .next ((replyZoneSet s b).finish s .service tag FrameKind.zoneSet.byte) :=
  congrArg Host.Outcome.next (s.request_service tag .zoneSet b (fun a _ b => replyZoneSet a b))

/-- Settles O23: the entry as clamped is written, and the recomputation raises the kind on the new table. -/
theorem zoneSetWritesOneEntry : Obligations.ZoneSetWritesOneEntry := by
  rintro s tag b k entry
  have chosen : selector 8 b.entry = some k := by rw [entry, selector_val]
  have steady : (s.writeZone k (storedZone b)).steady = { s.steady with zones := s.zones.set k.val (storedZone b) k.isLt } :=
    State.raiseConflict_steady _
  have told : s.Told (s.writeZone k (storedZone b)) := (s.advances_writeZone k (storedZone b)).sends.told
  refine ⟨((s.writeZone k (storedZone b)).settle s { noTouch with zone := true }).answer .service tag FrameKind.zoneSet.byte .ok
    (.zoneStored (storedZone b)), storedZone b, ?_, clampTo_val _ _, clampTo_val _ _, clampTo_val _ _, rfl, rfl,
    ?_, told.answered _ _ _ _ _ _ _, fun n conflicted least => ?_⟩
  · rw [execZoneSet_service]
    simp only [replyZoneSet, chosen]
    rfl
  · exact (State.steady_send _ _ _).trans ((State.steady_settle _ _ _).trans steady)
  · have same (j : Shelf) : (((s.writeZone k (storedZone b)).settle s { noTouch with zone := true }).answer .service tag
        FrameKind.zoneSet.byte .ok (.zoneStored (storedZone b))).resolve j
        = State.resolve { s with zones := s.zones.set k.val (storedZone b) k.isLt } j :=
      (State.resolve_of_steady ((State.steady_send _ _ _).trans (State.steady_settle _ _ _)) j).trans
        (State.raiseConflict_resolve _ j)
    simp only [same] at conflicted least ⊢
    exact ((State.raiseConflict_raised _ conflicted least).settled (by decide) (by decide) _ _).answer _ _ _ _ _

/-! ## The DUE checks (R177 to R179) -/

/-- Settles O24: the checks by the number of records they make DUE. -/
theorem dueCheckMakesRecordsDue : Obligations.DueCheckMakesRecordsDue := by
  intro s f sound
  refine ⟨State.steady_dueCheck sound f, fun h => ?_, fun r h => ?_, fun h => ?_⟩
  · have none_ : s.newlyDue f = [] := List.filter_eq_nil_iff.mpr fun r hr => by
      cases checked : f r
      · simp
      · simp [h r hr checked]
    rw [State.dueCheck, none_]
  · refine ⟨s.dueDetail r, ?_, rfl, rfl, fun n here => ?_, fun x here => ?_, fun p here => ?_⟩
    · rw [State.dueCheck, h]
      exact State.raise_raised _ _ _
    all_goals simp [State.dueDetail, here]
  · rcases s.dueCheck_cases f with ⟨none_, _⟩ | ⟨r, one, _⟩ | ⟨_, e⟩
    · rw [none_] at h
      simp at h
    · rw [one] at h
      simp at h
    · rw [e]
      exact State.raise_raised _ _ _

end Sys2Proof.Machine
end

section
/-! PROOFS. The moves that what follows a change admits, and HELLO (R50, R51). -/

namespace Sys2Proof.Machine

open Sys2Proof

variable {s t u : State}

/-! ## The windows that a re-evaluation asks for -/

/-- What a PRESTAGE asked for an entry of a port's window, with the other parts of a re-evaluation and the tests of a change,
keeps, everything that follows a change keeps (R85, R86). -/
theorem State.settle_ind_window (P : State → Prop) (choice : ∀ c n, P c → P { c with choices := n })
    (review : ∀ c p, P c → P (c.review p))
    (prestage : ∀ c p id k, P c → (∃ d, P d ∧ id ∈ d.window p) → P (c.askPrestage p id k))
    (destage : ∀ c p n k, P c → P (c.askDestage p n k)) (noSlot : ∀ c, P c → P c.testNoSlot)
    (grant : ∀ c, P c → P c.grantTest) (a b : State) (t : Touch) (h : P b) : P (b.settle a t) := by
  have served (c : State) (f : State → State) (hf : P (f c)) : P (c.served f) :=
    State.serve_ind P noSlot grant c (f c) noTouch hf
  have asked (c : State) (p : Port) (hc : P c) : P (c.askPrestages p) := by
    unfold State.askPrestages
    split
    · exact hc
    · next x w => exact served _ _ (prestage _ _ _ _ hc ⟨c, hc, by rw [w]; simp⟩)
    · next x y zs w =>
      have first := served c (·.askPrestage p x 0) (prestage _ _ _ _ hc ⟨c, hc, by rw [w]; simp⟩)
      exact served _ _ (prestage _ _ _ _ first ⟨c, hc, by rw [w]; simp⟩)
  have reevaluated (c : State) (p : Port) (hc : P c) : P (c.reevaluate p) := by
    unfold State.reevaluate
    split
    · unfold State.askDestages
      exact served _ _ (destage _ _ _ _ (served _ _ (destage _ _ _ _ (asked _ p (served _ _ (review _ _ hc))))))
    · exact hc
  exact State.forecastStep_ind P _ a t choice reevaluated (State.serve_ind P noSlot grant a b t h)

theorem State.known_of_steady (h : t.steady = s.steady) (id : Ident) : t.known id = s.known id := by
  have same := State.record_steady_of_steady h id
  rw [State.known, State.known]
  simpa using congrArg Option.isSome same

theorem State.window_of_steady (h : t.steady = s.steady) (p : Port) : t.window p = s.window p := by
  have ahead : t.aheadOf p = s.aheadOf p := congrArg (fun x : Steady => x.ahead.get p) h
  rw [State.window, State.window, ahead]
  simp only [State.known_of_steady h]

theorem State.port_state_of_steady (h : t.steady = s.steady) (p : Port) : (t.port p).state = (s.port p).state := by
  have same := congrArg (fun x : Steady => (x.ports.get p).state) h
  simp only [State.steady_port] at same
  exact same

/-! ## The WAITING moves after a change -/

/-- Every WAITING move is of a kind and a beneficiary that meet a condition. -/
def State.WaitingOnly (s : State) (Good : MoveKind → Option Port → Prop) : Prop :=
  ∀ m ∈ s.queue, m.state = .waiting → Good m.kind m.beneficiary

section Waiting

variable {Good : MoveKind → Option Port → Prop}

theorem State.WaitingOnly.of_sublist (h : s.WaitingOnly Good) (sub : ∀ m ∈ t.queue, m ∈ s.queue) : t.WaitingOnly Good :=
  fun m hm => h m (sub m hm)

theorem State.WaitingOnly.withdraw (h : s.WaitingOnly Good) (m : Move) (r : Option Reason) : (s.withdraw m r).WaitingOnly Good :=
  h.of_sublist fun x hx => by
    rw [State.withdraw_queue] at hx
    exact List.mem_of_mem_filter hx

theorem State.WaitingOnly.enter (h : s.WaitingOnly Good) {o : Offer} (good : Good o.kind o.beneficiary) (d hold : Bool) :
    (s.enter o d hold).WaitingOnly Good := fun m hm waits => by
  rw [State.enter_queue] at hm
  rcases List.mem_append.mp hm with old | new
  · exact h m old waits
  · rw [List.mem_singleton.mp new]
    exact good

theorem State.WaitingOnly.of_queue (h : s.WaitingOnly Good) (same : t.queue = s.queue) : t.WaitingOnly Good :=
  h.of_sublist fun m hm => by rw [← same]; exact hm

theorem State.WaitingOnly.offerInward (h : s.WaitingOnly Good) {o : Offer} (good : Good o.kind o.beneficiary) :
    (s.offerInward o).WaitingOnly Good := by
  rcases s.offerInward_cases o with ⟨_, e⟩ | ⟨n, _, e⟩ <;> rw [e]
  · exact h.enter good _ _
  · exact (h.of_queue (s.countHit_queue n o)).enter good _ _

theorem State.WaitingOnly.reclaimIfUnfit (h : s.WaitingOnly Good) (reclaim : ∀ p, Good .reclaim (some p)) (id : Ident) :
    (s.reclaimIfUnfit id).WaitingOnly Good := by
  rcases s.reclaimIfUnfit_cases id with e | ⟨r, p, _, _, _, _, e⟩ <;> rw [e]
  · exact h
  · exact ((h.of_queue (t := s.lapseNest p) rfl).offerInward (reclaim p)).of_queue (State.sendTool_queue _ _ _)

theorem State.WaitingOnly.setHeld (h : s.WaitingOnly Good) (reclaim : ∀ p, Good .reclaim (some p)) (id : Ident) :
    (s.setHeld id).WaitingOnly Good := by
  unfold State.setHeld
  split
  · next r _ =>
    split
    · exact h
    · refine State.WaitingOnly.reclaimIfUnfit ?_ reclaim id
      have flagged : (s.updRecord id (fun x => { x with held := true })).WaitingOnly Good := h.of_queue rfl
      unfold State.withdrawHeldDeliver
      split
      · split
        · exact flagged.withdraw _ _
        · exact flagged
      · exact flagged
  · exact h

theorem State.WaitingOnly.offerPrestage (h : s.WaitingOnly Good) (reclaim : ∀ p, Good .reclaim (some p)) {o : Offer}
    (good : Good o.kind o.beneficiary) : (s.offerPrestage o).WaitingOnly Good := by
  unfold State.offerPrestage
  split
  · exact h.enter good _ _
  · next n _ =>
    have counted := h.of_queue (s.countHit_queue n o)
    simp only
    split
    · split
      · exact counted.setHeld reclaim _
      · exact counted
    · exact counted.enter good _ _

theorem State.WaitingOnly.updMove (h : s.WaitingOnly Good) (q : Seq) {f : Move → Move}
    (good : ∀ m ∈ s.queue, m.seq = q → (f m).state = .waiting →
      m.state = .waiting ∧ (f m).kind = m.kind ∧ (f m).beneficiary = m.beneficiary) : (s.updMove q f).WaitingOnly Good :=
  fun m hm waits => by
    rw [State.updMove_queue, List.mem_map] at hm
    obtain ⟨x, hx, e⟩ := hm
    split at e
    · next same =>
      subst e
      obtain ⟨waited, kind, beneficiary⟩ := good x hx same waits
      rw [kind, beneficiary]
      exact h x hx waited
    · subst e
      exact h x hx waits

theorem State.WaitingOnly.reviewMove (h : s.WaitingOnly Good) (p : Port) (w : List Ident) (m : Move) :
    (s.reviewMove p w m).WaitingOnly Good := by
  unfold State.reviewMove
  split
  · split
    · split
      · exact h.withdraw _ _
      · simp only
        split
        · exact h
        · exact h.updMove _ fun x _ _ waits => ⟨waits, rfl, rfl⟩
    · split
      · exact h.withdraw _ _
      · exact h
    · exact h
  · exact h

theorem State.WaitingOnly.review (h : s.WaitingOnly Good) (p : Port) : (s.review p).WaitingOnly Good := by
  have step (w : List Ident) (ms : List Move) (t : State) (ht : t.WaitingOnly Good) :
      (ms.foldl (fun t m => t.reviewMove p w m) t).WaitingOnly Good := by
    induction ms generalizing t with
    | nil => exact ht
    | cons m ms ih => exact ih _ (ht.reviewMove p w m)
  exact step _ _ s h

theorem State.WaitingOnly.testNoSlot (h : s.WaitingOnly Good) : s.testNoSlot.WaitingOnly Good := by
  obtain ⟨_, _, _, _, e, _⟩ := s.testNoSlot_eq
  rw [e]
  exact h.of_queue rfl

theorem State.placedFor_queue (s : State) (m : Move) :
    (s.placedFor m).queue = s.queue.map (fun x => if x.seq = m.seq then s.granted m else x) := by
  obtain ⟨ports, bi, bo, inn, h⟩ := s.placedFor_eq m
  rw [h]

theorem State.WaitingOnly.grantTest (h : s.WaitingOnly Good) : s.grantTest.WaitingOnly Good := by
  have swept : s.sweep.WaitingOnly Good := h.of_sublist fun m hm => s.sweep_queue_sublist.subset hm
  rcases s.grantTest_cases with ⟨_, e⟩ | ⟨_, _, _, e⟩ | ⟨_, _, m, b, _, e⟩ <;> rw [e]
  · exact h
  · exact swept
  · intro x hx waits
    obtain ⟨_, _, _, _, queue, _⟩ := s.sweep.grant_ports m b
    rw [queue, State.placedFor_queue, List.mem_map] at hx
    obtain ⟨y, hy, e⟩ := hx
    split at e
    · subst e
      cases waits
    · subst e
      exact swept y hy waits

/-- What follows a change admits RECLAIM and DESTAGE moves, and PRESTAGE moves of ATTACHED ports with a window, and makes no
other move WAITING. -/
theorem State.WaitingOnly.settle {b : State} (h : b.WaitingOnly Good) (reclaim : ∀ p, Good .reclaim (some p))
    (destage : ∀ p, Good .destage (some p))
    (prestage : ∀ p, (b.port p).state = .attached → b.window p ≠ [] → Good .prestage (some p)) (a : State) (x : Touch) :
    (b.settle a x).WaitingOnly Good := by
  have steadily {c d : State} (hc : c.steady = b.steady) (k : d.steady = c.steady) : d.steady = b.steady := k.trans hc
  refine (State.settle_ind_window (fun c => c.steady = b.steady ∧ c.WaitingOnly Good) ?_ ?_ ?_ ?_ ?_ ?_ a b x ⟨rfl, h⟩).2
  · exact fun c n ⟨hs, hw⟩ => ⟨hs, hw.of_queue rfl⟩
  · exact fun c p ⟨hs, hw⟩ => ⟨steadily hs (c.aftermath_review p).steady, hw.review p⟩
  · rintro c p id k ⟨hs, hw⟩ ⟨d, ⟨hd, _⟩, here⟩
    refine ⟨steadily hs (c.aftermath_askPrestage p id k).steady, ?_⟩
    unfold State.askPrestage
    split
    · next n y source _ =>
      refine hw.offerPrestage reclaim (prestage p ?_ fun none_ => ?_)
      · rw [← State.port_state_of_steady hs]
        unfold State.prestageSource at source
        split at source
        · split at source
          · split at source
            · split at source
              · next ready => exact ready.1
              · cases source
            · cases source
          · cases source
        · cases source
      · rw [State.window_of_steady hd, none_] at here
        cases here
    · exact hw
  · rintro c p k n ⟨hs, hw⟩
    refine ⟨steadily hs (c.aftermath_askDestage p k n).steady, ?_⟩
    unfold State.askDestage
    split
    · split
      · exact hw.offerInward (destage p)
      · exact hw
    · exact hw
  · exact fun c ⟨hs, hw⟩ => ⟨steadily hs c.aftermath_testNoSlot.steady, hw.testNoSlot⟩
  · exact fun c ⟨hs, hw⟩ => ⟨steadily hs c.aftermath_grantTest.steady, hw.grantTest⟩

end Waiting

/-! ## Requests on a tool link -/

/-- A request of a tool link in form is its owner's reply in the state with the liveness timer restarted, finished (R52,
R205). -/
theorem State.request_tool {α : Type} (s : State) (p : Port) (tag : Byte) (k : FrameKind) (x : α)
    (owner : State → Port → α → Reply) :
    s.request (.tool p) tag k (onTool (.tool p)) (some x) owner
      = (owner (s.goodFrame (.tool p)) p x).finish (s.goodFrame (.tool p)) (.tool p) tag k.byte := rfl

theorem State.goodFrame_of_not_attached {p : Port} (h : (s.port p).state ≠ .attached) : s.goodFrame (.tool p) = s := if_neg h

theorem State.goodFrame_tx (s : State) (l : ReqLink) : (s.goodFrame l).tx = s.tx := by
  cases l with
  | tool p =>
    unfold State.goodFrame
    dsimp only
    split <;> rfl
  | material => rfl
  | service => rfl

theorem State.goodFrame_ahead (s : State) (l : ReqLink) : (s.goodFrame l).ahead = s.ahead := by
  cases l with
  | tool p =>
    unfold State.goodFrame
    dsimp only
    split <;> rfl
  | material => rfl
  | service => rfl

theorem State.port_goodFrame_of_attached {p : Port} (h : (s.port p).state = .attached) : (s.goodFrame (.tool p)).port p
    = { s.port p with livenessLeft := (s.port p).liveness.map livenessPeriod } := by
  rw [show s.goodFrame (.tool p) = s.updPort p (fun r => { r with livenessLeft := r.liveness.map livenessPeriod }) from if_pos h]
  simp

/-- A port record's change that the steady part sees. -/
theorem State.steady_updPort_eq (s : State) (p : Port) {f g : PortRec → PortRec}
    (h : (f (s.port p)).steady = g (s.port p).steady) : (s.updPort p f).steady = s.steady.updPort p g := by
  have ports : (s.ports.set p.val (f (s.port p)) p.isLt).map PortRec.steady
      = (s.ports.map PortRec.steady).set p.val (g ((s.ports.map PortRec.steady).get p)) p.isLt := by
    have here : (s.ports.map PortRec.steady).get p = (s.port p).steady := s.steady_port p
    rw [here, ← h, Vector.map_set]
  rw [State.updPort, State.setPort, State.steady, ports]
  rfl

theorem Steady.updPort_updPort (x : Steady) (p : Port) (f g : PortRec → PortRec) :
    (x.updPort p f).updPort p g = x.updPort p (g ∘ f) := by
  simp [Steady.updPort, Vector.get_eq_getElem]

/-- The steady part with the liveness timer restarted and the port record written is the steady part with it written. -/
theorem State.steady_goodFrame_updPort (s : State) (p : Port) {g : PortRec → PortRec}
    (over_ : ∀ r x, g { r with livenessLeft := x } = g r) :
    (s.goodFrame (.tool p)).steady.updPort p g = s.steady.updPort p g := by
  unfold State.goodFrame
  dsimp only
  split
  · rw [s.steady_updPort_eq p (g := fun r => { r with livenessLeft := r.liveness.map livenessPeriod }) rfl,
      Steady.updPort_updPort]
    congr 1
    funext r
    exact over_ r _
  · rfl

/-- A change finished: what follows it, then the answer. -/
theorem Reply.changed_finish_eq (u a : State) (l : ReqLink) (tag kind : Byte) :
    (changed u).finish a l tag kind = (u.settle a noTouch).answer l tag kind .ok .none := rfl

theorem State.steady_answer (u : State) (l : ReqLink) (tag kind : Byte) (c : AnswerCode) (f : AnswerFields) :
    (u.answer l tag kind c f).steady = u.steady := u.steady_send _ _

theorem State.queue_answer (u : State) (l : ReqLink) (tag kind : Byte) (c : AnswerCode) (f : AnswerFields) :
    (u.answer l tag kind c f).queue = u.queue := rfl

/-! ## HELLO (R50, R51) -/

theorem execHello_tool (s : State) (p : Port) (tag : Byte) (b : HelloBody) : exec (.hello (.tool p) tag (some b)) s
    = .next ((replyHello (s.goodFrame (.tool p)) p b).finish (s.goodFrame (.tool p)) (.tool p) tag FrameKind.hello.byte) := rfl

/-- The withdrawals of a port's tool work leave no WAITING DELIVER or PRESTAGE of the port. -/
theorem State.mem_withdrawFold (ms : List Move) (r : Option Reason) (t : State) (m : Move) :
    m ∈ (ms.foldl (fun t m => t.withdraw m r) t).queue ↔ m ∈ t.queue ∧ ∀ x ∈ ms, m.seq ≠ x.seq := by
  induction ms generalizing t with
  | nil => simp
  | cons x ms ih =>
    rw [List.foldl_cons, ih, State.withdraw_queue, List.mem_filter]
    simp [and_assoc]

theorem State.mem_withdrawWhere (s : State) (f : Move → Bool) (r : Option Reason) (m : Move) :
    m ∈ (s.withdrawWhere f r).queue
      ↔ m ∈ s.queue ∧ ∀ x ∈ s.queue, x.isWaiting = true → f x = true → m.seq ≠ x.seq := by
  unfold State.withdrawWhere
  rw [State.mem_withdrawFold]
  simp

/-- No WAITING move that a withdrawal names is left. -/
theorem State.withdrawWhere_waiting {s : State} {f : Move → Bool} {r : Option Reason} {m : Move}
    (h : m ∈ (s.withdrawWhere f r).queue) (waits : m.state = .waiting) : f m = false := by
  obtain ⟨here, other⟩ := (s.mem_withdrawWhere f r m).mp h
  by_contra named
  exact other m here (decide_eq_true waits) (by simpa using named) rfl

/-- A WAITING DELIVER or PRESTAGE of a port, which its stand-down withdraws (R51, R53). -/
def NoToolWork (p : Port) (k : MoveKind) (b : Option Port) : Prop := b = some p → k ≠ .deliver ∧ k ≠ .prestage

theorem State.dropToolWork_waiting (s : State) (p : Port) : (s.dropToolWork p).WaitingOnly (NoToolWork p) :=
  fun m hm waits own => by
    have spared := State.withdrawWhere_waiting hm waits
    simpa [own] using spared

theorem State.steady_withdrawWhere (s : State) {f : Move → Bool} (noScan : ∀ m, f m = true → m.kind ≠ .scan)
    (r : Option Reason) : (s.withdrawWhere f r).steady = s.steady :=
  s.withdrawWhere_ind (fun t => t.steady = s.steady) f r
    (fun t m _ _ named h => (t.steady_withdraw (noScan m named) r).trans h) rfl

theorem State.steady_dropToolWork (s : State) (p : Port) : (s.dropToolWork p).steady = s.steady :=
  s.steady_withdrawWhere (fun m named scan => by simp [scan] at named) none

theorem State.steady_setAhead (s : State) (p : Port) (a : CallAhead) : (s.setAhead p a).steady = s.steady.setAhead p a := rfl

/-- A port whose ACTIVE list is empty has no window (R85). -/
theorem State.window_of_emptied {s : State} {p : Port} {a : CallAhead} (h : s.aheadOf p = a.emptied) : s.window p = [] := by
  unfold State.window CallAhead.activeEntries
  rw [h, a.emptied_lists.2]
  rfl

/-- The state a HELLO with a new name leaves in an ATTACHED port, before what follows. -/
theorem State.rehello_of_new_name {s : State} {p : Port} {b : HelloBody} (new : (s.port p).name ≠ some b.name) :
    (s.rehello p b).steady = (s.steady.updPort p (fun r =>
        { r with name := some b.name, liveness := some (livenessOf b), livenessLeft := some (livenessPeriod (livenessOf b)) })).setAhead
          p (s.aheadOf p).emptied
      ∧ (s.rehello p b).WaitingOnly (NoToolWork p) ∧ (s.rehello p b).Raised .portAttached ⟨none, none, none, some p, none⟩
      ∧ (s.rehello p b).window p = [] := by
  unfold State.rehello
  simp only [if_neg new]
  have named : ((s.updPort p (PortRec.withLiveness (livenessOf b))).updPort p (fun r => { r with name := some b.name })).steady
      = s.steady.updPort p (fun r => { r with
          name := some b.name, liveness := some (livenessOf b), livenessLeft := some (livenessPeriod (livenessOf b)) }) := by
    rw [State.steady_updPort_eq _ p (g := fun r => { r with name := some b.name }) rfl,
      State.steady_updPort_eq s p (g := PortRec.withLiveness (livenessOf b)) rfl, Steady.updPort_updPort]
    rfl
  refine ⟨?_, ?_, State.raise_raised _ _ _, ?_⟩
  · rw [State.raiseAttached, State.steady_raise, State.steady_dropToolWork, State.emptyLists, State.updAhead,
      State.steady_setAhead, named]
    rfl
  · exact (State.dropToolWork_waiting _ p).of_queue (State.raise_queue _ _ _)
  · refine State.window_of_emptied (a := s.aheadOf p) ?_
    rw [State.aheadOf, State.raiseAttached, State.raise_ahead, State.dropToolWork_ahead, State.emptyLists, State.updAhead]
    have same := State.aheadOf_setAhead ((s.updPort p (PortRec.withLiveness (livenessOf b))).updPort p
      (fun r => { r with name := some b.name })) p p (s.aheadOf p).emptied
    rw [if_pos rfl] at same
    exact same

theorem State.WaitingOnly.noToolWork {b : State} {p : Port} (h : b.WaitingOnly (NoToolWork p))
    (quiet : (b.port p).state ≠ .attached ∨ b.window p = []) (a : State) (x : Touch) :
    (b.settle a x).WaitingOnly (NoToolWork p) := by
  refine h.settle (fun q _ => by decide) (fun q _ => by decide) (fun q attached window own => ?_) a x
  cases own
  rcases quiet with shut | none_
  · exact absurd attached shut
  · exact absurd none_ window

/-- Settles O27: the port state splits the cases, and what follows the change keeps what they leave. -/
theorem helloAttachesOrRenews : Obligations.HelloAttachesOrRenews := by
  intro s p tag b name base
  have good : nameOk b.name = true ∧ b.base ≤ 1 := ⟨name, base⟩
  have a_told : s.Told (s.goodFrame (.tool p)) := .of_tx_eq (s.goodFrame_tx _)
  have state := s.goodFrame_port_state (.tool p) p
  have fields : (livenessOf b).oneSecond = decide (b.base = 1) ∧ (livenessOf b).f1 = max 1 (min b.f1 255)
      ∧ (livenessOf b).f2 = max 1 (min b.f2 255) := ⟨rfl, rfl, rfl⟩
  refine ⟨_, livenessOf b, execHello_tool s p tag b, fields.1, fields.2.1, fields.2.2, fun silent => ?_,
    fun attached same => ?_, fun attached new => ?_, fun closed => ?_⟩
  · rw [s.goodFrame_of_not_attached (by rw [silent]; decide), replyHello, if_pos good, silent]
    dsimp only
    rw [Reply.changed_finish_eq]
    refine ⟨?_, ?_, ?_⟩
    · rw [State.steady_answer, State.steady_settle]
      rw [State.attach, State.raiseAttached, State.steady_raise]
      exact s.steady_updPort_eq p rfl
    · exact ((State.raise_raised _ _ _).settled (by decide) (by decide) _ _).answer _ _ _ _ _
    · exact (s.advances_attach p b).sends.told.answered _ _ _ _ _ _ _
  · rw [replyHello, if_pos good, state, attached]
    dsimp only
    rw [Reply.changed_finish_eq]
    have kept : ((s.goodFrame (.tool p)).port p).name = some b.name := by
      rw [← same]
      exact congrArg (fun r => r.name) (State.port_goodFrame_of_attached attached)
    refine ⟨?_, ?_⟩
    · rw [State.steady_answer, State.steady_settle]
      rw [State.rehello, if_pos kept, State.steady_updPort_eq _ p (g := PortRec.withLiveness (livenessOf b)) rfl,
        s.steady_goodFrame_updPort p (fun _ _ => rfl)]
      rfl
    · refine State.Told.answered (a_told.trans ?_) _ _ _ _ _ _ _
      exact (State.advances_rehello _ p b (by rw [state, attached])).sends.told
  · rw [replyHello, if_pos good, state, attached]
    dsimp only
    rw [Reply.changed_finish_eq]
    have new' : ((s.goodFrame (.tool p)).port p).name ≠ some b.name := by
      intro e
      refine new (Eq.trans ?_ e)
      exact (congrArg (fun r => r.name) (State.port_goodFrame_of_attached attached)).symm
    obtain ⟨steady, waiting, raised, window⟩ := State.rehello_of_new_name new'
    refine ⟨?_, fun m hm own waits => ?_, ?_, ?_⟩
    · rw [State.steady_answer, State.steady_settle, steady, s.steady_goodFrame_updPort p (fun _ _ => rfl), State.aheadOf,
        s.goodFrame_ahead (.tool p), State.aheadOf]
    · rw [State.queue_answer] at hm
      exact waiting.noToolWork (.inr window) _ _ m hm waits own
    · exact (raised.settled (by decide) (by decide) _ _).answer _ _ _ _ _
    · refine State.Told.answered (a_told.trans ?_) _ _ _ _ _ _ _
      exact (State.advances_rehello _ p b (by rw [state, attached])).sends.told
  · rw [s.goodFrame_of_not_attached (by rw [closed]; decide), replyHello, if_pos good, closed]
    rfl

end Sys2Proof.Machine
end

section
/-! PROOFS. Offers of the request links: what an offer sets aside and enters (R117, R121), the intercept's verdicts (R187 to
R190), CALL (R72, R73), EXPORT and INSPECT (R99, R100, R107). -/

namespace Sys2Proof.Machine

open Sys2Proof

variable {s t u : State}

/-! ## Entering the queue -/

theorem State.enter_catalogue (s : State) {o : Offer} {id : Ident} (named : o.reticle = some id) (d h : Bool) :
    (s.enter o d h).catalogue = s.catalogue.map (fun y => if y.id = id then { y with binding := some s.nextSeq } else y) := by
  rw [State.enter]
  simp only [named]
  rfl

/-- The record an offer names is bound to the move it becomes. -/
theorem State.enter_binding (s : State) {o : Offer} {id : Ident} (named : o.reticle = some id) (d h : Bool) :
    ∀ r ∈ (s.enter o d h).catalogue, r.id = id → r.binding = some s.nextSeq := by
  intro r hr here
  rw [s.enter_catalogue named, List.mem_map] at hr
  obtain ⟨x, _, rfl⟩ := hr
  split
  · rfl
  · next other => exact absurd (by split at here <;> exact here) other

theorem State.entered_becomes (s : State) (o : Offer) (h : Bool) : o.Becomes (s.entered o false h) s.nextSeq s.clock :=
  ⟨rfl, rfl, rfl, rfl, rfl, rfl, rfl, rfl, rfl, rfl, rfl, rfl, rfl⟩

/-! ## Setting a move aside (R73, R100, R121) -/

section Aside

variable (s) (c : Claim) (r : Option Reason)

theorem State.takeAside_queue : (s.takeAside c r).queue = s.queue.filter (fun x => !decide (c.seq = some x.seq)) := by
  cases c with
  | aside m =>
    rw [State.takeAside, State.withdraw_queue]
    refine List.filter_congr fun x _ => ?_
    simp [Claim.seq, eq_comm]
  | free => simp [State.takeAside, Claim.seq]
  | bound => simp [State.takeAside, Claim.seq]

theorem State.takeAside_kept : (s.takeAside c r).nextSeq = s.nextSeq ∧ (s.takeAside c r).clock = s.clock
    ∧ (s.takeAside c r).slots = s.slots ∧ (s.takeAside c r).handler = s.handler
    ∧ (s.takeAside c r).intercepts = s.intercepts := by
  unfold State.takeAside
  split
  · next m =>
    obtain ⟨tx, h⟩ := s.withdraw_eq m r
    rw [h]
    split <;> exact ⟨rfl, rfl, rfl, rfl, rfl⟩
  · exact ⟨rfl, rfl, rfl, rfl, rfl⟩

theorem State.steady_takeAside {c : Claim} (noScan : ∀ m, c = .aside m → m.kind ≠ .scan) (r : Option Reason) :
    (s.takeAside c r).steady = s.steady := by
  cases c with
  | aside m => exact s.steady_withdraw (noScan m rfl) r
  | free => rfl
  | bound => rfl

end Aside

/-- What the admission of a link offer leaves, the move it sets aside gone. -/
theorem State.admitted_aside (s : State) (o : Offer) (c : Claim) (r : Option Reason) (d h : Bool) :
    ((s.takeAside c r).enter o d h).queue = s.queue.filter (fun x => !decide (c.seq = some x.seq)) ++ [s.entered o d h]
      ∧ ((s.takeAside c r).enter o d h).nextSeq = s.nextSeq + 1
      ∧ ((s.takeAside c r).enter o d h).slots = s.slots ∧ ((s.takeAside c r).enter o d h).handler = s.handler
      ∧ (∀ id, o.reticle = some id → ∀ x ∈ ((s.takeAside c r).enter o d h).catalogue, x.id = id → x.binding = some s.nextSeq) := by
  obtain ⟨next, clock, slots, handler, _⟩ := s.takeAside_kept c r
  refine ⟨?_, ?_, ?_, ?_, fun id named => ?_⟩
  · rw [State.enter_queue, s.takeAside_queue, State.entered, next, clock, State.entered]
  · rw [State.enter_nextSeq, next]
  · rw [State.enter_slots, slots]
  · rw [State.enter_handler, handler]
  · rw [← next]
    exact State.enter_binding _ named d h

theorem State.offerLink_of_undecided {o : Offer} (h : s.deciding o = none) (c : Claim) (r : Option Reason) :
    s.offerLink o c r = ⟨(s.takeAside c r).enter o false false, .ok, .none⟩ := by
  rw [State.offerLink, h]

theorem State.claim_aside {r : Rec} {allowed : Move → Bool} {m : Move} (h : s.claim r allowed = .aside m) :
    m.isWaiting = true ∧ allowed m = true := by
  unfold State.claim at h
  split at h
  · cases h
  · split at h
    · split at h
      · next ok =>
        cases h
        exact Bool.and_eq_true_iff.mp ok
      · cases h
    · cases h

/-! ## What the liveness timer leaves for a request of its link -/

theorem State.goodFrame_eq (s : State) (l : ReqLink) : ∃ ports, s.goodFrame l = { s with ports := ports } := by
  cases l with
  | tool p =>
    unfold State.goodFrame
    dsimp only
    split
    · exact ⟨_, rfl⟩
    · exact ⟨s.ports, rfl⟩
  | material => exact ⟨s.ports, rfl⟩
  | service => exact ⟨s.ports, rfl⟩

theorem State.port_goodFrame (s : State) (l : ReqLink) (p : Port) :
    ∃ x, (s.goodFrame l).port p = { s.port p with livenessLeft := x } := by
  cases l with
  | tool q =>
    unfold State.goodFrame
    dsimp only
    split
    · by_cases same : q = p
      · subst same
        exact ⟨(s.port q).liveness.map livenessPeriod, by simp⟩
      · exact ⟨(s.port p).livenessLeft, s.port_updPort_other (Ne.symm same) _⟩
    · exact ⟨_, rfl⟩
  | material => exact ⟨_, rfl⟩
  | service => exact ⟨_, rfl⟩

theorem State.toolNest_goodFrame (s : State) (l : ReqLink) (p : Port) : (s.goodFrame l).toolNest p = s.toolNest p := by
  obtain ⟨x, h⟩ := s.port_goodFrame l p
  rw [State.toolNest, h, State.toolNest]

theorem State.checkedOut_goodFrame (s : State) (l : ReqLink) (p : Port) : (s.goodFrame l).checkedOut p = s.checkedOut p := by
  have nest := s.toolNest_goodFrame l p
  obtain ⟨ports, h⟩ := s.goodFrame_eq l
  rw [State.checkedOut, nest, h, State.checkedOut]

theorem State.claim_goodFrame (s : State) (l : ReqLink) (r : Rec) (allowed : Move → Bool) :
    (s.goodFrame l).claim r allowed = s.claim r allowed := by
  obtain ⟨ports, h⟩ := s.goodFrame_eq l
  rw [h]
  rfl

theorem State.serveMaskFor_goodFrame (s : State) (l : ReqLink) (r : Rec) : (s.goodFrame l).serveMaskFor r = s.serveMaskFor r := by
  obtain ⟨ports, h⟩ := s.goodFrame_eq l
  rw [h]
  rfl

theorem State.linkCount_goodFrame (s : State) (l : ReqLink) (q : Option Seq) : (s.goodFrame l).linkCount q = s.linkCount q := by
  obtain ⟨ports, h⟩ := s.goodFrame_eq l
  rw [h]
  rfl

theorem State.deciding_goodFrame (s : State) (l : ReqLink) (o : Offer) : (s.goodFrame l).deciding o = s.deciding o := by
  obtain ⟨ports, h⟩ := s.goodFrame_eq l
  rw [h]
  rfl

/-! ## CALL (R72, R73) -/

theorem execCall_tool (s : State) (p : Port) (tag : Byte) (id : Ident) : exec (.call (.tool p) tag (some id)) s
    = .next ((replyCall (s.goodFrame (.tool p)) p id).finish (s.goodFrame (.tool p)) (.tool p) tag FrameKind.call.byte) := rfl

theorem Rec.slotOf_eq_some_iff (r : Rec) (n : Slot) : r.slotOf = some n ↔ r.location = .slot n := by
  unfold Rec.slotOf
  split <;> simp_all

theorem Rec.slotOf_eq_none_iff (r : Rec) : r.slotOf = none ↔ ∀ n, r.location ≠ .slot n := by
  unfold Rec.slotOf
  split <;> simp_all

/-- A CALL for a known record at a slot comes to its checks 4 to 9 (R72). -/
theorem replyCall_at_slot {s : State} {p : Port} {id : Ident} {r : Rec} {n : Slot} (ok : identOk id = true)
    (attached : (s.port p).state = .attached) (known : s.record id = some r) (here : r.location = .slot n) :
    replyCall s p id = match s.callRefusal p r (s.claim r (callSetsAside p)) with
      | some code => refuse s code
      | none => s.callOffer p id n (s.claim r (callSetsAside p)) := by
  simp [replyCall, ok, attached, known, (r.slotOf_eq_some_iff n).mpr here] <;> rfl

theorem callSetsAside_no_scan {p : Port} {m : Move} (h : callSetsAside p m = true) : m.kind ≠ .scan := fun scan => by
  simp [callSetsAside, scan] at h

/-- A CALL past its checks with no intercept deciding admits the DELIVER (R72, R82, R117). -/
theorem State.callOffer_of_undecided {s : State} {p : Port} {id : Ident} {n : Slot} (c : Claim)
    (h : s.deciding (deliverOffer p id n) = none) : s.callOffer p id n c
      = changed (((s.takeAside c none).enter (deliverOffer p id n) false false).updAhead p (fun a => a.called id false)) := by
  rw [State.callOffer, State.offerLink_of_undecided h]
  rfl

theorem State.callRefusal_goodFrame (s : State) (l : ReqLink) (p : Port) (r : Rec) (c : Claim) :
    (s.goodFrame l).callRefusal p r c = s.callRefusal p r c := by
  simp only [State.callRefusal, State.checkedOut_goodFrame, State.serveMaskFor_goodFrame, State.linkCount_goodFrame]

/-- Settles O28: the chain of checks, and the admission. -/
theorem callAdmittedOrRefused : Obligations.CallAdmittedOrRefused := by
  refine ⟨?_, ?_⟩
  · rintro s p tag id r n c ok attached known here ready unheld rfl unbound limit zone budget undecided
    have attached' : ((s.goodFrame (.tool p)).port p).state = .attached := by rw [s.goodFrame_port_state, attached]
    have passes : (s.goodFrame (.tool p)).callRefusal p r ((s.goodFrame (.tool p)).claim r (callSetsAside p)) = none := by
      rw [State.claim_goodFrame, State.callRefusal_goodFrame]
      simp [State.callRefusal, ready, unheld, unbound, zone, -BitVec.getLsbD_eq_getElem, Config.checkedOutLimit,
        Config.linkBudget, Nat.not_le.mpr limit, Nat.not_le.mpr budget]
    have clear : (s.goodFrame (.tool p)).deciding (deliverOffer p id n) = none := by
      rw [State.deciding_goodFrame]
      exact undecided
    obtain ⟨queue, next, slots, handler, bound⟩ := (s.goodFrame (.tool p)).admitted_aside (deliverOffer p id n)
      (s.claim r (callSetsAside p)) none false false
    obtain ⟨ports, a⟩ := s.goodFrame_eq (.tool p)
    refine ⟨(((s.goodFrame (.tool p)).takeAside (s.claim r (callSetsAside p)) none).enter (deliverOffer p id n) false
      false).updAhead p (fun a => a.called id false), ?_, queue.trans ?_, next.trans ?_, fun x hx hid => ?_, ?_, slots.trans ?_,
      handler.trans ?_⟩
    · rw [execCall_tool, replyCall_at_slot ok attached' (by rw [State.record_goodFrame, known]) here, passes,
        State.callOffer_of_undecided _ clear, Reply.changed_finish_eq, State.claim_goodFrame]
      rfl
    · rw [a]
      rfl
    · rw [a]
    · have b := bound id rfl x hx hid
      rw [a] at b
      exact b
    · rw [State.updAhead, State.steady_setAhead, State.steady_enter, State.steady_takeAside _ (fun m aside =>
        callSetsAside_no_scan (State.claim_aside aside).2) none, State.aheadOf, State.enter_ahead]
      have ahead : ((s.goodFrame (.tool p)).takeAside (s.claim r (callSetsAside p)) none).ahead = s.ahead := by
        have steady := State.steady_takeAside (s.goodFrame (.tool p)) (c := s.claim r (callSetsAside p)) (fun m aside =>
          callSetsAside_no_scan (State.claim_aside aside).2) none
        exact (congrArg Steady.ahead steady).trans (s.goodFrame_ahead _)
      rw [ahead, State.aheadOf]
    · rw [a]
    · rw [a]
  · intro s p tag id refused isRefused
    have refuses (code : AnswerCode) (h : replyCall (s.goodFrame (.tool p)) p id = refuse (s.goodFrame (.tool p)) code) :
        refused code := by
      rw [isRefused, execCall_tool, h]
      rfl
    have state := s.goodFrame_port_state (.tool p) p
    have record := s.record_goodFrame (.tool p) id
    refine ⟨fun bad => refuses _ (by simp [replyCall, bad]), fun ok => ⟨fun shut => refuses _ (by
      simp [replyCall, ok, state, shut]), fun attached => ⟨fun unknown => refuses _ (by
      simp [replyCall, ok, state, attached, record, unknown]), fun r known => ⟨fun away => refuses _ (by
      simp [replyCall, ok, state, attached, record, known, r.slotOf_eq_none_iff.mpr away]), fun n here => ?_⟩⟩⟩⟩
    have checks (code : AnswerCode) (h : s.callRefusal p r (s.claim r (callSetsAside p)) = some code) : refused code := by
      refine refuses code ?_
      rw [replyCall_at_slot ok (by rw [state, attached]) (by rw [record, known]) here, State.claim_goodFrame,
        State.callRefusal_goodFrame, h]
    refine ⟨fun unready => checks _ (by simp [State.callRefusal, unready]), fun ready => ⟨fun held => checks _ (by
      simp [State.callRefusal, ready, held]), fun unheld => ⟨fun bound => checks _ (by
      simp [State.callRefusal, ready, unheld, bound]), fun unbound => ⟨fun limit => checks _ (by
      simp [State.callRefusal, ready, unheld, unbound, Config.checkedOutLimit, limit]), fun room => ⟨fun zone => checks _ (by
      simp [State.callRefusal, ready, unheld, unbound, Config.checkedOutLimit, Nat.not_le.mpr room, zone,
      -BitVec.getLsbD_eq_getElem]), fun zone budget =>
      checks _ (by simp [State.callRefusal, ready, unheld, unbound, Config.checkedOutLimit, Nat.not_le.mpr room, zone,
        -BitVec.getLsbD_eq_getElem, Config.linkBudget, budget])⟩⟩⟩⟩⟩

/-! ## EXPORT and INSPECT (R99, R100, R107) -/

theorem execExportOut_material (s : State) (tag : Byte) (b : WithdrawBody) : exec (.exportOut .material tag (some b)) s
    = .next ((replyExport s b).finish s .material tag FrameKind.exportOut.byte) := rfl

theorem execInspect_either (s : State) (l : NoticeLink) (tag : Byte) (b : WithdrawBody) :
    exec (.inspect (noticeLinkOf l) tag (some b)) s
      = .next ((replyInspect s l b).finish s (noticeLinkOf l) tag FrameKind.inspect.byte) :=
  congrArg Host.Outcome.next (s.request_either l tag .inspect b replyInspect)

/-- The checks that EXPORT makes of a known record at a slot (R99, R119, R121). -/
def State.exportRefusal (s : State) (c : Claim) : Option AnswerCode :=
  if c = .bound then some .bound else if Config.linkBudget ≤ s.linkCount c.seq then some .queueFull else none

/-- The checks that INSPECT makes of a known record at a slot (R106, R107, R119, R121). -/
def State.inspectRefusal (s : State) (c : Claim) : Option AnswerCode :=
  if c = .bound then some .bound
  else if Config.inspectionLimit ≤ s.inspectionOut c.seq then some .limit
  else if Config.linkBudget ≤ s.linkCount c.seq then some .queueFull
  else none

section Withdraw

variable {s : State} {id : Ident} {r : Rec} {n : Slot} (w : Bool) (ok : identOk id = true) (known : s.record id = some r)
  (here : r.location = .slot n)

include ok known here

theorem replyExport_at_slot : replyExport s ⟨id, w⟩ = match s.exportRefusal (s.claim r (fun _ => w)) with
    | some code => refuse s code
    | none => s.withdrawOffer (stockOutOffer id n) (s.claim r (fun _ => w)) := by
  simp only [replyExport, ok, known, (r.slotOf_eq_some_iff n).mpr here, State.exportRefusal, Bool.not_true,
    Bool.false_eq_true, if_false]
  by_cases bound : s.claim r (fun _ => w) = .bound
  · simp only [if_pos bound]
  · by_cases full : Config.linkBudget ≤ s.linkCount (s.claim r (fun _ => w)).seq
    · simp only [if_neg bound, if_pos full]
    · simp only [if_neg bound, if_neg full]

theorem replyInspect_at_slot (l : NoticeLink) : replyInspect s l ⟨id, w⟩ = match s.inspectRefusal (s.claim r (fun _ => w)) with
    | some code => refuse s code
    | none => s.withdrawOffer (inspectOutOffer l id n) (s.claim r (fun _ => w)) := by
  simp only [replyInspect, ok, known, (r.slotOf_eq_some_iff n).mpr here, State.inspectRefusal, Bool.not_true,
    Bool.false_eq_true, if_false]
  by_cases bound : s.claim r (fun _ => w) = .bound
  · simp only [if_pos bound]
  · by_cases limit : Config.inspectionLimit ≤ s.inspectionOut (s.claim r (fun _ => w)).seq
    · simp only [if_neg bound, if_pos limit]
    · by_cases full : Config.linkBudget ≤ s.linkCount (s.claim r (fun _ => w)).seq
      · simp only [if_neg bound, if_neg limit, if_pos full]
      · simp only [if_neg bound, if_neg limit, if_neg full]

end Withdraw

/-- The move that an admitted offer sets aside is told PREEMPTED on its own link (R100, R137). -/
theorem State.admitted_told (s : State) (o : Offer) (c : Claim) (l : ReqLink) (m : Move) (x : Ident) (aside : c = .aside m)
    (named : m.reticle = some x) (own : m.requester.link = some l)
    (open_ : ∀ q, l = .tool q → (s.port q).state ≠ .closed) :
    ((s.takeAside c (some .preempted)).enter o false false).sent (.request l)
      = s.sent (.request l) ++ [.withdrawn x .preempted] := by
  subst aside
  rw [State.sent, State.enter_tx]
  exact s.withdraw_told .preempted named own open_

theorem State.withdrawOffer_of_undecided {s : State} {o : Offer} (h : s.deciding o = none) (c : Claim) :
    s.withdrawOffer o c = changed ((s.takeAside c (some .preempted)).enter o false false) := by
  rw [State.withdrawOffer, State.offerLink_of_undecided h]
  rfl

/-- Settles O36: each chain of checks, and the admission that both share. -/
theorem exportAndInspectAdmit : Obligations.ExportAndInspectAdmit := by
  refine ⟨?_, ?_⟩
  · rintro s tag id w r n c told ok known here rfl unbound isTold noScan budget
    have steady (o : Offer) : ((s.takeAside (s.claim r (fun _ => w)) (some .preempted)).enter o false false).steady = s.steady := by
      rw [State.steady_enter, State.steady_takeAside s noScan]
    have tells (o : Offer) (l : ReqLink) :
        told ((s.takeAside (s.claim r (fun _ => w)) (some .preempted)).enter o false false) l :=
      (isTold _ l).mpr fun m x aside named own open_ => s.admitted_told o _ l m x aside named own open_
    refine ⟨fun undecided => ?_, fun l limit undecided => ?_⟩
    · obtain ⟨queue, next, slots, handler, bound⟩ := s.admitted_aside (stockOutOffer id n) (s.claim r (fun _ => w))
        (some .preempted) false false
      refine ⟨_, ?_, queue, next, bound id rfl, steady _, slots, handler, tells _⟩
      have passes : s.exportRefusal (s.claim r (fun _ => w)) = none := by
        simp [State.exportRefusal, unbound, Config.linkBudget, Nat.not_le.mpr budget]
      rw [execExportOut_material, replyExport_at_slot w ok known here, passes]
      dsimp only
      rw [State.withdrawOffer_of_undecided (o := stockOutOffer id n) undecided]
      rfl
    · obtain ⟨queue, next, slots, handler, bound⟩ := s.admitted_aside (inspectOutOffer l id n) (s.claim r (fun _ => w))
        (some .preempted) false false
      refine ⟨_, s.entered (inspectOutOffer l id n) false false, ?_, queue, rfl, rfl, rfl, rfl, rfl, rfl, rfl, rfl, rfl,
        fun e => by rw [e]; rfl, fun e => by rw [e]; rfl, next, bound id rfl, steady _, slots, handler, tells _⟩
      have passes : s.inspectRefusal (s.claim r (fun _ => w)) = none := by
        simp [State.inspectRefusal, unbound, Config.linkBudget, Nat.not_le.mpr budget, Config.inspectionLimit,
          Nat.not_le.mpr limit]
      rw [execInspect_either, replyInspect_at_slot w ok known here, passes]
      dsimp only
      rw [State.withdrawOffer_of_undecided undecided]
      rfl
  · intro s tag id w outFails inFails isOut isIn
    have outRefuses (code : AnswerCode) (h : replyExport s ⟨id, w⟩ = refuse s code) : outFails code := by
      rw [isOut, execExportOut_material, h]
      rfl
    have inRefuses (l : NoticeLink) (code : AnswerCode) (h : replyInspect s l ⟨id, w⟩ = refuse s code) : inFails l code := by
      rw [isIn, execInspect_either, h]
      rfl
    refine ⟨fun bad => ⟨outRefuses _ (by simp [replyExport, bad]), fun l => inRefuses l _ (by simp [replyInspect, bad])⟩,
      fun ok => ⟨fun unknown => ⟨outRefuses _ (by simp [replyExport, ok, unknown]), fun l => inRefuses l _ (by
        simp [replyInspect, ok, unknown])⟩, fun r known => ⟨fun away => ⟨outRefuses _ (by
        simp [replyExport, ok, known, r.slotOf_eq_none_iff.mpr away]), fun l => inRefuses l _ (by
        simp [replyInspect, ok, known, r.slotOf_eq_none_iff.mpr away])⟩, ?_⟩⟩⟩
    rintro n c here rfl
    have out := replyExport_at_slot w ok known here
    have inside := replyInspect_at_slot w ok known here
    refine ⟨fun bound => ⟨outRefuses _ (by rw [out]; simp [State.exportRefusal, bound]), fun l => inRefuses l _ (by
      rw [inside]; simp [State.inspectRefusal, bound])⟩, fun unbound => ⟨fun full => outRefuses _ (by
      rw [out]; simp [State.exportRefusal, unbound, Config.linkBudget, full]), ?_, fun l => ⟨fun limit => inRefuses l _ (by
      rw [inside]; simp [State.inspectRefusal, unbound, Config.inspectionLimit, limit]), fun room full => inRefuses l _ (by
      rw [inside]; simp [State.inspectRefusal, unbound, Config.inspectionLimit, Nat.not_le.mpr room, Config.linkBudget, full]), ?_⟩⟩⟩
    · rintro room v rfl
      rw [execExportOut_material, out]
      simp only [State.exportRefusal, unbound, Config.linkBudget, Nat.not_le.mpr room, if_false]
      rfl
    · rintro limit room v rfl
      rw [execInspect_either, inside]
      simp only [State.inspectRefusal, unbound, Config.inspectionLimit, Config.linkBudget, Nat.not_le.mpr limit,
        Nat.not_le.mpr room, if_false]
      rfl

end Sys2Proof.Machine
end

section
/-! PROOFS. The intercept unit's verdicts on link offers, prestages and inward moves (R186 to R190). -/

namespace Sys2Proof.Machine

open Sys2Proof

variable {s t u : State}

/-! ## Holding a record (R103) -/

/-- In a sound catalogue the records of an identifier are the one that is read by it. -/
theorem State.CatalogueSound.eq_of_record (sound : s.CatalogueSound) {id : Ident} {r x : Rec} (h : s.record id = some r)
    (hx : x ∈ s.catalogue) (hid : x.id = id) : x = r := by
  obtain ⟨hr, rid⟩ := s.record_some h
  exact List.inj_on_of_nodup_map sound.1 hx hr (hid.trans rid.symm)

theorem State.record_none {id : Ident} (h : s.record id = none) {x : Rec} (hx : x ∈ s.catalogue) : x.id ≠ id := by
  simpa using List.find?_eq_none.mp h x hx

theorem State.reclaimIfUnfit_of_slot {id : Ident} (h : ∀ r, s.record id = some r → ∃ n, r.location = .slot n) :
    s.reclaimIfUnfit id = s := by
  rcases s.reclaimIfUnfit_cases id with e | ⟨r, p, known, here, _⟩
  · exact e
  · obtain ⟨n, slot⟩ := h r known
    rw [here] at slot
    cases slot

/-- HOLD leaves every record of the identifier held. -/
theorem State.allHeld_setHeld (sound : s.CatalogueSound) (id : Ident) : (s.setHeld id).AllHeld id := by
  unfold State.setHeld
  split
  · next r known =>
    split
    · next held =>
      intro x hx hid
      rw [sound.eq_of_record known hx hid]
      exact held
    · refine (State.aftermath_reclaimIfUnfit _ id).held id ((State.aftermath_withdrawHeldDeliver _ r).held id ?_)
      intro x hx hid
      rw [State.updRecord_catalogue, List.mem_map] at hx
      obtain ⟨y, _, rfl⟩ := hx
      split
      · rfl
      · next other => exact absurd (by split at hid <;> exact hid) other
  · next unknown =>
    intro x hx hid
    exact absurd hid (State.record_none unknown hx)

theorem State.withdraw_intercepts (s : State) (m : Move) (r : Option Reason) : (s.withdraw m r).intercepts = s.intercepts := by
  obtain ⟨_, h⟩ := s.withdraw_eq m r
  rw [h]
  split <;> rfl

/-- The held flag of the record of an identifier. -/
def Rec.hold (r : Rec) : Rec := { r with held := true }

/-- HOLD on a record at a slot: the flag set and its WAITING DELIVER withdrawn. -/
theorem State.setHeld_at_slot {id : Ident} {r : Rec} {n : Slot} (known : s.record id = some r) (here : r.location = .slot n)
    (unheld : r.held = false) : s.setHeld id = (s.updRecord id Rec.hold).withdrawHeldDeliver r := by
  rw [State.setHeld, known]
  simp only [unheld, Bool.false_eq_true, if_false]
  refine State.reclaimIfUnfit_of_slot fun x hx => ⟨n, ?_⟩
  have same := State.record_steady_of_steady ((State.steady_withdrawHeldDeliver (s.updRecord id Rec.hold) r)) id
  have kept : ((s.updRecord id Rec.hold).record id).map Rec.steady = (s.record id).map Rec.steady :=
    State.record_steady_of_steady (s.steady_mapCatalogue _ fun y => by split <;> rfl) id
  have hx' : ((s.updRecord id Rec.hold).withdrawHeldDeliver r).record id = some x := hx
  rw [hx', kept, known] at same
  have location := congrArg Rec.location (Option.some_inj.mp same)
  exact (show x.location = r.location from location).trans here

theorem State.setHeld_intercepts {id : Ident} (h : ∀ r, s.record id = some r → ∃ n, r.location = .slot n) :
    (s.setHeld id).intercepts = s.intercepts := by
  cases known : s.record id with
  | none => rw [State.setHeld, known]
  | some r =>
    obtain ⟨n, here⟩ := h r known
    cases held : r.held with
    | true =>
      rw [State.setHeld, known]
      simp [held]
    | false =>
      rw [State.setHeld_at_slot known here held]
      unfold State.withdrawHeldDeliver
      split
      · split
        · exact State.withdraw_intercepts _ _ _
        · rfl
      · rfl

theorem State.updRecord_of_fixed {id : Ident} {f : Rec → Rec} (h : ∀ r ∈ s.catalogue, r.id = id → f r = r) :
    s.updRecord id f = s := by
  have same : s.catalogue.map (fun r => if r.id = id then f r else r) = s.catalogue := by
    refine (List.map_congr_left fun r hr => ?_).trans (List.map_id _)
    split
    · next hid => exact h r hr hid
    · rfl
  rw [State.updRecord, same]

/-- HOLD on an unbound record at a slot sets its flag and nothing else. -/
theorem State.setHeld_unbound (sound : s.CatalogueSound) {id : Ident} {r : Rec} {n : Slot} (known : s.record id = some r)
    (here : r.location = .slot n) (unbound : r.binding = none) : s.setHeld id = s.updRecord id Rec.hold := by
  cases held : r.held with
  | true =>
    rw [State.setHeld, known]
    simp only [held, if_true]
    refine (State.updRecord_of_fixed fun x hx hid => ?_).symm
    rw [sound.eq_of_record known hx hid, Rec.hold, ← held]
  | false =>
    rw [State.setHeld_at_slot known here held, State.withdrawHeldDeliver, State.boundMove, unbound]
    rfl

/-! ## The hit count (R186) -/

theorem State.countHit_intercepts (s : State) (n : Fin 16) (o : Offer) : (s.countHit n o).intercepts
    = s.intercepts.set n.val { s.intercepts.get n with hits := clampTo 255 ((s.intercepts.get n).hits.val + 1) } n.isLt := by
  obtain ⟨_, _, _, h⟩ := s.countHit_eq n o
  rw [h]

/-- A hit is counted on one entry, saturating at 255 (R186). -/
def CountsHit (before after : Vector InterceptEntry 16) (n : Fin 16) : Prop :=
  (after.get n).hits.val = min 255 ((before.get n).hits.val + 1) ∧ ∀ k, k ≠ n → after.get k = before.get k

theorem State.countsHit (s : State) (n : Fin 16) (o : Offer) : CountsHit s.intercepts (s.countHit n o).intercepts n := by
  rw [s.countHit_intercepts]
  refine ⟨?_, fun k other => ?_⟩
  · simp only [Vector.get_eq_getElem, Vector.getElem_set_self]
    exact min_comm _ _
  · simp only [Vector.get_eq_getElem]
    exact Vector.getElem_set_ne _ _ fun same => other (Fin.ext same.symm)

theorem CountsHit.of_eq {before after last : Vector InterceptEntry 16} {n : Fin 16} (h : CountsHit before after n)
    (same : last = after) : CountsHit before last n := same ▸ h

theorem State.countHit_raised (s : State) (n : Fin 16) (o : Offer) :
    (s.countHit n o).Raised .intercept ⟨o.reticle, none, some o.source, o.beneficiary, some n.val⟩ := State.raise_raised _ _ _

theorem State.countHit_nextSeq' (s : State) (n : Fin 16) (o : Offer) : (s.countHit n o).nextSeq = s.nextSeq
    ∧ (s.countHit n o).clock = s.clock := by
  obtain ⟨_, _, _, h⟩ := s.countHit_eq n o
  rw [h]
  exact ⟨rfl, rfl⟩

/-- The notice sets stand, and with them what is raised. -/
theorem State.Raised.of_sets {k : NoticeKind} {d : Detail} (h : s.Raised k d) (material : t.materialNotices = s.materialNotices)
    (service : t.serviceNotices = s.serviceNotices) : t.Raised k d := fun l => by
  have same : t.noticeSet l = s.noticeSet l := by
    cases l
    · exact material
    · exact service
  rw [same]
  exact h l

/-! ## The verdicts (R187 to R190) -/

/-- The move that an admitted offer becomes stands in the queue. -/
theorem State.mem_admitted (s : State) (n : Fin 16) (o : Offer) (c : Claim) (r : Option Reason) (o' : Offer) (d : Bool) :
    s.entered o' d false ∈ (((s.countHit n o).takeAside c r).enter o' d false).queue := by
  obtain ⟨queue, _⟩ := (s.countHit n o).admitted_aside o' c r d false
  obtain ⟨next, clock⟩ := s.countHit_nextSeq' n o
  rw [queue, State.entered, next, clock]
  exact List.mem_append_right _ (List.mem_singleton.mpr rfl)

theorem State.admitted_intercepts (s : State) (n : Fin 16) (o : Offer) (c : Claim) (r : Option Reason) (o' : Offer) (d : Bool) :
    (((s.countHit n o).takeAside c r).enter o' d false).intercepts = (s.countHit n o).intercepts := by
  rw [State.enter_intercepts, ((s.countHit n o).takeAside_kept c r).2.2.2.2]

section Decided

variable {o : Offer} {n : Fin 16} (h : s.deciding o = some n)

include h

theorem State.offerLink_note (act : (s.intercepts.get n).action = .note) (c : Claim) (r : Option Reason) :
    s.offerLink o c r = ⟨((s.countHit n o).takeAside c r).enter o false false, .ok, .none⟩ := by
  rw [State.offerLink, h]
  simp only [act]

theorem State.offerLink_hold (act : (s.intercepts.get n).action = .hold) (c : Claim) (r : Option Reason) :
    s.offerLink o c r = ⟨(s.countHit n o).holdOffered o, .intercepted, .entryNumber n⟩ := by
  rw [State.offerLink, h]
  simp only [act]

theorem State.offerLink_divert (act : (s.intercepts.get n).action = .divert) (c : Claim) (r : Option Reason) :
    s.offerLink o c r = if Config.inspectionLimit ≤ s.inspectionOut c.seq then ⟨s.countHit n o, .limit, .none⟩
      else ⟨((s.countHit n o).takeAside c r).enter o.divert true false, .diverted, .entryNumber n⟩ := by
  rw [State.offerLink, h]
  simp only [act]

theorem State.offerLink_countsHit (c : Claim) (r : Option Reason)
    (stored : ∀ id x, o.reticle = some id → s.record id = some x → ∃ k, x.location = .slot k) :
    CountsHit s.intercepts (s.offerLink o c r).state.intercepts n := by
  refine (s.countsHit n o).of_eq ?_
  cases act : (s.intercepts.get n).action with
  | note => rw [State.offerLink_note h act]; exact s.admitted_intercepts n o c r o false
  | hold =>
    rw [State.offerLink_hold h act]
    unfold State.holdOffered
    split
    · next id named =>
      refine State.setHeld_intercepts fun x hx => stored id x named ?_
      rw [State.record, ← s.countHit_catalogue n o]
      exact hx
    · rfl
  | divert =>
    rw [State.offerLink_divert h act]
    split
    · rfl
    · exact s.admitted_intercepts n o c r o.divert true

end Decided

theorem State.offerPrestage_cases (s : State) (o : Offer) :
    (s.deciding o = none ∧ s.offerPrestage o = s.enter o false false)
      ∨ (∃ n, s.deciding o = some n ∧ (s.intercepts.get n).action = .hold
          ∧ s.offerPrestage o = (s.countHit n o).holdOffered o)
      ∨ ∃ n, s.deciding o = some n ∧ (s.intercepts.get n).action ≠ .hold
          ∧ s.offerPrestage o = (s.countHit n o).enter o false false := by
  unfold State.offerPrestage
  split
  · next none_ => exact .inl ⟨none_, rfl⟩
  · next n some_ =>
    by_cases act : (s.intercepts.get n).action = .hold
    · exact .inr (.inl ⟨n, some_, act, by simp only [act, if_true]; rfl⟩)
    · exact .inr (.inr ⟨n, some_, act, by simp only [act, if_false]⟩)

/-- A PRESTAGE dropped by HOLD sets the flag of its unbound record. -/
theorem State.holdOffered_unbound (sound : s.CatalogueSound) (n : Fin 16) {o : Offer} {id : Ident} {r : Rec} {x : Slot}
    (named : o.reticle = some id) (known : s.record id = some r) (here : r.location = .slot x) (unbound : r.binding = none) :
    (s.countHit n o).holdOffered o = (s.countHit n o).updRecord id Rec.hold := by
  have catalogue := s.countHit_catalogue n o
  unfold State.holdOffered
  rw [named]
  exact State.setHeld_unbound (by rw [State.CatalogueSound, catalogue]; exact sound)
    (by rw [State.record, catalogue]; exact known) here unbound

/-- Settles O29: the action of the deciding entry splits the cases. -/
theorem offersFollowIntercept : Obligations.OffersFollowIntercept := by
  refine ⟨fun s o c reason n decides stored => ?_, fun s o id r x sound named known here unbound => ⟨fun n decides act => ?_,
    fun spared => ?_⟩, fun s o => ?_, fun s o n decides u hu => ?_⟩
  · obtain ⟨hits, others⟩ := State.offerLink_countsHit decides c reason stored
    refine ⟨hits, others, fun act => ?_, fun act => ?_, fun act limit => ?_, fun act room => ?_⟩
    · rw [State.offerLink_note decides act]
      exact ⟨rfl, _, s.mem_admitted n o c reason o false, rfl, rfl, rfl, rfl, rfl, rfl, rfl⟩
    · rw [State.offerLink_hold decides act]
      refine ⟨rfl, rfl, fun id named sound => ?_⟩
      unfold State.holdOffered
      simp only [named]
      exact State.allHeld_setHeld (by rw [State.CatalogueSound, State.countHit_catalogue]; exact sound) id
    · rw [State.offerLink_divert decides act, if_pos (show Config.inspectionLimit ≤ _ from limit)]
      exact ⟨rfl, rfl⟩
    · rw [State.offerLink_divert decides act, if_neg (show ¬ Config.inspectionLimit ≤ _ from Nat.not_le.mpr room)]
      exact ⟨rfl, rfl, _, s.mem_admitted n o c reason o.divert true, rfl, rfl, rfl, rfl, rfl, rfl, rfl⟩
  · rcases s.offerPrestage_cases o with ⟨none_, _⟩ | ⟨k, some_, _, e⟩ | ⟨k, some_, other, _⟩
    · rw [decides] at none_
      cases none_
    · rw [e, State.holdOffered_unbound sound k named known here unbound]
      refine ⟨s.countHit_queue k o, (s.countHit_nextSeq' k o).1, ?_⟩
      rw [State.updRecord_catalogue, State.countHit_catalogue]
      rfl
    · rw [decides] at some_
      cases some_
      exact absurd act other
  · rcases s.offerPrestage_cases o with ⟨_, e⟩ | ⟨k, some_, act, _⟩ | ⟨k, _, _, e⟩
    · rw [e]
      exact ⟨_, s.enter_queue o _ _, s.entered_becomes o false, rfl, s.enter_nextSeq o _ _, s.enter_catalogue named _ _⟩
    · exact absurd act (spared k some_)
    · rw [e]
      obtain ⟨next, clock⟩ := s.countHit_nextSeq' k o
      refine ⟨_, ?_, s.entered_becomes o false, rfl, ?_, ?_⟩
      · rw [State.enter_queue, State.countHit_queue, State.entered, next, clock, State.entered]
      · rw [State.enter_nextSeq, next]
      · rw [State.enter_catalogue _ named, State.countHit_catalogue, next]
  · rcases s.offerInward_cases o with ⟨none_, e⟩ | ⟨k, some_, e⟩ <;> rw [e]
    · exact ⟨_, s.enter_queue o _ _, s.entered_becomes o false, s.enter_nextSeq o _ _, s.steady_enter o _ _,
        by simp [State.entered, none_], fun id named => s.enter_catalogue named _ _⟩
    · obtain ⟨next, clock⟩ := s.countHit_nextSeq' k o
      refine ⟨s.entered o false ((s.intercepts.get k).action = .hold), ?_, s.entered_becomes o _, ?_, ?_,
        by simp [State.entered, some_], fun id named => ?_⟩
      · rw [State.enter_queue, State.countHit_queue, State.entered, next, clock, State.entered]
      · rw [State.enter_nextSeq, next]
      · rw [State.steady_enter, State.steady_countHit]
      · rw [State.enter_catalogue _ named, State.countHit_catalogue, next]
  · have raised := s.countHit_raised n o
    have counted := s.countsHit n o
    have entered (hold : Bool) (e : u = (s.countHit n o).enter o false hold) :
        CountsHit s.intercepts u.intercepts n ∧ u.Raised .intercept ⟨o.reticle, none, some o.source, o.beneficiary, some n.val⟩ := by
      rw [e]
      exact ⟨counted.of_eq (State.enter_intercepts _ _ _ _),
        raised.of_sets (State.enter_materialNotices _ _ _ _) (State.enter_serviceNotices _ _ _ _)⟩
    have both : CountsHit s.intercepts u.intercepts n
        ∧ u.Raised .intercept ⟨o.reticle, none, some o.source, o.beneficiary, some n.val⟩ := by
      rcases hu with rfl | ⟨rfl, sound, id, r, x, named, known, here, unbound⟩
      · rcases s.offerInward_cases o with ⟨none_, _⟩ | ⟨k, some_, e⟩
        · rw [decides] at none_
          cases none_
        · rw [decides] at some_
          cases some_
          exact entered _ e
      · rcases s.offerPrestage_cases o with ⟨none_, _⟩ | ⟨k, some_, _, e⟩ | ⟨k, some_, _, e⟩
        · rw [decides] at none_
          cases none_
        · rw [decides] at some_
          cases some_
          rw [e, State.holdOffered_unbound sound n named known here unbound]
          exact ⟨counted, raised⟩
        · rw [decides] at some_
          cases some_
          exact entered _ e
    exact ⟨both.1.1, both.1.2, both.2⟩

end Sys2Proof.Machine
end

section
/-! PROOFS. CANCEL (R74), AHEAD (R79 to R81) and the call-ahead lists (R81 to R83). -/

namespace Sys2Proof.Machine

open Sys2Proof

variable {s t u : State}

/-! ## What a raise sends -/

theorem State.sent_raiseOn_other (s : State) (j : NoticeLink) (k : NoticeKind) (d : Detail) {l : Link}
    (other : l ≠ .request (noticeLinkOf j)) : (s.raiseOn j k d).sent l = s.sent l := by
  have pushed (x : NoticeSet) : ((s.setNoticeSet j x).pushNotice j).sent l = s.sent l := by
    rcases (s.setNoticeSet j x).pushNotice_cases j with ⟨_, h⟩ | ⟨_, h⟩ <;> rw [h]
    · obtain ⟨y, e, _⟩ := (s.setNoticeSet j x).sendNotice_eq j
      rw [e, State.sent, State.setNoticeSet_tx]
      exact (State.sent_send_other _ other _).trans (by rw [State.sent, State.setNoticeSet_tx, State.sent])
    · rw [State.sent, State.setNoticeSet_tx, State.sent]
  unfold State.raiseOn
  simp only
  split
  · rw [State.sent, State.setNoticeSet_tx, State.sent]
  · exact pushed _

/-- A raise sends on the notice links alone (R211, R213). -/
theorem State.sent_raise_other (s : State) (k : NoticeKind) (d : Detail) {l : Link}
    (other : ∀ j, l ≠ .request (noticeLinkOf j)) : (s.raise k d).sent l = s.sent l :=
  ((s.raiseOn .material k d).sent_raiseOn_other .service k d (other _)).trans (s.sent_raiseOn_other .material k d (other _))

theorem tool_ne_noticeLink (p : Port) (j : NoticeLink) : Link.request (.tool p) ≠ .request (noticeLinkOf j) := by
  cases j <;> simp [noticeLinkOf]

theorem State.sent_offerInward (s : State) (o : Offer) {l : Link} (other : ∀ j, l ≠ .request (noticeLinkOf j)) :
    (s.offerInward o).sent l = s.sent l := by
  rcases s.offerInward_cases o with ⟨_, e⟩ | ⟨n, _, e⟩ <;> rw [e, State.sent, State.enter_tx]
  · rfl
  · exact State.sent_raise_other _ _ _ other

/-! ## CANCEL (R74) -/

theorem execCancel_tool (s : State) (p : Port) (tag : Byte) (id : Ident) : exec (.cancel (.tool p) tag (some id)) s
    = .next ((replyCancel (s.goodFrame (.tool p)) p id).finish (s.goodFrame (.tool p)) (.tool p) tag FrameKind.cancel.byte) := rfl

theorem State.deliverOf_goodFrame (s : State) (l : ReqLink) (p : Port) (id : Ident) :
    (s.goodFrame l).deliverOf p id = s.deliverOf p id := by
  obtain ⟨ports, h⟩ := s.goodFrame_eq l
  rw [h]
  rfl

theorem State.deliverOf_kind {p : Port} {id : Ident} {m : Move} (h : s.deliverOf p id = some m) : m.kind = .deliver := by
  have test := List.find?_some h
  simp only [Bool.and_eq_true, decide_eq_true_eq] at test
  exact test.1.1

theorem State.locatedAt_goodFrame (s : State) (l : ReqLink) (id : Ident) (x : Location) :
    (s.goodFrame l).locatedAt id x = s.locatedAt id x := by
  rw [State.locatedAt, State.record_goodFrame, State.locatedAt]

theorem State.tbusy_goodFrame (s : State) (l : ReqLink) (p : Port) : (s.goodFrame l).tbusy p = s.tbusy p := by
  obtain ⟨ports, h⟩ := s.goodFrame_eq l
  rw [h]
  rfl

/-- A move taken out of the queue leaves no record bound to it (R121). -/
theorem State.dropMove_binding (s : State) (q : Seq) : ∀ r ∈ (s.dropMove q).catalogue, r.binding ≠ some q := by
  intro r hr
  obtain ⟨x, _, rfl⟩ := List.mem_map.mp (show r ∈ s.catalogue.map _ from hr)
  split
  · exact Option.some_ne_none q ∘ Eq.symm
  · next other => exact other

theorem State.withdraw_binding (s : State) (m : Move) (r : Option Reason) :
    ∀ x ∈ (s.withdraw m r).catalogue, x.binding ≠ some m.seq := by
  rw [State.withdraw_catalogue]
  exact s.dropMove_binding m.seq

theorem State.withdraw_tx (s : State) (m : Move) : (s.withdraw m none).tx = s.tx := by
  unfold State.withdraw
  simp only
  split <;> rfl

theorem State.locatedAt_iff (s : State) (id : Ident) (x : Location) :
    s.locatedAt id x = true ↔ ∃ r, s.record id = some r ∧ r.location = x := by
  unfold State.locatedAt
  split <;> simp_all

/-- With a record on nest Tp the reclaim of the nest admits its RECLAIM (R64, R74). -/
theorem State.reclaimNest_of_record {p : Port} {r : Rec} (h : s.onNest p = some r) :
    s.reclaimNest p = s.offerInward (reclaimOffer p r.id) := by
  rw [State.reclaimNest, h]

theorem State.lapseNest_port (s : State) (p : Port) :
    (s.lapseNest p).port p = { s.port p with nest := .outLapsed, window := none, lapseDeferred := false } :=
  s.port_updPort_same p _

/-- A pod located on a nest is found there. -/
theorem State.recordAt_isSome {id : Ident} {x : Location} (h : s.locatedAt id x = true) : ∃ r, s.recordAt x = some r := by
  obtain ⟨r, known, here⟩ := (s.locatedAt_iff id x).mp h
  refine Option.ne_none_iff_exists'.mp fun none_ => ?_
  have := List.find?_eq_none.mp none_ r (s.record_some known).1
  simp [here] at this

/-- A quiet lapse at a nest with a record on it: OUT_LAPSED, the window stopped, one RECLAIM admitted, nothing sent to the
tool (R53, R74). -/
theorem State.lapseQuietly_of_record {p : Port} {r : Rec} (nest : s.toolNest p = .outWait)
    (onNest : s.recordAt (.nest (.t p)) = some r) :
    s.lapseQuietly p = (s.lapseNest p).offerInward (reclaimOffer p r.id) := by
  rw [State.lapseQuietly, if_pos nest]
  exact State.reclaimNest_of_record onNest

theorem State.offerInward_port (s : State) (o : Offer) (p : Port) : (s.offerInward o).port p = s.port p := by
  rw [State.port, State.offerInward_ports, State.port]

/-- Settles O30: the DELIVER, if there is one, and else the nest. -/
theorem cancelByWhereDeliveryStands : Obligations.CancelByWhereDeliveryStands := by
  intro s p tag id ok open_
  have open' : ((s.goodFrame (.tool p)).port p).state ≠ .closed := by rwa [s.goodFrame_port_state]
  have deliver := s.deliverOf_goodFrame (.tool p) p id
  have nest := s.toolNest_goodFrame (.tool p) p
  have located := s.locatedAt_goodFrame (.tool p) id (.nest (.t p))
  have busy := s.tbusy_goodFrame (.tool p) p
  obtain ⟨ports, a⟩ := s.goodFrame_eq (.tool p)
  refine ⟨fun m found waits => ?_, fun m found executes => ?_, fun none_ wait here => ⟨fun taken => ?_, fun still => ?_⟩,
    fun none_ away => ?_⟩
  · refine ⟨(s.goodFrame (.tool p)).withdraw m none, ?_, ?_, ?_, ?_, State.withdraw_binding _ m none⟩
    · rw [execCancel_tool]
      simp [replyCancel, ok, open', deliver, found, Move.isWaiting, waits]
      rfl
    · rw [State.withdraw_queue, a]
    · exact State.steady_withdraw _ (by rw [State.deliverOf_kind found]; decide) none
    · rw [State.withdraw_tx, s.goodFrame_tx]
  · refine ⟨(s.goodFrame (.tool p)).markMove m.seq, ?_, by rw [a]; rfl⟩
    rw [execCancel_tool]
    simp [replyCancel, ok, open', deliver, found, Move.isWaiting, executes]
    rfl
  · rw [execCancel_tool]
    simp [replyCancel, ok, open', deliver, none_, nest, wait, located, here, busy, taken]
    rfl
  · obtain ⟨r, onNest⟩ := State.recordAt_isSome here
    have onNest' : (s.goodFrame (.tool p)).recordAt (.nest (.t p)) = some r := by rw [a]; exact onNest
    have lapsed := State.lapseQuietly_of_record (nest.trans wait) onNest'
    obtain ⟨held, queue⟩ := ((s.goodFrame (.tool p)).lapseNest p).offerInward_queue (reclaimOffer p r.id)
    refine ⟨(s.goodFrame (.tool p)).lapseQuietly p,
      ((s.goodFrame (.tool p)).lapseNest p).entered (reclaimOffer p r.id) false held, ?_, ?_, ?_, ?_, rfl, rfl, rfl, ?_, ?_⟩
    · rw [execCancel_tool]
      simp [replyCancel, ok, open', deliver, none_, nest, wait, located, here, busy, still]
      rfl
    · rw [lapsed, State.toolNest, State.offerInward_port, State.lapseNest_port]
    · rw [lapsed, State.offerInward_port, State.lapseNest_port]
    · rw [lapsed, queue, a]
      rfl
    · rw [a]
      rfl
    · rw [lapsed, State.sent_offerInward _ _ (tool_ne_noticeLink p), a]
      rfl
  · rw [execCancel_tool]
    have no : ¬ (s.toolNest p = .outWait ∧ s.locatedAt id (.nest (.t p)) = true) := by
      rintro ⟨wait, here⟩
      rcases away with away | away
      · exact away wait
      · rw [here] at away
        cases away
    simp [replyCancel, ok, open', deliver, none_, nest, located, no]
    rfl

/-! ## The call-ahead buffers as lists by role (R77, R81) -/

/-- What a port's buffers hold, by role: the three buffers sound, with the FILL buffer, the lists of NEXT and ACTIVE and the
buffers of the two roles given. -/
structure CallAhead.Shows (a : CallAhead) (fill next active : Fin 3) (nextList activeList : Option (List AheadEntry)) : Prop where
  sound : a.Sound
  fill : a.fill = fill
  next : a.next = next
  active : a.active = active
  nextList : a.nextList = nextList
  activeList : a.activeList = activeList

theorem CallAhead.Sound.shows {a : CallAhead} (h : a.Sound) : a.Shows a.fill a.next a.active a.nextList a.activeList :=
  ⟨h, rfl, rfl, rfl, rfl, rfl⟩

section Roles

variable {a : CallAhead} {f n x : Fin 3} {next active : Option (List AheadEntry)}

theorem CallAhead.Shows.mapActive (h : a.Shows f n x next active) {g : List AheadEntry → List AheadEntry} (ids : KeepsIds g) :
    (a.mapActive g).Shows f n x next (active.map g) := by
  obtain ⟨sound, rfl, rfl, rfl, rfl, rfl⟩ := h
  refine ⟨sound.mapActive ids, rfl, rfl, rfl, ?_, ?_⟩
  · exact (bufferGet_set _ _ _ _).trans (if_neg sound.2.1)
  · exact (bufferGet_set _ _ _ _).trans (if_pos rfl)

theorem CallAhead.Shows.exchange (h : a.Shows f n x next active) : a.exchange.Shows f x n none next := by
  obtain ⟨sound, rfl, rfl, rfl, rfl, rfl⟩ := h
  refine ⟨sound.exchange, rfl, rfl, rfl, ?_, ?_⟩
  · exact (bufferGet_set _ _ _ _).trans (if_pos rfl)
  · exact (bufferGet_set _ _ _ _).trans (if_neg sound.2.1)

/-- The exchange test, by what the buffers hold (R81). -/
theorem CallAhead.Shows.usedUp (h : a.Shows f n x next active) :
    a.usedUp = (next.isSome && (active.getD []).all (fun e => e.consumed)) := by
  rw [CallAhead.usedUp, CallAhead.activeEntries, h.nextList, h.activeList]

theorem CallAhead.Shows.exchangeTest_swaps (h : a.Shows f n x next active) {es : List AheadEntry} (listed : next = some es)
    (used : ∀ e ∈ active.getD [], e.consumed = true) : a.exchangeTest.Shows f x n none (some es) := by
  have yes : a.usedUp = true := by
    rw [h.usedUp, listed]
    exact List.all_eq_true.mpr used
  rw [CallAhead.exchangeTest, if_pos yes, ← listed]
  exact h.exchange

theorem CallAhead.Shows.exchangeTest_stays (h : a.Shows f n x next active)
    (stays : next = none ∨ ∃ e ∈ active.getD [], e.consumed = false) : a.exchangeTest.Shows f n x next active := by
  have no : a.usedUp = false := by
    rw [h.usedUp]
    rcases stays with rfl | ⟨e, he, fresh⟩
    · rfl
    · rw [Bool.and_eq_false_iff]
      exact .inr (List.all_eq_false.mpr ⟨e, he, by simp [fresh]⟩)
  rw [CallAhead.exchangeTest, no]
  exact h

end Roles

/-! ## AHEAD (R79 to R81) -/

theorem dropRepeats_append (ids : List Ident) (kept : List Ident) :
    ids.foldl (fun kept id => if kept.contains id then kept else kept ++ [id]) kept
      = kept ++ ids.foldl (fun new id => if (kept ++ new).contains id then new else new ++ [id]) [] := by
  have general (new : List Ident) : ids.foldl (fun kept id => if kept.contains id then kept else kept ++ [id]) (kept ++ new)
      = kept ++ ids.foldl (fun new id => if (kept ++ new).contains id then new else new ++ [id]) new := by
    induction ids generalizing new with
    | nil => rfl
    | cons x xs ih =>
      rw [List.foldl_cons, List.foldl_cons]
      split
      · exact ih new
      · rw [List.append_assoc]
        exact ih (new ++ [x])
  simpa using general []

/-- Dropping repeats keeps the order, and of every identifier one copy (R80). -/
theorem dropRepeats_sublist (ids : List Ident) : (dropRepeats ids).Sublist ids ∧ ∀ id, id ∈ dropRepeats ids ↔ id ∈ ids := by
  have general (xs before kept : List Ident) (sub : kept.Sublist before) (same : ∀ id, id ∈ kept ↔ id ∈ before) :
      (xs.foldl (fun kept id => if kept.contains id then kept else kept ++ [id]) kept).Sublist (before ++ xs)
        ∧ ∀ id, id ∈ xs.foldl (fun kept id => if kept.contains id then kept else kept ++ [id]) kept ↔ id ∈ before ++ xs := by
    induction xs generalizing before kept with
    | nil => simpa using ⟨sub, same⟩
    | cons x xs ih =>
      rw [List.foldl_cons]
      have step := ih (before ++ [x]) (if kept.contains x then kept else kept ++ [x])
      rw [List.append_assoc, List.singleton_append] at step
      refine step ?_ fun id => ?_
      · split
        · exact sub.trans (List.sublist_append_left _ _)
        · exact sub.append (List.Sublist.refl _)
      · split
        · next here =>
          rw [List.contains_iff_mem] at here
          simp only [List.mem_append, List.mem_singleton, same]
          constructor
          · exact .inl
          · rintro (old | rfl)
            · exact old
            · exact (same id).mp here
        · simp [same]
  simpa [dropRepeats] using general ids [] [] (List.Sublist.refl _) (fun _ => Iff.rfl)

/-- The fill and the FILL/NEXT swap of an AHEAD (R80). -/
theorem CallAhead.Sound.fillSwap {a : CallAhead} (h : a.Sound) {ids : List Ident} (length : ids.length ≤ Config.aheadCapacity)
    (nodup : ids.Nodup) : (a.fillSwap ids).Shows a.next a.fill a.active (some (ids.map (fun id => ⟨id, false⟩))) a.activeList := by
  obtain ⟨fillNext, nextActive, fillActive, empty, lists⟩ := h
  have get (b : Fin 3) : (a.fillSwap ids).lists.get b
      = if b = a.next then none else if b = a.fill then some (ids.map (fun id => ⟨id, false⟩)) else a.lists.get b := by
    refine (bufferGet_set _ _ _ _).trans ?_
    split
    · rfl
    · exact bufferGet_set _ _ _ _
  refine ⟨⟨fillNext.symm, fillActive, nextActive, (get _).trans (if_pos rfl), fun b => ?_⟩, rfl, rfl, rfl, ?_, ?_⟩
  · rw [get]
    split
    · intro es e
      cases e
    · split
      · intro es e
        cases e
        simpa [Function.comp_def] using ⟨length, nodup⟩
      · exact lists b
  · exact (get a.fill).trans (by rw [if_neg fillNext, if_pos rfl])
  · exact (get a.active).trans (by rw [if_neg nextActive.symm, if_neg fillActive.symm]; rfl)

theorem execAhead_tool (s : State) (p : Port) (tag : Byte) (b : AheadBody) : exec (.ahead (.tool p) tag (some b)) s
    = .next ((replyAhead (s.goodFrame (.tool p)) p b).finish (s.goodFrame (.tool p)) (.tool p) tag FrameKind.ahead.byte) := rfl

theorem CallAhead.Shows.role_active {a b : CallAhead} {next active : Option (List AheadEntry)}
    (sound : a.Sound) (h : b.Shows a.next a.active a.fill next active) : a.newRole b = .active := by
  rw [CallAhead.newRole, CallAhead.roleOf, h.fill, h.next, if_neg sound.1, if_neg sound.2.2.1]

theorem CallAhead.Shows.role_next {a b : CallAhead} {next active : Option (List AheadEntry)}
    (sound : a.Sound) (h : b.Shows a.next a.fill a.active next active) : a.newRole b = .next := by
  rw [CallAhead.newRole, CallAhead.roleOf, h.fill, h.next, if_neg sound.1, if_pos rfl]

/-- Settles O31: the fill and swap of the buffers, then the exchange or the test. -/
theorem aheadGivesNextOrActiveList : Obligations.AheadGivesNextOrActiveList := by
  intro s p tag b attached sound ok room
  have attached' : ((s.goodFrame (.tool p)).port p).state = .attached := by rw [s.goodFrame_port_state, attached]
  have old : (s.goodFrame (.tool p)).aheadOf p = s.aheadOf p := by rw [State.aheadOf, s.goodFrame_ahead, State.aheadOf]
  obtain ⟨nodup, shorter⟩ := dropRepeats_form b.ids
  obtain ⟨sub, same⟩ := dropRepeats_sublist b.ids
  have filled := sound.fillSwap (ids := dropRepeats b.ids) (shorter.trans room) nodup
  have told : s.Told ((s.goodFrame (.tool p)).setAhead p ((s.aheadOf p).taken b.replaceNow b.ids)) :=
    .of_tx_eq (s.goodFrame_tx _)
  refine ⟨((((s.goodFrame (.tool p)).setAhead p ((s.aheadOf p).taken b.replaceNow b.ids)).settle (s.goodFrame (.tool p))
      noTouch).answer (.tool p) tag FrameKind.ahead.byte .ok (.ahead (dropRepeats b.ids).length
        (b.ids.length - (dropRepeats b.ids).length) ((s.aheadOf p).newRole ((s.aheadOf p).taken b.replaceNow b.ids)))),
    dropRepeats b.ids, (s.aheadOf p).taken b.replaceNow b.ids, (s.aheadOf p).newRole ((s.aheadOf p).taken b.replaceNow b.ids),
    ?_, ?_, sub, nodup, same, told.answered _ _ _ _ _ _ _, fun now => ?_, fun later fresh => ?_⟩
  · rw [execAhead_tool]
    have short : ¬ Config.aheadCapacity < b.ids.length := Nat.not_lt.mpr room
    simp only [replyAhead, ok, attached', short, old, Bool.not_true, Bool.false_eq_true, if_false, ne_eq, not_true_eq_false]
    rfl
  · rw [State.steady_answer, State.steady_settle, State.steady_setAhead]
  · have swapped : ((s.aheadOf p).taken b.replaceNow b.ids).Shows (s.aheadOf p).next (s.aheadOf p).active (s.aheadOf p).fill none
        (some ((dropRepeats b.ids).map (fun id => ⟨id, false⟩))) := by
      unfold CallAhead.taken
      dsimp only
      split
      · exact filled.exchange
      · next later =>
        exact filled.exchangeTest_swaps rfl (List.all_eq_true.mp (now.resolve_left later))
    exact ⟨swapped.role_active sound, swapped.activeList, swapped.nextList⟩
  · have kept : ((s.aheadOf p).taken b.replaceNow b.ids).Shows (s.aheadOf p).next (s.aheadOf p).fill (s.aheadOf p).active
        (some ((dropRepeats b.ids).map (fun id => ⟨id, false⟩))) (s.aheadOf p).activeList := by
      unfold CallAhead.taken
      rw [later]
      refine filled.exchangeTest_stays (.inr ?_)
      obtain ⟨e, he, unused⟩ := List.all_eq_false.mp fresh
      exact ⟨e, he, by simpa using unused⟩
    exact ⟨kept.role_next sound, kept.nextList, kept.activeList⟩

/-! ## Calls and placements (R81 to R83) -/

theorem markBefore_of_not_mem {id : Ident} {pre : List AheadEntry} (h : ∀ x ∈ pre, x.id ≠ id) {e : AheadEntry} (named : e.id = id)
    (post : List AheadEntry) :
    markBefore id (pre ++ e :: post) = pre.map (fun x => { x with consumed := true }) ++ e :: post := by
  induction pre with
  | nil => simp [markBefore, named]
  | cons x pre ih =>
    have other := h x List.mem_cons_self
    simp [markBefore, other, ih fun y hy => h y (List.mem_cons_of_mem _ hy)]

theorem markOwn_of_not_mem {id : Ident} {es : List AheadEntry} (h : ∀ x ∈ es, x.id ≠ id) : markOwn id es = es := by
  refine (List.map_congr_left fun x hx => ?_).trans (List.map_id _)
  exact if_neg (h x hx)

/-- The marks of a call on the list that names the identifier once (R82). -/
theorem marks_of_call {id : Ident} {pre post : List AheadEntry} {e : AheadEntry} (named : e.id = id)
    (nodup : ((pre ++ e :: post).map (·.id)).Nodup) (diverted : Bool) :
    (if diverted then markOwn id (markBefore id (pre ++ e :: post)) else markBefore id (pre ++ e :: post))
      = pre.map (fun x => { x with consumed := true }) ++ (if diverted then { e with consumed := true } else e) :: post := by
  rw [List.map_append, List.map_cons, List.nodup_append] at nodup
  obtain ⟨_, rest, apart⟩ := nodup
  have before (x : AheadEntry) (hx : x ∈ pre) : x.id ≠ id := by
    rw [← named]
    exact apart _ (List.mem_map_of_mem hx) _ List.mem_cons_self
  have after (x : AheadEntry) (hx : x ∈ post) : x.id ≠ id := by
    intro same
    exact (List.nodup_cons.mp rest).1 (List.mem_map.mpr ⟨x, hx, same.trans named.symm⟩)
  rw [markBefore_of_not_mem before named]
  cases diverted with
  | false => rfl
  | true =>
    have marked : markOwn id (pre.map (fun x => { x with consumed := true })) = pre.map (fun x => { x with consumed := true }) :=
      markOwn_of_not_mem fun x hx => by
        obtain ⟨y, hy, rfl⟩ := List.mem_map.mp hx
        exact before y hy
    have own : markOwn id post = post := markOwn_of_not_mem after
    simp only [if_true]
    rw [markOwn, List.map_append, List.map_cons, ← markOwn, ← markOwn, marked, own, if_pos named]

/-- The marks that a call leaves on the ACTIVE list before its test: those before the entry, and its own when diverted. -/
theorem CallAhead.Shows.marks {a : CallAhead} {f n x : Fin 3} {next : Option (List AheadEntry)} {es : List AheadEntry}
    (h : a.Shows f n x next (some es)) (id : Ident) (diverted : Bool) :
    (if diverted then (a.mapActive (markBefore id)).mapActive (markOwn id) else a.mapActive (markBefore id)).Shows f n x next
      (some (if diverted then markOwn id (markBefore id es) else markBefore id es)) := by
  have marked := h.mapActive (keepsIds_markBefore id)
  cases diverted with
  | false => exact marked
  | true => exact marked.mapActive (keepsIds_markOwn id)

theorem CallAhead.names_iff (a : CallAhead) (id : Ident) : a.names id = true ↔ ∃ e ∈ a.activeEntries, e.id = id := by
  simp [CallAhead.names]

theorem CallAhead.namesNext_iff (a : CallAhead) (id : Ident) : a.namesNext id = true ↔ ∃ e ∈ a.nextList.getD [], e.id = id := by
  simp [CallAhead.namesNext]

/-- Settles O32: each case by what the buffers show before and after. -/
theorem callAheadListsConsumeAndExchange : Obligations.CallAheadListsConsumeAndExchange := by
  intro a id diverted after exchanged marked sound isExchanged isAfter isMarked
  have swapped {es : List AheadEntry} {t : CallAhead} (h : t.Shows a.fill a.active a.next none (some es)) : exchanged es t :=
    (isExchanged es t).mpr ⟨h.sound, h.fill, h.next, h.active, h.activeList, h.nextList⟩
  have tested {act : Option (List AheadEntry)} {t : CallAhead} (h : t.Shows a.fill a.next a.active a.nextList act) :
      after act t.exchangeTest := by
    refine (isAfter act _).mpr ⟨fun es listed used => swapped (h.exchangeTest_swaps listed used), fun stays => ?_⟩
    have k := h.exchangeTest_stays stays
    exact ⟨k.sound, k.fill, k.next, k.active, k.activeList, k.nextList⟩
  have listSoundOf {b : Fin 3} {es : List AheadEntry} (h : a.lists.get b = some es) : (es.map (·.id)).Nodup :=
    (sound.2.2.2.2 b es h).2
  refine ⟨tested sound.shows, fun pre e post listed named => ?_, fun pre e post away listed named => ?_, fun away away' => ?_, ?_⟩
  · have here : a.names id = true := (a.names_iff id).mpr ⟨e, by rw [CallAhead.activeEntries, listed]; simp, named⟩
    have marks := CallAhead.Shows.marks (listed ▸ sound.shows) id diverted
    rw [marks_of_call named (listSoundOf listed), ← isMarked] at marks
    have shape := tested marks
    simp only [CallAhead.called, here, if_true]
    exact shape
  · have unnamed : a.names id = false := by
      rw [← Bool.not_eq_true, a.names_iff]
      rintro ⟨x, hx, same⟩
      exact away x hx same
    have here : a.namesNext id = true := (a.namesNext_iff id).mpr ⟨e, by rw [listed]; simp, named⟩
    have marks := CallAhead.Shows.marks (listed ▸ sound.shows.exchange) id diverted
    rw [marks_of_call named (listSoundOf listed), ← isMarked] at marks
    simp only [CallAhead.called, unnamed, here, if_true, Bool.false_eq_true, if_false]
    exact swapped (marks.exchangeTest_stays (.inl rfl))
  · have unnamed : a.names id = false := by
      rw [← Bool.not_eq_true, a.names_iff]
      rintro ⟨x, hx, same⟩
      exact away x hx same
    have unnamed' : a.namesNext id = false := by
      rw [← Bool.not_eq_true, a.namesNext_iff]
      rintro ⟨x, hx, same⟩
      exact away' x hx same
    have own : a.activeList.map (markOwn id) = a.activeList := by
      cases listed : a.activeList with
      | none => rfl
      | some es =>
        rw [CallAhead.activeEntries, listed] at away
        exact congrArg some (markOwn_of_not_mem away)
    have shows : (if diverted then a.mapActive (markOwn id) else a).Shows a.fill a.next a.active a.nextList a.activeList := by
      cases diverted with
      | false => exact sound.shows
      | true =>
        have k := sound.shows.mapActive (keepsIds_markOwn id)
        rw [own] at k
        exact k
    simp only [CallAhead.called, unnamed, unnamed', Bool.false_eq_true, if_false]
    exact tested shows
  · have same : (fun es : List AheadEntry => es.map (fun x => { x with consumed := x.consumed || decide (x.id = id) })) = markOwn id := by
      funext es
      refine List.map_congr_left fun x _ => ?_
      by_cases named : x.id = id <;> simp [named]
    rw [same]
    exact tested (sound.shows.mapActive (keepsIds_markOwn id))

end Sys2Proof.Machine
end

section
/-! PROOFS. The announcement list (R94, R95), class changes (R105, R171, R180) and the settings (R49, R140, R148, R183,
R213). -/

namespace Sys2Proof.Machine

open Sys2Proof

variable {s t u : State}

/-! ## ANNOUNCE and UNANNOUNCE (R94, R95) -/

theorem execAnnounce_material (s : State) (tag : Byte) (b : AnnounceBody) : exec (.announce .material tag (some b)) s
    = .next ((replyAnnounce s b).finish s .material tag FrameKind.announce.byte) := rfl

theorem execUnannounce_material (s : State) (tag : Byte) (id : Ident) : exec (.unannounce .material tag (some id)) s
    = .next ((replyUnannounce s id).finish s .material tag FrameKind.unannounce.byte) := rfl

/-- A change finished: what follows it, then the answer. -/
theorem Reply.change_finish_eq (u a : State) (x : Touch) (c : AnswerCode) (f : State → AnswerFields) (l : ReqLink) (tag kind : Byte) :
    (Reply.change u x c f).finish a l tag kind = (u.settle a x).answer l tag kind c (f (u.settle a x)) := rfl

/-- A change of the announcement list alone, answered: the list stands as written, and the answer shows it. -/
theorem announcements_finish (s : State) (xs : List Announcement) (f : List Announcement → AnswerFields) (tag : Byte)
    (k : FrameKind) :
    ((Reply.change { s with announcements := xs } announceTouch .ok (fun z => f z.announcements)).finish s .material tag
        k.byte).steady = { s.steady with announcements := xs }
      ∧ s.Answered ((Reply.change { s with announcements := xs } announceTouch .ok (fun z => f z.announcements)).finish s
          .material tag k.byte) .material tag k .ok (f xs) := by
  have told : s.Told { s with announcements := xs } := .of_tx_eq rfl
  have kept : (State.settle { s with announcements := xs } s announceTouch).announcements = xs :=
    congrArg Steady.announcements (State.steady_settle { s with announcements := xs } s announceTouch)
  rw [Reply.change_finish_eq, kept, State.steady_answer, State.steady_settle]
  exact ⟨rfl, told.answered s announceTouch .material tag k .ok (f xs)⟩

/-- Settles O35: each check in turn, then the list as written. -/
theorem announcementListKeeping : Obligations.AnnouncementListKeeping := by
  rintro s tag id c h ok
  have cls : selector 8 c.val = some c := selector_val c
  simp only [execAnnounce_material, execUnannounce_material]
  refine ⟨fun known => ?_, fun unknown new room => ?_, fun unknown new full => ?_, fun i unknown old => ?_, fun named => ?_,
    fun unnamed => ?_⟩
  · simp [replyAnnounce, ok, cls, known]
    rfl
  · have reply : replyAnnounce s ⟨id, c.val, h⟩ = .change { s with announcements := s.announcements ++ [⟨id, c, h⟩] } announceTouch
        .ok (fun z => .announced s.announcements.length z.announcements.length) := by
      simp [replyAnnounce, ok, cls, unknown, new, Config.announcementCapacity, Nat.not_le.mpr room]
    obtain ⟨steady, answered⟩ := announcements_finish s (s.announcements ++ [⟨id, c, h⟩])
      (fun xs => .announced s.announcements.length xs.length) tag .announce
    exact ⟨_, by rw [reply], steady, by simpa using answered⟩
  · simp [replyAnnounce, ok, cls, unknown, new, Config.announcementCapacity, full]
    rfl
  · have reply : replyAnnounce s ⟨id, c.val, h⟩ = .change (s.reannounce id c h) announceTouch .ok
        (fun z => .announced i z.announcements.length) := by
      simp [replyAnnounce, ok, cls, unknown, old]
    obtain ⟨steady, answered⟩ := announcements_finish s
      (s.announcements.map (fun a : Announcement => if a.id = id then ⟨id, c, h⟩ else a)) (fun xs => .announced i xs.length) tag .announce
    exact ⟨_, by rw [reply]; rfl, steady, by simpa using answered⟩
  · have reply : replyUnannounce s id = .change { s with announcements := s.announcements.filter (fun a => !decide (a.id = id)) }
        announceTouch .ok (fun z => .remaining z.announcements.length) := by
      simp [replyUnannounce, ok, named]
    obtain ⟨steady, answered⟩ := announcements_finish s (s.announcements.filter (fun a => !decide (a.id = id)))
      (fun xs => .remaining xs.length) tag .unannounce
    exact ⟨_, _, by rw [reply], rfl, steady, answered⟩
  · simp [replyUnannounce, ok, unnamed]
    rfl

/-! ## SETCLASS and CLASS_SET (R105, R171, R180) -/

theorem execSetClass_either (s : State) (l : NoticeLink) (tag : Byte) (b : SetClassBody) :
    exec (.setClass (noticeLinkOf l) tag (some b)) s
      = .next ((replySetClass s b).finish s (noticeLinkOf l) tag FrameKind.setClass.byte) :=
  congrArg Host.Outcome.next (s.request_either l tag .setClass b (fun a _ b => replySetClass a b))

theorem execClassSet_service (s : State) (tag : Byte) (b : ClassBody) :
    exec (.classSet .service tag (some b)) s = .next ((replyClassSet s b).finish s .service tag FrameKind.classSet.byte) :=
  congrArg Host.Outcome.next (s.request_service tag .classSet b (fun a _ b => replyClassSet a b))

theorem State.CatalogueSound.updRecord (sound : s.CatalogueSound) (id : Ident) {f : Rec → Rec} (ids : ∀ r, (f r).id = r.id) :
    (s.updRecord id f).CatalogueSound := by
  have same : (s.updRecord id f).catalogue.map (·.id) = s.catalogue.map (·.id) := by
    rw [State.updRecord_catalogue, List.map_map]
    refine List.map_congr_left fun r _ => ?_
    simp only [Function.comp_apply]
    split
    · exact ids r
    · rfl
  obtain ⟨nodup, length⟩ := sound
  exact ⟨by rw [same]; exact nodup, by rw [State.updRecord_catalogue, List.length_map]; exact length⟩

theorem Rec.checked_steady (c : ClassLimits) (r : Rec) : (r.checked c).steady = r.steady.checked c := by
  unfold Rec.checked
  split <;> rename_i h
  · exact (if_pos (c := r.steady.condition = .ready ∧ (limitReached c r.steady).isSome) h).symm
  · exact (if_neg (c := r.steady.condition = .ready ∧ (limitReached c r.steady).isSome) h).symm

/-- A record changed and then checked against its class's limits (R177). -/
theorem State.steady_updRecord_dueCheck (sound : s.CatalogueSound) (id : Ident) {f : Rec → Rec} (ids : ∀ r, (f r).id = r.id)
    (steady : ∀ r, (f r).steady = f r.steady) :
    ((s.updRecord id f).dueCheck (fun r => r.id = id)).steady
      = s.steady.updRecord id (fun r => (f r).checked (s.limitsOf (f r))) := by
  refine (State.steady_dueCheck (sound.updRecord id ids) _).trans (congrArg (fun rs => { s.steady with records := rs }) ?_)
  rw [State.updRecord_catalogue, State.steady, List.map_map, List.map_map]
  refine List.map_congr_left fun r _ => ?_
  by_cases h : r.id = id
  · have named : (f r).id = id := (ids r).trans h
    have limits : s.limitsOf (f r.steady) = s.limitsOf (f r) := by rw [← steady r]; rfl
    simp only [Function.comp_apply, h, named, if_true, decide_true, Rec.checked_steady, Rec.steady_id, steady r, limits]
    rfl
  · simp [h]

/-- A limit stands in a check exactly when the check makes a record DUE (R177). -/
theorem Rec.checked_ne_iff (c : ClassLimits) (r : Rec) :
    r.checked c ≠ r ↔ r.condition = .ready ∧ (limitReached c r).isSome := by
  unfold Rec.checked
  split <;> rename_i h
  · refine ⟨fun _ => h, fun _ e => ?_⟩
    have due : Condition.due = r.condition := congrArg Rec.condition e
    rw [h.1] at due
    cases due
  · exact ⟨fun e => absurd rfl e, fun k => absurd k h⟩

/-- Settles O38: the DUE check of the changed record, and that of the class's records. -/
theorem classChangesCheckDue : Obligations.ClassChangesCheckDue := by
  intro s tag sound
  refine ⟨fun l id c ok known => ?_, fun k => ?_, fun k d l a some_ => ?_⟩
  · have reply : replySetClass s ⟨id, c.val⟩ = .change (s.setClassOf id c) { noTouch with classOf := some id } .ok (fun _ => .none) := by
      simp [replySetClass, ok, selector_val, known]
    have told : s.Told (s.setClassOf id c) :=
      ((s.advances_updRecord id (f := fun r => { r with cls := c }) (fun _ => rfl) (fun r => .refl _)).trans
        (State.advances_dueCheck _ _)).sends.told
    refine ⟨_, by rw [execSetClass_either, reply]; rfl, ?_, told.answered _ _ _ _ _ _ _⟩
    rw [State.steady_answer, State.steady_settle]
    exact State.steady_updRecord_dueCheck sound id (fun _ => rfl) (fun _ => rfl)
  · rw [execClassSet_service]
    simp only [replyClassSet, selector_val]
    rfl
  · have reply : replyClassSet s ⟨k.val, d, l, a⟩ = .change
        (State.dueCheck { s with classes := s.classes.set k.val ((s.classes.get k).write ⟨k.val, d, l, a⟩) k.isLt } (ofClass k)) noTouch .ok
        (fun _ => .classLimits ((s.classes.get k).write ⟨k.val, d, l, a⟩)
          (State.newlyDue { s with classes := s.classes.set k.val ((s.classes.get k).write ⟨k.val, d, l, a⟩) k.isLt } (ofClass k)).length) := by
      have writes : readsLimits ⟨k.val, d, l, a⟩ = false := by
        cases d <;> cases l <;> cases a <;> simp_all [readsLimits]
      simp [replyClassSet, selector_val, writes]
    generalize hx : (s.classes.get k).write ⟨k.val, d, l, a⟩ = x at reply
    have limits (r : Rec) (h : r.cls = k) : State.limitsOf { s with classes := s.classes.set k.val x k.isLt } r = x := by
      rw [State.limitsOf, h]
      exact Vector.getElem_set_self k.isLt
    have told : s.Told (State.dueCheck { s with classes := s.classes.set k.val x k.isLt } (ofClass k)) :=
      State.Told.trans (t := { s with classes := s.classes.set k.val x k.isLt }) (.of_tx_eq rfl) (State.advances_dueCheck _ _).sends.told
    have sound' : State.CatalogueSound { s with classes := s.classes.set k.val x k.isLt } := sound
    have count : (State.newlyDue { s with classes := s.classes.set k.val x k.isLt } (ofClass k)).length
        = s.catalogue.countP (fun r => decide (r.cls = k ∧ r.checked x ≠ r)) := by
      rw [List.countP_eq_length_filter, State.newlyDue]
      refine congrArg List.length (List.filter_congr fun r _ => ?_)
      by_cases h : r.cls = k
      · simp [ofClass, h, State.comesDue, limits r h, Rec.checked_ne_iff]
      · simp [ofClass, h]
    refine ⟨_, x, by rw [execClassSet_service, reply, Reply.change_finish_eq], ?_, ?_, ?_, ?_, ?_⟩
    · subst hx; cases d <;> rfl
    · subst hx; cases l <;> rfl
    · subst hx; cases a <;> rfl
    · rw [State.steady_answer, State.steady_settle, State.steady_dueCheck sound']
      refine congrArg (fun rs => { s.steady with classes := s.classes.set k.val x k.isLt, records := rs }) (List.map_congr_left fun r _ => ?_)
      by_cases h : r.cls = k
      · simp [ofClass, h, limits r h]
      · simp [ofClass, h]
    · rw [← count]
      exact told.answered _ _ _ _ _ _ _

end Sys2Proof.Machine
end

section
/-! PROOFS. HOLD, RELEASE and the reclaim of an unfit record (R65, R103, R104), verdicts and condition resets (R28, R111,
R181), the start and the stop of a census (R194, R195, R199), and the settings (R49, R140, R148, R183, R213). -/

namespace Sys2Proof.Machine

open Sys2Proof

variable {s t u : State}

/-! ## HOLD and RELEASE (R65, R103, R104) -/

theorem execHold_either (s : State) (l : NoticeLink) (tag : Byte) (id : Ident) :
    exec (.hold (noticeLinkOf l) tag (some id)) s
      = .next ((replyHold s id).finish s (noticeLinkOf l) tag FrameKind.hold.byte) :=
  congrArg Host.Outcome.next (s.request_either l tag .hold id (fun a _ id => replyHold a id))

theorem execRelease_either (s : State) (l : NoticeLink) (tag : Byte) (id : Ident) :
    exec (.release (noticeLinkOf l) tag (some id)) s
      = .next ((replyRelease s id).finish s (noticeLinkOf l) tag FrameKind.release.byte) :=
  congrArg Host.Outcome.next (s.request_either l tag .release id (fun a _ id => replyRelease a id))

theorem State.known_of_record {id : Ident} {r : Rec} (h : s.record id = some r) : s.known id = true := by
  rw [State.known, h, Option.isSome_some]

/-- The reclaim of a record that is not fit for tool service, on a nest in OUT_WAIT (R65). -/
theorem State.reclaims_reclaimIfUnfit {id : Ident} {r : Rec} {q : Port} (known : s.record id = some r)
    (here : r.location = .nest (.t q)) (nest : s.toolNest q = .outWait) (unfit : r.fit = false) :
    s.Reclaims (s.reclaimIfUnfit id) q id r.unfitReason := by
  have e : s.reclaimIfUnfit id
      = ((s.lapseNest q).offerInward (reclaimOffer q id)).sendTool q (.withdrawn id r.unfitReason) := by
    simp [State.reclaimIfUnfit, known, here, nest, unfit]
  rw [e]
  have port : ((((s.lapseNest q).offerInward (reclaimOffer q id)).sendTool q (.withdrawn id r.unfitReason)).port q)
      = { s.port q with nest := .outLapsed, window := none, lapseDeferred := false } := by
    rw [State.port, State.sendTool_ports, ← State.port, State.offerInward_port, State.lapseNest_port]
  have lapsed : (((s.lapseNest q).offerInward (reclaimOffer q id)).sendTool q (.withdrawn id r.unfitReason)).toolNest q
      = .outLapsed := by rw [State.toolNest, port]
  refine ⟨lapsed, ?_, by rw [port], by rw [port], ?_, ?_, ?_, ?_⟩
  · rw [State.prdy, lapsed]
    rfl
  · obtain ⟨hold, queue⟩ := (s.lapseNest q).offerInward_queue (reclaimOffer q id)
    exact ⟨_, by rw [State.sendTool_queue, queue]; rfl, (s.lapseNest q).entered_becomes _ hold⟩
  · rw [State.sent_sendTool, State.sent_offerInward _ _ (tool_ne_noticeLink q), State.offerInward_port, State.lapseNest_port]
    by_cases closed : (s.port q).state = .closed <;> simp [closed, State.sent]
  · rw [State.sendTool_slots, State.offerInward_slots, State.lapseNest_slots]
  · rw [State.sendTool_handler, State.offerInward_handler, State.lapseNest_handler]

theorem State.reclaimIfUnfit_of_fit {id : Ident} {r : Rec} (known : s.record id = some r) (fit : r.fit = true) :
    s.reclaimIfUnfit id = s := by
  rcases s.reclaimIfUnfit_cases id with e | ⟨r', _, known', _, _, unfit, _⟩
  · exact e
  · rw [known] at known'
    cases known'
    rw [fit] at unfit
    cases unfit

/-- A record changed to one unfit for tool service, on a nest in OUT_WAIT, is reclaimed (R65). -/
theorem State.reclaims_updRecord {id : Ident} {r : Rec} {q : Port} (known : s.record id = some r)
    (here : r.location = .nest (.t q)) (nest : s.toolNest q = .outWait) {f : Rec → Rec} (ids : ∀ r, (f r).id = r.id)
    (stays : (f r).location = r.location) (unfit : (f r).fit = false) :
    s.Reclaims ((s.updRecord id f).reclaimIfUnfit id) q id (f r).unfitReason :=
  (s.updRecord id f).reclaims_reclaimIfUnfit ((s.record_updRecord_same id f ids).trans (by rw [known]; rfl)) (stays.trans here) nest unfit

/-- Settles O37: HOLD by where the record is, RELEASE, and the reclaim by the record's flag. -/
theorem holdAndRelease : Obligations.HoldAndRelease := by
  refine ⟨fun s l tag id r ok known sound => ?_, fun b q id r known here nest => ⟨fun fit => ?_, fun held => ?_, fun unheld => ?_⟩⟩
  · have reply : replyHold s id = changed (s.setHeld id) := by simp [replyHold, ok, State.known_of_record known]
    obtain ⟨steady, held, answered⟩ := Reply.changed_finish (s.advances_setHeld id).sends.told (noticeLinkOf l) tag .hold
    refine ⟨⟨_, by rw [execHold_either, reply], ?_, held id (State.allHeld_setHeld sound id), answered⟩,
      fun n m q unheld here bound kind waits from_ named open_ => ?_, fun q unheld here nest unbound => ?_, ?_⟩
    · exact steady.trans (s.aftermath_setHeld id).steady
    · refine ⟨s.setHeld id, by rw [execHold_either, reply]; rfl, ?_⟩
      have e : s.setHeld id = (s.updRecord id Rec.hold).withdraw m (some .held) := by
        have bound' : (s.updRecord id Rec.hold).boundMove r = some m := bound
        rw [State.setHeld_at_slot known here unheld, State.withdrawHeldDeliver, bound']
        exact if_pos ⟨kind, waits⟩
      rw [e]
      exact ⟨State.withdraw_queue _ _ _, State.withdraw_binding _ _ _,
        State.withdraw_told (s.updRecord id Rec.hold) .held named (by rw [from_]; rfl) (fun p e => by cases e; exact open_)⟩
    · refine ⟨s.setHeld id, by rw [execHold_either, reply]; rfl, ?_⟩
      have unbound' : (s.updRecord id Rec.hold).boundMove r = none := unbound
      have e : s.setHeld id = (s.updRecord id Rec.hold).reclaimIfUnfit id := by
        have same : (s.updRecord id Rec.hold).withdrawHeldDeliver r = s.updRecord id Rec.hold := by
          rw [State.withdrawHeldDeliver, unbound']
        rw [State.setHeld, known]
        simp only [unheld, Bool.false_eq_true, if_false]
        exact congrArg (fun x => State.reclaimIfUnfit x id) same
      rw [e]
      have reclaims := State.reclaims_updRecord known here nest (f := Rec.hold) (fun _ => rfl) rfl (by simp [Rec.fit, Rec.hold])
      exact reclaims
    · exact ⟨_, by rw [execRelease_either, replyRelease, ok, State.known_of_record known]; rfl, rfl⟩
  · exact State.reclaimIfUnfit_of_fit known fit
  · have unfit : r.fit = false := by simp [Rec.fit, held]
    have reclaims := State.reclaims_reclaimIfUnfit known here nest unfit
    rwa [Rec.unfitReason, held] at reclaims
  · have reason {f : Rec → Rec} (same : (f r).held = r.held) : (f r).unfitReason = .notReady := by
      simp [Rec.unfitReason, same, unheld]
    have doubted := State.reclaims_updRecord known here nest (f := Rec.doubt) (fun _ => rfl) rfl rfl
    have due := State.reclaims_updRecord known here nest (f := fun r => { r with condition := .due }) (fun _ => rfl) rfl rfl
    rw [reason (f := Rec.doubt) rfl] at doubted
    rw [reason (f := fun r => { r with condition := .due }) rfl] at due
    exact ⟨doubted, due⟩

/-! ## VERDICT and SET_CONDITION (R28, R111, R181) -/

theorem execVerdict_either (s : State) (l : NoticeLink) (tag : Byte) (b : VerdictBody) :
    exec (.verdict (noticeLinkOf l) tag (some b)) s
      = .next ((replyVerdict s b).finish s (noticeLinkOf l) tag FrameKind.verdict.byte) :=
  congrArg Host.Outcome.next (s.request_either l tag .verdict b (fun a _ b => replyVerdict a b))

theorem execSetCondition_service (s : State) (tag : Byte) (b : SetConditionBody) :
    exec (.setCondition .service tag (some b)) s
      = .next ((replySetCondition s b).finish s .service tag FrameKind.setCondition.byte) :=
  congrArg Host.Outcome.next (s.request_service tag .setCondition b (fun a _ b => replySetCondition a b))

/-- A verdict is awaited on IN, at INSPECTION, in the gripper of a RESHELVE, and at a slot with a verdict owed (R111). -/
theorem State.awaitsVerdict_iff (s : State) (r : Rec) : s.awaitsVerdict r = true ↔
    (r.location = .nest .inn ∨ r.location = .inspection
      ∨ (r.location = .gripper ∧ ∃ m, s.boundMove r = some m ∧ m.kind = .reshelve)
      ∨ ((∃ n, r.location = .slot n) ∧ r.verdictOwed = true)) := by
  unfold State.awaitsVerdict
  split <;> simp_all [Option.any_eq_true]

/-- Settles O39: a verdict by the record's location, and the condition reset. -/
theorem verdictAndSetCondition : Obligations.VerdictAndSetCondition := by
  intro s l tag id r ok known sound
  refine ⟨fun waits iff => ⟨fun here => ⟨?_, ?_⟩, fun elsewhere o => ?_⟩, ?_⟩
  · have awaits : s.awaitsVerdict r = true := (s.awaitsVerdict_iff r).mpr (iff.mp here)
    have reply : replyVerdict s ⟨id, .pass⟩ = changed (s.passVerdict id) := by simp [replyVerdict, ok, known, awaits]
    have told : s.Told (s.passVerdict id) := .of_tx_eq rfl
    obtain ⟨steady, _, answered⟩ := Reply.changed_finish told (noticeLinkOf l) tag .verdict
    exact ⟨_, by rw [execVerdict_either, reply], steady.trans (s.steady_updRecord_eq id fun _ => rfl), answered⟩
  · have awaits : s.awaitsVerdict r = true := (s.awaitsVerdict_iff r).mpr (iff.mp here)
    have reply : replyVerdict s ⟨id, .fail⟩ = changed (s.failVerdict id) := by simp [replyVerdict, ok, known, awaits]
    have told : s.Told (s.failVerdict id) :=
      State.Told.trans (t := s.updRecord id (fun r => { r with condition := .quarantine, verdictOwed := false }))
        (.of_tx_eq rfl) ((State.advances_setHeld _ id).trans (State.advances_reclaimIfUnfit _ id)).sends.told
    obtain ⟨steady, held, answered⟩ := Reply.changed_finish told (noticeLinkOf l) tag .verdict
    refine ⟨_, by rw [execVerdict_either, reply], steady.trans ?_, held id ?_, answered⟩
    · exact ((State.aftermath_reclaimIfUnfit _ id).steady.trans (State.aftermath_setHeld _ id).steady).trans
        (s.steady_updRecord_eq id fun _ => rfl)
    · exact (State.aftermath_reclaimIfUnfit _ id).held id
        (State.allHeld_setHeld (sound.updRecord id (f := fun r => { r with condition := .quarantine, verdictOwed := false })
          fun _ => rfl) id)
  · have no : s.awaitsVerdict r = false := by
      rw [← Bool.not_eq_true, s.awaitsVerdict_iff r, ← iff]
      exact elsewhere
    rw [execVerdict_either]
    simp [replyVerdict, ok, known, no]
    rfl
  · have reply : replySetCondition s ⟨id, .ready⟩ = changed (s.resetCondition id) := by
      simp [replySetCondition, ok, State.known_of_record known]
    have told : s.Told (s.resetCondition id) := .of_tx_eq rfl
    obtain ⟨steady, _, answered⟩ := Reply.changed_finish told .service tag .setCondition
    exact ⟨_, by rw [execSetCondition_service, reply], steady.trans (s.steady_updRecord_eq id fun _ => rfl), answered⟩

/-! ## CENSUS and CENSUS_STOP (R194, R195, R199) -/

theorem execCensus_either (s : State) (l : NoticeLink) (tag : Byte) (b : CensusBody) :
    exec (.census (noticeLinkOf l) tag (some b)) s
      = .next ((replyCensus s b).finish s (noticeLinkOf l) tag FrameKind.census.byte) :=
  congrArg Host.Outcome.next (s.request_either l tag .census b (fun a _ b => replyCensus a b))

theorem execCensusStop_either (s : State) (l : NoticeLink) (tag : Byte) :
    exec (.censusStop (noticeLinkOf l) tag (some ())) s
      = .next ((replyCensusStop s).finish s (noticeLinkOf l) tag FrameKind.censusStop.byte) :=
  congrArg Host.Outcome.next (s.request_either l tag .censusStop () (fun a _ _ => replyCensusStop a))

theorem State.executing_iff (s : State) (k : MoveKind) : s.executing k = true ↔ ∃ m ∈ s.queue, m.kind = k ∧ m.state = .executing := by
  simp [State.executing, State.anyMove]

/-- A withdrawn SCAN ends the census, and the census is not changed by any other withdrawal (R198). -/
theorem State.steady_withdraw_censusEnds (s : State) (m : Move) : (s.withdraw m none).censusEnds.steady = s.censusEnds.steady := by
  unfold State.withdraw
  dsimp only
  split
  · exact State.steady_dropMove s.censusEnds m.seq
  · exact State.steady_dropMove s.censusEnds m.seq

theorem State.steady_stopCensus (s : State) : s.stopCensus.steady = s.censusEnds.steady :=
  s.withdrawWhere_ind (fun t => t.censusEnds.steady = s.censusEnds.steady) _ none
    (fun t m _ _ _ h => (t.steady_withdraw_censusEnds m).trans h) rfl

theorem State.noticesStand_stopCensus (s : State) : s.NoticesStand s.stopCensus :=
  (s.withdrawWhere_ind s.NoticesStand _ none (fun t m _ _ _ h => h.trans (t.noticesStand_withdraw m none)) (.refl s)).trans
    (.of_eq rfl rfl)

/-- No SCAN waits once a census has been stopped, nor does what follows admit one (R199). -/
theorem State.noScan_stopCensus (s : State) : s.stopCensus.WaitingOnly (fun k _ => k ≠ .scan) := fun m hm waits scan => by
  have spared := State.withdrawWhere_waiting (s := s) hm waits
  rw [scan] at spared
  cases spared

/-- Settles O40: CENSUS by its checks, CENSUS_STOP by the census state and its SCAN. -/
theorem censusStartsAndStops : Obligations.CensusStartsAndStops := by
  refine ⟨fun s l tag x y first last hf hl => ?_, fun s l tag => ⟨fun idle => ?_, fun stopping => ?_, fun running runs => ?_,
    fun running waits => ?_⟩⟩
  · have first_ : clampTo 47 x = first := Fin.ext hf.symm
    have last_ : clampTo 47 y = last := Fin.ext hl.symm
    rw [execCensus_either]
    simp only [replyCensus, first_, last_]
    refine ⟨fun empty => ?_, fun range busy => ?_, fun range idle => ?_⟩
    · rw [if_pos empty]
      rfl
    · rw [if_neg (not_lt.mpr range), if_pos busy]
      rfl
    · rw [if_neg (not_lt.mpr range), if_neg (not_not.mpr idle)]
      rfl
  · rw [execCensusStop_either, replyCensusStop, idle]
    rfl
  · rw [execCensusStop_either, replyCensusStop, stopping]
    rfl
  · rw [execCensusStop_either, replyCensusStop, running]
    simp only [(s.executing_iff .scan).mpr runs, if_true]
    rfl
  · have none_ : s.executing .scan = false := by
      rw [← Bool.not_eq_true, s.executing_iff]
      exact fun ⟨m, hm, kind⟩ => waits m hm kind
    have reply : replyCensusStop s = .change s.stopCensus noTouch .ok (fun _ => .censusStop .stopped) := by
      rw [replyCensusStop, running]
      simp [none_]
    have told : s.Told s.stopCensus := s.advances_stopCensus.sends.told
    have spared : (s.stopCensus.settle s noTouch).WaitingOnly (fun k _ => k ≠ .scan) :=
      s.noScan_stopCensus.settle (by simp) (by simp) (by simp) s noTouch
    have notices := s.noticesStand_stopCensus.trans (s.stopCensus.noticesStand_settle s noTouch)
    refine ⟨(s.stopCensus.settle s noTouch).answer (noticeLinkOf l) tag FrameKind.censusStop.byte .ok (.censusStop .stopped),
      by rw [execCensusStop_either, reply]; rfl, ?_, fun m hm kind waits => ?_, fun l' => ?_, told.answered _ _ _ _ _ _ _⟩
    · rw [State.steady_answer, State.steady_settle, State.steady_stopCensus]
      rfl
    · rw [State.queue_answer] at hm
      exact spared m hm waits kind
    · rw [State.answer, State.noticeSet_send]
      exact notices l' .censusDone (by decide) (by decide)

/-! ## INTERCEPT_SET, PORT_SET and TIMING_SET (R49, R140, R148, R183, R213) -/

theorem execInterceptSet_either (s : State) (l : NoticeLink) (tag : Byte) (b : InterceptBody) :
    exec (.interceptSet (noticeLinkOf l) tag (some b)) s
      = .next ((replyInterceptSet s b).finish s (noticeLinkOf l) tag FrameKind.interceptSet.byte) :=
  congrArg Host.Outcome.next (s.request_either l tag .interceptSet b (fun a _ b => replyInterceptSet a b))

theorem execPortSet_service (s : State) (tag : Byte) (b : PortSetBody) :
    exec (.portSet .service tag (some b)) s = .next ((replyPortSet s b).finish s .service tag FrameKind.portSet.byte) :=
  congrArg Host.Outcome.next (s.request_service tag .portSet b (fun a _ b => replyPortSet a b))

theorem execTimingSet_service (s : State) (tag : Byte) (b : TimingBody) :
    exec (.timingSet .service tag (some b)) s = .next ((replyTimingSet s b).finish s .service tag FrameKind.timingSet.byte) :=
  congrArg Host.Outcome.next (s.request_service tag .timingSet b (fun a _ b => replyTimingSet a b))

theorem clampStarvation_eq (x : Nat) :
    clampStarvation x = if x = 0 then 0 else if x < 30 then 30 else if 3600 < x then 3600 else x := by
  unfold clampStarvation clampBetween
  split
  · rfl
  · split
    · omega
    · split <;> omega

/-- Settles O41: each request stores its fields as clamped and answers them. -/
theorem settingsStoredAndAnswered : Obligations.SettingsStoredAndAnswered := by
  intro s tag
  refine ⟨fun l n b m entry prefix_ slots_ => ?_, fun p b port => ?_, fun b => ?_⟩
  · have stored : matchOf b.matching = some m := by
      unfold matchOf
      split
      · next chars e =>
        obtain ⟨ok, rfl⟩ := prefix_ chars e
        rw [if_pos ok]
      · next base len e =>
        obtain ⟨low, high, k, rfl, rfl⟩ := slots_ base len e
        rw [selector_val]
        exact if_pos ⟨low, high⟩
    refine ⟨_, rfl, ?_⟩
    rw [execInterceptSet_either]
    simp only [replyInterceptSet, entry, selector_val, stored]
    rfl
  · refine ⟨s.writeSettings p (storedSettings b), storedSettings b, ?_, rfl, rfl, rfl, rfl, rfl, rfl, rfl, ?_, fun q other => ?_⟩
    · rw [execPortSet_service]
      simp only [replyPortSet, port, selector_val]
      rfl
    · rw [State.port_writeSettings, if_pos rfl]
    · rw [State.port_writeSettings, if_neg other]
      rfl
  · refine ⟨s.settings.write b, (s.handler.write b).pickTimeout, (s.handler.write b).placeTimeout,
      (b.noticeGap.map (clampBetween 1 60)).getD s.noticeGap, by rw [execTimingSet_service]; rfl, ?_, ?_, ?_, ?_, ?_, ?_, ?_, ?_,
      ?_, ?_, ?_, ?_, ?_, ?_, ?_, ?_⟩
    · intro x h
      rw [← clampStarvation_eq, DispatchSettings.write, h]
      rfl
    all_goals
      intros
      simp_all [DispatchSettings.write, Handler.write, clampBetween, clampTo]

end Sys2Proof.Machine
end

section
/-! PROOFS. RETURN (R67, R68, R70, R175), and the reports and timeouts that halt the handler interface (R146, R148, R149,
R161, R162). -/

namespace Sys2Proof.Machine

open Sys2Proof

variable {s t u : State}

/-! ## DUE checks away from the tool nests (R65, R177) -/

theorem State.ungranted_updRecord (s : State) (id : Ident) {f : Rec → Rec} (ids : ∀ r, (f r).id = r.id)
    (held : ∀ r : Rec, r.held = true → (f r).held = true) : s.Ungranted (s.updRecord id f) :=
  s.ungranted_mapCatalogue
    (fun r => by
      split
      · exact ids r
      · rfl)
    (fun r flag => by
      split
      · exact held r flag
      · exact flag)

theorem State.ungranted_makeDue (s : State) (id : Ident) : s.Ungranted (s.makeDue id) := by
  unfold State.makeDue
  exact (s.ungranted_updRecord id (f := fun r => { r with condition := .due }) (fun _ => rfl) (fun _ held => held)).trans
    (State.ungranted_reclaimIfUnfit _ id)

/-- The DUE checks reserve no slot and leave the handler interface. -/
theorem State.ungranted_dueCheck (s : State) (f : Rec → Bool) : s.Ungranted (s.dueCheck f) := by
  rcases s.dueCheck_cases f with ⟨_, h⟩ | ⟨r, _, h⟩ | ⟨_, h⟩ <;> rw [h]
  · exact .refl s
  · exact (s.ungranted_makeDue _).trans (State.ungranted_raise _ _ _)
  · have fold : s.Ungranted ((s.newlyDue f).foldl (fun t r => t.makeDue r.id) s) :=
      State.ungranted_foldl (step := fun (t : State) (r : Rec) => t.makeDue r.id) (fun t r => t.ungranted_makeDue r.id) _ s
    exact fold.trans (State.ungranted_raise _ _ _)

/-- From `s` to `t` the queue, the next sequence number and the ports stand, and each record keeps identifier, binding, held
flag and location. -/
def State.MovesStand (s t : State) : Prop :=
  t.queue = s.queue ∧ t.nextSeq = s.nextSeq ∧ t.ports = s.ports
    ∧ ∃ f : Rec → Rec, (∀ r, (f r).id = r.id ∧ (f r).binding = r.binding ∧ (f r).held = r.held ∧ (f r).location = r.location)
      ∧ t.catalogue = s.catalogue.map f

theorem State.MovesStand.refl (s : State) : s.MovesStand s := ⟨rfl, rfl, rfl, id, fun _ => ⟨rfl, rfl, rfl, rfl⟩, by simp⟩

theorem State.MovesStand.trans (h : s.MovesStand t) (k : t.MovesStand u) : s.MovesStand u := by
  obtain ⟨queue, next, ports, f, hf, catalogue⟩ := h
  obtain ⟨queue', next', ports', g, hg, catalogue'⟩ := k
  refine ⟨queue'.trans queue, next'.trans next, ports'.trans ports, g ∘ f, fun r => ?_, by rw [catalogue', catalogue, List.map_map]⟩
  obtain ⟨i, b, e, l⟩ := hf r
  obtain ⟨i', b', e', l'⟩ := hg (f r)
  exact ⟨i'.trans i, b'.trans b, e'.trans e, l'.trans l⟩

theorem State.MovesStand.locatedAt (h : s.MovesStand t) (id : Ident) (x : Location) : t.locatedAt id x = s.locatedAt id x := by
  obtain ⟨_, _, _, f, same, catalogue⟩ := h
  have known : t.record id = (s.record id).map f := by
    refine Eq.trans ?_ (s.record_mapCatalogue (fun r => (same r).1) id)
    rw [State.record, catalogue, State.record]
  rw [State.locatedAt, known, State.locatedAt]
  cases s.record id with
  | none => rfl
  | some r => simp [(same r).2.2.2]

/-- A record on no tool nest is reclaimed by no departure from READY (R65). -/
theorem State.reclaimIfUnfit_away {id : Ident} (h : ∀ q, s.locatedAt id (.nest (.t q)) = false) : s.reclaimIfUnfit id = s := by
  rcases s.reclaimIfUnfit_cases id with e | ⟨r, p, known, here, _⟩
  · exact e
  · have there := (s.locatedAt_iff id (.nest (.t p))).mpr ⟨r, known, here⟩
    rw [h p] at there
    cases there

theorem State.movesStand_updRecord (s : State) (id : Ident) {f : Rec → Rec}
    (same : ∀ r, (f r).id = r.id ∧ (f r).binding = r.binding ∧ (f r).held = r.held ∧ (f r).location = r.location) :
    s.MovesStand (s.updRecord id f) :=
  ⟨rfl, rfl, rfl, fun r => if r.id = id then f r else r,
    fun r => by dsimp only; split; exacts [same r, ⟨rfl, rfl, rfl, rfl⟩], rfl⟩

theorem State.movesStand_makeDue {id : Ident} (away : ∀ q, s.locatedAt id (.nest (.t q)) = false) :
    s.MovesStand (s.makeDue id) := by
  have due := s.movesStand_updRecord id (f := fun r => { r with condition := .due }) fun _ => ⟨rfl, rfl, rfl, rfl⟩
  rw [State.makeDue, State.reclaimIfUnfit_away fun q => by rw [due.locatedAt]; exact away q]
  exact due

theorem State.movesStand_raise (s : State) (k : NoticeKind) (d : Detail) : s.MovesStand (s.raise k d) := by
  obtain ⟨m, v, tx, h⟩ := s.raise_eq k d
  rw [h]
  exact ⟨rfl, rfl, rfl, fun r => r, fun _ => ⟨rfl, rfl, rfl, rfl⟩, by simp⟩

/-- The DUE check of a record on no tool nest changes records alone, and no binding, held flag or location (R177). -/
theorem State.movesStand_dueCheck {id : Ident} (away : ∀ q, s.locatedAt id (.nest (.t q)) = false) :
    s.MovesStand (s.dueCheck (fun r => r.id = id)) := by
  have named : ∀ r ∈ s.newlyDue (fun r => r.id = id), r.id = id := fun r hr => by
    have passes := (List.mem_filter.mp hr).2
    simp only [Bool.and_eq_true, decide_eq_true_eq] at passes
    exact passes.1
  have fold (rs : List Rec) (all : ∀ r ∈ rs, r.id = id) (t : State) (h : s.MovesStand t) :
      s.MovesStand (rs.foldl (fun t r => t.makeDue r.id) t) := by
    induction rs generalizing t with
    | nil => exact h
    | cons r rs ih =>
      refine ih (fun x hx => all x (List.mem_cons_of_mem r hx)) _ (h.trans (State.movesStand_makeDue fun q => ?_))
      rw [h.locatedAt, all r (List.mem_cons_self ..)]
      exact away q
  rcases s.dueCheck_cases (fun r => r.id = id) with ⟨_, h⟩ | ⟨r, one, h⟩ | ⟨_, h⟩ <;> rw [h]
  · exact .refl s
  · have first := fold [r] (by rw [← one]; exact named) s (.refl s)
    exact first.trans (State.movesStand_raise _ _ _)
  · exact (fold _ named s (.refl s)).trans (State.movesStand_raise _ _ _)

/-- Lots added to a record (R175). -/
def Rec.addLots (n : Nat) (r : Rec) : Rec := { r with lots := satAdd r.lots n }

theorem State.movesStand_addLots {id : Ident} (away : ∀ q, s.locatedAt id (.nest (.t q)) = false) (n : Nat) :
    s.MovesStand (s.addLots id n) := by
  have added := s.movesStand_updRecord id (f := Rec.addLots n) fun _ => ⟨rfl, rfl, rfl, rfl⟩
  exact added.trans (State.movesStand_dueCheck fun q => (added.locatedAt id _).trans (away q))

theorem State.ungranted_addLots (s : State) (id : Ident) (n : Nat) : s.Ungranted (s.addLots id n) :=
  (s.ungranted_updRecord id (f := Rec.addLots n) (fun _ => rfl) (fun _ held => held)).trans (State.ungranted_dueCheck _ _)

theorem State.steady_addLots (sound : s.CatalogueSound) (id : Ident) (n : Nat) :
    (s.addLots id n).steady = s.steady.updRecord id (fun r => ({ r with lots := satAdd r.lots n }).checked (s.limitsOf r)) :=
  State.steady_updRecord_dueCheck sound id (f := Rec.addLots n) (fun _ => rfl) (fun _ => rfl)

/-! ## RETURN (R67, R68, R70) -/

theorem execReturnLots_tool (s : State) (p : Port) (tag : Byte) (b : ReturnBody) :
    exec (.returnLots (.tool p) tag (some b)) s
      = .next ((replyReturn (s.goodFrame (.tool p)) p b).finish (s.goodFrame (.tool p)) (.tool p) tag
          FrameKind.returnLots.byte) := rfl

theorem State.CatalogueSound.of_steady (sound : s.CatalogueSound) (h : t.steady.records = s.steady.records) :
    t.CatalogueSound := by
  have ids (z : State) : z.catalogue.map (·.id) = z.steady.records.map (·.id) := by
    rw [State.steady, List.map_map]
    rfl
  have length (z : State) : z.catalogue.length = z.steady.records.length := by rw [State.steady, List.length_map]
  obtain ⟨nodup, short⟩ := sound
  exact ⟨by rw [ids t, h, ← ids s]; exact nodup, by rw [length t, h, ← length s]; exact short⟩

theorem Steady.updRecord_of_fixed {x : Steady} {id : Ident} {f : Rec → Rec} (h : ∀ r ∈ x.records, r.id ≠ id) :
    x.updRecord id f = x := by
  have same : x.records.map (fun r => if r.id = id then f r else r) = x.records :=
    (List.map_congr_left fun r hr => if_neg (h r hr)).trans (List.map_id _)
  rw [Steady.updRecord, same]

/-- Lots reported in the late-return window (R70, R175). -/
theorem State.steady_lateLots (sound : s.CatalogueSound) (id : Ident) (n : Nat) :
    (s.lateLots id n).steady = s.steady.updRecord id (fun r => ({ r with lots := satAdd r.lots n }).checked (s.limitsOf r)) := by
  unfold State.lateLots
  split
  · exact s.steady_addLots sound id n
  · next unknown =>
    refine (Steady.updRecord_of_fixed ((s.record_eq_none_iff id).mp ?_)).symm
    simpa [State.known] using unknown

/-- A return completed: the COLLECT admitted, the window stopped and the lots counted (R68). -/
theorem State.completeReturn_of_tool (s : State) {p : Port} {id : Ident} (n : Nat)
    (here : s.locatedAt id (.tool p) = true) :
    ∃ m, (s.completeReturn p id n).queue = s.queue ++ [m] ∧ (collectOffer p (some id)).Becomes m s.nextSeq s.clock
      ∧ ((s.completeReturn p id n).port p)
          = { s.port p with pendingReturn := none, window := none }
      ∧ (∀ q, q ≠ p → (s.completeReturn p id n).port q = s.port q)
      ∧ (s.CatalogueSound → (s.completeReturn p id n).steady
        = (s.steady.updPort p (fun r => { r with pendingReturn := none })).updRecord id
            (fun r => ({ r with lots := satAdd r.lots n }).checked (s.limitsOf r))) := by
  let a := s.updPort p (fun r => { r with pendingReturn := none, window := none })
  have opened : a.steady = s.steady.updPort p (fun r => { r with pendingReturn := none }) := s.steady_updPort_eq p rfl
  have offered : (a.offerInward (collectOffer p (some id))).steady = a.steady := a.steady_offerInward _
  obtain ⟨hold, queue⟩ := a.offerInward_queue (collectOffer p (some id))
  have away : ∀ q, (a.offerInward (collectOffer p (some id))).locatedAt id (.nest (.t q)) = false := fun q => by
    have known := State.record_steady_of_steady offered id
    obtain ⟨r, hr, loc⟩ := (s.locatedAt_iff id (.tool p)).mp here
    rw [← Bool.not_eq_true, State.locatedAt_iff]
    rintro ⟨x, hx, loc'⟩
    have hr' : a.record id = some r := hr
    rw [hx, hr', Option.map_some, Option.map_some] at known
    have steady : x.steady = r.steady := Option.some.inj known
    have same : x.steady.location = r.steady.location := by rw [steady]
    exact Location.noConfusion ((loc'.symm.trans same).trans loc)
  obtain ⟨queue', _, ports, _⟩ := State.movesStand_addLots away n
  refine ⟨_, queue'.trans queue, a.entered_becomes _ hold, ?_, fun q other => ?_, fun sound => ?_⟩
  · show ((a.offerInward (collectOffer p (some id))).addLots id n).ports.get p = _
    rw [ports]
    exact (a.offerInward_port _ p).trans (s.port_updPort_same p _)
  · show ((a.offerInward (collectOffer p (some id))).addLots id n).ports.get q = _
    rw [ports]
    exact (a.offerInward_port _ q).trans (s.port_updPort_other other _)
  · have sound' : (a.offerInward (collectOffer p (some id))).CatalogueSound :=
      sound.of_steady (by rw [offered, opened]; rfl)
    refine (State.steady_addLots sound' id n).trans ?_
    have limits (r : Rec) : (a.offerInward (collectOffer p (some id))).limitsOf r = s.limitsOf r :=
      congrArg (fun x : Steady => x.classes.get r.cls) (offered.trans opened)
    rw [offered, opened]
    simp only [limits]

theorem State.awaitsReport_iff (s : State) (p : Port) : s.awaitsReport p = true ↔
    s.toolNest p = .returned ∧ ∀ m ∈ s.queue, ¬(m.kind = .collect ∧ m.source = .nest (.t p) ∧ m.state = .waiting) := by
  simp [State.awaitsReport, State.anyMove, Move.isWaiting]

theorem State.awaitsReport_goodFrame (s : State) (l : ReqLink) (p : Port) : (s.goodFrame l).awaitsReport p = s.awaitsReport p := by
  have nest := s.toolNest_goodFrame l p
  obtain ⟨ports, h⟩ := s.goodFrame_eq l
  rw [State.awaitsReport, nest, h, State.awaitsReport]
  rfl

/-- Settles O34: the late-return window, and else the record's place and the nest. -/
theorem returnPairsWithPod : Obligations.ReturnPairsWithPod := by
  intro s p tag id lots ok open_ sound
  have open' : ((s.goodFrame (.tool p)).port p).state ≠ .closed := by rwa [s.goodFrame_port_state]
  have late : ((s.goodFrame (.tool p)).port p).lateOpen = (s.port p).lateOpen := by
    obtain ⟨x, e⟩ := s.port_goodFrame (.tool p) p
    rw [e]
  have located := s.locatedAt_goodFrame (.tool p) id
  have waits := s.awaitsReport_goodFrame (.tool p) p
  have told : s.Told (s.goodFrame (.tool p)) := .of_tx_eq (s.goodFrame_tx _)
  obtain ⟨ports, a⟩ := s.goodFrame_eq (.tool p)
  have sound' : (s.goodFrame (.tool p)).CatalogueSound := by rw [a]; exact sound
  have limits (r : Rec) : (s.goodFrame (.tool p)).limitsOf r = s.limitsOf r := by rw [a]; rfl
  refine ⟨fun window => ?_, fun shut away => ?_, fun shut here => ⟨fun unpaired => ?_, fun nest none_ => ?_⟩⟩
  · refine ⟨(s.goodFrame (.tool p)).lateLots id lots, ?_, ?_, ?_, ?_, fun away => ?_⟩
    · rw [execReturnLots_tool]
      simp [replyReturn, ok, open', late, window]
      rfl
    · rw [State.steady_lateLots sound']
      simp only [limits]
    · unfold State.lateLots
      split
      · exact (State.ungranted_addLots _ _ _).slots.trans (by rw [a])
      · rw [a]
    · unfold State.lateLots
      split
      · exact (State.ungranted_addLots _ _ _).handler.trans (by rw [a])
      · rw [a]
    · have stands : (s.goodFrame (.tool p)).MovesStand ((s.goodFrame (.tool p)).lateLots id lots) := by
        unfold State.lateLots
        split
        · exact State.movesStand_addLots (fun q => (located _).trans (away q)) lots
        · exact .refl _
      obtain ⟨queue, next, ports', f, same, catalogue⟩ := stands
      refine ⟨by rw [queue, a], by rw [next, a], ports', fun r hr => ?_⟩
      rw [catalogue] at hr
      obtain ⟨x, hx, rfl⟩ := List.mem_map.mp hr
      obtain ⟨i, b, h, _⟩ := same x
      exact ⟨x, by rw [a] at hx; exact hx, i.symm, b.symm, h.symm⟩
  · rw [execReturnLots_tool]
    simp [replyReturn, ok, open', late, shut, located, away]
    rfl
  · have no : s.awaitsReport p = false := by
      rw [← Bool.not_eq_true, s.awaitsReport_iff]
      rintro ⟨nest, none_⟩
      rcases unpaired with other | ⟨m, hm, waiting⟩
      · exact other nest
      · exact none_ m hm waiting
    have reply : replyReturn (s.goodFrame (.tool p)) p ⟨id, lots⟩
        = changed ((s.goodFrame (.tool p)).updPort p (fun r => { r with pendingReturn := some ⟨id, lots⟩ })) := by
      simp [replyReturn, ok, open', late, shut, located, here, State.acceptReturn, waits, no]
    have told' : s.Told ((s.goodFrame (.tool p)).updPort p (fun r => { r with pendingReturn := some ⟨id, lots⟩ })) :=
      told.trans (.of_tx_eq rfl)
    refine ⟨_, by rw [execReturnLots_tool, reply, Reply.changed_finish_eq], ?_, told'.answered _ _ _ _ _ _ _⟩
    rw [State.steady_answer, State.steady_settle]
    exact State.steady_updPort_eq _ p rfl
  · have yes : s.awaitsReport p = true := (s.awaitsReport_iff p).mpr ⟨nest, none_⟩
    obtain ⟨m, queue, ⟨seq, kind, requester, beneficiary, reticle, test, source, _⟩, port, _, steady⟩ :=
      (s.goodFrame (.tool p)).completeReturn_of_tool (p := p) (id := id) lots ((located _).trans here)
    refine ⟨(s.goodFrame (.tool p)).completeReturn p id lots, m, ?_, by rw [queue, a], by rw [seq, a], kind, reticle, test, source,
      beneficiary, requester, by rw [port], ?_⟩
    · rw [execReturnLots_tool]
      simp [replyReturn, ok, open', late, shut, located, here, State.acceptReturn, waits, yes]
      rfl
    · rw [steady sound']
      simp only [limits]

/-! ## Halting (R161) -/

/-- What a halt leaves: the halt record, nothing moved, and HALTED raised with the code. -/
theorem State.haltAt_spec (s : State) (code : HaltCode) (g : GripperState) (x : Option Position) :
    (s.haltAt code g x).handler
        = { s.handler with state := .halted, numberCurrent := false, halt := some ⟨code, g⟩, timer := none }
      ∧ (s.haltAt code g x).slots = s.slots ∧ (s.haltAt code g x).catalogue = s.catalogue
      ∧ (s.haltAt code g x).queue = s.queue ∧ (s.haltAt code g x).steady = s.steady
      ∧ ∀ l, (((s.haltAt code g x).noticeSet l).entry .halted).pending = true
          ∧ (((s.haltAt code g x).noticeSet l).entry .halted).detail.code = some code.number := by
  have raised : (s.haltAt code g x).Raised .halted ⟨s.execMove.bind (·.reticle), none, x, none, some code.number⟩ :=
    State.raise_raised _ _ _
  obtain ⟨m, v, tx, e⟩ := s.haltAt_eq code g x
  refine ⟨by rw [e], by rw [e], by rw [e], by rw [e], s.steady_haltAt code g x, fun l => ?_⟩
  obtain ⟨pending, detail⟩ := raised l
  exact ⟨pending, by rw [detail]⟩

theorem State.takeReport_stale {number : Byte} (h : s.handler.current ≠ some number) (xs : List HandlerState)
    (f : State → Move → State) : s.takeReport number xs f = s := by rw [State.takeReport, if_neg h]

theorem State.takeReport_unexpected {number : Byte} (h : s.handler.current = some number) {xs : List HandlerState}
    (unexpected : s.handler.state ∉ xs) (f : State → Move → State) :
    s.takeReport number xs f = (s.halt .unexpected .unknown).settleHandler s := by
  rw [State.takeReport, if_pos h, if_neg unexpected]

/-- Settles O47: the number first, then the states that expect the report. -/
theorem staleAndUnexpectedReports : Obligations.StaleAndUnexpectedReports := by
  refine fun s number => ⟨fun stale => ⟨fun read => ?_, ?_, ?_, ?_, fun results => ?_, fun code loaded => ?_⟩, fun current => ?_⟩
  · exact congrArg Host.Outcome.next (by rw [State.takeReport_stale stale, ite_self])
  · exact congrArg Host.Outcome.next (State.takeReport_stale stale _ _)
  · exact congrArg Host.Outcome.next (State.takeReport_stale stale _ _)
  · exact congrArg Host.Outcome.next (State.takeReport_stale stale _ _)
  · exact congrArg Host.Outcome.next (State.takeReport_stale stale _ _)
  · exact congrArg Host.Outcome.next (if_neg stale)
  · obtain ⟨handler, slots, catalogue, queue, steady, raised⟩ := s.haltAt_spec .unexpected .unknown s.workPosition
    refine ⟨s.halt .unexpected .unknown, handler, slots, catalogue, queue, steady, raised, fun other => ⟨?_, fun read ok => ?_⟩,
      fun notPlacing notPutback => ⟨?_, ?_⟩, fun other results => ?_⟩
    · exact congrArg Host.Outcome.next (State.takeReport_unexpected current (by simpa using other) _)
    · refine congrArg Host.Outcome.next ((if_pos ok).trans ?_)
      exact State.takeReport_unexpected current (by simpa using other) _
    · exact congrArg Host.Outcome.next (State.takeReport_unexpected current (by simp [notPlacing, notPutback]) _)
    · exact congrArg Host.Outcome.next (State.takeReport_unexpected current (by simp [notPlacing, notPutback]) _)
    · exact congrArg Host.Outcome.next (State.takeReport_unexpected current (by simpa using other) _)

/-- Settles O54: each cause of a halt, and RESTARTED where it halts nothing. -/
theorem haltsKeepTheMove : Obligations.HaltsKeepTheMove := by
  refine fun s => ⟨fun halts iff => ⟨fun number code loaded current => ?_, fun number loaded idle halted => ?_, fun runs => ?_⟩,
    fun none_ => ?_, fun number loaded => ⟨fun idle empty => ?_, fun idle full => ?_, fun halted h record => ?_⟩⟩
  · exact ⟨s.halt (.robot code) (gripperOf loaded), congrArg Host.Outcome.next (if_pos current),
      (iff _ _ _ _).mpr (s.haltAt_spec (.robot code) (gripperOf loaded) s.workPosition)⟩
  · refine ⟨s.halt .restarted (gripperOf loaded), ?_, (iff _ _ _ _).mpr (s.haltAt_spec .restarted (gripperOf loaded) s.workPosition)⟩
    refine congrArg (fun z => Host.Outcome.next (State.settleHandler z s)) ?_
    unfold State.takeRestarted
    split
    · next e => exact absurd e idle
    · next e => exact absurd e halted
    · rfl
  · exact ⟨s.halt .timeout (timeoutGripper s.handler.state), congrArg Host.Outcome.next (if_pos runs),
      (iff _ _ _ _).mpr (s.haltAt_spec .timeout (timeoutGripper s.handler.state) s.workPosition)⟩
  · exact congrArg Host.Outcome.next (if_neg (by simp [none_]))
  · refine congrArg (fun z => Host.Outcome.next (State.settleHandler z s)) ?_
    simp [State.takeRestarted, idle, empty]
  · refine ⟨s.haltWithoutMove, congrArg (fun z => Host.Outcome.next (State.settleHandler z s)) ?_, ?_, State.raise_raised _ _ _⟩
    · simp [State.takeRestarted, idle, full]
    · exact (State.haltAt_spec _ .restarted .loaded none).1
  · refine congrArg (fun z => Host.Outcome.next (State.settleHandler z s)) ?_
    rw [State.takeRestarted, halted]
    simp only [State.regrip, State.updHandler, record, Option.map_some]
    rfl

end Sys2Proof.Machine
end

section
/-! PROOFS. The stand-down of a port and the states PORT_OPEN, PORT_CLOSE and a liveness expiry lead to (R52 to R54), the
expiries of the window timer (R63, R64, R69), and ACK, MASK and the gap timer (R212 to R214). -/

namespace Sys2Proof.Machine

open Sys2Proof

variable {s t u : State}

/-! ## The stand-down of a port (R53) -/

/-- A withdrawal without a frame touches the queue, the bindings and the census alone. -/
theorem State.withdrawWhere_quiet (s : State) (f : Move → Bool) :
    ∃ q c x, s.withdrawWhere f none = { s with queue := q, catalogue := c, census := x } := by
  refine s.withdrawWhere_ind (fun t => ∃ q c x, t = { s with queue := q, catalogue := c, census := x }) f none
    (fun t m _ _ _ h => ?_) ⟨s.queue, s.catalogue, s.census, rfl⟩
  obtain ⟨q, c, x, rfl⟩ := h
  unfold State.withdraw
  dsimp only
  split
  · exact ⟨_, _, _, rfl⟩
  · exact ⟨_, _, _, rfl⟩

/-- The stand-down of a port before its nest is looked at (R53). -/
def State.stoodDown (s : State) (p : Port) : State := ((s.dropToolWork p).emptyLists p).markStandDown p

theorem State.standDown_eq (s : State) (p : Port) : s.standDown p = (s.stoodDown p).lapseQuietly p := rfl

theorem State.stoodDown_eq (s : State) (p : Port) :
    ∃ q c x, s.stoodDown p = { (s.setAhead p (s.aheadOf p).emptied) with queue := q, catalogue := c, census := x } := by
  obtain ⟨q, c, x, e⟩ := s.withdrawWhere_quiet
    (fun m => (m.kind = .deliver || m.kind = .prestage) && m.beneficiary = some p)
  rw [State.stoodDown, State.dropToolWork, e]
  exact ⟨_, _, _, rfl⟩

theorem State.steady_stoodDown (s : State) (p : Port) :
    (s.stoodDown p).steady = s.steady.setAhead p (s.aheadOf p).emptied := by
  have dropped : (s.dropToolWork p).steady = s.steady := s.steady_dropToolWork p
  have ahead : (s.dropToolWork p).aheadOf p = s.aheadOf p := by
    rw [State.aheadOf, State.dropToolWork_ahead, State.aheadOf]
  refine Eq.trans (?_ : _ = ((s.dropToolWork p).setAhead p ((s.dropToolWork p).aheadOf p).emptied).steady) ?_
  · rfl
  · rw [State.steady_setAhead, dropped, ahead]

theorem State.mem_stoodDown (s : State) (p : Port) {m : Move} (h : m ∈ (s.stoodDown p).queue) (own : m.beneficiary = some p) :
    (m.state = .waiting → m.kind ≠ .deliver ∧ m.kind ≠ .prestage) ∧ (m.kind = .deliver → m.standDown = true) := by
  obtain ⟨x, hx, rfl⟩ := List.mem_map.mp h
  have spared : x.beneficiary = some p → x.state = .waiting → x.kind ≠ .deliver ∧ x.kind ≠ .prestage :=
    fun same waits => s.dropToolWork_waiting p x hx waits same
  by_cases marked : x.kind = .deliver ∧ x.beneficiary = some p ∧ x.state = .executing
  · rw [if_pos marked] at own ⊢
    exact ⟨fun waits => absurd (waits.symm.trans marked.2.2) (by decide), fun _ => rfl⟩
  · rw [if_neg marked] at own ⊢
    refine ⟨spared own, fun deliver => ?_⟩
    cases state : x.state with
    | waiting => exact absurd deliver (spared own state).1
    | executing => exact absurd ⟨deliver, own, state⟩ marked

/-- The identifier of the record at a place, where only held flags and bindings change. -/
theorem State.recordAt_steady_of_steady (h : t.steady.records = s.steady.records) (x : Location) :
    (t.recordAt x).map Rec.steady = (s.recordAt x).map Rec.steady := by
  have at_ (z : State) : (z.recordAt x).map Rec.steady = z.steady.records.find? (fun r => r.location = x) := by
    rw [State.recordAt, State.steady, List.find?_map]
    rfl
  rw [at_, at_, h]

/-- What the stand-down of a port leaves: its lists empty, its tool work gone or marked, and its OUT_WAIT nest lapsed
quietly (R53). -/
theorem State.standDown_spec (s : State) (p : Port) :
    (s.standDown p).steady = s.steady.setAhead p (s.aheadOf p).emptied
      ∧ (∀ m ∈ (s.standDown p).queue, m.beneficiary = some p →
          (m.state = .waiting → m.kind ≠ .deliver ∧ m.kind ≠ .prestage) ∧ (m.kind = .deliver → m.standDown = true))
      ∧ (s.standDown p).toolNest p = (if s.toolNest p = .outWait then .outLapsed else s.toolNest p)
      ∧ (s.standDown p).sent (.request (.tool p)) = s.sent (.request (.tool p))
      ∧ s.NoticesStand (s.standDown p)
      ∧ (s.toolNest p ≠ .outWait → (s.standDown p).port p = s.port p)
      ∧ (∀ r, s.toolNest p = .outWait → s.recordAt (.nest (.t p)) = some r →
          (s.standDown p).port p = { s.port p with nest := .outLapsed, window := none, lapseDeferred := false }
          ∧ ∃ m ∈ (s.standDown p).queue, m.seq = s.nextSeq ∧ m.kind = .reclaim ∧ m.source = .nest (.t p)
              ∧ m.reticle = some r.id) := by
  have steady := s.steady_stoodDown p
  have work {m : Move} := s.mem_stoodDown p (m := m)
  have records : (s.stoodDown p).steady.records = s.steady.records := by rw [steady]; rfl
  have at_ := State.recordAt_steady_of_steady records (.nest (.t p))
  rw [State.standDown_eq]
  obtain ⟨q, c, x, e⟩ := s.stoodDown_eq p
  generalize s.stoodDown p = b at *
  have port : b.port p = s.port p := by rw [e]; rfl
  have nest : b.toolNest p = s.toolNest p := by rw [State.toolNest, port, State.toolNest]
  have sent : b.sent (.request (.tool p)) = s.sent (.request (.tool p)) := by rw [e]; rfl
  have notices : s.NoticesStand b := by rw [e]; exact .of_eq rfl rfl
  have next : b.nextSeq = s.nextSeq := by rw [e]; rfl
  by_cases wait : s.toolNest p = .outWait
  · have wait' : b.toolNest p = .outWait := nest.trans wait
    have lapsed : (b.lapseQuietly p) = (b.lapseNest p).reclaimNest p := by rw [State.lapseQuietly, if_pos wait']
    have lapsedPort : (b.lapseNest p).port p = { s.port p with nest := .outLapsed, window := none, lapseDeferred := false } := by
      rw [State.lapseNest_port, port]
    have reclaimed : (b.lapseNest p).reclaimNest p = b.lapseNest p
        ∨ ∃ id, (b.lapseNest p).reclaimNest p = (b.lapseNest p).offerInward (reclaimOffer p id) := by
      unfold State.reclaimNest
      split
      · exact .inr ⟨_, rfl⟩
      · exact .inl rfl
    have kept : (b.lapseQuietly p).steady = b.steady ∧ (b.lapseQuietly p).port p = (b.lapseNest p).port p
        ∧ (b.lapseQuietly p).sent (.request (.tool p)) = b.sent (.request (.tool p)) ∧ b.NoticesStand (b.lapseQuietly p)
        ∧ ∀ m ∈ (b.lapseQuietly p).queue, m ∈ b.queue ∨ (m.kind = .reclaim ∧ m.state = .waiting) := by
      rw [lapsed]
      rcases reclaimed with same | ⟨id, offered⟩
      · rw [same]
        exact ⟨b.steady_lapseNest p, rfl, rfl, .of_eq rfl rfl, fun m hm => .inl hm⟩
      · rw [offered]
        refine ⟨(State.steady_offerInward _ _).trans (b.steady_lapseNest p), State.offerInward_port _ _ p,
          State.sent_offerInward _ _ (tool_ne_noticeLink p),
          State.NoticesStand.trans (t := b.lapseNest p) (.of_eq rfl rfl) (State.noticesStand_offerInward _ _), fun m hm => ?_⟩
        obtain ⟨hold, queue⟩ := (b.lapseNest p).offerInward_queue (reclaimOffer p id)
        rw [queue] at hm
        rcases List.mem_append.mp hm with old | new
        · exact .inl old
        · rw [List.mem_singleton.mp new]
          exact .inr ⟨rfl, rfl⟩
    obtain ⟨steady', port', sent', notices', queue'⟩ := kept
    refine ⟨steady'.trans steady, fun m hm own => ?_, ?_, sent'.trans sent, notices.trans notices', fun no => absurd wait no,
      fun r _ hr => ⟨port'.trans lapsedPort, ?_⟩⟩
    · rcases queue' m hm with old | ⟨reclaim, waits⟩
      · exact work old own
      · exact ⟨fun _ => by rw [reclaim]; decide, fun deliver => absurd (reclaim.symm.trans deliver) (by decide)⟩
    · rw [if_pos wait, State.toolNest, port', lapsedPort]
    · rw [hr] at at_
      obtain ⟨x, hx, same⟩ := Option.map_eq_some_iff.mp at_
      have id_ : x.steady.id = r.steady.id := by rw [same]
      rw [State.lapseQuietly_of_record wait' hx]
      obtain ⟨hold, queue⟩ := (b.lapseNest p).offerInward_queue (reclaimOffer p x.id)
      refine ⟨_, by rw [queue]; exact List.mem_append_right _ (List.mem_singleton_self _), next, rfl, rfl, ?_⟩
      exact congrArg some id_
  · have same : b.lapseQuietly p = b := by rw [State.lapseQuietly, if_neg (by rwa [nest])]
    rw [same]
    exact ⟨steady, fun m hm own => work hm own, by rw [if_neg wait, nest], sent, notices, fun _ => port,
      fun r yes => absurd yes wait⟩

/-! ## PORT_OPEN, PORT_CLOSE and the liveness expiry (R53, R54) -/

theorem execPortOpen_service (s : State) (tag : Byte) (x : Nat) :
    exec (.portOpen .service tag (some x)) s = .next ((replyPortOpen s x).finish s .service tag FrameKind.portOpen.byte) :=
  congrArg Host.Outcome.next (s.request_service tag .portOpen x (fun a _ x => replyPortOpen a x))

theorem execPortClose_service (s : State) (tag : Byte) (x : Nat) :
    exec (.portClose .service tag (some x)) s = .next ((replyPortClose s x).finish s .service tag FrameKind.portClose.byte) :=
  congrArg Host.Outcome.next (s.request_service tag .portClose x (fun a _ x => replyPortClose a x))

/-- The stand-down of a port whose state and liveness timer change first (R53, R54). -/
theorem State.steady_shut (s : State) (p : Port) (x : PortState) :
    ((s.updPort p (fun r => { r with state := x, livenessLeft := none })).steady.setAhead p
        ((s.updPort p (fun r => { r with state := x, livenessLeft := none })).aheadOf p).emptied)
      = (s.steady.updPort p (fun r => { r with state := x, livenessLeft := none })).setAhead p (s.aheadOf p).emptied := by
  rw [s.steady_updPort_eq p (g := fun r => { r with state := x, livenessLeft := none }) rfl]
  rfl

/-- Settles O55: the port's state splits the cases, and the stand-down is the same for a close and a liveness expiry. -/
theorem portOpensClosesAndFallsSilent : Obligations.PortOpensClosesAndFallsSilent := by
  refine ⟨fun s tag p => ⟨?_, fun closed => ?_, fun open_ => ?_⟩, fun s p => ⟨fun stopped => ?_, fun attached running => ?_⟩⟩
  · refine ⟨s.openPort p, ?_, rfl, fun q other => s.port_updPort_other other _, ?_⟩
    · rw [execPortOpen_service, replyPortOpen, selector_val]
      rfl
    · rw [State.openPort, s.port_updPort_same]
  · rw [execPortClose_service, replyPortClose, selector_val]
    simp only [closed, if_true]
    rfl
  · have reply : replyPortClose s p.val = changed (s.closePort p) := by
      rw [replyPortClose, selector_val]
      simp only [open_, if_false]
    obtain ⟨steady, work, nest, _⟩ :=
      (s.updPort p (fun r => { r with state := .closed, livenessLeft := none })).standDown_spec p
    have shut : (s.closePort p).steady
        = (s.steady.updPort p (fun r => { r with state := .closed, livenessLeft := none })).setAhead p (s.aheadOf p).emptied :=
      steady.trans (s.steady_shut p .closed)
    have closed : ((s.closePort p).port p).state = .closed := by
      have shown : ((s.closePort p).steady.ports.get p).state = .closed := by
        rw [shut]
        exact congrArg PortRec.state (Vector.getElem_set_self p.isLt)
      rwa [State.steady_port] at shown
    have idle : (s.closePort p).WaitingOnly (NoToolWork p) := fun m hm waits own => (work m hm own).1 waits
    have quiet := idle.noToolWork (.inl (by rw [closed]; decide)) s noTouch
    refine ⟨((s.closePort p).settle s noTouch).answer .service tag FrameKind.portClose.byte .ok .none, s.closePort p,
      by rw [execPortClose_service, reply]; rfl, rfl, ?_, fun m hm own waits => ?_,
      fun m hm deliver own => (work m hm own).2 deliver, ?_⟩
    · rw [State.steady_answer, State.steady_settle]
      exact shut
    · rw [State.queue_answer] at hm
      exact quiet m hm waits own
    · have nest_ : (s.updPort p (fun r => { r with state := .closed, livenessLeft := none })).toolNest p = s.toolNest p := by
        rw [State.toolNest, s.port_updPort_same, State.toolNest]
      rw [nest_] at nest
      exact nest
  · exact congrArg Host.Outcome.next (if_neg (by simp [stopped]))
  · let a := (s.updPort p (fun r => { r with state := .silent, livenessLeft := none })).raise .portSilent
      { noDetail with port := some p }
    have port : a.port p = { s.port p with state := .silent, livenessLeft := none } := by
      rw [State.port, State.raise_ports, ← State.port, s.port_updPort_same]
    obtain ⟨steady, work, nest, sent, notices, elsewhere, lapses⟩ := a.standDown_spec p
    have raised : a.Raised .portSilent ⟨none, none, none, some p, none⟩ := State.raise_raised _ _ _
    have nest_ : a.toolNest p = s.toolNest p := by rw [State.toolNest, port, State.toolNest]
    have next_ : a.nextSeq = s.nextSeq := State.raise_nextSeq _ _ _
    refine ⟨s.goSilent p, congrArg Host.Outcome.next (if_pos ⟨attached, by simpa [Option.isSome_iff_ne_none] using running⟩), ?_,
      fun m hm own waits => (work m hm own).1 waits, fun m hm deliver own => (work m hm own).2 deliver, ?_,
      notices.raised (by decide) (by decide) raised, ?_, fun away => ?_, fun r wait hr => ?_⟩
    · refine steady.trans ?_
      rw [State.steady_raise, State.aheadOf, State.raise_ahead, ← State.aheadOf]
      exact s.steady_shut p .silent
    · exact sent.trans (State.sent_raise_other _ _ _ (tool_ne_noticeLink p))
    · show (a.standDown p).prdy p = false
      rw [State.prdy, nest, nest_]
      by_cases wait : s.toolNest p = .outWait <;> simp [wait]
    · exact (elsewhere (by rwa [nest_])).trans port
    · have hr' : a.recordAt (.nest (.t p)) = some r := by
        rw [State.recordAt, State.raise_catalogue]
        exact hr
      obtain ⟨port', m, hm, seq, rest⟩ := lapses r (nest_.trans wait) hr'
      refine ⟨?_, ?_, ?_, m, hm, seq.trans next_, rest⟩
      · show ((a.standDown p).port p).nest = _
        rw [port']
      · show ((a.standDown p).port p).window = _
        rw [port']
      · show ((a.standDown p).port p).lapseDeferred = _
        rw [port']

/-! ## The expiries of the window timer (R63, R64, R69) -/

theorem State.windowRuns_iff (s : State) (p : Port) (x : WindowUse) :
    s.windowRuns p x = true ↔ ∃ n, (s.port p).window = some ⟨x, n⟩ := by
  rw [State.windowRuns, Option.any_eq_true]
  constructor
  · rintro ⟨⟨use, n⟩, h, e⟩
    obtain rfl : use = x := of_decide_eq_true e
    exact ⟨n, h⟩
  · rintro ⟨n, h⟩
    exact ⟨_, h, decide_eq_true rfl⟩

/-- The lapse of a collect window at a nest with a record on it (R64). -/
theorem State.lapses_lapse {p : Port} {r : Rec} (onNest : s.recordAt (.nest (.t p)) = some r) : s.Lapses (s.lapse p) p r := by
  let a := (s.lapseNest p).offerInward (reclaimOffer p r.id)
  have e : s.lapse p = (a.sendTool p (.lapsed r.id)).raise .lapsed ⟨some r.id, none, some (.nest (.t p)), some p, none⟩ := by
    have onNest' : s.onNest p = some r := onNest
    have reclaimed : (s.lapseNest p).reclaimNest p = a := State.reclaimNest_of_record (s := s.lapseNest p) onNest
    unfold State.lapse
    simp only [onNest', reclaimed, Option.map_some]
  have port : ((s.lapse p).port p) = { s.port p with nest := .outLapsed, window := none, lapseDeferred := false } := by
    rw [e, State.port, State.raise_ports, State.sendTool_ports, ← State.port, State.offerInward_port, State.lapseNest_port]
  obtain ⟨hold, queue⟩ := (s.lapseNest p).offerInward_queue (reclaimOffer p r.id)
  refine ⟨?_, by rw [State.toolNest, port], by rw [port], by rw [port],
    ⟨(s.lapseNest p).entered (reclaimOffer p r.id) false hold, ?_, rfl, rfl, rfl, rfl, rfl⟩, ?_, ?_⟩
  · rw [e, State.steady_raise, State.steady_sendTool, State.steady_offerInward, State.steady_lapseNest]
  · rw [e, State.raise_queue, State.sendTool_queue, queue]
    rfl
  · rw [e, State.sent_raise_other _ _ _ (tool_ne_noticeLink p), State.sent_sendTool,
      State.sent_offerInward _ _ (tool_ne_noticeLink p), State.offerInward_port, State.lapseNest_port]
    by_cases closed : (s.port p).state = .closed <;> simp [closed, State.sent]
  · rw [e]
    exact State.raise_raised _ _ _

/-- Settles O56: the use of the window timer, then TBUSY. -/
theorem windowExpiriesActOnTheirNest : Obligations.WindowExpiriesActOnTheirNest := by
  refine fun s p => ⟨fun stopped => ?_, fun stopped => ?_, fun n runs nest => ⟨fun busy => ?_, fun r free onNest => ?_⟩,
    fun n runs nest => ?_⟩
  · have no : s.windowRuns p .collect = false := by
      rw [← Bool.not_eq_true, s.windowRuns_iff]
      exact fun ⟨n, h⟩ => stopped n h
    exact congrArg Host.Outcome.next (if_neg (by simp [no]))
  · have no : s.windowRuns p .returnWait = false := by
      rw [← Bool.not_eq_true, s.windowRuns_iff]
      exact fun ⟨n, h⟩ => stopped n h
    exact congrArg Host.Outcome.next (if_neg (by simp [no]))
  · refine congrArg Host.Outcome.next ((if_pos ⟨(s.windowRuns_iff p _).mpr ⟨n, runs⟩, nest⟩).trans ?_)
    rw [State.collectExpires, if_pos busy]
    rfl
  · refine ⟨s.lapse p, congrArg Host.Outcome.next ((if_pos ⟨(s.windowRuns_iff p _).mpr ⟨n, runs⟩, nest⟩).trans ?_),
      State.lapses_lapse onNest⟩
    rw [State.collectExpires, if_neg (by simp [free])]
  · let a := s.updPort p (fun r => { r with window := none, lateOpen := true })
    obtain ⟨hold, queue⟩ := a.offerInward_queue (collectOffer p none)
    have port : (s.returnWaitExpires p).port p = { s.port p with window := none, lateOpen := true } := by
      rw [State.returnWaitExpires, State.port, State.raise_ports, ← State.port, State.offerInward_port, s.port_updPort_same]
    refine ⟨s.returnWaitExpires p, a.entered (collectOffer p none) false hold, congrArg Host.Outcome.next (if_pos ⟨(s.windowRuns_iff p _).mpr ⟨n, runs⟩, nest⟩), ?_,
      by rw [port], by rw [port], by rw [State.toolNest, port]; exact nest, (State.raise_queue _ _ _).trans queue, rfl, rfl, rfl,
      rfl, rfl, rfl, rfl, State.raise_raised _ _ _⟩
    rw [State.returnWaitExpires, State.steady_raise, State.steady_offerInward]
    exact s.steady_updPort p _ rfl

end Sys2Proof.Machine
end

section
/-! PROOFS. ACK, MASK and the gap timer on the notice set of their link (R212 to R214). -/

namespace Sys2Proof.Machine

open Sys2Proof

variable {s t u : State}

theorem mem_allNoticeKinds (k : NoticeKind) : k ∈ allNoticeKinds := by cases k <;> decide

theorem any_allNoticeKinds (f : NoticeKind → Bool) : allNoticeKinds.any f = true ↔ ∃ k, f k = true := by
  rw [List.any_eq_true]
  exact ⟨fun ⟨k, _, h⟩ => ⟨k, h⟩, fun ⟨k, h⟩ => ⟨k, mem_allNoticeKinds k, h⟩⟩

theorem NoticeEntry.shown_iff (e : NoticeEntry) : e.shown = true ↔ e.pending = true ∧ e.masked = false := by
  simp [NoticeEntry.shown]

theorem execAck_either (s : State) (l : NoticeLink) (tag : Byte) (kinds : BitVec 16) :
    exec (.ack (noticeLinkOf l) tag (some kinds)) s
      = .next ((replyAck s l kinds).finish s (noticeLinkOf l) tag FrameKind.ack.byte) :=
  congrArg Host.Outcome.next (s.request_either l tag .ack kinds replyAck)

theorem execMask_either (s : State) (l : NoticeLink) (tag : Byte) (kinds : BitVec 16) :
    exec (.mask (noticeLinkOf l) tag (some kinds)) s
      = .next ((replyMask s l kinds).finish s (noticeLinkOf l) tag FrameKind.mask.byte) :=
  congrArg Host.Outcome.next (s.request_either l tag .mask kinds replyMask)

/-! ## The NOTICE frame (R213) -/

theorem State.sent_sendNotice (s : State) (l : NoticeLink) :
    (s.sendNotice l).sent (.request (noticeLinkOf l)) = s.sent (.request (noticeLinkOf l)) ++ [.notice (s.noticeItems l)] := by
  have tx : (s.sendNotice l).tx = (s.send (.request (noticeLinkOf l)) (.notice (s.noticeItems l))).tx := by
    cases l <;> rfl
  rw [State.sent, tx]
  exact s.sent_send_same _ _

theorem State.gap_sendNotice (s : State) (l : NoticeLink) : ((s.sendNotice l).noticeSet l).gap = some s.noticeGap := by
  obtain ⟨x, e, gap⟩ := s.sendNotice_eq l
  rw [e, State.noticeSet_setNoticeSet_same, gap]

theorem State.steady_sendNotice (s : State) (l : NoticeLink) : (s.sendNotice l).steady = s.steady := by
  obtain ⟨x, e, _⟩ := s.sendNotice_eq l
  have sent := s.steady_send (.request (noticeLinkOf l)) (.notice (s.noticeItems l))
  rw [e]
  generalize s.send (.request (noticeLinkOf l)) (.notice (s.noticeItems l)) = b at sent ⊢
  cases l <;> exact sent

theorem State.noticeItems_kinds (s : State) (l : NoticeLink) :
    (s.noticeItems l).map (·.kind) = allNoticeKinds.filter (fun k => ((s.noticeSet l).entry k).shown) := by
  unfold State.noticeItems
  induction allNoticeKinds with
  | nil => rfl
  | cons k ks ih =>
    rw [List.filterMap_cons, List.filter_cons, ← ih]
    cases shown : ((s.noticeSet l).entry k).shown <;> simp [shown]

theorem State.mem_noticeItems (s : State) (l : NoticeLink) {i : NoticeItem} (h : i ∈ s.noticeItems l) :
    i.detail = ((s.noticeSet l).entry i.kind).detail ∧ i.fresh = ((s.noticeSet l).entry i.kind).fresh
      ∧ i.conditionHolds = s.conditionHolds i.kind := by
  obtain ⟨k, _, e⟩ := List.mem_filterMap.mp h
  dsimp only at e
  split at e
  · cases e
    exact ⟨rfl, rfl, rfl⟩
  · cases e

/-! ## MASK (R212) -/

/-- The set of a link with its mask replaced, before a NOTICE goes out (R212). -/
def State.remasked (s : State) (l : NoticeLink) (kinds : BitVec 16) : State :=
  s.setNoticeSet l ((s.noticeSet l).mapKinds fun k e => e.remask (kinds.getLsbD k.number.val))

/-- A MASK uncovers a kind: it goes from masked to unmasked while pending (R212). -/
def State.Uncovers (s : State) (l : NoticeLink) (kinds : BitVec 16) : Prop :=
  ∃ k, ((s.noticeSet l).entry k).masked = true ∧ kinds.getLsbD k.number.val = false ∧ ((s.noticeSet l).entry k).pending = true

theorem State.maskKinds_of_uncovers {l : NoticeLink} {kinds : BitVec 16} (h : s.Uncovers l kinds) :
    s.maskKinds l kinds = (s.remasked l kinds).pushNotice l := by
  obtain ⟨k, masked, uncovered, pending⟩ := h
  refine if_pos ((any_allNoticeKinds _).mpr ⟨k, ?_⟩)
  simp only [masked, uncovered, pending, Bool.not_false, Bool.and_self]

theorem State.maskKinds_of_covered {l : NoticeLink} {kinds : BitVec 16} (h : ¬ s.Uncovers l kinds) :
    s.maskKinds l kinds = s.remasked l kinds := by
  refine if_neg fun any => h ?_
  obtain ⟨k, hk⟩ := (any_allNoticeKinds _).mp any
  simp only [Bool.and_eq_true, Bool.not_eq_true'] at hk
  obtain ⟨⟨masked, uncovered⟩, pending⟩ := hk
  exact ⟨k, masked, uncovered, pending⟩

theorem State.entry_remasked (s : State) (l : NoticeLink) (kinds : BitVec 16) (k : NoticeKind) :
    ((s.remasked l kinds).noticeSet l).entry k = ((s.noticeSet l).entry k).remask (kinds.getLsbD k.number.val) := by
  rw [State.remasked, State.noticeSet_setNoticeSet_same, NoticeSet.entry_mapKinds]

theorem State.gap_remasked (s : State) (l : NoticeLink) (kinds : BitVec 16) :
    ((s.remasked l kinds).noticeSet l).gap = (s.noticeSet l).gap := by
  rw [State.remasked, State.noticeSet_setNoticeSet_same, NoticeSet.mapKinds]

/-- MASK changes no entry's pending flag or detail and takes the mask given (R212). -/
theorem State.entry_maskKinds (s : State) (l : NoticeLink) (kinds : BitVec 16) (k : NoticeKind) :
    (((s.maskKinds l kinds).noticeSet l).entry k).masked = kinds.getLsbD k.number.val
      ∧ (((s.maskKinds l kinds).noticeSet l).entry k).pending = ((s.noticeSet l).entry k).pending
      ∧ (((s.maskKinds l kinds).noticeSet l).entry k).detail = ((s.noticeSet l).entry k).detail := by
  have old := s.entry_remasked l kinds k
  by_cases uncovers : s.Uncovers l kinds
  · rw [State.maskKinds_of_uncovers uncovers]
    rcases (s.remasked l kinds).entry_pushNotice l l k with same | cleared
    · rw [same, old]
      exact ⟨rfl, rfl, rfl⟩
    · rw [cleared, old]
      exact ⟨rfl, rfl, rfl⟩
  · rw [State.maskKinds_of_covered uncovers, old]
    exact ⟨rfl, rfl, rfl⟩

theorem State.noticeSet_maskKinds_other (s : State) {l j : NoticeLink} (kinds : BitVec 16) (h : j ≠ l) :
    (s.maskKinds l kinds).noticeSet j = s.noticeSet j := by
  have old : (s.remasked l kinds).noticeSet j = s.noticeSet j := State.noticeSet_setNoticeSet_other s h _
  by_cases uncovers : s.Uncovers l kinds
  · rw [State.maskKinds_of_uncovers uncovers]
    rcases (s.remasked l kinds).pushNotice_cases l with ⟨_, e⟩ | ⟨_, e⟩
    · rw [e, State.noticeSet_sendNotice_other _ h, old]
    · rw [e, old]
  · rw [State.maskKinds_of_covered uncovers, old]

/-- Settles O57: each request and the expiry on the entries of its link. -/
theorem noticeSetsFollowAckMaskAndGap : Obligations.NoticeSetsFollowAckMaskAndGap := by
  refine ⟨fun s => ?_, fun s l tag kinds => ?_, fun s l tag kinds => ?_, fun s l => ⟨fun idle => ?_, fun runs quiet => ?_,
    fun runs fresh => ?_⟩⟩
  · rw [State.attention, any_allNoticeKinds]
    simp only [NoticeEntry.shown_iff]
    rfl
  · refine ⟨s.ackKinds l kinds, by rw [execAck_either]; rfl, ?_, ?_, fun k => ?_⟩
    · rw [State.ackKinds, State.noticeSet_setNoticeSet_same]
    · rw [State.ackKinds, State.noticeSet_setNoticeSet_same, NoticeSet.mapKinds]
    · rw [State.ackKinds, State.noticeSet_setNoticeSet_same, NoticeSet.entry_mapKinds]
  · refine ⟨s.maskKinds l kinds, by rw [execMask_either]; rfl, s.entry_maskKinds l kinds,
      fun j other => s.noticeSet_maskKinds_other kinds other, fun uncovers iff => ?_⟩
    obtain rfl : uncovers = s.Uncovers l kinds := propext iff
    have gap := s.gap_remasked l kinds
    have tx : (s.remasked l kinds).tx = s.tx := by cases l <;> rfl
    refine ⟨fun uncovered idle => ?_, fun still => ?_⟩
    · rw [State.maskKinds_of_uncovers uncovered, State.pushNotice, gap, idle]
      refine ⟨?_, (s.remasked l kinds).noticeItems l, ?_⟩
      · rw [State.gap_sendNotice]
        cases l <;> rfl
      · rw [State.sent_sendNotice, State.sent, tx, State.sent]
    · have stays : s.maskKinds l kinds = s.remasked l kinds := by
        rcases still with covered | running
        · exact State.maskKinds_of_covered covered
        · by_cases uncovered : s.Uncovers l kinds
          · rw [State.maskKinds_of_uncovers uncovered]
            rcases (s.remasked l kinds).pushNotice_cases l with ⟨none_, _⟩ | ⟨_, e⟩
            · exact absurd (gap.symm.trans none_) running
            · exact e
          · exact State.maskKinds_of_covered uncovered
      rw [stays]
      refine ⟨gap, tx, fun k masked uncovered pending => ?_⟩
      rw [s.entry_remasked]
      rw [NoticeEntry.remask, masked, uncovered, pending]
      exact Bool.or_true _
  · exact congrArg Host.Outcome.next (if_neg (by simp [idle]))
  · refine congrArg Host.Outcome.next ((if_pos (Option.isSome_iff_ne_none.mpr runs)).trans (if_neg fun any => ?_))
    obtain ⟨k, hk⟩ := (any_allNoticeKinds _).mp any
    rw [Bool.and_eq_true] at hk
    obtain ⟨shown, fresh⟩ := hk
    rw [quiet k shown] at fresh
    cases fresh
  · obtain ⟨k, shown, fresh⟩ := fresh
    have sends : s.gapExpires l = s.sendNotice l :=
      if_pos ((any_allNoticeKinds _).mpr ⟨k, by rw [shown, fresh]; rfl⟩)
    refine ⟨s.sendNotice l, s.noticeItems l, congrArg Host.Outcome.next ((if_pos (Option.isSome_iff_ne_none.mpr runs)).trans sends),
      s.sent_sendNotice l, s.noticeItems_kinds l, fun i hi => s.mem_noticeItems l hi, s.gap_sendNotice l,
      fun k => s.entry_sendNotice l k, s.steady_sendNotice l, ?_, ?_⟩
    · obtain ⟨x, e, _⟩ := s.sendNotice_eq l
      rw [e, State.setNoticeSet_queue, State.send_queue]
    · obtain ⟨x, e, _⟩ := s.sendNotice_eq l
      rw [e, State.setNoticeSet_handler, State.send_handler]

end Sys2Proof.Machine
end

section
/-! PROOFS. The input lines: TBUSY (R58, R59, R61, R63, R153), PRES_T (R56, R58, R61, R62) and the presence sensors of the
fab nests (R22, R96, R102, R108, R109). -/

namespace Sys2Proof.Machine

open Sys2Proof

variable {s t u : State}

/-! ## Changes that only add to the queue -/

/-- From `s` to `t` the handler interface, the slots and the orders sent stand, and moves are only added at the queue's end. -/
def State.Extends (s t : State) : Prop := s.Ungranted t ∧ s.queue <+: t.queue

theorem State.Extends.refl (s : State) : s.Extends s := ⟨.refl s, List.prefix_rfl⟩

theorem State.Extends.trans (h : s.Extends t) (k : t.Extends u) : s.Extends u := ⟨h.1.trans k.1, h.2.trans k.2⟩

theorem State.Extends.of_queue (h : s.Ungranted t) (same : t.queue = s.queue) : s.Extends t :=
  ⟨h, by rw [same]⟩

theorem State.Extends.move? (h : s.Extends t) {q : Seq} {m : Move} (found : s.move? q = some m) : t.move? q = some m := by
  obtain ⟨_, xs, e⟩ := h
  rw [State.move?, ← e, List.find?_append]
  exact (congrArg (Option.or · _) found).trans rfl

theorem State.extends_updPort (s : State) (p : Port) (f : PortRec → PortRec) : s.Extends (s.updPort p f) :=
  .of_queue (s.ungranted_updPort p f) rfl

theorem State.extends_raise (s : State) (k : NoticeKind) (d : Detail) : s.Extends (s.raise k d) :=
  .of_queue (s.ungranted_raise k d) (s.raise_queue k d)

theorem State.extends_sendTool (s : State) (p : Port) (f : OutFrame) : s.Extends (s.sendTool p f) :=
  .of_queue (s.ungranted_sendTool p f) (s.sendTool_queue p f)

theorem State.extends_updRecord (s : State) (id : Ident) {f : Rec → Rec} (ids : ∀ r, (f r).id = r.id)
    (held : ∀ r : Rec, r.held = true → (f r).held = true) : s.Extends (s.updRecord id f) :=
  .of_queue (s.ungranted_updRecord id ids held) rfl

theorem State.extends_offerInward (s : State) (o : Offer) : s.Extends (s.offerInward o) := by
  obtain ⟨hold, queue⟩ := s.offerInward_queue o
  exact ⟨s.ungranted_offerInward o, _, queue.symm⟩

theorem State.extends_reclaimIfUnfit (s : State) (id : Ident) : s.Extends (s.reclaimIfUnfit id) := by
  rcases s.reclaimIfUnfit_cases id with e | ⟨r, p, _, _, _, _, e⟩ <;> rw [e]
  · exact .refl s
  · exact ((s.extends_updPort p _).trans (State.extends_offerInward _ _)).trans (State.extends_sendTool _ _ _)

theorem State.extends_makeDue (s : State) (id : Ident) : s.Extends (s.makeDue id) := by
  unfold State.makeDue
  exact (s.extends_updRecord id (f := fun r => { r with condition := .due }) (fun _ => rfl) (fun _ held => held)).trans
    (State.extends_reclaimIfUnfit _ id)

theorem State.extends_dueCheck (s : State) (f : Rec → Bool) : s.Extends (s.dueCheck f) := by
  have fold (rs : List Rec) (b : State) : b.Extends (rs.foldl (fun t r => t.makeDue r.id) b) := by
    induction rs generalizing b with
    | nil => exact .refl b
    | cons r rs ih => exact (b.extends_makeDue r.id).trans (ih _)
  rcases s.dueCheck_cases f with ⟨_, e⟩ | ⟨r, _, e⟩ | ⟨_, e⟩ <;> rw [e]
  · exact .refl s
  · exact (s.extends_makeDue _).trans (State.extends_raise _ _ _)
  · exact (fold _ s).trans (State.extends_raise _ _ _)

theorem State.extends_addLots (s : State) (id : Ident) (n : Nat) : s.Extends (s.addLots id n) :=
  (s.extends_updRecord id (f := Rec.addLots n) (fun _ => rfl) (fun _ held => held)).trans (State.extends_dueCheck _ _)

theorem State.extends_enterReturned (s : State) (p : Port) : s.Extends (s.enterReturned p) := by
  unfold State.enterReturned State.completeReturn State.startWindow
  have returned := s.extends_updPort p (fun r => { r with nest := .returned, lateOpen := false })
  split
  · dsimp only
    split
    · exact ((returned.trans (State.extends_updPort _ p _)).trans (State.extends_offerInward _ _)).trans
        (State.extends_addLots _ _ _)
    · exact (returned.trans (State.extends_updPort _ p _)).trans (State.extends_updPort _ p _)
  · exact returned.trans (State.extends_updPort _ p _)

theorem State.extends_reclaimNest (s : State) (p : Port) : s.Extends (s.reclaimNest p) := by
  unfold State.reclaimNest
  split
  · exact s.extends_offerInward _
  · exact .refl s

theorem State.extends_lapse (s : State) (p : Port) : s.Extends (s.lapse p) := by
  have lapsed : s.Extends ((s.lapseNest p).reclaimNest p) := (s.extends_updPort p _).trans (State.extends_reclaimNest _ p)
  unfold State.lapse
  dsimp only
  split
  · exact (lapsed.trans (State.extends_sendTool _ _ _)).trans (State.extends_raise _ _ _)
  · exact lapsed.trans (State.extends_raise _ _ _)

theorem State.extends_takeCompletes (s : State) (p : Port) : s.Extends (s.takeCompletes p) := by
  unfold State.takeCompletes
  split
  · next r _ =>
    exact ((s.extends_updPort p _).trans (State.extends_updRecord _ r.id
      (f := fun x => { x with location := .tool p, deliveries := satAdd x.deliveries 1 }) (fun _ => rfl) (fun _ held => held))).trans
      (State.extends_dueCheck _ _)
  · exact s.extends_updPort p _

theorem State.extends_releaseAtNest {p : Port} (h : s.toolNest p ≠ .outLapsed) : s.Extends (s.releaseAtNest p) := by
  unfold State.releaseAtNest
  split
  · exact s.extends_enterReturned p
  · exact s.extends_takeCompletes p
  · split
    · exact s.extends_lapse p
    · exact .refl s
  · next e _ => exact absurd e h
  · exact .refl s

/-! ## A pod returned (R68 to R70) -/

/-- A nest that becomes RETURNED with a usable pending return, or else with the return wait running (R68, R69, R70). -/
theorem State.turnsReturned_enterReturned (sound : s.CatalogueSound) (p : Port) : s.TurnsReturned (s.enterReturned p) p := by
  let a := s.updPort p (fun r => { r with nest := .returned, lateOpen := false })
  have port : a.port p = { s.port p with nest := .returned, lateOpen := false } := s.port_updPort_same p _
  have steady : a.steady = s.steady := s.steady_updPort p _ rfl
  have waits (b : State) (hb : b.port p = { s.port p with nest := .returned, lateOpen := false, pendingReturn := none })
      (e : s.enterReturned p = b.startWindow p .returnWait) (hs : b.steady = s.steady.updPort p (fun r => { r with pendingReturn := none }))
      (queue : b.queue = s.queue) (none_ : ∀ x, (s.port p).pendingReturn = some x → s.locatedAt x.id (.tool p) = false) :
      s.TurnsReturned (s.enterReturned p) p := by
    have window : (b.startWindow p .returnWait).port p
        = { b.port p with window := some ⟨.returnWait, windowLength (b.port p).settings.windowCount⟩ } := b.port_updPort_same p _
    refine ⟨by rw [e, State.toolNest, window, hb], by rw [e, window, hb], fun x pending here => ?_, fun _ => ⟨?_, ?_, ?_⟩⟩
    · rw [none_ x pending] at here
      cases here
    · rw [e]
      exact (b.steady_updPort p _ rfl).trans hs
    · rw [e]
      exact queue
    · rw [e, window, hb]
  cases pending : (s.port p).pendingReturn with
  | none =>
    have e : s.enterReturned p = a.startWindow p .returnWait := by rw [State.enterReturned, pending]
    refine waits a (by rw [port, ← pending]) e ?_ rfl (fun x some_ => by rw [pending] at some_; cases some_)
    refine steady.trans ?_
    have same : { (s.port p).steady with pendingReturn := none } = (s.port p).steady := by
      rw [PortRec.steady, pending]
    rw [← s.steady_port] at same
    rw [Steady.updPort, same, Vector.get_eq_getElem, Vector.set_getElem_self]
  | some x =>
    by_cases here : s.locatedAt x.id (.tool p) = true
    · have e : s.enterReturned p = a.completeReturn p x.id x.lots := by
        rw [State.enterReturned, pending]
        exact if_pos here
      have sound' : a.CatalogueSound := sound
      obtain ⟨m, queue, ⟨seq, kind, _, beneficiary, reticle, test, source, _⟩, port', _, steady'⟩ :=
        a.completeReturn_of_tool x.lots (p := p) (id := x.id) here
      rw [e]
      refine ⟨by rw [State.toolNest, port', port], by rw [port', port], fun y pending' _ => ?_, fun none_ => ?_⟩
      · obtain rfl : x = y := Option.some.inj (pending.symm.trans pending')
        refine ⟨?_, by rw [port'], m, queue, seq, kind, reticle, test, source, beneficiary⟩
        rw [steady' sound', steady]
        rfl
      · rw [none_ x pending] at here
        cases here
    · have e : s.enterReturned p = (a.updPort p (fun r => { r with pendingReturn := none })).startWindow p .returnWait := by
        rw [State.enterReturned, pending]
        exact if_neg here
      refine waits (a.updPort p (fun r => { r with pendingReturn := none })) ?_ e ?_ rfl fun y some_ => ?_
      · rw [a.port_updPort_same, port]
      · rw [a.steady_updPort_eq p (g := fun r => { r with pendingReturn := none }) rfl, steady]
      · rw [pending] at some_
        cases some_
        exact Bool.not_eq_true _ ▸ here

/-! ## TBUSY (R58, R59, R61, R63, R153) -/

/-- A PLACE sent as TBUSY is released touches the handler interface and its transmitter alone. -/
theorem State.releaseCarried_eq (s : State) (p : Port) : ∃ h tx, s.releaseCarried p = { s with handler := h, tx := tx }
    ∧ ∀ l : ReqLink, (s.releaseCarried p).sent (.request l) = s.sent (.request l) := by
  unfold State.releaseCarried
  split
  · split
    · split
      · refine ⟨_, _, rfl, fun l => ?_⟩
        exact s.sent_send_other (by simp) _
      · exact ⟨s.handler, s.tx, rfl, fun _ => rfl⟩
    · exact ⟨s.handler, s.tx, rfl, fun _ => rfl⟩
  · exact ⟨s.handler, s.tx, rfl, fun _ => rfl⟩

theorem State.releaseCarried_of_carrying {p : Port} {m : Move} {x : Position} (carrying : s.handler.state = .carrying)
    (moves : s.execMove = some m) (own : m.beneficiary = some p) (target : m.target = .pos x) :
    s.releaseCarried p = s.sendPlace x .placing := by
  rw [State.releaseCarried, moves]
  simp only [carrying, own, target, and_self, if_true]
  rfl

theorem State.releaseCarried_idle {p : Port} (h : s.handler.state ≠ .carrying) : s.releaseCarried p = s := by
  unfold State.releaseCarried
  split
  · exact if_neg fun carrying => h carrying.1
  · rfl

theorem State.clearNest_port (s : State) (p : Port) :
    (s.clearNest p).port p = { s.port p with nest := .empty, window := none, lapseDeferred := false } :=
  s.port_updPort_same p _

theorem State.pins_offerInward (s : State) (o : Offer) : (s.offerInward o).pins = s.pins :=
  congrArg Steady.pins (s.steady_offerInward o)

theorem State.pins_dueCheck (s : State) (f : Rec → Bool) : (s.dueCheck f).pins = s.pins :=
  congrArg Steady.pins ((s.steady_dueCheck_foldl f).trans (State.steady_makeDue_foldl _ s))

theorem State.pins_enterReturned (s : State) (p : Port) : (s.enterReturned p).pins = s.pins := by
  unfold State.enterReturned State.completeReturn State.addLots
  split
  · dsimp only
    split
    · exact (State.pins_dueCheck _ _).trans (State.pins_offerInward _ _)
    · rfl
  · rfl

theorem State.pins_unsanctionedTake (s : State) (p : Port) : (s.unsanctionedTake p).pins = s.pins := by
  obtain ⟨q, c, x, e⟩ := (s.clearNest p).withdrawWhere_quiet (fun m => m.kind = .reclaim && m.source = .nest (.t p))
  unfold State.unsanctionedTake State.raiseUnsanctioned
  simp only [e]
  split
  · rw [State.raise_pins]
    rfl
  · rw [State.raise_pins]
    rfl

theorem State.pins_lapse (s : State) (p : Port) : (s.lapse p).pins = s.pins := by
  have lapsed : ((s.lapseNest p).reclaimNest p).pins = s.pins := by
    unfold State.reclaimNest
    split
    · exact State.pins_offerInward _ _
    · rfl
  unfold State.lapse
  dsimp only
  rw [State.raise_pins]
  split
  · rw [State.sendTool_pins, lapsed]
  · exact lapsed

/-- What the release of TBUSY decides at the nest changes no line. -/
theorem State.pins_releaseAtNest (s : State) (p : Port) : (s.releaseAtNest p).pins = s.pins := by
  unfold State.releaseAtNest
  split
  · exact s.pins_enterReturned p
  · unfold State.takeCompletes
    split
    · exact State.pins_dueCheck _ _
    · rfl
  · split
    · exact s.pins_lapse p
    · rfl
  · exact s.pins_unsanctionedTake p
  · rfl

/-- A complete take of a record counts one delivery, checks the record and leaves the nest EMPTY (R61). -/
theorem State.takeCompletes_spec (sound : s.CatalogueSound) {p : Port} {r : Rec} (onNest : s.recordAt (.nest (.t p)) = some r) :
    (s.takeCompletes p).steady = s.steady.updRecord r.id (fun x =>
        ({ x with location := .tool p, deliveries := satAdd x.deliveries 1 }).checked (s.limitsOf x))
      ∧ (s.takeCompletes p).port p = { s.port p with nest := .empty, window := none, lapseDeferred := false }
      ∧ (s.takeCompletes p).queue = s.queue := by
  let f : Rec → Rec := fun x => { x with location := .tool p, deliveries := satAdd x.deliveries 1 }
  have e : s.takeCompletes p = ((s.clearNest p).updRecord r.id f).dueCheck (fun x => x.id = r.id) := by
    have onNest' : s.onNest p = some r := onNest
    rw [State.takeCompletes, onNest']
  have away : ∀ q, ((s.clearNest p).updRecord r.id f).locatedAt r.id (.nest (.t q)) = false := fun q => by
    rw [State.locatedAt, State.record_updRecord_same _ r.id f fun _ => rfl]
    cases (s.clearNest p).record r.id with
    | none => rfl
    | some x => rfl
  obtain ⟨queue, _, ports, _⟩ := State.movesStand_dueCheck away
  refine ⟨?_, ?_, ?_⟩
  · rw [e]
    exact (State.steady_updRecord_dueCheck (s := s.clearNest p) sound r.id (f := f) (fun _ => rfl) (fun _ => rfl)).trans
      (congrArg (fun z => Steady.updRecord z r.id _) (s.steady_clearNest p))
  · rw [e, State.port, ports]
    exact (s.clearNest_port p)
  · rw [e, queue]
    rfl

/-- Settles O58: the edge that changes the level, then the nest, then the move carried. -/
theorem tbusyStartsAndDecidesHandoffs : Obligations.TbusyStartsAndDecidesHandoffs := by
  refine ⟨fun s p => ⟨fun busy => ?_, fun free violation iff => ⟨fun no => ?_, fun yes => ?_⟩⟩,
    fun s p sound => ⟨fun free => ?_, fun busy => ⟨?_, fun notCarrying quiet => ?_⟩⟩⟩
  · exact congrArg Host.Outcome.next (if_pos busy)
  · have allowed : s.violates p = false := by
      rw [← Bool.not_eq_true]
      refine fun h => no (iff.mpr ?_)
      simpa [State.violates, and_assoc] using h
    refine congrArg Host.Outcome.next ((if_neg (by simp [free])).trans ?_)
    rw [State.busyAsserted, allowed]
    rfl
  · have violates : s.violates p = true := by simpa [State.violates, and_assoc] using iff.mp yes
    have e : s.busyAsserted p = (s.setTbusy p true).raiseUnsanctioned p (s.nestIdent p) (some 1) := if_pos violates
    refine ⟨s.busyAsserted p, s.nestIdent p, congrArg Host.Outcome.next (if_neg (by simp [free])), ?_, ?_, ?_, ?_, ?_, ?_,
      fun r onNest => ?_⟩
    · rw [e, State.tbusy, State.raiseUnsanctioned, State.raise_pins]
      exact Vector.getElem_set_self p.isLt
    · rw [e, State.raiseUnsanctioned, State.steady_raise]
    · rw [e, State.raiseUnsanctioned, State.raise_queue]
      rfl
    · rw [e, State.raiseUnsanctioned, State.raise_handler]
      rfl
    · rw [e, State.raiseUnsanctioned, State.raise_ports]
      rfl
    · rw [e]
      exact State.raise_raised _ _ _
    · have onNest' : s.onNest p = some r := onNest
      rw [State.nestIdent, onNest']
  · exact congrArg Host.Outcome.next (if_neg (by simp [free]))
  · have sound' : (s.setTbusy p false).CatalogueSound := sound
    obtain ⟨h, tx, e, sent⟩ := ((s.setTbusy p false).releaseAtNest p).releaseCarried_eq p
    refine ⟨((s.setTbusy p false).releaseAtNest p).releaseCarried p, congrArg Host.Outcome.next (if_pos busy), ?_,
      fun nest pod => ?_, fun r nest gone onNest => ?_, fun r nest pod deferred onNest => ?_,
      fun m f x carrying nest exec_ moves found own target => ?_⟩
    · rw [e]
      show ((s.setTbusy p false).releaseAtNest p).pins.tbusy.get p = false
      rw [State.pins_releaseAtNest]
      exact Vector.getElem_set_self p.isLt
    · have decided : (s.setTbusy p false).releaseAtNest p = (s.setTbusy p false).enterReturned p := by
        have nest' : (s.setTbusy p false).toolNest p = .empty := nest
        have pod' : (s.setTbusy p false).presT p = true := pod
        rw [State.releaseAtNest, nest', pod']
      have turned := State.turnsReturned_enterReturned sound' p
      rw [e, decided]
      exact turned
    · have decided : (s.setTbusy p false).releaseAtNest p = (s.setTbusy p false).takeCompletes p := by
        have nest' : (s.setTbusy p false).toolNest p = .outWait := nest
        have gone' : (s.setTbusy p false).presT p = false := gone
        rw [State.releaseAtNest, nest', gone']
      obtain ⟨steady, port, queue⟩ := State.takeCompletes_spec sound' (p := p) (r := r) onNest
      rw [e, decided]
      have nest_ : ((s.setTbusy p false).takeCompletes p).toolNest p = .empty := by rw [State.toolNest, port]
      exact ⟨steady, nest_, by
        have low : ((s.setTbusy p false).takeCompletes p).prdy p = false := by rw [State.prdy, nest_]; rfl
        exact low, congrArg PortRec.window port, congrArg PortRec.lapseDeferred port, queue⟩
    · have decided : (s.setTbusy p false).releaseAtNest p = (s.setTbusy p false).lapse p := by
        have nest' : (s.setTbusy p false).toolNest p = .outWait := nest
        have pod' : (s.setTbusy p false).presT p = true := pod
        rw [State.releaseAtNest, nest', pod']
        exact if_pos deferred
      obtain ⟨steady, nest_, window, deferred_, moves, told, raised⟩ :=
        State.lapses_lapse (s := s.setTbusy p false) (p := p) (r := r) onNest
      refine ⟨?_, ?_, ?_, ?_, ?_, ?_, ?_⟩
      · rw [e, decided]; exact steady
      · rw [e, decided]; exact nest_
      · rw [e, decided]; exact window
      · rw [e, decided]; exact deferred_
      · rw [e, decided]; exact moves
      · rw [sent, decided]; exact told
      · rw [e, decided]; exact raised
    · have extends_ : (s.setTbusy p false).Extends ((s.setTbusy p false).releaseAtNest p) := State.extends_releaseAtNest nest
      obtain ⟨handler, _, orders, _⟩ := extends_.1
      have handler' : ((s.setTbusy p false).releaseAtNest p).handler = s.handler := handler
      have found' : ((s.setTbusy p false).releaseAtNest p).move? m.seq = some m := extends_.move? found
      have carried : ((s.setTbusy p false).releaseAtNest p).execMove = some m := by
        rw [State.execMove, handler', exec_]
        simp only [moves, Option.bind_some, found']
      have placed := State.releaseCarried_of_carrying (by rw [handler', carrying]) carried own target
      refine ⟨?_, ?_⟩
      · rw [placed, State.sendPlace, State.order_handler, handler', exec_]
        rfl
      · rw [placed, State.sendPlace, State.sent_order, handler', orders]
        rfl
  · have decided : (s.setTbusy p false).releaseAtNest p = s.setTbusy p false := by
      have nest' : (s.setTbusy p false).toolNest p = s.toolNest p := rfl
      have pod' : (s.setTbusy p false).presT p = s.presT p := rfl
      rw [State.releaseAtNest, nest', pod']
      rcases quiet with ⟨nest, pod⟩ | ⟨nest, pod, deferred⟩ | ⟨nest, pod⟩ | nest | nest | nest | nest
      · rw [nest, pod]
      · rw [nest, pod]
        have deferred' : ((s.setTbusy p false).port p).lapseDeferred = false := deferred
        simp only [deferred', Bool.false_eq_true, if_false]
      · rw [nest, pod]
      all_goals rw [nest]
    have idle : ((s.setTbusy p false).releaseAtNest p).releaseCarried p = s.setTbusy p false := by
      rw [decided]
      exact State.releaseCarried_idle notCarrying
    exact congrArg Host.Outcome.next ((if_pos busy).trans (by rw [idle]))

end Sys2Proof.Machine
end

section
/-! PROOFS. The presence sensors: PRES_T at the tool nests (R56, R58, R61, R62), PRES_BI, PRES_BO and PRES_IN at the fab nests
(R22, R96, R102, R108, R109). -/

namespace Sys2Proof.Machine

open Sys2Proof

variable {s t u : State}

/-! ## PRES_T -/

/-- What an unsanctioned take leaves: the record at the tool in QUARANTINE, no delivery counted, the nest EMPTY and its
WAITING RECLAIM withdrawn (R62). -/
theorem State.unsanctionedTake_spec {p : Port} {r : Rec} (onNest : s.recordAt (.nest (.t p)) = some r) :
    (s.unsanctionedTake p).steady = s.steady.updRecord r.id (fun x => { x with location := .tool p, condition := .quarantine })
      ∧ (s.unsanctionedTake p).port p = { s.port p with nest := .empty, window := none, lapseDeferred := false }
      ∧ (∀ m ∈ (s.unsanctionedTake p).queue, m.kind = .reclaim → m.source = .nest (.t p) → m.state ≠ .waiting)
      ∧ (s.unsanctionedTake p).Raised .unsanctioned ⟨some r.id, none, some (.nest (.t p)), none, none⟩ := by
  let f : Move → Bool := fun m => m.kind = .reclaim && m.source = .nest (.t p)
  have e : s.unsanctionedTake p = (((s.clearNest p).withdrawWhere f none).updRecord r.id
      (fun x => { x with location := .tool p, condition := .quarantine })).raiseUnsanctioned p (some r.id) none := by
    have onNest' : s.onNest p = some r := onNest
    unfold State.unsanctionedTake
    simp only [onNest']
    rfl
  have steady : ((s.clearNest p).withdrawWhere f none).steady = s.steady :=
    (State.steady_withdrawWhere _ (fun m named scan => by simp [f, scan] at named) none).trans (s.steady_clearNest p)
  obtain ⟨q, c, x, quiet⟩ := (s.clearNest p).withdrawWhere_quiet f
  rw [e, State.raiseUnsanctioned]
  refine ⟨?_, ?_, fun m hm kind source waits => ?_, State.raise_raised _ _ _⟩
  · rw [State.steady_raise, ← steady]
    exact State.steady_updRecord_eq _ r.id fun _ => rfl
  · rw [State.port, State.raise_ports, State.updRecord_ports, quiet]
    exact s.clearNest_port p
  · rw [State.raise_queue] at hm
    have spared := State.withdrawWhere_waiting (s := s.clearNest p) (f := f) (r := none) hm waits
    simp [f, kind, source] at spared

/-- Settles O59: the edge that changes the level, then the nest. -/
theorem toolPresenceChangesNest : Obligations.ToolPresenceChangesNest := by
  refine fun s p sound => ⟨fun full => ?_, fun empty => ?_, fun empty => ⟨fun stays => ?_, fun free put => ?_⟩,
    fun full => ⟨fun stays => ?_, fun blocked => ?_, fun r taken onNest => ?_, fun returned => ?_⟩⟩
  · exact congrArg Host.Outcome.next (if_pos full)
  · exact congrArg Host.Outcome.next (if_neg (by simp [empty]))
  · have level : s.tFull p = s.setPresT p true := by
      unfold State.tFull
      rcases stays with busy | ⟨notEmpty, notInbound⟩
      · exact if_pos busy
      · dsimp only
        split
        · rfl
        · split
          · next nest => exact absurd nest notEmpty
          · next nest => exact absurd nest notInbound
          · rfl
    exact congrArg Host.Outcome.next ((if_neg (by simp [empty])).trans (by rw [level]))
  · refine ⟨s.tFull p, congrArg Host.Outcome.next (if_neg (by simp [empty])), ?_⟩
    rcases put with nest | nest
    · have put_ : s.tFull p = ((s.setPresT p true).enterReturned p).raiseUnsanctioned p none none := by
        unfold State.tFull
        dsimp only
        rw [free, nest]
        rfl
      obtain ⟨nest_, late, paired, waits⟩ :=
        State.turnsReturned_enterReturned (s := s.setPresT p true) sound p
      rw [put_]
      refine ⟨State.raise_raised _ _ _, fun _ => ⟨?_, ?_, fun x pending here => ?_, fun none_ => ?_⟩, fun inbound => ?_⟩
      · rw [State.toolNest, State.port, State.raiseUnsanctioned, State.raise_ports]; exact nest_
      · rw [State.port, State.raiseUnsanctioned, State.raise_ports]; exact late
      · obtain ⟨steady, window, moves⟩ := paired x pending here
        refine ⟨?_, ?_, ?_⟩
        · rw [State.raiseUnsanctioned, State.steady_raise]; exact steady
        · rw [State.port, State.raiseUnsanctioned, State.raise_ports]; exact window
        · rw [State.raiseUnsanctioned, State.raise_queue]; exact moves
      · obtain ⟨steady, queue, window⟩ := waits none_
        refine ⟨?_, ?_, ?_⟩
        · rw [State.raiseUnsanctioned, State.steady_raise]; exact steady
        · rw [State.raiseUnsanctioned, State.raise_queue]; exact queue
        · rw [State.port, State.raiseUnsanctioned, State.raise_ports]; exact window
      · rw [nest] at inbound
        cases inbound
    · have noted : s.tFull p = (s.setPresT p true).raiseUnsanctioned p none none := by
        unfold State.tFull
        dsimp only
        rw [free, nest]
        rfl
      rw [noted]
      refine ⟨State.raise_raised _ _ _, fun no => ?_, fun _ => ⟨?_, ?_, ?_⟩⟩
      · rw [nest] at no
        cases no
      · rw [State.toolNest, State.port, State.raiseUnsanctioned, State.raise_ports]; exact nest
      · rw [State.raiseUnsanctioned, State.raise_queue]; rfl
      · rw [State.raiseUnsanctioned, State.steady_raise]
  · have level : s.tEmpty p = s.setPresT p false := by
      unfold State.tEmpty
      dsimp only
      rcases stays with nest | nest | nest | ⟨nest, busy⟩
      · rw [nest]
      · rw [nest]
      · rw [nest]
      · rw [nest]
        exact if_pos busy
    exact congrArg Host.Outcome.next ((if_pos full).trans (by rw [level]))
  · have cleared : s.tEmpty p = (s.setPresT p false).setToolNest p .empty := by
      unfold State.tEmpty
      dsimp only
      rw [blocked]
    exact congrArg Host.Outcome.next ((if_pos full).trans (by rw [cleared]))
  · have take : s.tEmpty p = (s.setPresT p false).unsanctionedTake p := by
      unfold State.tEmpty
      dsimp only
      rcases taken with nest | ⟨nest, free⟩
      · rw [nest]
      · rw [nest, free]
        rfl
    obtain ⟨steady, port, reclaim, raised⟩ := State.unsanctionedTake_spec (s := s.setPresT p false) (p := p) (r := r) onNest
    refine ⟨s.tEmpty p, congrArg Host.Outcome.next (if_pos full), ?_⟩
    rw [take]
    exact ⟨steady, congrArg PortRec.nest port, congrArg PortRec.window port, congrArg PortRec.lapseDeferred port, reclaim, raised⟩
  · have lifted : s.tEmpty p = (s.setPresT p false).liftedBack p := by
      unfold State.tEmpty
      dsimp only
      rw [returned]
    let f : Move → Bool := fun m => m.kind = .collect && m.source = .nest (.t p)
    obtain ⟨q, c, x, quiet⟩ := ((s.setPresT p false).clearNest p).withdrawWhere_quiet f
    have steady : (((s.setPresT p false).clearNest p).withdrawWhere f none).steady = (s.setPresT p false).steady :=
      (State.steady_withdrawWhere _ (fun m named scan => by simp [f, scan] at named) none).trans (State.steady_clearNest _ p)
    have port : ((s.tEmpty p).port p) = { (s.setPresT p false).port p with nest := .empty, window := none, lapseDeferred := false } := by
      rw [lifted, State.liftedBack, State.raiseUnsanctioned, State.port, State.raise_ports]
      show ((((s.setPresT p false).clearNest p).withdrawWhere f none).ports.get p) = _
      rw [quiet]
      exact State.clearNest_port _ p
    refine ⟨s.tEmpty p, congrArg Host.Outcome.next (if_pos full), ?_, by rw [State.toolNest, port], by rw [port],
      fun m hm kind source waits => ?_, ?_⟩
    · rw [lifted, State.liftedBack, State.raiseUnsanctioned, State.steady_raise]
      exact steady
    · rw [lifted, State.liftedBack, State.raiseUnsanctioned, State.raise_queue] at hm
      have spared := State.withdrawWhere_waiting (s := (s.setPresT p false).clearNest p) (f := f) (r := none) hm waits
      simp [f, kind, source] at spared
    · rw [lifted]
      exact State.raise_raised _ _ _

/-! ## The fab nests -/

/-- The WAITING moves of a kind withdrawn without a frame, in a change of nests and lines alone (R96, R109). -/
theorem State.withdrawWhere_kind_spec (s : State) {k : MoveKind} (noScan : k ≠ .scan) :
    (s.withdrawWhere (fun m => m.kind = k) none).steady = s.steady
      ∧ (s.withdrawWhere (fun m => m.kind = k) none).tx = s.tx
      ∧ (s.withdrawWhere (fun m => m.kind = k) none).bi = s.bi ∧ (s.withdrawWhere (fun m => m.kind = k) none).inn = s.inn
      ∧ ∀ m ∈ (s.withdrawWhere (fun m => m.kind = k) none).queue, m.kind = k → m.state ≠ .waiting := by
  obtain ⟨q, c, x, quiet⟩ := s.withdrawWhere_quiet (fun m => m.kind = k)
  refine ⟨s.steady_withdrawWhere (fun m named scan => noScan ((of_decide_eq_true named).symm.trans scan)) none, by rw [quiet], by rw [quiet],
    by rw [quiet], fun m hm kind waits => ?_⟩
  have spared := State.withdrawWhere_waiting (f := fun m => decide (m.kind = k)) hm waits
  simp [kind] at spared

/-- The admission of a fab nest's store move: as offered, with the nest as it was. -/
theorem State.offerInward_fab (s : State) (o : Offer) :
    (s.offerInward o).steady = s.steady ∧ (s.offerInward o).bi = s.bi ∧ (s.offerInward o).inn = s.inn
      ∧ ∃ m, (s.offerInward o).queue = s.queue ++ [m] ∧ o.Becomes m s.nextSeq s.clock := by
  obtain ⟨hold, queue⟩ := s.offerInward_queue o
  refine ⟨s.steady_offerInward o, ?_, ?_, _, queue, s.entered_becomes o hold⟩
  · rcases s.offerInward_cases o with ⟨_, e⟩ | ⟨n, _, e⟩ <;> simp [e]
  · rcases s.offerInward_cases o with ⟨_, e⟩ | ⟨n, _, e⟩ <;> simp [e]

theorem State.not_executing {k : MoveKind} (h : ∀ m ∈ s.queue, ¬(m.kind = k ∧ m.state = .executing)) : s.executing k = false := by
  rw [← Bool.not_eq_true, s.executing_iff]
  exact fun ⟨m, hm, runs⟩ => h m hm runs

/-- PRES_BI (R96). -/
theorem biFollowsPresence (s full empty : State) (hf : full = { s with pins := { s.pins with presBi := true } })
    (he : empty = { s with pins := { s.pins with presBi := false } }) :
    (s.pins.presBi = true → exec .presBiFull s = .next s)
    ∧ (s.pins.presBi = false → exec .presBiEmpty s = .next s)
    ∧ (s.pins.presBi = false →
      (s.bi ≠ .empty → exec .presBiFull s = .next (full.settle s noTouch))
      ∧ (s.bi = .empty → (∃ m ∈ s.queue, m.kind = .stockIn ∧ m.state = .executing) →
          exec .presBiFull s = .next (State.settle { full with bi := .arrived } s noTouch))
      ∧ (s.bi = .empty → (∀ m ∈ s.queue, ¬(m.kind = .stockIn ∧ m.state = .executing)) →
          ∃ (u : State) (m : Move), exec .presBiFull s = .next (u.settle s noTouch)
            ∧ u.steady = full.steady ∧ u.bi = .arrived ∧ u.queue = s.queue ++ [m] ∧ m.seq = s.nextSeq
            ∧ m.kind = .stockIn ∧ m.requester = .internal ∧ m.beneficiary = none ∧ m.reticle = none
            ∧ m.source = .nest .bi ∧ m.target = .toSelect ∧ m.state = .waiting))
    ∧ (s.pins.presBi = true →
      (s.bi = .empty ∨ s.bi = .outbound → exec .presBiEmpty s = .next (empty.settle s noTouch))
      ∧ (s.bi = .blocked → exec .presBiEmpty s = .next (State.settle { empty with bi := .empty } s noTouch))
      ∧ (s.bi = .arrived → ∃ u : State, exec .presBiEmpty s = .next (u.settle s noTouch)
          ∧ u.steady = empty.steady ∧ u.bi = .empty ∧ u.tx = s.tx
          ∧ ∀ m ∈ u.queue, m.kind = .stockIn → m.state ≠ .waiting)) := by
  have fills {x : State} (level : s.pins.presBi = false) (e : s.biFull = x) : exec .presBiFull s = .next (x.settle s noTouch) := by
    subst e
    exact congrArg Host.Outcome.next (if_neg (by simp [level]))
  have empties {x : State} (level : s.pins.presBi = true) (e : s.biEmpty = x) : exec .presBiEmpty s = .next (x.settle s noTouch) := by
    subst e
    exact congrArg Host.Outcome.next (if_pos level)
  refine ⟨fun level => congrArg Host.Outcome.next (if_pos level), fun level => congrArg Host.Outcome.next (if_neg (by simp [level])),
    fun level => ⟨fun other => fills level ?_, fun nest runs => fills level ?_, fun nest none_ => ?_⟩,
    fun level => ⟨fun quiet => empties level ?_, fun nest => empties level ?_, fun nest => ?_⟩⟩
  · rw [hf]
    unfold State.biFull
    dsimp only
    split
    · next e => exact absurd e other
    · rfl
  · rw [hf]
    unfold State.biFull
    rw [nest]
    exact if_pos ((s.executing_iff .stockIn).mpr runs)
  · have admitted : s.biFull = State.offerInward { full with bi := .arrived } stockInOffer := by
      rw [hf]
      unfold State.biFull
      rw [nest]
      have quiet : s.executing .stockIn = false := State.not_executing none_
      exact if_neg (Bool.eq_false_iff.mp quiet)
    obtain ⟨steady, bi, _, m, queue, seq, kind, requester, beneficiary, reticle, _, source, target, _, _, waits, _⟩ :=
      State.offerInward_fab { full with bi := .arrived } stockInOffer
    refine ⟨_, m, fills level admitted, steady, bi, ?_, ?_, kind, requester, beneficiary, reticle, source, target, waits⟩
    · rw [queue, hf]
    · rw [seq, hf]
  · rw [he]
    unfold State.biEmpty
    rcases quiet with nest | nest <;> rw [nest]
  · rw [he]
    unfold State.biEmpty
    rw [nest]
  · have gone : s.biEmpty = State.withdrawWhere { empty with bi := .empty } (fun m => m.kind = .stockIn) none := by
      rw [he]
      unfold State.biEmpty
      rw [nest]
    obtain ⟨steady, tx, bi, _, waits⟩ := State.withdrawWhere_kind_spec { empty with bi := .empty } (k := .stockIn) (by decide)
    exact ⟨_, empties level gone, steady, bi, tx.trans (by rw [he]), waits⟩

/-- PRES_BO (R22, R102). -/
theorem boFollowsPresence (s full empty : State) (hf : full = { s with pins := { s.pins with presBo := true } })
    (he : empty = { s with pins := { s.pins with presBo := false } }) :
    (s.pins.presBo = true → exec .presBoFull s = .next s)
    ∧ (s.pins.presBo = false → exec .presBoEmpty s = .next s)
    ∧ (s.pins.presBo = false →
      (s.bo ≠ .empty → exec .presBoFull s = .next (full.settle s noTouch))
      ∧ (s.bo = .empty → ∃ u : State, exec .presBoFull s = .next (u.settle s noTouch)
          ∧ u.steady = full.steady ∧ u.bo = .blocked ∧ u.queue = s.queue ∧ u.slots = s.slots
          ∧ u.Raised .nestBlocked ⟨none, none, some (.nest .bo), none, none⟩))
    ∧ (s.pins.presBo = true →
      (s.bo = .empty ∨ s.bo = .inbound → exec .presBoEmpty s = .next (empty.settle s noTouch))
      ∧ (s.bo = .blocked → exec .presBoEmpty s = .next (State.settle { empty with bo := .empty } s noTouch))
      ∧ (∀ r, s.bo = .awayWait → s.recordAt (.nest .bo) = some r →
        ∃ u : State, exec .presBoEmpty s = .next (u.settle s noTouch)
          ∧ u.catalogue = s.catalogue.filter (fun x => !decide (x.id = r.id)) ∧ u.record r.id = none
          ∧ u.bo = .empty ∧ u.bordy = false ∧ u.slots = s.slots ∧ u.queue = s.queue ∧ u.pins = empty.pins
          ∧ u.Raised .exported ⟨some r.id, none, some (.nest .bo), none, none⟩)) := by
  have fills {x : State} (level : s.pins.presBo = false) (e : s.boFull = x) : exec .presBoFull s = .next (x.settle s noTouch) := by
    subst e
    exact congrArg Host.Outcome.next (if_neg (by simp [level]))
  have empties {x : State} (level : s.pins.presBo = true) (e : s.boEmpty = x) : exec .presBoEmpty s = .next (x.settle s noTouch) := by
    subst e
    exact congrArg Host.Outcome.next (if_pos level)
  refine ⟨fun level => congrArg Host.Outcome.next (if_pos level), fun level => congrArg Host.Outcome.next (if_neg (by simp [level])),
    fun level => ⟨fun other => fills level ?_, fun nest => ?_⟩,
    fun level => ⟨fun quiet => empties level ?_, fun nest => empties level ?_, fun r nest onNest => ?_⟩⟩
  · rw [hf]
    unfold State.boFull
    dsimp only
    split
    · next e => exact absurd e other
    · rfl
  · have blocks : s.boFull = State.raise { full with bo := .blocked } .nestBlocked ⟨none, none, some (.nest .bo), none, none⟩ := by
      rw [hf]
      unfold State.boFull
      rw [nest]
      rfl
    refine ⟨_, fills level blocks, State.steady_raise _ _ _, State.raise_bo _ _ _, ?_, ?_, State.raise_raised _ _ _⟩
    · rw [State.raise_queue, hf]
    · rw [State.raise_slots, hf]
  · rw [he]
    unfold State.boEmpty
    rcases quiet with nest | nest <;> rw [nest]
  · rw [he]
    unfold State.boEmpty
    rw [nest]
  · have taken : s.boEmpty = State.raise
        { empty with bo := .empty, catalogue := s.catalogue.filter (fun x => !decide (x.id = r.id)) }
        .exported ⟨some r.id, none, some (.nest .bo), none, none⟩ := by
      have onNest' : empty.recordAt (.nest .bo) = some r := by
        rw [he]
        exact onNest
      have e : s.boEmpty = empty.exported := by
        unfold State.boEmpty
        split
        · rw [he]
        · next other => rw [nest] at other; cases other
        · next other _ => exact absurd nest other
      rw [e, State.exported, onNest', he]
      simp only [Option.map_some, Option.some.injEq]
      rfl
    refine ⟨_, empties level taken, State.raise_catalogue _ _ _, ?_, State.raise_bo _ _ _, ?_, ?_, ?_, State.raise_pins _ _ _,
      State.raise_raised _ _ _⟩
    · rw [State.record, State.raise_catalogue, List.find?_eq_none]
      intro x hx
      simpa using (List.mem_filter.mp hx).2
    · rw [State.bordy, State.raise_bo]
      rfl
    · rw [State.raise_slots, he]
    · rw [State.raise_queue, he]

/-- PRES_IN (R108, R109). -/
theorem inFollowsPresence (s full empty : State) (hf : full = { s with pins := { s.pins with presIn := true } })
    (he : empty = { s with pins := { s.pins with presIn := false } }) :
    (s.pins.presIn = true → exec .presInFull s = .next s)
    ∧ (s.pins.presIn = false → exec .presInEmpty s = .next s)
    ∧ (s.pins.presIn = false →
      (s.inn ≠ .empty → exec .presInFull s = .next (full.settle s noTouch))
      ∧ (s.inn = .empty → (∃ m ∈ s.queue, m.kind = .reshelve ∧ m.state = .executing) →
          exec .presInFull s = .next (State.settle { full with inn := .arrived } s noTouch))
      ∧ (s.inn = .empty → (∀ m ∈ s.queue, ¬(m.kind = .reshelve ∧ m.state = .executing)) →
          ∃ (u : State) (m : Move), exec .presInFull s = .next (u.settle s noTouch)
            ∧ u.steady = full.steady ∧ u.inn = .arrived ∧ u.queue = s.queue ++ [m] ∧ m.seq = s.nextSeq
            ∧ m.kind = .reshelve ∧ m.requester = .internal ∧ m.beneficiary = none ∧ m.reticle = none
            ∧ m.pickTest = .anyAtInspection ∧ m.source = .nest .inn ∧ m.target = .toSelect ∧ m.state = .waiting))
    ∧ (s.pins.presIn = true →
      (s.inn = .empty ∨ s.inn = .inbound ∨ s.inn = .outbound → exec .presInEmpty s = .next (empty.settle s noTouch))
      ∧ (s.inn = .blocked → exec .presInEmpty s = .next (State.settle { empty with inn := .empty } s noTouch))
      ∧ (s.inn = .arrived → ∃ u : State, exec .presInEmpty s = .next (u.settle s noTouch)
          ∧ u.steady = empty.steady ∧ u.inn = .empty ∧ u.tx = s.tx
          ∧ ∀ m ∈ u.queue, m.kind = .reshelve → m.state ≠ .waiting)
      ∧ (∀ r, s.inn = .awayWait → s.recordAt (.nest .inn) = some r →
        ∃ u : State, exec .presInEmpty s = .next (u.settle s noTouch)
          ∧ u.steady = empty.steady.updRecord r.id (fun x => { x with location := .inspection })
          ∧ u.inn = .empty ∧ u.irdy = false ∧ u.tx = s.tx ∧ u.queue = s.queue)) := by
  have fills {x : State} (level : s.pins.presIn = false) (e : s.inFull = x) : exec .presInFull s = .next (x.settle s noTouch) := by
    subst e
    exact congrArg Host.Outcome.next (if_neg (by simp [level]))
  have empties {x : State} (level : s.pins.presIn = true) (e : s.inEmpty = x) : exec .presInEmpty s = .next (x.settle s noTouch) := by
    subst e
    exact congrArg Host.Outcome.next (if_pos level)
  refine ⟨fun level => congrArg Host.Outcome.next (if_pos level), fun level => congrArg Host.Outcome.next (if_neg (by simp [level])),
    fun level => ⟨fun other => fills level ?_, fun nest runs => fills level ?_, fun nest none_ => ?_⟩,
    fun level => ⟨fun quiet => empties level ?_, fun nest => empties level ?_, fun nest => ?_, fun r nest onNest => ?_⟩⟩
  · rw [hf]
    unfold State.inFull
    dsimp only
    split
    · next e => exact absurd e other
    · rfl
  · rw [hf]
    unfold State.inFull
    rw [nest]
    exact if_pos ((s.executing_iff .reshelve).mpr runs)
  · have admitted : s.inFull = State.offerInward { full with inn := .arrived } reshelveOffer := by
      rw [hf]
      unfold State.inFull
      rw [nest]
      have quiet : s.executing .reshelve = false := State.not_executing none_
      exact if_neg (Bool.eq_false_iff.mp quiet)
    obtain ⟨steady, _, inn, m, queue, seq, kind, requester, beneficiary, reticle, test, source, target, _, _, waits, _⟩ :=
      State.offerInward_fab { full with inn := .arrived } reshelveOffer
    refine ⟨_, m, fills level admitted, steady, inn, ?_, ?_, kind, requester, beneficiary, reticle, test, source, target, waits⟩
    · rw [queue, hf]
    · rw [seq, hf]
  · rw [he]
    unfold State.inEmpty
    rcases quiet with nest | nest | nest <;> rw [nest]
  · rw [he]
    unfold State.inEmpty
    rw [nest]
  · have gone : s.inEmpty = State.withdrawWhere { empty with inn := .empty } (fun m => m.kind = .reshelve) none := by
      rw [he]
      unfold State.inEmpty
      rw [nest]
    obtain ⟨steady, tx, _, inn, waits⟩ := State.withdrawWhere_kind_spec { empty with inn := .empty } (k := .reshelve) (by decide)
    exact ⟨_, empties level gone, steady, inn, tx.trans (by rw [he]), waits⟩
  · have taken : s.inEmpty = State.updRecord { empty with inn := .empty } r.id (Rec.moveTo .inspection) := by
      have onNest' : empty.recordAt (.nest .inn) = some r := by
        rw [he]
        exact onNest
      have e : s.inEmpty = empty.inspectionTake := by
        unfold State.inEmpty
        split
        · rw [he]
        · next other => rw [nest] at other; cases other
        · next other => rw [nest] at other; cases other
        · next other _ _ => exact absurd nest other
      rw [e, State.inspectionTake, onNest']
    refine ⟨_, empties level taken, State.steady_updRecord_eq _ r.id fun _ => rfl, rfl, rfl, by rw [he]; rfl, by rw [he]; rfl⟩

/-- Settles O60: each of the three nests on its own sensor. -/
theorem fabNestsFollowPresence : Obligations.FabNestsFollowPresence :=
  ⟨biFollowsPresence, boFollowsPresence, inFollowsPresence⟩

end Sys2Proof.Machine
end

section
/-! PROOFS. RESUME (R146, R165), the accepted pick of a named move (R150, R151, R153) and the occupied targets (R157 to
R160). -/

namespace Sys2Proof.Machine

open Sys2Proof

variable {s t u : State}

/-! ## What follows a change that shows no event -/

theorem State.move?_of_mem {m : Move} (distinct : s.SeqsDistinct) (h : m ∈ s.queue) : s.move? m.seq = some m := by
  obtain ⟨x, hx⟩ : ∃ x, s.move? m.seq = some x :=
    Option.isSome_iff_exists.mp (List.find?_isSome.mpr ⟨m, h, decide_eq_true rfl⟩)
  obtain ⟨hmem, hseq⟩ := State.move?_some s hx
  rw [hx, List.inj_on_of_nodup_map distinct hmem h hseq]

theorem State.move?_isSome_of_mem {m : Move} (h : m ∈ s.queue) : (s.move? m.seq).isSome = true :=
  List.find?_isSome.mpr ⟨m, h, decide_eq_true rfl⟩

/-- Two states that differ at most in what no event of R44 or R89 reads. -/
structure State.SameView (a b : State) : Prop where
  queue : b.queue = a.queue
  slots : b.slots = a.slots
  ports : b.ports = a.ports
  ahead : b.ahead = a.ahead
  catalogue : b.catalogue = a.catalogue
  announcements : b.announcements = a.announcements

theorem State.SameView.noSlotEvent {a b : State} (h : a.SameView b) (distinct : a.SeqsDistinct) :
    noSlotEvent a b noTouch = false := by
  obtain ⟨queue, slots, _, _, _, announcements⟩ := h
  have moves : storeMoveChanged a b = false := by
    unfold storeMoveChanged
    have same (q : Seq) : b.move? q = a.move? q := by rw [State.move?, queue, State.move?]
    rw [queue, Bool.or_eq_false_iff, List.any_eq_false, List.any_eq_false]
    refine ⟨fun m hm => ?_, fun m hm => ?_⟩
    · simp [Option.isNone_iff_eq_none, Option.ne_none_iff_isSome, State.move?_isSome_of_mem hm]
    · rw [same, State.move?_of_mem distinct hm]
      cases waits : m.isWaiting <;> simp [waits]
  have slots_ : emptinessChanged a b = false := by
    unfold emptinessChanged
    rw [slots, List.any_eq_false]
    intro x hx
    have same : x.1 = x.2 := by
      obtain ⟨i, _, rfl⟩ := List.mem_iff_getElem.mp (List.mem_of_mem_take hx)
      rw [List.getElem_zip]
    simp [same]
  rw [Machine.noSlotEvent, moves, slots_, announcements]
  simp [noTouch]

theorem State.SameView.windowEvent {a b : State} (h : a.SameView b) (p : Port) : windowEvent a b noTouch p = false := by
  obtain ⟨queue, slots, ports, ahead, catalogue, _⟩ := h
  have port : b.port p = a.port p := by rw [State.port, ports, State.port]
  have lists : b.aheadOf p = a.aheadOf p := by rw [State.aheadOf, ahead, State.aheadOf]
  have slot (n : Slot) : b.slot n = a.slot n := by rw [State.slot, slots, State.slot]
  have record (id : Ident) : b.record id = a.record id := by rw [State.record, catalogue, State.record]
  have ended : listedMoveEnded a b p = false := by
    refine List.any_eq_false.mpr fun m hm => ?_
    have here : b.move? m.seq = a.move? m.seq := by rw [State.move?, queue, State.move?]
    simp [here, Option.isNone_iff_eq_none, Option.ne_none_iff_isSome, State.move?_isSome_of_mem hm]
  have changed_ : listedRecordChanged a b p = false := List.any_eq_false.mpr fun e _ => by simp [record]
  rw [Machine.windowEvent, ended, changed_, port, lists, slot, slot]
  by_cases attached : (a.port p).state = .attached <;> simp [attached, noTouch]

/-- Nothing follows a change of the handler interface that leaves it at work and shows no other event. -/
theorem State.SameView.settle {a b : State} (h : a.SameView b) (distinct : a.SeqsDistinct) (works : b.handler.Engaged) :
    b.settle a noTouch = b := by
  have quiet : b.noSlotStep a noTouch = b := by rw [State.noSlotStep, h.noSlotEvent distinct]; rfl
  have distinct' : b.SeqsDistinct := by rw [State.SeqsDistinct, h.queue]; exact distinct
  have self_ : b.noSlotStep b noTouch = b := by
    rw [State.noSlotStep, State.SameView.noSlotEvent ⟨rfl, rfl, rfl, rfl, rfl, rfl⟩ distinct']
    rfl
  have served : b.serve a noTouch = b := by
    unfold State.serve
    dsimp only
    rw [quiet, State.grantTest_of_engaged works, self_, ite_self]
  rw [State.settle, served, State.forecastStep_of_no_event b a noTouch fun p => h.windowEvent p]

/-! ## RESUME (R165) -/

theorem execResume_service (s : State) (tag : Byte) :
    exec (.resume .service tag (some ())) s = .next ((replyResume s).finish s .service tag FrameKind.resume.byte) :=
  congrArg Host.Outcome.next (s.request_service tag .resume () (fun a _ _ => replyResume a))

theorem State.haltedAt_of_haltedWith {m : Move} {e : ExecRecord} {ph : Phase} (h : s.HaltedWith m e ph) :
    s.haltedAt = some (m, ph) := by
  obtain ⟨⟨exec_, move, found, phase⟩, halted⟩ := h
  have moves : s.execMove = some m := by
    rw [State.execMove, exec_]
    simp only [move, Option.bind_some, found]
  have works : s.handler.exec.bind (·.phase) = some ph := by rw [exec_, Option.bind_some, phase]
  rw [State.haltedAt, if_pos halted, moves, works]

theorem State.haltedAt_none (h : s.handler.state ≠ .halted ∨ s.handler.exec.bind (·.move) = none) : s.haltedAt = none := by
  rw [State.haltedAt]
  rcases h with other | none_
  · exact if_neg other
  · split
    · have moves : s.execMove = none := by
        rw [State.execMove]
        cases e : s.handler.exec with
        | none => rfl
        | some x =>
          rw [e, Option.bind_some] at none_
          simp only [none_, Option.bind_none]
      rw [moves]
    · rfl

/-- A phase taken up again: the reply is the handler interface at work, with what is sent to the handler (R165). -/
theorem resume_finish {m : Move} {e : ExecRecord} {ph : Phase} {z : State} (distinct : s.SeqsDistinct)
    (halted : s.HaltedWith m e ph) (resumed : s.clearHalt.resumed m ph = some z) (same : s.SameView z)
    (idle : z.handler.state ≠ .idle) (halted' : z.handler.state ≠ .halted) (tag : Byte) :
    exec (.resume .service tag (some ())) s
      = .next (z.answer .service tag FrameKind.resume.byte .ok .none) := by
  have reply : replyResume s = .handler z .none := by
    unfold replyResume
    rw [State.haltedAt_of_haltedWith halted]
    simp only [resumed]
  have stays : z.settleHandler s = z := by
    rw [State.settleHandler, if_neg (by simp [idle, halted'])]
    exact same.settle distinct (.inl idle)
  rw [execResume_service, reply, Reply.finish, stays]

/-- The handler interface as a recorded phase's order leaves it (R165). -/
def Handler.ordered (h : Handler) (st : HandlerState) (n : Nat) (e : Option ExecRecord) : Handler :=
  { h with state := st, halt := none, orderNumber := h.orderNumber + 1, numberCurrent := true, timer := some n, exec := e }

/-- What an order sent again changes (R165). -/
theorem State.clearHalt_order (s : State) (f : Byte → OutFrame) (ph : Phase) (n : Nat) {e : ExecRecord}
    (exec_ : s.handler.exec = some e) :
    (s.clearHalt.order f ph.handlerState n).setPhase ph
      = { s with handler := s.handler.ordered ph.handlerState n (some { e with phase := some ph })
                 tx := (s.send .handler (f (s.handler.orderNumber + 1))).tx } := by
  rw [State.setPhase, State.order_eq, State.clearHalt, State.updHandler, State.updHandler]
  simp only [exec_, Option.map_some, Handler.ordered]
  rfl

/-- A halt taken up again, with the order of its phase (R165). -/
theorem resume_ordered {m : Move} {e : ExecRecord} {ph w : Phase} (distinct : s.SeqsDistinct) (halted : s.HaltedWith m e ph)
    (f : Byte → OutFrame) (n : Nat)
    (resumed : s.clearHalt.resumed m ph = some ((s.clearHalt.order f w.handlerState n).setPhase w)) (tag : Byte) :
    ∃ t, exec (.resume .service tag (some ())) s = .next t
      ∧ t = { s with handler := s.handler.ordered w.handlerState n (some { e with phase := some w }), tx := t.tx }
      ∧ (∀ l, l ≠ .handler → l ≠ .request .service → t.sent l = s.sent l)
      ∧ t.sent (.request .service) = s.sent (.request .service) ++ [.answer tag FrameKind.resume.byte .ok .none]
      ∧ t.sent .handler = s.sent .handler ++ [f (s.handler.orderNumber + 1)] := by
  obtain ⟨⟨exec_, _⟩, _⟩ := id halted
  rw [s.clearHalt_order f w n exec_] at resumed
  refine ⟨_, resume_finish distinct halted resumed ⟨rfl, rfl, rfl, rfl, rfl, rfl⟩ w.handlerState_ne_idle w.handlerState_ne_halted tag,
    rfl, fun l handler service => ?_, ?_, ?_⟩
  · rw [State.answer, State.sent_send_other _ service]
    exact s.sent_send_other handler _
  · rw [State.answer, State.sent_send_same]
    exact congrArg (· ++ _) (s.sent_send_other (by simp) _)
  · rw [State.answer, State.sent_send_other _ (by simp)]
    exact s.sent_send_same _ _

/-- CARRYING taken up again while TBUSY is asserted: no order goes out (R165). -/
theorem resume_carrying {m : Move} {e : ExecRecord} {p : Port} {x : Position} (distinct : s.SeqsDistinct)
    (halted : s.HaltedWith m e .carrying) (target : m.target = .pos x) (own : m.beneficiary = some p) (busy : s.tbusy p = true)
    (tag : Byte) :
    ∃ t, exec (.resume .service tag (some ())) s = .next t
      ∧ t = { s with handler := { s.handler with state := .carrying, halt := none, timer := some s.handler.placeTimeout }
                     tx := t.tx }
      ∧ (∀ l, l ≠ .handler → l ≠ .request .service → t.sent l = s.sent l)
      ∧ t.sent (.request .service) = s.sent (.request .service) ++ [.answer tag FrameKind.resume.byte .ok .none]
      ∧ t.sent .handler = s.sent .handler := by
  obtain ⟨⟨exec_, _, _, phase⟩, _⟩ := id halted
  have same : some { e with phase := some .carrying } = s.handler.exec := by rw [exec_, ← phase]
  have resumed : s.clearHalt.resumed m .carrying
      = some { s with handler := { s.handler with state := .carrying, halt := none, timer := some s.handler.placeTimeout } } := by
    have busy' : m.beneficiary.any s.clearHalt.tbusy = true := by
      rw [own]
      exact busy
    rw [State.resumed, target]
    refine congrArg some ((if_pos busy').trans ?_)
    rw [State.setPhase, State.updHandler, State.updHandler, State.clearHalt, State.updHandler]
    simp only [exec_, Option.map_some, same]
  refine ⟨_, resume_finish distinct halted resumed ⟨rfl, rfl, rfl, rfl, rfl, rfl⟩ (by simp) (by simp) tag, rfl,
    fun l handler service => ?_, ?_, ?_⟩
  · exact State.sent_send_other _ service _
  · exact State.sent_send_same _ _ _
  · exact State.sent_send_other _ (by simp) _

/-- A phase sent again with the execution record it had. -/
theorem Handler.ordered_same {h : Handler} {e : ExecRecord} {ph : Phase} (exec_ : h.exec = some e) (phase : e.phase = some ph)
    (st : HandlerState) (n : Nat) : h.ordered st n (some { e with phase := some ph })
      = { h with state := st, halt := none, orderNumber := h.orderNumber + 1, numberCurrent := true, timer := some n } := by
  rw [← phase, Handler.ordered, ← exec_]

/-- Settles O43: the refusals, and the recorded phase. -/
theorem resumeSendsOrderAgain : Obligations.ResumeSendsOrderAgain := by
  refine fun s tag => ⟨fun refused => ?_, fun m e halted none_ => ?_, fun m e ph distinct halted target shelf => ?_⟩
  · rw [execResume_service, replyResume, State.haltedAt_none refused]
    rfl
  · rw [execResume_service, replyResume, State.haltedAt_of_haltedWith halted]
    simp only [State.resumed, none_, Option.map_none]
    rfl
  · obtain ⟨⟨exec_, _, _, phase⟩, state⟩ := id halted
    cases ph with
    | picking =>
      obtain ⟨t, runs, e_, links, answered, orders⟩ := resume_ordered (w := .picking) distinct halted
        (fun n => .move n m.source (m.target.pos?.getD m.source) m.expected) s.handler.pickTimeout rfl tag
      refine ⟨t, _, runs, e_, rfl, rfl, links, answered, fun _ x target => ⟨Handler.ordered_same exec_ phase _ _, ?_⟩, ?_⟩
      · rw [orders, target]
        rfl
      · simp
    | placing =>
      obtain ⟨x, hx⟩ := Option.ne_none_iff_exists'.mp (target (.inl rfl))
      obtain ⟨t, runs, e_, links, answered, orders⟩ := resume_ordered (w := .placing) distinct halted
        (fun n => .place n x) s.handler.placeTimeout (by rw [State.resumed, hx]; rfl) tag
      refine ⟨t, _, runs, e_, rfl, rfl, links, answered, by simp,
        fun _ y target => ⟨Handler.ordered_same exec_ phase _ _, ?_⟩, ?_⟩
      · rw [target] at hx
        cases hx
        exact orders
      · simp
    | putback =>
      obtain ⟨t, runs, e_, links, answered, orders⟩ := resume_ordered (w := .putback) distinct halted
        (fun n => .place n m.source) s.handler.placeTimeout rfl tag
      exact ⟨t, _, runs, e_, rfl, rfl, links, answered, by simp, by simp,
        fun _ => ⟨Handler.ordered_same exec_ phase _ _, orders⟩, by simp, by simp⟩
    | scanning =>
      obtain ⟨n, hn⟩ := shelf rfl
      obtain ⟨t, runs, e_, links, answered, orders⟩ := resume_ordered (w := .scanning) distinct halted
        (fun k => .scan k n) (2 * s.handler.pickTimeout) (by rw [State.resumed, hn]; rfl) tag
      refine ⟨t, _, runs, e_, rfl, rfl, links, answered, by simp, by simp, by simp,
        fun _ k source => ⟨Handler.ordered_same exec_ phase _ _, ?_⟩, by simp⟩
      rw [hn] at source
      cases source
      exact orders
    | carrying =>
      obtain ⟨x, hx⟩ := Option.ne_none_iff_exists'.mp (target (.inr rfl))
      have pos : m.target = .pos x := by
        cases e_ : m.target <;> rw [e_] at hx <;> cases hx
        rfl
      by_cases busy : m.beneficiary.any s.tbusy = true
      · obtain ⟨p, own, busy⟩ := (Option.any_eq_true _ _).mp busy
        obtain ⟨t, runs, e_, links, answered, orders⟩ := resume_carrying distinct halted pos own busy tag
        refine ⟨t, _, runs, e_, rfl, rfl, links, answered, by simp, by simp, by simp, by simp, fun _ q own' => ⟨fun _ => ⟨rfl,
          fun sound => ?_, orders⟩, fun free => ?_⟩⟩
        · have stale : s.handler.numberCurrent = false := by
            have sound := sound
            rw [Handler.Sound, state] at sound
            exact sound.2.2.2
          simp [Handler.current, stale]
        · rw [own] at own'
          cases own'
          rw [busy] at free
          cases free
      · obtain ⟨t, runs, e_, links, answered, orders⟩ := resume_ordered (w := .placing) distinct halted
          (fun n => .place n x) s.handler.placeTimeout
          (by rw [State.resumed, hx]; exact congrArg some (if_neg busy)) tag
        refine ⟨t, _, runs, e_, rfl, rfl, links, answered, by simp, by simp, by simp, by simp, fun _ q own => ⟨fun taken => ?_,
          fun _ y target => ⟨rfl, ?_⟩⟩⟩
        · rw [own] at busy
          exact absurd taken busy
        · rw [pos] at target
          cases target
          exact orders

end Sys2Proof.Machine
end

section
/-! PROOFS. The accepted pick of a named move (R150, R151, R153) and the occupied targets (R157 to R160). -/

namespace Sys2Proof.Machine

open Sys2Proof

variable {s t u : State} {m : Move} {e : ExecRecord} {ph : Phase}

/-! ## A report awaited (R146, R149) -/

theorem State.WorksOn.execMove (h : s.WorksOn m e ph) : s.execMove = some m := by
  obtain ⟨exec_, move, found, _⟩ := h
  rw [State.execMove, exec_]
  simp only [move, Option.bind_some, found]

theorem State.WorksOn.mem (h : s.WorksOn m e ph) : m ∈ s.queue := (State.move?_some s h.2.2.1).1

theorem State.Awaits.current {number : Byte} (h : s.Awaits number m e ph) : s.handler.current = some number := by
  obtain ⟨_, state, number_, current⟩ := h
  unfold Handler.current
  split
  · next idle => exact absurd (state.symm.trans idle) ph.handlerState_ne_idle
  · next halted => exact absurd (state.symm.trans halted) ph.handlerState_ne_halted
  · rw [if_pos current, number_]

/-- A report with the current number, in a state that expects it, is handed on with the move in execution (R149). -/
theorem State.Awaits.takeReport {number : Byte} (h : s.Awaits number m e ph) {xs : List HandlerState}
    (expected : ph.handlerState ∈ xs) (f : State → Move → State) :
    s.takeReport number xs f = (f s m).settleHandler s := by
  rw [State.takeReport, if_pos h.current, if_pos (by rwa [h.2.1]), h.1.execMove]

/-- The identifier that a report brings, kept in the execution record (R150). -/
def State.keepRead (s : State) (read : ReadId) : State :=
  s.updHandler (fun h => { h with exec := h.exec.map (fun e => { e with read := some read }) })

theorem execPicked_awaited {number : Byte} {read : ReadId} (h : s.Awaits number m e .picking) (ok : readOk read = true) :
    exec (.picked number read) s = .next ((s.takePicked m read).settleHandler s) :=
  congrArg Host.Outcome.next ((if_pos ok).trans (h.takeReport (by simp [Phase.handlerState]) _))

theorem execSourceEmpty_awaited {number : Byte} (h : s.Awaits number m e .picking) :
    exec (.sourceEmpty number) s = .next ((s.sourceEmptyEnd m).settleHandler s) :=
  congrArg Host.Outcome.next (h.takeReport (by simp [Phase.handlerState]) _)

theorem execPlaced_awaited {number : Byte} (h : s.Awaits number m e ph) (working : ph = .placing ∨ ph = .putback) :
    exec (.placed number) s = .next ((s.takePlaced m).settleHandler s) :=
  congrArg Host.Outcome.next (h.takeReport (by rcases working with rfl | rfl <;> simp [Phase.handlerState]) _)

theorem execOccupied_awaited {number : Byte} (h : s.Awaits number m e ph) (working : ph = .placing ∨ ph = .putback) :
    exec (.occupied number) s = .next ((s.takeOccupiedReport m).settleHandler s) :=
  congrArg Host.Outcome.next (h.takeReport (by rcases working with rfl | rfl <;> simp [Phase.handlerState]) _)

/-! ## What the parts of an accepted pick write (R151) -/

theorem State.expectAt_eq (s : State) (n : Option Slot) (id : Ident) :
    ∃ sl, s.expectAt n id = { s with slots := sl }
      ∧ ∀ k, (∀ q, s.slot k ≠ .inbound none q) → (s.expectAt n id).slot k = s.slot k := by
  unfold State.expectAt
  split
  · next n =>
    split
    · next q h =>
      refine ⟨_, rfl, fun k other => ?_⟩
      by_cases same : k = n
      · exact absurd (same ▸ h) (other q)
      · exact s.slot_setSlot_other same _
    · exact ⟨_, rfl, fun _ _ => rfl⟩
  · exact ⟨_, rfl, fun _ _ => rfl⟩

theorem State.nestEmptied_eq (s : State) (x : Nest) :
    ∃ ports bi bo inn, s.nestEmptied x = { s with ports := ports, bi := bi, bo := bo, inn := inn } := by
  cases x <;> exact ⟨_, _, _, _, rfl⟩

theorem State.nestIsEmpty_nestEmptied (s : State) (x : Nest) : (s.nestEmptied x).nestIsEmpty x = true := by
  cases x with
  | t p => simp [State.nestEmptied, State.nestIsEmpty]
  | bi => rfl
  | bo => rfl
  | inn => rfl

theorem State.nestIsEmpty_congr (ports : t.ports = s.ports) (bi : t.bi = s.bi) (bo : t.bo = s.bo) (inn : t.inn = s.inn)
    (x : Nest) : t.nestIsEmpty x = s.nestIsEmpty x := by
  cases x with
  | t p => exact congrArg (fun v : Vector PortRec 6 => decide ((v.get p).nest = .empty)) ports
  | bi => exact congrArg (fun v => decide (v = BiNest.empty)) bi
  | bo => exact congrArg (fun v => decide (v = BoNest.empty)) bo
  | inn => exact congrArg (fun v => decide (v = InNest.empty)) inn

theorem State.freeSource_eq (s : State) (x : Position) :
    ∃ sl ports bi bo inn, s.freeSource x = { s with slots := sl, ports := ports, bi := bi, bo := bo, inn := inn } := by
  cases x with
  | slot n => exact ⟨_, _, _, _, _, rfl⟩
  | nest y =>
    obtain ⟨ports, bi, bo, inn, h⟩ := s.nestEmptied_eq y
    exact ⟨_, ports, bi, bo, inn, h⟩
  | shelf n => exact ⟨_, _, _, _, _, rfl⟩

/-- An accepted pick of a named move: the record is in the gripper, the source is free, and the rest stands but for the
slots and the nests (R151). -/
theorem State.acceptPick_named (s : State) (named : m.pickTest = .named) (id : Ident) :
    ∃ sl ports bi bo inn, s.acceptPick m id
        = { s.updRecord id (Rec.moveTo .gripper) with slots := sl, ports := ports, bi := bi, bo := bo, inn := inn }
      ∧ (∀ n, m.source = .slot n → (s.acceptPick m id).slot n = .empty)
      ∧ ∀ y, m.source = .nest y → (s.acceptPick m id).nestIsEmpty y = true := by
  obtain ⟨sl, ports, bi, bo, inn, free⟩ := (s.updRecord id (Rec.moveTo .gripper)).freeSource_eq m.source
  have unnamed : s.acceptPick m id
      = ((s.updRecord id (Rec.moveTo .gripper)).freeSource m.source).expectAt m.target.slot? id := by
    rw [State.acceptPick, State.nameMove, if_pos named]
  obtain ⟨sl', expect, stands⟩ := ((s.updRecord id (Rec.moveTo .gripper)).freeSource m.source).expectAt_eq m.target.slot? id
  refine ⟨sl', ports, bi, bo, inn, by rw [unnamed, expect, free], fun n source => ?_, fun y source => ?_⟩
  · have empty : ((s.updRecord id (Rec.moveTo .gripper)).freeSource m.source).slot n = .empty := by
      rw [source]
      exact State.slot_setSlot_same _ n _
    rw [unnamed, stands n (by simp [empty]), empty]
  · rw [unnamed, expect, source]
    exact State.nestIsEmpty_nestEmptied _ y

theorem State.carryOn_busy (busy : m.kind = .deliver ∧ ∃ p, m.beneficiary = some p ∧ s.tbusy p = true) :
    s.carryOn m
      = (s.updHandler (fun h => { h with state := .carrying, timer := some h.placeTimeout })).setPhase .carrying := by
  obtain ⟨kind, p, own, asserted⟩ := busy
  rw [State.carryOn]
  simp only [kind, own, asserted, if_true]

theorem State.carryOn_free {x : Position} (free : ¬(m.kind = .deliver ∧ ∃ p, m.beneficiary = some p ∧ s.tbusy p = true))
    (target : ((s.move? m.seq).bind fun y => y.target.pos?) = some x) : s.carryOn m = s.sendPlace x .placing := by
  rw [State.carryOn, target]
  split
  · next p kind own =>
    rw [if_neg fun asserted => free ⟨kind, p, own, asserted⟩]
  · rw [if_neg (by simp)]

/-- Settles O48, by the parts of an accepted pick and whether PLACE is withheld. -/
theorem acceptedPickGoesOn : Obligations.AcceptedPickGoesOn := by
  intro s number m e id x awaits ok named names target
  have ⟨⟨exec_, _, found, _⟩, _⟩ := awaits
  have taken : s.takePicked m (.ident id) = ((s.keepRead (.ident id)).acceptPick m id).carryOn m := by
    have judged : (s.keepRead (.ident id)).judgePick m (.ident id) = .accept id := by
      simp only [State.judgePick, named, names, if_true]
    unfold State.takePicked
    simp only [State.keepRead] at judged
    simp only [judged, State.picks, named, ne_eq, not_true_eq_false, and_false, if_false, State.keepRead]
  obtain ⟨sl, ports, bi, bo, inn, accepted, slot, nest⟩ := (s.keepRead (.ident id)).acceptPick_named named id
  have handler : ((s.keepRead (.ident id)).acceptPick m id).handler
      = { s.handler with exec := some { e with read := some (.ident id) } } := by
    rw [State.acceptPick_handler, State.keepRead, State.updHandler, exec_, Option.map_some]
  have gripper : ∀ r ∈ ((s.keepRead (.ident id)).acceptPick m id).catalogue, r.id = id → r.location = .gripper := by
    rw [accepted]
    intro r here same
    obtain ⟨y, _, rfl⟩ := List.mem_map.mp here
    split
    · rfl
    · next other =>
      rw [if_neg other] at same
      exact absurd same other
  have target? : ((((s.keepRead (.ident id)).acceptPick m id).move? m.seq).bind fun y => y.target.pos?) = some x := by
    rw [accepted]
    change ((s.move? m.seq).bind fun y => y.target.pos?) = some x
    rw [found, Option.bind_some, target, Target.pos?]
  have tbusy : ∀ p, ((s.keepRead (.ident id)).acceptPick m id).tbusy p = s.tbusy p := by
    intro p
    rw [accepted]
    rfl
  have sent : ((s.keepRead (.ident id)).acceptPick m id).sent .handler = s.sent .handler := by
    rw [accepted]
    rfl
  have queue : ((s.keepRead (.ident id)).acceptPick m id).queue = s.queue := by rw [accepted]; rfl
  clear accepted
  generalize (s.keepRead (.ident id)).acceptPick m id = picked at taken slot nest handler gripper target? tbusy sent queue
  by_cases busy : m.kind = .deliver ∧ ∃ p, m.beneficiary = some p ∧ s.tbusy p = true
  · have carried : s.takePicked m (.ident id) = (picked.updHandler
        (fun h => { h with state := .carrying, timer := some h.placeTimeout })).setPhase .carrying := by
      rw [taken]
      exact State.carryOn_busy (by simpa only [tbusy] using busy)
    refine ⟨_, execPicked_awaited awaits ok, ?_⟩
    rw [carried]
    refine ⟨gripper, slot, nest, queue, fun _ => ⟨?_, sent⟩, fun idle => absurd busy idle⟩
    rw [State.setPhase, State.updHandler, State.updHandler, handler, Option.map_some]
  · have placed : s.takePicked m (.ident id) = picked.sendPlace x .placing := by
      rw [taken]
      exact State.carryOn_free (by simpa only [tbusy] using busy) target?
    refine ⟨_, execPicked_awaited awaits ok, ?_⟩
    rw [placed]
    refine ⟨gripper, slot, nest, queue, fun asserted => absurd asserted busy, fun _ => ⟨?_, ?_⟩⟩
    · rw [State.sendPlace, State.order_handler, handler, Option.map_some]
      rfl
    · rw [State.sendPlace, State.sent_order, handler, sent]

end Sys2Proof.Machine
end

section
/-! PROOFS. The occupied targets (R157 to R160). -/

namespace Sys2Proof.Machine

open Sys2Proof

variable {s t u : State} {m : Move} {e : ExecRecord} {ph : Phase}

/-! ## A target slot found occupied (R157, R158) -/

theorem State.faultTarget_slot {n : Slot} (target : m.target = .pos (.slot n)) :
    s.faultTarget m = (s.setSlot n (.fault none)).raise .slotFault ⟨m.reticle, none, some (.slot n), none, none⟩ := by
  rw [State.faultTarget, target]
  rfl

/-- The halt of an occupied target leaves what the fault raised. -/
theorem State.Raised.haltAt {k : NoticeKind} {d : Detail} (h : s.Raised k d) (other : k ≠ .halted) (code : HaltCode)
    (g : GripperState) (x : Option Position) : (s.haltAt code g x).Raised k d := fun l => by
  obtain ⟨pending, detail, _⟩ := (s.updHandler (fun h =>
    { h with state := .halted, halt := some ⟨code, g⟩, numberCurrent := false, timer := none })).raise_other other
    ⟨s.execMove.bind (·.reticle), none, x, none, some code.number⟩ l
  exact ⟨pending.trans (h l).1, detail.trans (h l).2⟩

/-- The state of a store move whose target slot was found occupied, before its one re-target (R157). -/
def State.targetless (s : State) (m : Move) : State :=
  (s.faultTarget m).updMove m.seq (fun x => { x with target := .noTarget })

theorem State.targetless_spec {n : Slot} (target : m.target = .pos (.slot n)) :
    (s.targetless m).handler = s.handler ∧ (s.targetless m).slot n = .fault none
      ∧ (s.targetless m).Raised .slotFault ⟨m.reticle, none, some (.slot n), none, none⟩
      ∧ (s.targetless m).selectTarget m = (s.setSlot n (.fault none)).selectTarget m
      ∧ (s.targetless m).sent .handler = s.sent .handler := by
  have raised : (s.targetless m).Raised .slotFault ⟨m.reticle, none, some (.slot n), none, none⟩ := by
    rw [State.targetless, State.faultTarget_slot target]
    exact State.raise_raised (s.setSlot n (.fault none)) _ _
  have orders : (s.targetless m).sent .handler = s.sent .handler := by
    rw [State.targetless, State.faultTarget_slot target]
    exact State.sent_raise_other (s.setSlot n (.fault none)) _ _ (by simp)
  obtain ⟨a, b, tx, e⟩ := (s.setSlot n (.fault none)).raise_eq .slotFault ⟨m.reticle, none, some (.slot n), none, none⟩
  have eq : s.targetless m = State.updMove { s.setSlot n (.fault none) with
      materialNotices := a, serviceNotices := b, tx := tx } m.seq (fun x => { x with target := .noTarget }) := by
    rw [State.targetless, State.faultTarget_slot target, e]
  exact ⟨by rw [eq]; rfl, by rw [eq]; exact s.slot_setSlot_same n _, raised, by rw [eq]; rfl, orders⟩

/-- A slot that a selection finds was not in FAULT (R38). -/
theorem State.selectTarget_empty {k : Fin 384} (h : s.selectTarget m = some k) : s.slot (ofStorage k) = .empty := by
  cases class_ : s.selectionClass m with
  | none => simp [State.selectTarget, class_] at h
  | some c =>
    rcases s.selectTarget_cases m class_ with ⟨j, _, is, e⟩ | ⟨_, e⟩
    · cases e.symm.trans h
      exact ((s.isCandidate_iff c k).mp is).1
    · rcases s.nearestCandidate_cases c (s.anchorOf m) with ⟨none_, _⟩ | ⟨j, found, is, _⟩
      · simp [← e, h] at none_
      · cases found.symm.trans (e.symm.trans h)
        exact ((s.isCandidate_iff c k).mp is).1

theorem State.storeOccupied_halts {n : Slot} (target : m.target = .pos (.slot n))
    {code : HaltCode} (halts : s.storeOccupied m = (s.targetless m).haltAt code .loaded m.target.pos?) :
    (s.storeOccupied m).slot n = .fault none
      ∧ (s.storeOccupied m).Raised .slotFault ⟨m.reticle, none, some (.slot n), none, none⟩
      ∧ (s.storeOccupied m).handler
        = { s.handler with state := .halted, numberCurrent := false, halt := some ⟨code, .loaded⟩, timer := none } := by
  obtain ⟨same, fault, raised, _⟩ := State.targetless_spec (s := s) target
  obtain ⟨handler, slots, _⟩ := (s.targetless m).haltAt_spec code .loaded m.target.pos?
  rw [halts]
  exact ⟨(congrArg (fun v : Vector SlotEntry 396 => v.get n) slots).trans fault, raised.haltAt (by simp) _ _ _, by
    rw [handler, same]⟩

/-- A store move sent on to its one new target (R157). -/
def State.retargeted (s : State) (m : Move) (k : Fin 384) : State :=
  (((((s.targetless m).setSlot (ofStorage k) (.inbound m.reticle m.seq)).updMove m.seq
    (fun x => { x with target := .pos (storagePosition k) })).updHandler
    (fun h => { h with exec := h.exec.map (fun e => { e with retargets := 1 }) }))).sendPlace (storagePosition k) .placing

theorem State.retargeted_spec {n : Slot} {k : Fin 384} (exec_ : s.handler.exec = some e)
    (target : m.target = .pos (.slot n)) (other : n ≠ ofStorage k) :
    (s.retargeted m k).slot n = .fault none
      ∧ (s.retargeted m k).Raised .slotFault ⟨m.reticle, none, some (.slot n), none, none⟩
      ∧ (s.retargeted m k).slot (ofStorage k) = .inbound m.reticle m.seq
      ∧ (s.retargeted m k).handler = { s.handler with
          state := .placing, timer := some s.handler.placeTimeout, orderNumber := s.handler.orderNumber + 1
          numberCurrent := true
          exec := some { e with phase := some .placing, retargets := 1 } }
      ∧ (s.retargeted m k).sent .handler
        = s.sent .handler ++ [.place (s.handler.orderNumber + 1) (.slot (ofStorage k))] := by
  obtain ⟨same, fault, raised, _, orders⟩ := State.targetless_spec (s := s) target
  unfold State.retargeted
  generalize s.targetless m = a at same fault raised orders ⊢
  refine ⟨(a.slot_setSlot_other other _).trans fault, raised.of_sets rfl rfl, a.slot_setSlot_same (ofStorage k) _, ?_, ?_⟩
  · rw [State.sendPlace, State.order_handler, State.updHandler, State.updMove, State.setSlot, same, exec_, Option.map_some,
      Option.map_some]
    rfl
  · rw [State.sendPlace, State.sent_order, State.updHandler, State.updMove, State.setSlot, same, ← orders]
    rfl

theorem State.storeOccupied_cases (s : State) (m : Move) :
    s.storeOccupied m
      = if (s.handler.exec.map (·.retargets)) = some 0 then
          match (s.targetless m).selectTarget m with
          | some k => s.retargeted m k
          | none => (s.targetless m).haltAt .noTarget .loaded m.target.pos?
        else (s.targetless m).haltAt .occupiedTwice .loaded m.target.pos? := rfl

/-- OCCUPIED at a store move's target: the first time one new target is tried, the second the interface halts (R157). -/
theorem State.storeOccupied_spec {n : Slot} (exec_ : s.handler.exec = some e) (target : m.target = .pos (.slot n)) :
    (s.storeOccupied m).slot n = .fault none
      ∧ (s.storeOccupied m).Raised .slotFault ⟨m.reticle, none, some (.slot n), none, none⟩
      ∧ (e.retargets = 1 → (s.storeOccupied m).handler
        = { s.handler with state := .halted, numberCurrent := false, halt := some ⟨.occupiedTwice, .loaded⟩, timer := none })
      ∧ (e.retargets = 0 → ∀ k, (s.setSlot n (.fault none)).selectTarget m = some k →
          (s.storeOccupied m).slot (ofStorage k) = .inbound m.reticle m.seq
          ∧ (s.storeOccupied m).handler = { s.handler with
              state := .placing, timer := some s.handler.placeTimeout, orderNumber := s.handler.orderNumber + 1
              numberCurrent := true
              exec := some { e with phase := some .placing, retargets := 1 } }
          ∧ (s.storeOccupied m).sent .handler
            = s.sent .handler ++ [.place (s.handler.orderNumber + 1) (.slot (ofStorage k))])
      ∧ (e.retargets = 0 → (s.setSlot n (.fault none)).selectTarget m = none → (s.storeOccupied m).handler
        = { s.handler with state := .halted, numberCurrent := false, halt := some ⟨.noTarget, .loaded⟩, timer := none }) := by
  obtain ⟨_, _, _, select, _⟩ := State.targetless_spec (s := s) target
  have cases_ := s.storeOccupied_cases m
  rw [exec_, Option.map_some, select] at cases_
  by_cases first : e.retargets = 0
  · rw [if_pos (congrArg some first)] at cases_
    cases found : (s.setSlot n (.fault none)).selectTarget m with
    | none =>
      rw [found] at cases_
      obtain ⟨fault, raised, handler⟩ := State.storeOccupied_halts target cases_
      exact ⟨fault, raised, fun again => absurd (first.symm.trans again) (by simp), fun _ _ none_ => (nomatch none_), fun _ _ => handler⟩
    | some k =>
      rw [found] at cases_
      have other : n ≠ ofStorage k := fun same => by
        have empty := State.selectTarget_empty found
        rw [← same, s.slot_setSlot_same] at empty
        cases empty
      obtain ⟨fault, raised, slot, handler, sent⟩ := State.retargeted_spec exec_ target other
      have eq : s.storeOccupied m = s.retargeted m k := cases_
      rw [eq]
      refine ⟨fault, raised, fun again => absurd (first.symm.trans again) (by simp), fun _ j same => ?_, fun _ none_ => (nomatch none_)⟩
      cases same
      exact ⟨slot, handler, sent⟩
  · rw [if_neg fun same => first (Option.some.inj same)] at cases_
    obtain ⟨fault, raised, handler⟩ := State.storeOccupied_halts target cases_
    exact ⟨fault, raised, fun _ => handler, fun zero => absurd zero first, fun zero => absurd zero first⟩

/-! ## The pod put back (R158, R159) -/

theorem State.sent_setCause (s : State) (c : PutbackCause) (l : Link) : (s.setCause c).sent l = s.sent l := rfl

theorem State.putBack_spec {k : Slot} (source : m.source = .slot k) (exec_ : s.handler.exec = some e) (c : PutbackCause) :
    (∀ n, n ≠ k → (s.putBack m c).slot n = s.slot n) ∧ (s.putBack m c).slot k = .inbound m.reticle m.seq
      ∧ (s.putBack m c).handler = { s.handler with
          state := .putback, timer := some s.handler.placeTimeout, orderNumber := s.handler.orderNumber + 1
          numberCurrent := true
          exec := some { e with phase := some .putback, cause := some c } }
      ∧ (s.putBack m c).sent .handler = s.sent .handler ++ [.place (s.handler.orderNumber + 1) (.slot k)]
      ∧ (s.putBack m c).ports = s.ports ∧ (s.putBack m c).bo = s.bo ∧ (s.putBack m c).inn = s.inn := by
  have eq : s.putBack m c = ((s.setSlot k (.inbound m.reticle m.seq)).sendPlace (.slot k) .putback).setCause c := by
    rw [State.putBack, source]
    rfl
  have handler : ((s.setSlot k (.inbound m.reticle m.seq)).sendPlace (.slot k) .putback).handler = { s.handler with
      state := .putback, timer := some s.handler.placeTimeout, orderNumber := s.handler.orderNumber + 1
      numberCurrent := true
      exec := s.handler.exec.map (fun e => { e with phase := some .putback }) } := rfl
  rw [eq]
  refine ⟨fun n other => s.slot_setSlot_other other _, s.slot_setSlot_same k _, ?_, ?_, rfl, rfl, rfl⟩
  · rw [State.setCause, State.updHandler, handler, exec_, Option.map_some, Option.map_some]
  · rw [State.sent_setCause, State.sendPlace, State.sent_order]
    rfl

/-! ## A target nest found occupied (R60, R101, R108) -/

theorem State.toolNest_enterReturned (s : State) (p : Port) : (s.enterReturned p).toolNest p = .returned := by
  have port (f : PortRec → PortRec) (a : State) : ((a.updPort p f).port p).nest = (f (a.port p)).nest :=
    congrArg PortRec.nest (a.port_updPort_same p f)
  unfold State.enterReturned
  dsimp only
  split
  · split
    · next x _ here =>
      obtain ⟨_, _, _, same, _⟩ := State.completeReturn_of_tool
        (s.updPort p (fun r => { r with nest := .returned, lateOpen := false })) (p := p) (id := x.id) x.lots here
      exact (congrArg PortRec.nest same).trans (port _ s)
    · exact (port _ _).trans ((port _ _).trans (port _ s))
  · exact (port _ _).trans (port _ s)

theorem State.ungranted_nestOccupied (s : State) (x : Nest) : s.Ungranted (s.nestOccupied x) := by
  unfold State.nestOccupied
  split
  · split
    · exact (s.extends_enterReturned _).1
    · exact (s.extends_updPort _ _).1
  · split
    · have blocked : s.Ungranted { s with bo := .blocked } := ⟨rfl, rfl, rfl, .of_catalogue rfl⟩
      exact blocked.trans (State.extends_raise _ _ _).1
    · exact ⟨rfl, rfl, rfl, .of_catalogue rfl⟩
  · split
    · have arrived : s.Ungranted { s with inn := .arrived } := ⟨rfl, rfl, rfl, .of_catalogue rfl⟩
      unfold State.reshelveArrives
      split
      · exact arrived
      · exact arrived.trans (State.extends_offerInward _ _).1
    · exact ⟨rfl, rfl, rfl, .of_catalogue rfl⟩
  · exact ⟨rfl, rfl, rfl, .of_catalogue rfl⟩

theorem State.nestOccupied_bo (s : State) :
    (s.nestOccupied .bo).bo = if s.pins.presBo then .blocked else .empty := by
  unfold State.nestOccupied
  dsimp only
  split
  · obtain ⟨_, _, _, e⟩ := State.raise_eq { s with bo := .blocked } .nestBlocked ⟨none, none, some (.nest .bo), none, none⟩
    rw [State.nestBlocks, e]
  · rfl

theorem State.nestOccupied_inn (s : State) :
    (s.nestOccupied .inn).inn = if s.pins.presIn then .arrived else .empty := by
  unfold State.nestOccupied
  dsimp only
  split
  · unfold State.reshelveArrives
    split
    · rfl
    · exact (State.offerInward_fab { s with inn := .arrived } _).2.2.1
  · rfl

theorem State.nestOccupied_t (s : State) (p : Port) :
    (s.nestOccupied (.t p)).toolNest p = if s.presT p = true ∧ s.tbusy p = false then .returned else .empty := by
  unfold State.nestOccupied
  dsimp only
  split
  · exact s.toolNest_enterReturned p
  · exact congrArg PortRec.nest (s.port_updPort_same p _)

/-! ## OCCUPIED -/

theorem State.takeOccupiedReport_placing (h : s.handler.state = .placing) : s.takeOccupiedReport m = s.takeOccupied m :=
  if_neg (by simp [h])

/-- Settles O52, by the kind of the move. -/
theorem occupiedTargetHandled : Obligations.OccupiedTargetHandled := by
  refine fun s number m e => ⟨fun awaits => ?_, fun awaits => ⟨fun n store target => ?_, fun n k kind target source other => ?_,
    fun y k kind target source => ?_⟩⟩
  · have halted : s.takeOccupiedReport m = s.haltAt .occupiedTwice .loaded s.workPosition := if_pos awaits.2.1
    obtain ⟨handler, slots, _, queue, _⟩ := s.haltAt_spec .occupiedTwice .loaded s.workPosition
    exact ⟨_, execOccupied_awaited awaits (.inr rfl), by rw [halted]; exact handler, by rw [halted]; exact slots,
      by rw [halted]; exact queue⟩
  · have ⟨⟨exec_, _⟩, placing, _⟩ := awaits
    obtain ⟨handler, fault, raised, select, orders⟩ := State.targetless_spec (s := s) target
    have taken : s.takeOccupiedReport m = s.storeOccupied m := by
      rw [State.takeOccupiedReport_placing placing, State.takeOccupied, if_pos store]
    refine ⟨_, execOccupied_awaited awaits (.inl rfl), ?_⟩
    rw [taken]
    exact State.storeOccupied_spec exec_ target
  · have ⟨⟨exec_, _⟩, placing, _⟩ := awaits
    have taken : s.takeOccupiedReport m = (s.faultTarget m).putBack m .occupiedStaging := by
      rw [State.takeOccupiedReport_placing placing, State.takeOccupied, if_neg (by simp [kind, MoveKind.isStore]), if_pos kind]
    have orders : (s.faultTarget m).sent .handler = s.sent .handler := by
      rw [State.faultTarget_slot target]
      exact State.sent_raise_other (s.setSlot n (.fault none)) _ _ (by simp)
    have fault : (s.faultTarget m).slot n = .fault none := by
      rw [State.faultTarget_slot target, State.slot, State.raise_slots]
      exact s.slot_setSlot_same n _
    obtain ⟨elsewhere, slot, handler, sent, _⟩ := State.putBack_spec (s := s.faultTarget m) source
      ((congrArg Handler.exec (s.faultTarget_handler m)).trans exec_) .occupiedStaging
    rw [s.faultTarget_handler] at handler sent
    refine ⟨_, execOccupied_awaited awaits (.inl rfl), ?_⟩
    rw [taken]
    exact ⟨(elsewhere n (Ne.symm other)).trans fault, slot, handler, by rw [sent, orders]⟩
  · have ⟨⟨exec_, _⟩, placing, _⟩ := awaits
    have taken : s.takeOccupiedReport m = (s.nestOccupied y).putBack m .occupiedNest := by
      rw [State.takeOccupiedReport_placing placing, State.takeOccupied, target]
      rw [if_neg (by rcases kind with h | h | h <;> simp [h, MoveKind.isStore]),
        if_neg (by rcases kind with h | h | h <;> simp [h])]
      rfl
    obtain ⟨handler', _, orders, _⟩ := s.ungranted_nestOccupied y
    obtain ⟨_, slot, handler, sent, ports, bo, inn⟩ := State.putBack_spec (s := s.nestOccupied y) source
      ((congrArg Handler.exec handler').trans exec_) .occupiedNest
    rw [handler'] at handler sent
    refine ⟨_, execOccupied_awaited awaits (.inl rfl), ?_⟩
    rw [taken]
    refine ⟨slot, handler, by rw [sent, orders], fun same => ?_, fun same => ?_, fun p same => ?_⟩ <;> subst same
    · exact bo.trans s.nestOccupied_bo
    · exact inn.trans s.nestOccupied_inn
    · exact (congrArg (fun v : Vector PortRec 6 => (v.get p).nest) ports).trans (s.nestOccupied_t p)

end Sys2Proof.Machine
end

section
/-! SUPPORT. The end of a move (R115, R121, R164): what the operations around it tell, and what they leave of a move that is
gone. -/

namespace Sys2Proof.Machine

open Sys2Proof

variable {s t u : State} {m : Move} {i j k : Nat}

/-! ## Frames that are no MOVE_END (R164) -/

/-- A frame is MOVE_END. -/
def OutFrame.isEnd : OutFrame → Bool
  | .moveEnd _ _ _ => true
  | _ => false

/-- What is handed to the transmitters beyond `s` is no MOVE_END. -/
def State.NoEnd (s t : State) : Prop := ∀ l, ∃ fs : List OutFrame, t.sent l = s.sent l ++ fs ∧ ∀ f ∈ fs, f.isEnd = false

theorem State.NoEnd.of_tx (h : t.tx = s.tx) : s.NoEnd t := fun l =>
  ⟨[], by rw [State.sent, h, List.append_nil]; rfl, by simp⟩

theorem State.NoEnd.trans (h : s.NoEnd t) (g : t.NoEnd u) : s.NoEnd u := fun l => by
  obtain ⟨fs, e, plain⟩ := h l
  obtain ⟨gs, e', plain'⟩ := g l
  exact ⟨fs ++ gs, by rw [e', e, List.append_assoc], fun f here => (List.mem_append.mp here).elim (plain f) (plain' f)⟩

theorem State.noEnd_send (s : State) (l : Link) {f : OutFrame} (plain : f.isEnd = false) : s.NoEnd (s.send l f) := fun k => by
  by_cases same : k = l
  · subst same
    exact ⟨[f], s.sent_send_same k f, by simpa using plain⟩
  · exact ⟨[], by rw [s.sent_send_other same f, List.append_nil], by simp⟩

theorem State.noEnd_sendTool (s : State) (p : Port) {f : OutFrame} (plain : f.isEnd = false) : s.NoEnd (s.sendTool p f) := by
  unfold State.sendTool
  split
  · exact .of_tx rfl
  · exact s.noEnd_send _ plain

theorem State.noEnd_tellWithdrawn (s : State) (m : Move) (r : Reason) : s.NoEnd (s.tellWithdrawn m r) := by
  unfold State.tellWithdrawn State.sendRequester
  split
  · split
    · exact .of_tx rfl
    · exact s.noEnd_sendTool _ rfl
    · exact s.noEnd_send _ rfl
  · exact .of_tx rfl

theorem State.noEnd_setNoticeSet (s : State) (l : NoticeLink) (x : NoticeSet) : s.NoEnd (s.setNoticeSet l x) :=
  .of_tx (s.setNoticeSet_tx l x)

theorem State.noEnd_raiseOn (s : State) (l : NoticeLink) (k : NoticeKind) (d : Detail) : s.NoEnd (s.raiseOn l k d) := by
  have pushed (a : State) : a.NoEnd (a.pushNotice l) := by
    rcases a.pushNotice_cases l with ⟨_, h⟩ | ⟨_, h⟩ <;> rw [h]
    · exact (a.noEnd_send _ rfl).trans (State.noEnd_setNoticeSet _ l _)
    · exact .of_tx rfl
  unfold State.raiseOn
  simp only
  split
  · exact s.noEnd_setNoticeSet l _
  · exact (s.noEnd_setNoticeSet l _).trans (pushed _)

theorem State.noEnd_raise (s : State) (k : NoticeKind) (d : Detail) : s.NoEnd (s.raise k d) :=
  (s.noEnd_raiseOn .material k d).trans (State.noEnd_raiseOn _ .service k d)

/-- MOVE_END goes to the requester's link alone, once, for a move that names a reticle (R164). -/
theorem State.mem_sent_tellEnd (s : State) (m : Move) (x : MoveOutcome) (l : ReqLink) :
    ∃ fs : List OutFrame, (s.tellEnd m x).sent (.request l) = s.sent (.request l) ++ fs
      ∧ ∀ f, f ∈ fs ↔ ∃ id, f = .moveEnd id m.seq x ∧ m.reticle = some id ∧ m.requester.link = some l
          ∧ ¬(m.kind = .deliver ∧ x = .placed) ∧ ∀ p, l = .tool p → (s.port p).state ≠ .closed := by
  have quiet (h : ∀ id, ¬(m.reticle = some id ∧ m.requester.link = some l
      ∧ ¬(m.kind = .deliver ∧ x = .placed) ∧ ∀ p, l = .tool p → (s.port p).state ≠ .closed))
      (e : (s.tellEnd m x).sent (.request l) = s.sent (.request l)) :
      ∃ fs : List OutFrame, (s.tellEnd m x).sent (.request l) = s.sent (.request l) ++ fs
        ∧ ∀ f, f ∈ fs ↔ ∃ id, f = .moveEnd id m.seq x ∧ m.reticle = some id ∧ m.requester.link = some l
          ∧ ¬(m.kind = .deliver ∧ x = .placed) ∧ ∀ p, l = .tool p → (s.port p).state ≠ .closed :=
    ⟨[], by rw [e, List.append_nil], fun f => iff_of_false (by simp) fun ⟨id, _, rest⟩ => h id rest⟩
  cases named : m.reticle with
  | none =>
    have told : s.tellEnd m x = s := by simp only [State.tellEnd, named]
    exact named ▸ quiet (by simp [named]) (by rw [told])
  | some id =>
    by_cases placed : m.kind = .deliver ∧ x = .placed
    · have told : s.tellEnd m x = s := by simp only [State.tellEnd, named, if_pos placed]
      exact named ▸ quiet (fun _ h => h.2.2.1 placed) (by rw [told])
    · have told : s.tellEnd m x = s.sendRequester m.requester (.moveEnd id m.seq x) := by
        simp only [State.tellEnd, named, if_neg placed]
      by_cases told_ : m.requester.link = some l ∧ ∀ p, l = .tool p → (s.port p).state ≠ .closed
      · obtain ⟨own, opened⟩ := told_
        refine ⟨[.moveEnd id m.seq x], ?_, fun f => ?_⟩
        · rw [told, State.sendRequester, own]
          cases l with
          | tool p => simp [State.sent_sendTool, opened p rfl]
          | material => exact s.sent_send_same _ _
          | service => exact s.sent_send_same _ _
        · rw [List.mem_singleton]
          exact ⟨fun e => ⟨id, e, rfl, own, placed, opened⟩, fun ⟨y, e, same, _⟩ => by rw [e, Option.some.inj same]⟩
      · refine named ▸ quiet (fun _ h => told_ ⟨h.2.1, h.2.2.2⟩) ?_
        rw [told, State.sendRequester]
        split
        · rfl
        · next p own =>
          rw [State.sent_sendTool, if_neg, List.append_nil]
          rintro ⟨same, opened⟩
          cases same
          exact told_ ⟨own, fun q e => by cases e; exact opened⟩
        · next y _ own =>
          exact s.sent_send_other (fun same => by
            cases same
            exact told_ ⟨own, fun q e => absurd e (by rintro rfl; simp_all)⟩) _

/-! ## A move that is gone (R115, R118, R121) -/

/-- A number was given out less than half the counter's range ago, and up to `i` numbers (R118). -/
def State.Old (s : State) (q : Seq) (i : Nat) : Prop := 1 ≤ ageAt s.nextSeq q ∧ ageAt s.nextSeq q ≤ 2147483648 + i

/-- Neither the queue nor a binding holds a number, and none given out soon will be it. -/
def State.Gone (s : State) (q : Seq) (i : Nat) : Prop :=
  s.Old q i ∧ (∀ y ∈ s.queue, y.seq ≠ q) ∧ ∀ r ∈ s.catalogue, r.binding ≠ some q

theorem State.Old.ne {q : Seq} (h : s.Old q i) : s.nextSeq ≠ q := fun same => by
  have h := h.1
  rw [same, ageAt, BitVec.sub_self] at h
  exact absurd h (by simp)

theorem State.Old.mono {q : Seq} (h : s.Old q i) (le : i ≤ j) : s.Old q j := ⟨h.1, by have := h.2; omega⟩

theorem State.Old.succ {q : Seq} (h : s.Old q i) (small : i + 1 < 2147483648) (next : t.nextSeq = s.nextSeq + 1) :
    t.Old q (i + 1) := by
  obtain ⟨low, high⟩ := h
  have age : ageAt t.nextSeq q = ageAt s.nextSeq q + 1 := by
    rw [next]
    unfold ageAt at *
    bv_omega
  exact ⟨by omega, by omega⟩

theorem State.Old.of_fresh (fresh : s.SeqsFresh) (here : m ∈ s.queue) : s.Old m.seq 0 := fresh m here

/-- A change that tells no MOVE_END, brings no gone move back while it admits at most `i` moves, and opens or closes no
port. -/
structure State.Calm (i : Nat) (s t : State) : Prop where
  noEnd : s.NoEnd t
  old : ∀ q k, k + i < 2147483648 → s.Old q k → t.Old q (k + i)
  gone : ∀ q k, k + i < 2147483648 → s.Gone q k → t.Gone q (k + i)
  ports : ∀ p, (t.port p).state = (s.port p).state

theorem State.Calm.trans (h : s.Calm i t) (g : t.Calm j u) : s.Calm (i + j) u where
  noEnd := h.noEnd.trans g.noEnd
  old q k small old := by
    have := g.old q (k + i) (by omega) (h.old q k (by omega) old)
    rwa [Nat.add_assoc] at this
  gone q k small gone := by
    have := g.gone q (k + i) (by omega) (h.gone q k (by omega) gone)
    rwa [Nat.add_assoc] at this
  ports p := (g.ports p).trans (h.ports p)

theorem State.Calm.mono (h : s.Calm i t) (le : i ≤ j) : s.Calm j t where
  noEnd := h.noEnd
  old q k small old := (h.old q k (by omega) old).mono (by omega)
  gone q k small gone := by
    obtain ⟨old, rest⟩ := h.gone q k (by omega) gone
    exact ⟨old.mono (by omega), rest⟩
  ports := h.ports

/-- A change that tells no MOVE_END, gives out at most `i` numbers, and opens or closes no port. -/
structure State.Hushed (i : Nat) (s t : State) : Prop where
  noEnd : s.NoEnd t
  old : ∀ q k, k + i < 2147483648 → s.Old q k → t.Old q (k + i)
  ports : ∀ p, (t.port p).state = (s.port p).state

theorem State.Calm.hushed (h : s.Calm i t) : s.Hushed i t := ⟨h.noEnd, h.old, h.ports⟩

theorem State.Hushed.trans (h : s.Hushed i t) (g : t.Hushed j u) : s.Hushed (i + j) u where
  noEnd := h.noEnd.trans g.noEnd
  old q k small old := by
    have := g.old q (k + i) (by omega) (h.old q k (by omega) old)
    rwa [Nat.add_assoc] at this
  ports p := (g.ports p).trans (h.ports p)

/-- A change that gives out no number, keeps no move but those there were, and binds nothing. -/
theorem State.Calm.of_parts (noEnd : s.NoEnd t) (next : t.nextSeq = s.nextSeq)
    (queue : ∀ y ∈ t.queue, ∃ x ∈ s.queue, x.seq = y.seq)
    (bound : ∀ r ∈ t.catalogue, ∀ q, r.binding = some q → ∃ x ∈ s.catalogue, x.binding = some q)
    (ports : ∀ p, (t.port p).state = (s.port p).state) : s.Calm 0 t := by
  have old (q : Seq) (k : Nat) (h : s.Old q k) : t.Old q k := by rwa [State.Old, next]
  refine ⟨noEnd, fun q k _ h => old q k h, fun q k _ ⟨h, moves, bindings⟩ => ⟨old q k h, fun y here => ?_, fun r here same => ?_⟩,
    ports⟩
  · obtain ⟨x, mem, e⟩ := queue y here
    exact e ▸ moves x mem
  · obtain ⟨x, mem, e⟩ := bound r here q same
    exact bindings x mem e

theorem State.Calm.of_same (noEnd : s.NoEnd t) (next : t.nextSeq = s.nextSeq) (queue : t.queue = s.queue)
    (catalogue : t.catalogue = s.catalogue) (ports : ∀ p, (t.port p).state = (s.port p).state) : s.Calm 0 t :=
  .of_parts noEnd next (fun y here => ⟨y, queue ▸ here, rfl⟩) (fun r here q same => ⟨r, catalogue ▸ here, same⟩) ports

theorem State.Calm.refl (s : State) : s.Calm 0 s := .of_same (.of_tx rfl) rfl rfl rfl fun _ => rfl

theorem State.calm_raise (s : State) (k : NoticeKind) (d : Detail) : s.Calm 0 (s.raise k d) := by
  have noEnd := s.noEnd_raise k d
  obtain ⟨_, _, _, e⟩ := s.raise_eq k d
  rw [e] at noEnd ⊢
  exact .of_same noEnd rfl rfl rfl fun _ => rfl

theorem State.calm_updPort (s : State) (p : Port) {f : PortRec → PortRec} (h : (f (s.port p)).state = (s.port p).state) :
    s.Calm 0 (s.updPort p f) :=
  .of_same (.of_tx rfl) rfl rfl rfl fun q => by
    by_cases e : q = p
    · subst e; rw [s.port_updPort_same, h]
    · rw [s.port_updPort_other e]

theorem State.calm_sendTool (s : State) (p : Port) {f : OutFrame} (plain : f.isEnd = false) : s.Calm 0 (s.sendTool p f) := by
  have noEnd := s.noEnd_sendTool p plain
  obtain ⟨_, e⟩ := s.sendTool_eq p f
  rw [e] at noEnd ⊢
  exact .of_same noEnd rfl rfl rfl fun _ => rfl

theorem State.calm_updRecord (s : State) (id : Ident) {f : Rec → Rec} (h : ∀ r, (f r).binding = r.binding) :
    s.Calm 0 (s.updRecord id f) := by
  refine .of_parts (.of_tx rfl) rfl (fun y here => ⟨y, here, rfl⟩) (fun r here q same => ?_) fun _ => rfl
  obtain ⟨x, mem, rfl⟩ := List.mem_map.mp here
  refine ⟨x, mem, ?_⟩
  split at same
  · rwa [h] at same
  · exact same

theorem State.calm_dropMove (s : State) (q : Seq) : s.Calm 0 (s.dropMove q) := by
  refine .of_parts (.of_tx rfl) rfl (fun y here => ⟨y, (List.mem_filter.mp here).1, rfl⟩) (fun r here _ same => ?_) fun _ => rfl
  obtain ⟨x, mem, rfl⟩ := List.mem_map.mp here
  refine ⟨x, mem, ?_⟩
  split at same
  · cases same
  · exact same

theorem State.calm_updMove (s : State) (q : Seq) {f : Move → Move} (h : ∀ x, (f x).seq = x.seq) : s.Calm 0 (s.updMove q f) := by
  refine .of_parts (.of_tx rfl) rfl (fun y here => ?_) (fun r here _ same => ⟨r, here, same⟩) fun _ => rfl
  obtain ⟨x, mem, rfl⟩ := List.mem_map.mp here
  exact ⟨x, mem, by split <;> simp [h]⟩

theorem State.calm_withdraw (s : State) (m : Move) (r : Option Reason) : s.Calm 0 (s.withdraw m r) := by
  have ended : s.Calm 0 (if m.kind = .scan then (s.dropMove m.seq).censusEnds else s.dropMove m.seq) := by
    split
    · have ends : (s.dropMove m.seq).Calm 0 (s.dropMove m.seq).censusEnds := .of_same (.of_tx rfl) rfl rfl rfl fun _ => rfl
      exact (s.calm_dropMove m.seq).trans ends
    · exact s.calm_dropMove m.seq
  cases r with
  | none => exact ended
  | some r =>
    refine ended.trans (j := 0) ?_
    have noEnd := State.noEnd_tellWithdrawn (if m.kind = .scan then (s.dropMove m.seq).censusEnds else s.dropMove m.seq) m r
    obtain ⟨_, e⟩ := State.tellWithdrawn_eq (if m.kind = .scan then (s.dropMove m.seq).censusEnds else s.dropMove m.seq) m r
    rw [e] at noEnd
    change State.Calm 0 _ (State.tellWithdrawn _ m r)
    rw [e]
    exact .of_same noEnd rfl rfl rfl fun _ => rfl

/-- Entering the queue gives out one number, to the move and to the binding of the record it names (R118, R121). -/
theorem State.calm_enter (s : State) (o : Offer) (d h : Bool) : s.Calm 1 (s.enter o d h) where
  noEnd := .of_tx (s.enter_tx o d h)
  old q k small old := old.succ small (by obtain ⟨_, e, _⟩ := s.enter_eq o d h; rw [e])
  gone q k small gone := by
    obtain ⟨old, moves, bindings⟩ := gone
    refine ⟨old.succ small (by obtain ⟨_, e, _⟩ := s.enter_eq o d h; rw [e]), fun y here => ?_, fun r here => ?_⟩
    · rw [s.enter_queue, List.mem_append, List.mem_singleton] at here
      rcases here with here | rfl
      · exact moves y here
      · exact old.ne
    · unfold State.enter at here
      dsimp only at here
      split at here
      · obtain ⟨x, mem, rfl⟩ := List.mem_map.mp here
        split
        · exact fun same => old.ne (Option.some.inj same)
        · exact bindings x mem
      · exact bindings r here
  ports p := by rw [State.port, s.enter_ports]; rfl

theorem State.calm_offerInward (s : State) (o : Offer) : s.Calm 1 (s.offerInward o) := by
  have counted (n : Fin 16) : s.Calm 0 (s.countHit n o) := by
    unfold State.countHit
    dsimp only
    refine State.Calm.trans (i := 0) (j := 0) ?_ (State.calm_raise _ _ _)
    exact .of_same (.of_tx rfl) rfl rfl rfl fun _ => rfl
  rcases s.offerInward_cases o with ⟨_, h⟩ | ⟨n, _, h⟩ <;> rw [h]
  · exact s.calm_enter o _ _
  · exact (counted n).trans (State.calm_enter _ o _ _)

theorem State.calm_reclaimIfUnfit (s : State) (id : Ident) : s.Calm 1 (s.reclaimIfUnfit id) := by
  rcases s.reclaimIfUnfit_cases id with h | ⟨r, p, _, _, _, _, h⟩ <;> rw [h]
  · exact (State.Calm.refl s).mono (by omega)
  · exact ((s.calm_updPort p rfl).trans (State.calm_offerInward _ _)).trans (State.calm_sendTool _ p rfl)

theorem State.calm_doubtRecord (s : State) (id : Ident) : s.Calm 1 (s.doubtRecord id) :=
  (s.calm_updRecord id (f := Rec.doubt) fun _ => rfl).trans (State.calm_reclaimIfUnfit _ id)

theorem State.calm_setHeld (s : State) (id : Ident) : s.Calm 1 (s.setHeld id) := by
  unfold State.setHeld State.withdrawHeldDeliver
  split
  · split
    · exact (State.Calm.refl s).mono (by omega)
    · have held := s.calm_updRecord id (f := fun x => { x with held := true }) fun _ => rfl
      split
      · split
        · exact (held.trans (State.calm_withdraw _ _ _)).trans (State.calm_reclaimIfUnfit _ id)
        · exact held.trans (State.calm_reclaimIfUnfit _ id)
      · exact held.trans (State.calm_reclaimIfUnfit _ id)
  · exact (State.Calm.refl s).mono (by omega)

theorem State.calm_deferredAdmission (s : State) (k : MoveKind) : s.Calm 1 (s.deferredAdmission k) := by
  have none_ : s.Calm 1 s := (State.Calm.refl s).mono (by omega)
  unfold State.deferredAdmission State.stockInArrives State.reshelveArrives
  split
  · split
    · split
      · exact none_
      · exact s.calm_offerInward _
    · exact none_
  · split
    · split
      · exact none_
      · exact s.calm_offerInward _
    · exact none_
  · exact none_

theorem State.calm_placementTest (s : State) (p : Port) (id : Ident) (x : Bool) : s.Calm 1 (s.placementTest p id x) := by
  unfold State.placementTest
  split
  · split
    · exact (((s.calm_updPort p rfl).trans (State.calm_sendTool _ p rfl)).trans (State.calm_updPort _ p rfl)).mono (by omega)
    · have lapsed := (s.calm_updPort p (f := fun r => { r with nest := .outLapsed, window := none, lapseDeferred := false })
        rfl).trans (State.calm_offerInward _ (reclaimOffer p id))
      dsimp only
      split
      · exact lapsed.trans (State.calm_sendTool _ p rfl)
      · exact lapsed
  · exact (State.Calm.refl s).mono (by omega)

theorem State.calm_delivered (s : State) (m : Move) (id : Ident) : s.Calm 1 (s.delivered m id) := by
  unfold State.delivered
  split
  · next p _ _ =>
    have consumed : s.Calm 0 (s.updAhead p fun a => a.placed id) := .of_same (.of_tx rfl) rfl rfl rfl fun _ => rfl
    exact consumed.trans (State.calm_placementTest _ _ _ _)
  · exact (State.Calm.refl s).mono (by omega)

/-- The records of a move that failed: the one it should have carried is lost, and another one read is doubted (R155, R167). -/
def State.lostAndDoubted (s : State) (lost read : Option Ident) : State :=
  let s1 := match lost with
    | some id => s.updRecord id Rec.lose
    | none => s
  match read with
  | some id => if lost = some id then s1 else s1.doubtRecord id
  | none => s1

theorem State.loseExpected_eq (s : State) (m : Move) (read : Option Ident) :
    s.loseExpected m read = s.lostAndDoubted m.expected read := rfl

theorem State.removedRecords_eq (s : State) (m : Move) (read : Option Ident) :
    s.removedRecords m read = s.lostAndDoubted m.reticle read := rfl

theorem State.lostAndDoubted_cases (s : State) (lost read : Option Ident) :
    ∃ a, (a = s ∧ lost = none ∨ ∃ id, lost = some id ∧ a = s.updRecord id Rec.lose)
      ∧ ((s.lostAndDoubted lost read = a ∧ (read = none ∨ read = lost))
        ∨ ∃ z, read = some z ∧ lost ≠ some z ∧ s.lostAndDoubted lost read = a.doubtRecord z) := by
  cases lost with
  | none =>
    cases read with
    | none => exact ⟨s, .inl ⟨rfl, rfl⟩, .inl ⟨rfl, .inl rfl⟩⟩
    | some z => exact ⟨s, .inl ⟨rfl, rfl⟩, .inr ⟨z, rfl, by simp, rfl⟩⟩
  | some id =>
    refine ⟨s.updRecord id Rec.lose, .inr ⟨id, rfl, rfl⟩, ?_⟩
    cases read with
    | none => exact .inl ⟨rfl, .inl rfl⟩
    | some z =>
      by_cases same : some id = some z
      · exact .inl ⟨if_pos same, .inr same.symm⟩
      · exact .inr ⟨z, rfl, same, if_neg same⟩

theorem State.calm_lostAndDoubted (s : State) (lost read : Option Ident) : s.Calm 1 (s.lostAndDoubted lost read) := by
  obtain ⟨a, loses, doubts⟩ := s.lostAndDoubted_cases lost read
  have first : s.Calm 0 a := by
    rcases loses with ⟨rfl, _⟩ | ⟨id, _, rfl⟩
    · exact .refl a
    · exact s.calm_updRecord id fun _ => rfl
  rcases doubts with ⟨e, _⟩ | ⟨z, _, _, e⟩ <;> rw [e]
  · exact first.mono (by omega)
  · exact first.trans (a.calm_doubtRecord z)

theorem State.calm_nestEmptied (s : State) (x : Nest) : s.Calm 0 (s.nestEmptied x) := by
  cases x with
  | t p => exact s.calm_updPort p (f := fun r => { r with nest := .empty }) rfl
  | bi => exact .of_same (.of_tx rfl) rfl rfl rfl fun _ => rfl
  | bo => exact .of_same (.of_tx rfl) rfl rfl rfl fun _ => rfl
  | inn => exact .of_same (.of_tx rfl) rfl rfl rfl fun _ => rfl

theorem State.calm_nestBlocks (s : State) (x : Nest) (id : Option Ident) : s.Calm 0 (s.nestBlocks x id) := by
  unfold State.nestBlocks
  refine State.Calm.trans (i := 0) (j := 0) ?_ (State.calm_raise _ _ _)
  cases x with
  | t p => exact s.calm_updPort p (f := fun r => { r with nest := .blocked }) rfl
  | bi => exact .of_same (.of_tx rfl) rfl rfl rfl fun _ => rfl
  | bo => exact .of_same (.of_tx rfl) rfl rfl rfl fun _ => rfl
  | inn => exact .of_same (.of_tx rfl) rfl rfl rfl fun _ => rfl

theorem State.calm_setSlot (s : State) (n : Slot) (e : SlotEntry) : s.Calm 0 (s.setSlot n e) :=
  .of_same (.of_tx rfl) rfl rfl rfl fun _ => rfl

theorem State.calm_releaseTarget (s : State) (x : Target) : s.Calm 0 (s.releaseTarget x) := by
  unfold State.releaseTarget
  split
  · split
    · exact s.calm_setSlot _ _
    · exact .refl s
  · split
    · exact s.calm_nestEmptied _
    · exact .refl s
  · exact .refl s

/-! ## The end of a move (R121, R164) -/

/-- The move ended, its binding released. -/
theorem State.gone_dropMove {q : Seq} (old : s.Old q i) : (s.dropMove q).Gone q i :=
  ⟨old, fun y here => by simpa using (List.mem_filter.mp here).2, fun r here => s.dropMove_binding q r here⟩

theorem State.Gone.drops {b : State} (h : b.SeqsFresh → u.Gone m.seq i) : b.DropsMove u m := fun fresh =>
  (h fresh).2

/-- The parts of a move's end put together: what comes before the move leaves the queue, what comes between that and
MOVE_END, and what follows. -/
theorem State.endsMove_of_calm {b a c : State} {x : MoveOutcome} (here : m ∈ b.queue) (before : b.Hushed i a)
    (between : (a.dropMove m.seq).Calm j c) (after : (c.tellEnd m x).Calm k u) (small : i + j + k < 2147483648)
    (slots : u.slots = a.slots) (frees : ∀ n q, (a.slot n).move = some q → a.slot n = b.slot n)
    (target : ∀ n z q, m.target = .pos (.slot n) → b.slot n = .inbound z q → (a.slot n).move = none)
    (source : ∀ n z q, m.source = .slot n → x ≠ .placed → b.slot n = .outbound z q → (a.slot n).move = none) :
    b.EndsMove u m x := by
  have slot (n : Slot) : u.slot n = a.slot n := congrArg (fun v : Vector SlotEntry 396 => v.get n) slots
  have dropped : b.DropsMove u m := fun fresh => by
    have gone := between.gone m.seq i (by omega) (State.gone_dropMove (by
      have := before.old m.seq 0 (by omega) (State.Old.of_fresh fresh here)
      rwa [Nat.zero_add] at this))
    have gone' : (c.tellEnd m x).Gone m.seq (i + j) := by
      obtain ⟨_, e⟩ := c.tellEnd_eq m x
      rw [e]
      exact gone
    exact (after.gone m.seq (i + j) (by omega) gone').2
  refine ⟨dropped, fun n q h => ?_, fun n z q h h' => ?_, fun n z q h h' h'' => ?_, fun l id q y => ?_⟩
  · rw [slot] at h ⊢
    exact frees n q h
  · rw [slot]
    exact target n z q h h'
  · rw [slot]
    exact source n z q h h' h''
  · obtain ⟨fs, e, plain⟩ := ((before.noEnd.trans (State.calm_dropMove a m.seq).noEnd).trans between.noEnd) (.request l)
    obtain ⟨gs, e', ends⟩ := c.mem_sent_tellEnd m x l
    obtain ⟨hs, e'', plain'⟩ := after.noEnd (.request l)
    have all : u.sent (.request l) = b.sent (.request l) ++ (fs ++ gs ++ hs) := by
      rw [e'', e', e, List.append_assoc, List.append_assoc, List.append_assoc]
    have state (p : Port) : (c.port p).state = (b.port p).state := (between.ports p).trans (before.ports p)
    rw [all, List.drop_left, List.mem_append, List.mem_append, ends]
    constructor
    · rintro ((here | ⟨id', same, rest⟩) | here)
      · exact absurd (plain _ here) (by simp [OutFrame.isEnd])
      · cases same
        obtain ⟨named, own, placed, opened⟩ := rest
        exact ⟨named, rfl, rfl, own, placed, fun p hp => state p ▸ opened p hp⟩
      · exact absurd (plain' _ here) (by simp [OutFrame.isEnd])
    · rintro ⟨named, rfl, rfl, own, placed, opened⟩
      exact .inl (.inr ⟨id, rfl, named, own, placed, fun p hp => (state p).symm ▸ opened p hp⟩)

end Sys2Proof.Machine
end

section
/-! SUPPORT. What the operations around the end of a move leave of the nests, the notices, the records and the handler
interface; and the picks that fail (R121, R150, R155, R156, R164). -/

namespace Sys2Proof.Machine

open Sys2Proof

variable {s t u : State} {m : Move} {e : ExecRecord} {ph : Phase}

/-! ## Nests -/

/-- The fab-side nests stand, and so does every tool nest that is not OUT_WAIT. -/
structure State.NestsStand (s t : State) : Prop where
  bi : t.bi = s.bi
  bo : t.bo = s.bo
  inn : t.inn = s.inn
  tool : ∀ p, s.toolNest p ≠ .outWait → t.toolNest p = s.toolNest p

theorem State.NestsStand.refl (s : State) : s.NestsStand s := ⟨rfl, rfl, rfl, fun _ _ => rfl⟩

theorem State.NestsStand.trans (h : s.NestsStand t) (g : t.NestsStand u) : s.NestsStand u :=
  ⟨g.bi.trans h.bi, g.bo.trans h.bo, g.inn.trans h.inn, fun p other =>
    (g.tool p ((h.tool p other).symm ▸ other)).trans (h.tool p other)⟩

theorem State.NestsStand.of_eq (bi : t.bi = s.bi) (bo : t.bo = s.bo) (inn : t.inn = s.inn) (ports : t.ports = s.ports) :
    s.NestsStand t := ⟨bi, bo, inn, fun p _ => congrArg (fun v : Vector PortRec 6 => (v.get p).nest) ports⟩

theorem State.NestsStand.isEmpty (h : s.NestsStand t) {x : Nest} (empty : s.nestIsEmpty x = true) :
    t.nestIsEmpty x = true := by
  cases x with
  | t p =>
    have nest : s.toolNest p = .empty := of_decide_eq_true empty
    exact decide_eq_true ((h.tool p (by simp [nest])).trans nest)
  | bi => exact decide_eq_true (h.bi.trans (of_decide_eq_true empty))
  | bo => exact decide_eq_true (h.bo.trans (of_decide_eq_true empty))
  | inn => exact decide_eq_true (h.inn.trans (of_decide_eq_true empty))

theorem State.nestsStand_raise (s : State) (k : NoticeKind) (d : Detail) : s.NestsStand (s.raise k d) := by
  obtain ⟨_, _, _, e⟩ := s.raise_eq k d
  rw [e]
  exact .of_eq rfl rfl rfl rfl

theorem State.nestsStand_tellEnd (s : State) (m : Move) (x : MoveOutcome) : s.NestsStand (s.tellEnd m x) := by
  obtain ⟨_, e⟩ := s.tellEnd_eq m x
  rw [e]
  exact .of_eq rfl rfl rfl rfl

theorem State.nestsStand_offerInward (s : State) (o : Offer) : s.NestsStand (s.offerInward o) := by
  have entered (a : State) (h : Bool) : a.NestsStand (a.enter o false h) := by
    obtain ⟨_, e, _⟩ := a.enter_eq o false h
    rw [e]
    exact .of_eq rfl rfl rfl rfl
  rcases s.offerInward_cases o with ⟨_, h⟩ | ⟨n, _, h⟩ <;> rw [h]
  · exact entered s _
  · obtain ⟨_, _, _, e⟩ := s.countHit_eq n o
    have counted : s.NestsStand (s.countHit n o) := by
      rw [e]
      exact .of_eq rfl rfl rfl rfl
    exact counted.trans (entered _ _)

theorem State.nestsStand_sendTool (s : State) (p : Port) (f : OutFrame) : s.NestsStand (s.sendTool p f) := by
  obtain ⟨_, e⟩ := s.sendTool_eq p f
  rw [e]
  exact .of_eq rfl rfl rfl rfl

theorem State.nestsStand_reclaimIfUnfit (s : State) (id : Ident) : s.NestsStand (s.reclaimIfUnfit id) := by
  rcases s.reclaimIfUnfit_cases id with h | ⟨r, p, _, _, nest, _, h⟩ <;> rw [h]
  · exact .refl s
  · have lapsed : s.NestsStand (s.lapseNest p) := ⟨rfl, rfl, rfl, fun q other => by
      have apart : q ≠ p := fun same => other (same ▸ nest)
      exact congrArg PortRec.nest (s.port_updPort_other apart _)⟩
    exact (lapsed.trans (State.nestsStand_offerInward _ _)).trans (State.nestsStand_sendTool _ p _)

theorem State.nestsStand_doubtRecord (s : State) (id : Ident) : s.NestsStand (s.doubtRecord id) :=
  State.NestsStand.trans (t := s.updRecord id Rec.doubt) (.of_eq rfl rfl rfl rfl) (State.nestsStand_reclaimIfUnfit _ id)

theorem State.nestsStand_lostAndDoubted (s : State) (lost read : Option Ident) :
    s.NestsStand (s.lostAndDoubted lost read) := by
  obtain ⟨a, loses, doubts⟩ := s.lostAndDoubted_cases lost read
  have first : s.NestsStand a := by rcases loses with ⟨rfl, _⟩ | ⟨id, _, rfl⟩ <;> exact .of_eq rfl rfl rfl rfl
  rcases doubts with ⟨e, _⟩ | ⟨z, _, _, e⟩ <;> rw [e]
  · exact first
  · exact first.trans (a.nestsStand_doubtRecord z)

/-! ## The deferred admission (R96, R109) -/

/-- A deferred admission admits nothing, or one inward move. -/
theorem State.deferredAdmission_cases (s : State) (k : MoveKind) :
    s.deferredAdmission k = s ∨ ∃ o, s.deferredAdmission k = s.offerInward o := by
  unfold State.deferredAdmission State.stockInArrives State.reshelveArrives
  split
  · split
    · split
      · exact .inl rfl
      · exact .inr ⟨_, rfl⟩
    · exact .inl rfl
  · split
    · split
      · exact .inl rfl
      · exact .inr ⟨_, rfl⟩
    · exact .inl rfl
  · exact .inl rfl

theorem State.deferredAdmission_of_other (s : State) {k : MoveKind} (stockIn : k ≠ .stockIn) (reshelve : k ≠ .reshelve) :
    s.deferredAdmission k = s := by
  unfold State.deferredAdmission
  split
  · exact absurd rfl stockIn
  · exact absurd rfl reshelve
  · rfl

theorem State.nestsStand_deferredAdmission (s : State) (k : MoveKind) : s.NestsStand (s.deferredAdmission k) := by
  rcases s.deferredAdmission_cases k with h | ⟨o, h⟩ <;> rw [h]
  · exact .refl s
  · exact s.nestsStand_offerInward o

theorem State.ungranted_deferredAdmission (s : State) (k : MoveKind) : s.Ungranted (s.deferredAdmission k) := by
  rcases s.deferredAdmission_cases k with h | ⟨o, h⟩ <;> rw [h]
  · exact .refl s
  · exact s.ungranted_offerInward o

theorem State.noticesStand_deferredAdmission (s : State) (k : MoveKind) : s.NoticesStand (s.deferredAdmission k) := by
  rcases s.deferredAdmission_cases k with h | ⟨o, h⟩ <;> rw [h]
  · exact .refl s
  · exact s.noticesStand_offerInward o

@[simp] theorem State.steady_deferredAdmission (s : State) (k : MoveKind) : (s.deferredAdmission k).steady = s.steady := by
  rcases s.deferredAdmission_cases k with h | ⟨o, h⟩ <;> rw [h]
  exact s.steady_offerInward o

/-! ## Records lost and doubted (R16, R155, R167) -/

theorem State.ungranted_doubtRecord (s : State) (id : Ident) : s.Ungranted (s.doubtRecord id) :=
  (s.ungranted_updRecord id (f := Rec.doubt) (fun _ => rfl) (fun _ held => held)).trans (State.ungranted_reclaimIfUnfit _ id)

theorem State.ungranted_lostAndDoubted (s : State) (lost read : Option Ident) : s.Ungranted (s.lostAndDoubted lost read) := by
  obtain ⟨a, loses, doubts⟩ := s.lostAndDoubted_cases lost read
  have first : s.Ungranted a := by
    rcases loses with ⟨rfl, _⟩ | ⟨id, _, rfl⟩
    · exact .refl a
    · exact s.ungranted_updRecord id (f := Rec.lose) (fun _ => rfl) (fun _ held => held)
  rcases doubts with ⟨e, _⟩ | ⟨z, _, _, e⟩ <;> rw [e]
  · exact first
  · exact first.trans (a.ungranted_doubtRecord z)

theorem State.noticesStand_lostAndDoubted (s : State) (lost read : Option Ident) :
    s.NoticesStand (s.lostAndDoubted lost read) := by
  obtain ⟨a, loses, doubts⟩ := s.lostAndDoubted_cases lost read
  have first : s.NoticesStand a := by rcases loses with ⟨rfl, _⟩ | ⟨id, _, rfl⟩ <;> exact .of_eq rfl rfl
  rcases doubts with ⟨e, _⟩ | ⟨z, _, _, e⟩ <;> rw [e]
  · exact first
  · exact first.trans (State.NoticesStand.trans (t := a.updRecord z Rec.doubt) (.of_eq rfl rfl)
      (State.noticesStand_reclaimIfUnfit _ z))

theorem State.steady_doubtRecord (s : State) (id : Ident) : (s.doubtRecord id).steady = s.steady.updRecord id Rec.doubt :=
  (State.steady_reclaimIfUnfit _ id).trans (s.steady_updRecord_eq id fun _ => rfl)

/-- A property of a record's steady part holds of all records of an identifier, told from the steady part of a state. -/
theorem State.forall_records {P : Rec → Prop} (id : Ident) (h : t.steady.records = s.steady.records)
    (known : ∀ r ∈ s.catalogue, r.id = id → P r.steady) : ∀ r ∈ t.catalogue, r.id = id → P r.steady := fun r here same => by
  have mem : r.steady ∈ t.steady.records := List.mem_map_of_mem here
  rw [h] at mem
  obtain ⟨x, hx, e⟩ := List.mem_map.mp mem
  have ids : x.steady.id = r.steady.id := by rw [e]
  exact e ▸ known x hx (Eq.trans ids same)

theorem State.Lost.of_records {id : Ident} (lost : s.Lost id) (h : t.steady.records = s.steady.records) : t.Lost id :=
  State.forall_records (P := fun x => x.location = .unlocated ∧ x.condition = .quarantine ∧ x.suspect = true) id h lost

theorem State.forall_updRecord {P : Rec → Prop} (s : State) (id : Ident) {f : Rec → Rec}
    (h : ∀ r ∈ s.catalogue, r.id = id → P (f r)) : ∀ r ∈ (s.updRecord id f).catalogue, r.id = id → P r := fun r here same => by
  obtain ⟨x, hx, rfl⟩ := List.mem_map.mp here
  by_cases own : x.id = id
  · rw [if_pos own]
    exact h x hx own
  · rw [if_neg own] at same
    exact absurd same own

theorem State.lost_updRecord (s : State) (id : Ident) : (s.updRecord id Rec.lose).Lost id :=
  s.forall_updRecord id (f := Rec.lose) fun _ _ _ => ⟨rfl, rfl, rfl⟩

theorem State.Lost.updRecord {id z : Ident} (lost : s.Lost id) (other : z ≠ id) {f : Rec → Rec} (ids : ∀ r, (f r).id = r.id) :
    (s.updRecord z f).Lost id := fun r here same => by
  obtain ⟨x, hx, rfl⟩ := List.mem_map.mp here
  by_cases own : x.id = z
  · rw [if_pos own, ids] at same
    exact absurd (own.symm.trans same) other
  · rw [if_neg own] at same ⊢
    exact lost x hx same

theorem State.lost_lostAndDoubted (s : State) (id : Ident) (read : Option Ident) : (s.lostAndDoubted (some id) read).Lost id := by
  obtain ⟨a, loses, doubts⟩ := s.lostAndDoubted_cases (some id) read
  rcases loses with ⟨_, none_⟩ | ⟨x, same, rfl⟩
  · cases none_
  · cases same
    rcases doubts with ⟨e, _⟩ | ⟨z, _, other, e⟩ <;> rw [e]
    · exact s.lost_updRecord id
    · have stays : ((s.updRecord id Rec.lose).updRecord z Rec.doubt).Lost id :=
        (s.lost_updRecord id).updRecord (fun same => other (congrArg some same.symm)) fun _ => rfl
      exact stays.of_records (by rw [State.doubtRecord, State.steady_reclaimIfUnfit])

theorem State.record_steady_records (h : t.steady.records = s.steady.records) (id : Ident) :
    (t.record id).map Rec.steady = (s.record id).map Rec.steady := by
  have found (v : State) : (v.record id).map Rec.steady = v.steady.records.find? (fun x => decide (x.id = id)) := by
    simp only [State.record, State.steady, List.find?_map]
    rfl
  rw [found, found, h]

/-- A record of one state is, but for binding and held flag, that of another state with the same steady records. -/
theorem State.record_some_of_records (h : t.steady.records = s.steady.records) {id : Ident} {r : Rec}
    (known : s.record id = some r) : ∃ y, t.record id = some y ∧ y.steady = r.steady := by
  have same := State.record_steady_records h id
  rw [known, Option.map_some] at same
  obtain ⟨y, found, e⟩ := Option.map_eq_some_iff.mp same
  exact ⟨y, found, e⟩

theorem State.Doubts.of_records {z : Ident} {a b : State} (h : s.Doubts t z) (before : a.steady.records = s.steady.records)
    (after : b.steady.records = t.steady.records) : a.Doubts b z := fun r known => by
  obtain ⟨x, hx, e⟩ := State.record_some_of_records before.symm known
  obtain ⟨y, hy, location, condition, suspect⟩ := h x hx
  obtain ⟨w, hw, e'⟩ := State.record_some_of_records after hy
  have here : w.steady.location = y.steady.location ∧ w.steady.condition = y.steady.condition
      ∧ w.steady.suspect = y.steady.suspect := by rw [e']; exact ⟨rfl, rfl, rfl⟩
  have there : x.steady.location = r.steady.location := by rw [e]
  exact ⟨w, hw, here.1.trans (location.trans there), here.2.1.trans condition, here.2.2.trans suspect⟩

theorem State.doubts_lostAndDoubted (s : State) {lost : Option Ident} {z : Ident} (other : lost ≠ some z) :
    s.Doubts (s.lostAndDoubted lost (some z)) z := by
  obtain ⟨a, loses, doubts⟩ := s.lostAndDoubted_cases lost (some z)
  have same : a.record z = s.record z := by
    rcases loses with ⟨rfl, _⟩ | ⟨id, here, rfl⟩
    · rfl
    · exact s.record_updRecord_other Rec.lose (fun _ => rfl) fun e => other (here.trans (congrArg some e.symm))
  rcases doubts with ⟨_, none_ | here⟩ | ⟨x, here, _, e⟩
  · cases none_
  · exact absurd here.symm other
  · cases here
    have doubted : s.Doubts (a.updRecord z Rec.doubt) z := fun r known => by
      rw [← same] at known
      exact ⟨r.doubt, by rw [a.record_updRecord_same z Rec.doubt fun _ => rfl, known]; rfl, rfl, rfl, rfl⟩
    exact doubted.of_records rfl (by rw [e, State.doubtRecord, State.steady_reclaimIfUnfit])

end Sys2Proof.Machine
end

section
/-! PROOFS. The failed end of a move, and the picks that fail (R121, R150, R155, R156, R164, R167). -/

namespace Sys2Proof.Machine

open Sys2Proof

variable {s t u : State} {m : Move} {e : ExecRecord} {ph : Phase}

theorem State.ungranted_tellEnd (s : State) (m : Move) (x : MoveOutcome) : s.Ungranted (s.tellEnd m x) := by
  unfold State.tellEnd
  split
  · split
    · exact .refl s
    · exact s.ungranted_sendRequester _ _
  · exact .refl s

/-! ## A move that ends without its pod placed (R155, R156, R167) -/

/-- The move out of the queue with the handler interface IDLE. -/
def State.dropped (s : State) (m : Move) : State := (s.dropMove m.seq).handlerIdle

/-- The failed end of a move whose source and target have been dealt with: the records, MOVE_END, a notice, and a deferred
admission. -/
def State.failed (s : State) (m : Move) (x : MoveOutcome) (lost read : Option Ident) (note : Option (NoticeKind × Detail)) :
    State :=
  let told := ((s.dropped m).lostAndDoubted lost read).tellEnd m x
  (match note with
    | some (k, d) => told.raise k d
    | none => told).deferredAdmission m.kind

theorem State.sourceEmptyEnd_eq (s : State) (m : Move) :
    s.sourceEmptyEnd m = ((s.emptySource m.source).releaseTarget m.target).failed m .mismatch m.expected none
      (some (.slotFault, ⟨m.reticle, none, some m.source, none, none⟩)) := rfl

theorem State.mismatchEnd_eq (s : State) (m : Move) {read : Option Ident}
    (h : identRead (s.handler.exec.bind (·.read)) = read) :
    s.mismatchEnd m = ((s.faultSource m read).releaseTarget m.target).failed m .mismatch m.expected read
      (some (.mismatch, mismatchDetail m read)) := by
  subst h
  rfl

section
variable {x : MoveOutcome} {lost read : Option Ident} {note : Option (NoticeKind × Detail)}

theorem State.failed_ungranted (s : State) : (s.dropped m).Ungranted (s.failed m x lost read note) := by
  have told := ((s.dropped m).ungranted_lostAndDoubted lost read).trans
    (((s.dropped m).lostAndDoubted lost read).ungranted_tellEnd m x)
  unfold State.failed
  dsimp only
  split
  · exact (told.trans (State.ungranted_raise _ _ _)).trans (State.ungranted_deferredAdmission _ _)
  · exact told.trans (State.ungranted_deferredAdmission _ _)

theorem State.failed_handler (s : State) : (s.failed m x lost read note).handler = s.handler.idled := s.failed_ungranted.handler

theorem State.failed_slots (s : State) : (s.failed m x lost read note).slots = s.slots := s.failed_ungranted.slots

theorem State.failed_slot (s : State) (n : Slot) : (s.failed m x lost read note).slot n = s.slot n :=
  congrArg (fun v : Vector SlotEntry 396 => v.get n) s.failed_slots

theorem State.failed_nests (s : State) : s.NestsStand (s.failed m x lost read note) := by
  have dropped : s.NestsStand (s.dropped m) := .of_eq rfl rfl rfl rfl
  have told := (dropped.trans ((s.dropped m).nestsStand_lostAndDoubted lost read)).trans
    (((s.dropped m).lostAndDoubted lost read).nestsStand_tellEnd m x)
  unfold State.failed
  dsimp only
  split
  · exact (told.trans (State.nestsStand_raise _ _ _)).trans (State.nestsStand_deferredAdmission _ _)
  · exact told.trans (State.nestsStand_deferredAdmission _ _)

theorem State.failed_steady (s : State) :
    (s.failed m x lost read note).steady = ((s.dropped m).lostAndDoubted lost read).steady := by
  unfold State.failed
  dsimp only
  rw [State.steady_deferredAdmission]
  split
  · rw [State.steady_raise, State.steady_tellEnd]
  · rw [State.steady_tellEnd]

theorem State.steady_dropped (s : State) (m : Move) : (s.dropped m).steady = s.steady := s.steady_dropMove m.seq

theorem State.noticesStand_told (s : State) :
    s.NoticesStand (((s.dropped m).lostAndDoubted lost read).tellEnd m x) := by
  have dropped : s.NoticesStand (s.dropped m) := .of_eq rfl rfl
  refine (dropped.trans ((s.dropped m).noticesStand_lostAndDoubted lost read)).trans ?_
  obtain ⟨_, h⟩ := ((s.dropped m).lostAndDoubted lost read).tellEnd_eq m x
  rw [h]
  exact .of_eq rfl rfl

theorem State.failed_raised (s : State) {k : NoticeKind} {d : Detail} (noSlot : k ≠ .noSlot) (intercept : k ≠ .intercept) :
    (s.failed m x lost read (some (k, d))).Raised k d :=
  (State.noticesStand_deferredAdmission _ _).raised noSlot intercept (State.raise_raised _ k d)

/-- A notice that stood before the end stands after it. -/
theorem State.Raised.failed {k : NoticeKind} {d : Detail} (h : s.Raised k d) (noSlot : k ≠ .noSlot) (intercept : k ≠ .intercept)
    (other : ∀ j d', note = some (j, d') → k ≠ j) : (s.failed m x lost read note).Raised k d := by
  have told : (((s.dropped m).lostAndDoubted lost read).tellEnd m x).Raised k d := s.noticesStand_told.raised noSlot intercept h
  refine (State.noticesStand_deferredAdmission _ _).raised noSlot intercept ?_
  split
  · next j d' =>
    intro l
    obtain ⟨pending, detail, _⟩ := State.raise_other (((s.dropped m).lostAndDoubted lost read).tellEnd m x) (other j d' rfl) d' l
    exact ⟨pending.trans (told l).1, detail.trans (told l).2⟩
  · exact told

theorem State.failed_lost (s : State) (id : Ident) : (s.failed m x (some id) read note).Lost id :=
  ((s.dropped m).lost_lostAndDoubted id read).of_records (by rw [s.failed_steady])

theorem State.failed_doubts {b : State} (s : State) {z : Ident} (other : lost ≠ some z) (records : b.steady.records = s.steady.records) :
    b.Doubts (s.failed m x lost (some z) note) z :=
  ((s.dropped m).doubts_lostAndDoubted other).of_records (records.trans (by rw [s.steady_dropped])) (by rw [s.failed_steady])

/-- A failed end is the end of the move. -/
theorem State.failed_endsMove {b : State} (here : m ∈ b.queue) (before : b.Calm 0 s)
    (frees : ∀ n q, (s.slot n).move = some q → s.slot n = b.slot n)
    (target : ∀ n z q, m.target = .pos (.slot n) → b.slot n = .inbound z q → (s.slot n).move = none)
    (source : ∀ n z q, m.source = .slot n → b.slot n = .outbound z q → (s.slot n).move = none) :
    b.EndsMove (s.failed m x lost read note) m x := by
  have idle : (s.dropMove m.seq).Calm 0 (s.dropped m) := .of_same (.of_tx rfl) rfl rfl rfl fun _ => rfl
  have after : (((s.dropped m).lostAndDoubted lost read).tellEnd m x).Calm 1 (s.failed m x lost read note) := by
    unfold State.failed
    dsimp only
    split
    · exact (State.calm_raise _ _ _).trans (State.calm_deferredAdmission _ _)
    · exact State.calm_deferredAdmission _ _
  exact State.endsMove_of_calm here before.hushed (idle.trans (State.calm_lostAndDoubted _ lost read)) after (by omega) s.failed_slots
    frees target (fun n z q h _ => source n z q h)

end

/-! ## The source and the target of a move that ends (R155, R156, R167) -/

theorem State.releaseTarget_slot {x : Target} {k : Slot} (target : x = .pos (.slot k)) {z : Option Ident} {q : Seq}
    (reserved : s.slot k = .inbound z q) : (s.releaseTarget x).slot k = .empty := by
  rw [target, State.releaseTarget]
  simp only [Target.pos?, reserved]
  exact s.slot_setSlot_same k _

theorem State.releaseTarget_slot_cases (s : State) (x : Target) (k : Slot) :
    (s.releaseTarget x).slot k = s.slot k ∨ (x = .pos (.slot k) ∧ (∃ z q, s.slot k = .inbound z q)
      ∧ (s.releaseTarget x).slot k = .empty) := by
  unfold State.releaseTarget
  split
  · next n target =>
    split
    · next z q reserved =>
      by_cases same : k = n
      · subst same
        refine .inr ⟨?_, ⟨z, q, reserved⟩, s.slot_setSlot_same k _⟩
        cases x with
        | pos y => exact congrArg Target.pos (Option.some.inj target)
        | toSelect => cases target
        | noTarget => cases target
      · exact .inl (s.slot_setSlot_other same _)
    · exact .inl rfl
  · split
    · obtain ⟨_, _, _, _, e⟩ := s.nestEmptied_eq ‹Nest›
      exact .inl (by rw [e]; rfl)
    · exact .inl rfl
  · exact .inl rfl

/-- A slot that is not INBOUND is left as it is when a target is released. -/
theorem State.releaseTarget_slot_stays (s : State) (x : Target) {k : Slot} {c : SlotEntry} (here : s.slot k = c)
    (other : ∀ z q, c ≠ .inbound z q) : (s.releaseTarget x).slot k = c := by
  rcases s.releaseTarget_slot_cases x k with h | ⟨_, ⟨z, q, reserved⟩, _⟩
  · exact h.trans here
  · exact absurd (here.symm.trans reserved) (other z q)

theorem State.releaseTarget_handler (s : State) (x : Target) : (s.releaseTarget x).handler = s.handler := by
  unfold State.releaseTarget
  split
  · split <;> rfl
  · split
    · exact s.nestEmptied_handler _
    · rfl
  · rfl

theorem State.steady_nestEmptied (s : State) (x : Nest) : (s.nestEmptied x).steady = s.steady := by
  cases x with
  | t p => exact s.steady_setToolNest p _
  | bi => rfl
  | bo => rfl
  | inn => rfl

theorem State.steady_releaseTarget (s : State) (x : Target) : (s.releaseTarget x).steady = s.steady := by
  unfold State.releaseTarget
  split
  · split
    · next reserved => exact s.steady_setSlot _ _ (by rw [reserved]; rfl)
    · rfl
  · split
    · exact s.steady_nestEmptied _
    · rfl
  · rfl

theorem State.notices_releaseTarget (s : State) (x : Target) (l : NoticeLink) :
    (s.releaseTarget x).noticeSet l = s.noticeSet l := by
  unfold State.releaseTarget
  split
  · split <;> rfl
  · split
    · obtain ⟨_, _, _, _, e⟩ := s.nestEmptied_eq ‹Nest›
      rw [e]
      rfl
    · rfl
  · rfl

/-- What a released target leaves of a nest: the nest of an INBOUND target is EMPTY, every other one stands. -/
theorem State.releaseTarget_nest (s : State) (x : Target) (y : Nest) :
    (s.nestIsEmpty y = true → (s.releaseTarget x).nestIsEmpty y = true)
      ∧ (x = .pos (.nest y) → s.nestIsInbound y = true → (s.releaseTarget x).nestIsEmpty y = true) := by
  have emptied (z : Nest) (h : s.nestIsEmpty y = true) : (s.nestEmptied z).nestIsEmpty y = true := by
    by_cases same : z = y
    · exact same ▸ s.nestIsEmpty_nestEmptied z
    · cases y with
      | t p =>
        cases z with
        | t q => exact (congrArg (fun v => decide (v = ToolNest.empty))
            (s.toolNest_setToolNest_other (fun e => same (congrArg Nest.t e.symm)) .empty)).trans h
        | bi => exact h
        | bo => exact h
        | inn => exact h
      | bi =>
        cases z with
        | bi => exact absurd rfl same
        | t _ | bo | inn => exact h
      | bo =>
        cases z with
        | bo => exact absurd rfl same
        | t _ | bi | inn => exact h
      | inn =>
        cases z with
        | inn => exact absurd rfl same
        | t _ | bi | bo => exact h
  refine ⟨fun h => ?_, fun target inbound => ?_⟩
  · unfold State.releaseTarget
    split
    · split
      · exact h
      · exact h
    · split
      · exact emptied _ h
      · exact h
    · exact h
  · rw [target, State.releaseTarget]
    simp only [Target.pos?, inbound, if_true]
    exact s.nestIsEmpty_nestEmptied y

end Sys2Proof.Machine
end

section
/-! PROOFS. The picks that fail (R121, R150, R155, R156, R164). -/

namespace Sys2Proof.Machine

open Sys2Proof

variable {s t u : State} {m : Move} {e : ExecRecord} {ph : Phase}

/-! ## Reservations released at a move's end (R155, R156) -/

/-- Slots written without a reservation, and then the target released: no slot is reserved anew, and the target's no longer. -/
theorem State.released_frees {a : State} (x : Target) (written : ∀ k, a.slot k = s.slot k ∨ (a.slot k).move = none) :
    (∀ n q, ((a.releaseTarget x).slot n).move = some q → (a.releaseTarget x).slot n = s.slot n)
      ∧ (∀ n z q, x = .pos (.slot n) → s.slot n = .inbound z q → ((a.releaseTarget x).slot n).move = none) := by
  refine ⟨fun n q h => ?_, fun n z q target reserved => ?_⟩
  · rcases a.releaseTarget_slot_cases x n with same | ⟨_, _, empty⟩
    · rw [same] at h ⊢
      rcases written n with stays | free
      · exact stays
      · rw [free] at h
        cases h
    · rw [empty] at h
      cases h
  · rcases written n with stays | free
    · rw [State.releaseTarget_slot target (stays.trans reserved)]
      rfl
    · rcases a.releaseTarget_slot_cases x n with same | ⟨_, _, empty⟩
      · rw [same, free]
      · rw [empty]
        rfl

theorem State.emptySource_written (s : State) (x : Position) (k : Slot) :
    (s.emptySource x).slot k = s.slot k ∨ ((s.emptySource x).slot k).move = none := by
  cases x with
  | slot n =>
    by_cases same : k = n
    · subst same
      exact .inr (congrArg SlotEntry.move (s.slot_setSlot_same k (.fault none)))
    · exact .inl (s.slot_setSlot_other same _)
  | nest y =>
    obtain ⟨_, _, _, _, e⟩ := s.nestEmptied_eq y
    exact .inl (by rw [State.emptySource, e]; rfl)
  | shelf _ => exact .inl rfl

theorem State.calm_emptySource (s : State) (x : Position) : s.Calm 0 (s.emptySource x) := by
  cases x with
  | slot n => exact s.calm_setSlot n _
  | nest y => exact s.calm_nestEmptied y
  | shelf _ => exact .refl s

theorem State.emptySource_handler (s : State) (x : Position) : (s.emptySource x).handler = s.handler := by
  cases x with
  | slot n => rfl
  | nest y => exact s.nestEmptied_handler y
  | shelf _ => rfl

/-- The end of a move whose source was found empty (R156). -/
theorem State.sourceEmptyEnd_ends (here : m ∈ s.queue) :
    (s.sourceEmptyEnd m).handler = s.handler.idled ∧ s.EndsMove (s.sourceEmptyEnd m) m .mismatch
      ∧ (s.sourceEmptyEnd m).Raised .slotFault ⟨m.reticle, none, some m.source, none, none⟩
      ∧ (∀ n, (s.sourceEmptyEnd m).slot n = ((s.emptySource m.source).releaseTarget m.target).slot n) := by
  rw [s.sourceEmptyEnd_eq]
  obtain ⟨frees, target⟩ := State.released_frees m.target (s.emptySource_written m.source)
  refine ⟨?_, State.failed_endsMove here ((s.calm_emptySource _).trans (State.calm_releaseTarget _ _)) frees target
    (fun n z q source reserved => ?_), State.failed_raised _ (by simp) (by simp), fun n => State.failed_slot _ n⟩
  · rw [State.failed_handler, State.releaseTarget_handler, s.emptySource_handler]
  · have fault : (s.emptySource m.source).slot n = .fault none := by
      rw [source]
      exact s.slot_setSlot_same n _
    rw [State.releaseTarget_slot_stays _ m.target fault (by simp)]
    rfl

/-! ## A refused pick (R150, R155) -/

theorem State.mismatch_eq (s : State) (m : Move) : ∃ h tx, s.mismatch m = { s with handler := h, tx := tx } := by
  rw [State.mismatch, State.setCause, State.sendPlace, State.setPhase, State.order_eq]
  exact ⟨_, _, rfl⟩

/-- A mismatch at pick sends the pod back and leaves the rest; the identifier read is kept, and a notice may have been raised
(R155). -/
theorem State.turnsBack_mismatch {w : State} {read : ReadId}
    (frame : ∃ h mn sn tx, w = { s with handler := h, materialNotices := mn, serviceNotices := sn, tx := tx })
    (handler : w.handler = { s.handler with exec := some { e with read := some read } })
    (sent : w.sent .handler = s.sent .handler) : s.TurnsBack (w.mismatch m) m e read := by
  have placed : (w.sendPlace m.source .putback).handler = { s.handler with
      state := .putback, timer := some s.handler.placeTimeout, orderNumber := s.handler.orderNumber + 1
      numberCurrent := true, exec := some { e with read := some read, phase := some .putback } } := by
    rw [State.sendPlace, State.order_handler, handler, Option.map_some]
    rfl
  have state : (w.mismatch m).handler = { s.handler with
      state := .putback, timer := some s.handler.placeTimeout, orderNumber := s.handler.orderNumber + 1
      numberCurrent := true, exec := some { e with read := some read, phase := some .putback, cause := some .mismatch } } := by
    rw [State.mismatch, State.setCause, State.updHandler, placed, Option.map_some]
  have orders : (w.mismatch m).sent .handler = s.sent .handler ++ [.place (s.handler.orderNumber + 1) m.source] := by
    rw [State.mismatch, State.sent_setCause, State.sendPlace, State.sent_order, handler, sent]
  obtain ⟨h, tx, eq⟩ := w.mismatch_eq m
  obtain ⟨_, _, _, _, frame⟩ := frame
  rw [eq] at state orders ⊢
  subst frame
  exact ⟨state, orders, rfl, rfl, rfl, rfl, rfl, rfl, rfl, rfl⟩

theorem State.keepRead_handler (exec_ : s.handler.exec = some e) (read : ReadId) :
    (s.keepRead read).handler = { s.handler with exec := some { e with read := some read } } := by
  rw [State.keepRead, State.updHandler, exec_, Option.map_some]

theorem State.turnsBack_keepRead (exec_ : s.handler.exec = some e) (read : ReadId) :
    s.TurnsBack ((s.keepRead read).mismatch m) m e read :=
  State.turnsBack_mismatch ⟨_, _, _, _, rfl⟩ (State.keepRead_handler exec_ read) rfl

theorem State.takePicked_refuse {read : ReadId} (judged : (s.keepRead read).judgePick m read = .refuse) :
    s.takePicked m read = (s.keepRead read).mismatch m := by
  unfold State.takePicked
  simp only [State.keepRead] at judged
  simp only [judged, State.keepRead]

/-- Settles O50, by the refused pick and the failed end of a move. -/
theorem failedPicksAreTaken : Obligations.FailedPicksAreTaken := by
  refine ⟨fun s number m e read id awaits ok named names other => ?_, fun s number m e n id awaits source names named => ?_,
    fun s number m e x awaits source => ?_⟩
  · have refused : (s.keepRead read).judgePick m read = .refuse := by
      cases read with
      | noread => rfl
      | ident z =>
        have differ : some id ≠ some z := fun same => other (by rw [Option.some.inj same])
        simp only [State.judgePick, named, names, if_neg differ]
    refine ⟨_, execPicked_awaited awaits ok, ?_⟩
    rw [State.takePicked_refuse refused]
    exact State.turnsBack_keepRead awaits.1.1 read
  · obtain ⟨handler, ends, raised, slot⟩ := State.sourceEmptyEnd_ends awaits.1.mem
    have fault : (s.emptySource m.source).slot n = .fault none := by
      rw [source]
      exact s.slot_setSlot_same n _
    refine ⟨_, execSourceEmpty_awaited awaits, handler, ?_, ends, fun k target other z q reserved => ?_, ?_, ?_⟩
    · rw [slot, State.releaseTarget_slot_stays _ m.target fault (by simp)]
    · have stays : (s.emptySource m.source).slot k = .inbound z q := by
        rw [source]
        exact (s.slot_setSlot_other other _).trans reserved
      rw [slot, State.releaseTarget_slot target stays]
    · have expected : m.expected = some id := (if_pos named).trans names
      rw [s.sourceEmptyEnd_eq, expected]
      exact State.failed_lost _ id
    · rwa [names, source] at raised
  · obtain ⟨handler, ends, raised, slot⟩ := State.sourceEmptyEnd_ends awaits.1.mem
    have steady : ((s.emptySource m.source).releaseTarget m.target).steady = s.steady := by
      rw [State.steady_releaseTarget, source]
      exact s.steady_nestEmptied x
    have after (lost : Option Ident) (h : m.expected = lost) : (s.sourceEmptyEnd m).steady
        = ((((s.emptySource m.source).releaseTarget m.target).dropped m).lostAndDoubted lost none).steady := by
      rw [s.sourceEmptyEnd_eq, State.failed_steady, h]
    refine ⟨_, execSourceEmpty_awaited awaits, handler, ?_, ends, fun k target z q reserved => ?_, fun unnamed => ?_,
      fun id named names => ?_, ?_⟩
    · have empty : (s.emptySource m.source).nestIsEmpty x = true := by
        rw [source]
        exact s.nestIsEmpty_nestEmptied x
      rw [s.sourceEmptyEnd_eq]
      exact (State.failed_nests _).isEmpty ((State.releaseTarget_nest _ m.target x).1 empty)
    · have stays : (s.emptySource m.source).slot k = .inbound z q := by
        obtain ⟨_, _, _, _, e⟩ := s.nestEmptied_eq x
        rw [source, State.emptySource, e]
        exact reserved
      rw [slot, State.releaseTarget_slot target stays]
    · rw [after none (if_neg unnamed)]
      exact (State.steady_dropped _ m).trans steady
    · rw [after (some id) ((if_pos named).trans names)]
      refine (State.steady_updRecord_eq _ id (f := Rec.lose) fun _ => rfl).trans ?_
      rw [State.steady_dropped, steady]
      rfl
    · rwa [source] at raised

end Sys2Proof.Machine
end

section
/-! SUPPORT. The ends of a putback (R155, R158, R159). -/

namespace Sys2Proof.Machine

open Sys2Proof

variable {s t u : State} {m : Move} {e : ExecRecord} {ph : Phase}

/-! ## One nest at a time -/

/-- A nest stands from `s` to `t`. -/
def State.NestStands (s t : State) : Nest → Prop
  | .t p => t.toolNest p = s.toolNest p
  | .bi => t.bi = s.bi
  | .bo => t.bo = s.bo
  | .inn => t.inn = s.inn

/-- A nest is BLOCKED. -/
def State.NestBlocked (s : State) : Nest → Prop
  | .t p => s.toolNest p = .blocked
  | .bi => s.bi = .blocked
  | .bo => s.bo = .blocked
  | .inn => s.inn = .blocked

theorem State.NestBlocked.stands {x : Nest} (h : s.NestBlocked x) (stands : s.NestStands t x) : t.NestBlocked x := by
  cases x <;> exact Eq.trans stands h

theorem State.NestsStand.blocked (h : s.NestsStand t) {x : Nest} (blocked : s.NestBlocked x) : t.NestBlocked x := by
  cases x with
  | t p => exact (h.tool p (by rw [show s.toolNest p = .blocked from blocked]; simp)).trans blocked
  | bi => exact h.bi.trans blocked
  | bo => exact h.bo.trans blocked
  | inn => exact h.inn.trans blocked

theorem State.NestBlocked.blockedAt {x : Nest} {read : Option Ident} (h : s.NestBlocked x)
    (raised : s.Raised .nestBlocked ⟨read, none, some (.nest x), none, none⟩) : s.BlockedAt x read :=
  ⟨fun p same => by subst same; exact h, fun same => by subst same; exact h, fun same => by subst same; exact h,
    fun same => by subst same; exact h, raised⟩

theorem State.NestBlocked.not_inbound {x : Nest} (h : s.NestBlocked x) : s.nestIsInbound x = false := by
  cases x with
  | t p => exact decide_eq_false (by rw [show s.toolNest p = .blocked from h]; simp)
  | bi => rfl
  | bo => exact decide_eq_false (by rw [show s.bo = .blocked from h]; simp)
  | inn => exact decide_eq_false (by rw [show s.inn = .blocked from h]; simp)

theorem State.nestBlocked_nestBlocks (s : State) (x : Nest) (id : Option Ident) : (s.nestBlocks x id).NestBlocked x := by
  unfold State.nestBlocks
  refine (State.nestsStand_raise _ _ _).blocked ?_
  cases x with
  | t p => exact s.toolNest_setToolNest_same p .blocked
  | bi | bo | inn => rfl

theorem State.nestStands_nestEmptied (s : State) {x y : Nest} (other : y ≠ x) : s.NestStands (s.nestEmptied x) y := by
  cases x with
  | t p =>
    cases y with
    | t q => exact s.toolNest_setToolNest_other (fun same => other (congrArg Nest.t same)) .empty
    | bi | bo | inn => rfl
  | bi =>
    cases y with
    | bi => exact absurd rfl other
    | t _ | bo | inn => rfl
  | bo =>
    cases y with
    | bo => exact absurd rfl other
    | t _ | bi | inn => rfl
  | inn =>
    cases y with
    | inn => exact absurd rfl other
    | t _ | bi | bo => rfl

theorem State.nestStands_of_fields (y : Nest) (ports : t.ports = s.ports) (bi : t.bi = s.bi) (bo : t.bo = s.bo)
    (inn : t.inn = s.inn) : s.NestStands t y := by
  cases y with
  | t p => exact congrArg (fun v : Vector PortRec 6 => (v.get p).nest) ports
  | bi => exact bi
  | bo => exact bo
  | inn => exact inn

/-- A target's release leaves a nest that is not INBOUND, or is another. -/
theorem State.nestStands_releaseTarget (s : State) (x : Target) {y : Nest}
    (h : s.nestIsInbound y = false ∨ x ≠ .pos (.nest y)) : s.NestStands (s.releaseTarget x) y := by
  unfold State.releaseTarget
  split
  · split <;> exact State.nestStands_of_fields y rfl rfl rfl rfl
  · next z target =>
    split
    · next inbound =>
      refine s.nestStands_nestEmptied fun same => ?_
      subst same
      rcases h with not_ | other
      · rw [not_] at inbound
        cases inbound
      · cases x with
        | pos w => exact other (congrArg Target.pos (Option.some.inj target))
        | toSelect => cases target
        | noTarget => cases target
    · exact State.nestStands_of_fields y rfl rfl rfl rfl
  · exact State.nestStands_of_fields y rfl rfl rfl rfl

theorem State.nestBlocks_eq (s : State) (x : Nest) (id : Option Ident) :
    ∃ ports bi bo inn m v tx, s.nestBlocks x id = { s with
      ports := ports, bi := bi, bo := bo, inn := inn, materialNotices := m, serviceNotices := v, tx := tx } := by
  unfold State.nestBlocks
  dsimp only
  cases x with
  | t p =>
    obtain ⟨m, v, tx, e⟩ := (s.setToolNest p .blocked).raise_eq .nestBlocked ⟨id, none, some (.nest (.t p)), none, none⟩
    exact ⟨_, _, _, _, m, v, tx, e⟩
  | bi =>
    obtain ⟨m, v, tx, e⟩ := State.raise_eq { s with bi := .blocked } .nestBlocked ⟨id, none, some (.nest .bi), none, none⟩
    exact ⟨_, _, _, _, m, v, tx, e⟩
  | bo =>
    obtain ⟨m, v, tx, e⟩ := State.raise_eq { s with bo := .blocked } .nestBlocked ⟨id, none, some (.nest .bo), none, none⟩
    exact ⟨_, _, _, _, m, v, tx, e⟩
  | inn =>
    obtain ⟨m, v, tx, e⟩ := State.raise_eq { s with inn := .blocked } .nestBlocked ⟨id, none, some (.nest .inn), none, none⟩
    exact ⟨_, _, _, _, m, v, tx, e⟩

theorem State.nestBlocks_raised (s : State) (x : Nest) (id : Option Ident) :
    (s.nestBlocks x id).Raised .nestBlocked ⟨id, none, some (.nest x), none, none⟩ := State.raise_raised _ _ _

theorem State.records_nestBlocks (s : State) (x : Nest) (id : Option Ident) :
    (s.nestBlocks x id).steady.records = s.steady.records := by
  obtain ⟨_, _, _, _, _, _, _, e⟩ := s.nestBlocks_eq x id
  rw [e]
  rfl

theorem State.Raised.releaseTarget {k : NoticeKind} {d : Detail} (h : s.Raised k d) (x : Target) :
    (s.releaseTarget x).Raised k d := fun l => by
  rw [s.notices_releaseTarget]
  exact h l

/-! ## The end of a mismatch (R155) -/

theorem State.faultSource_written (s : State) (m : Move) (read : Option Ident) (k : Slot) :
    (s.faultSource m read).slot k = s.slot k ∨ ((s.faultSource m read).slot k).move = none := by
  unfold State.faultSource
  split
  · next n _ =>
    by_cases same : k = n
    · subst same
      exact .inr (congrArg SlotEntry.move (s.slot_setSlot_same k (.fault read)))
    · exact .inl (s.slot_setSlot_other same _)
  · next x _ =>
    obtain ⟨_, _, _, _, _, _, _, e⟩ := s.nestBlocks_eq x read
    exact .inl (by rw [e]; rfl)
  · exact .inl rfl

theorem State.calm_faultSource (s : State) (m : Move) (read : Option Ident) : s.Calm 0 (s.faultSource m read) := by
  unfold State.faultSource
  split
  · exact s.calm_setSlot _ _
  · exact s.calm_nestBlocks _ _
  · exact .refl s

theorem State.faultSource_handler (s : State) (m : Move) (read : Option Ident) :
    (s.faultSource m read).handler = s.handler := by
  unfold State.faultSource
  split
  · rfl
  · exact s.nestBlocks_handler _ _
  · rfl

theorem State.records_faultSource (s : State) (m : Move) (read : Option Ident) :
    (s.faultSource m read).steady.records = s.steady.records := by
  unfold State.faultSource
  split
  · rfl
  · exact s.records_nestBlocks _ _
  · rfl

/-- What the mismatch end of a move leaves (R155). -/
theorem State.mismatchEnd_spec (here : m ∈ s.queue) {read : Option Ident}
    (h : identRead (s.handler.exec.bind (·.read)) = read) :
    (s.mismatchEnd m).handler = s.handler.idled ∧ s.EndsMove (s.mismatchEnd m) m .mismatch
      ∧ (∀ n, m.source = .slot n → (s.mismatchEnd m).slot n = .fault read)
      ∧ (∀ x, m.source = .nest x → (s.mismatchEnd m).BlockedAt x read)
      ∧ (∀ id, m.expected = some id → (s.mismatchEnd m).Lost id)
      ∧ (s.mismatchEnd m).Raised .mismatch (mismatchDetail m read)
      ∧ (∀ z, read = some z → m.expected ≠ some z → s.Doubts (s.mismatchEnd m) z) := by
  rw [s.mismatchEnd_eq m h]
  have fault (n : Slot) (source : m.source = .slot n) : ((s.faultSource m read).releaseTarget m.target).slot n = .fault read := by
    refine State.releaseTarget_slot_stays _ m.target ?_ (by simp)
    rw [State.faultSource, source]
    exact s.slot_setSlot_same n _
  obtain ⟨frees, target⟩ := State.released_frees m.target (s.faultSource_written m read)
  refine ⟨?_, State.failed_endsMove here ((s.calm_faultSource m read).trans (State.calm_releaseTarget _ _)) frees target
      (fun n z q source _ => by rw [fault n source]; rfl),
    fun n source => (State.failed_slot _ n).trans (fault n source), fun x source => ?_, fun id expected => ?_,
    State.failed_raised _ (by simp) (by simp), fun z readZ other => ?_⟩
  · rw [State.failed_handler, State.releaseTarget_handler, s.faultSource_handler]
  · have blocks : s.faultSource m read = s.nestBlocks x read := by rw [State.faultSource, source]
    have blocked : ((s.faultSource m read).releaseTarget m.target).NestBlocked x := by
      rw [blocks]
      have block := s.nestBlocked_nestBlocks x read
      exact block.stands (State.nestStands_releaseTarget _ m.target (.inl block.not_inbound))
    refine ((State.failed_nests _).blocked blocked).blockedAt (State.Raised.failed ?_ (by simp) (by simp) ?_)
    · rw [blocks]
      exact (s.nestBlocks_raised x read).releaseTarget m.target
    · intro j d same
      cases same
      simp
  · rw [expected]
    exact State.failed_lost _ id
  · rw [readZ]
    exact State.failed_doubts _ other (by rw [State.steady_releaseTarget, State.records_faultSource])

end Sys2Proof.Machine
end

section
/-! SUPPORT. The pod back at its source, and the ends of a putback (R155, R158, R159, R166). -/

namespace Sys2Proof.Machine

open Sys2Proof

variable {s t u : State} {m : Move} {e : ExecRecord} {ph : Phase}

/-! ## The pod back at its source (R158, R159, R166) -/

theorem State.backAtSource_slot {n : Slot} {id : Ident} (source : m.source = .slot n) (names : m.reticle = some id) :
    s.backAtSource m = (s.setSlot n (.filled id)).updRecord id (Rec.putIn n) := by
  simp only [State.backAtSource, source, names]

theorem State.forall_putBack {n : Slot} {id : Ident} (source : m.source = .slot n) (names : m.reticle = some id) :
    ∀ r ∈ (s.backAtSource m).catalogue, r.id = id → r.location = .slot n := by
  rw [State.backAtSource_slot source names]
  exact State.forall_updRecord (P := fun r => r.location = .slot n) _ id (f := Rec.putIn n) fun _ _ _ => rfl

theorem State.nestRestored_eq (s : State) (x : Nest) (k : MoveKind) :
    ∃ ports bi inn, s.nestRestored x k = { s with ports := ports, bi := bi, inn := inn } := by
  cases x <;> exact ⟨_, _, _, rfl⟩

theorem State.backAtSource_eq (s : State) (m : Move) :
    ∃ slots catalogue ports bi inn, s.backAtSource m
      = { s with slots := slots, catalogue := catalogue, ports := ports, bi := bi, inn := inn } := by
  unfold State.backAtSource
  split
  · exact ⟨_, _, _, _, _, rfl⟩
  · next x id _ _ =>
    obtain ⟨_, _, _, restored⟩ := s.nestRestored_eq x m.kind
    rw [restored]
    dsimp only
    split <;> exact ⟨_, _, _, _, _, rfl⟩
  · next x _ _ =>
    obtain ⟨_, _, _, restored⟩ := s.nestRestored_eq x m.kind
    rw [restored]
    exact ⟨_, _, _, _, _, rfl⟩
  · exact ⟨_, _, _, _, _, rfl⟩

theorem State.backAtSource_handler (s : State) (m : Move) : (s.backAtSource m).handler = s.handler := by
  obtain ⟨_, _, _, _, _, eq⟩ := s.backAtSource_eq m
  rw [eq]

theorem State.backAtSource_queue (s : State) (m : Move) :
    (s.backAtSource m).queue = s.queue ∧ (s.backAtSource m).nextSeq = s.nextSeq := by
  obtain ⟨_, _, _, _, _, eq⟩ := s.backAtSource_eq m
  rw [eq]
  exact ⟨rfl, rfl⟩

/-! ## A move that waits again (R115, R159) -/

/-- A move as it waits again: a store move's target to be selected anew (R159). -/
def Move.again (m : Move) : Move := { m with state := .waiting, target := if m.kind.isStore then .toSelect else m.target }

theorem State.backToWaiting_waits (h : ¬(m.kind = .deliver ∧ m.standDown = true)) :
    s.backToWaiting m = (s.updMove m.seq Move.again).handlerIdle := if_neg h

theorem State.backToWaiting_withdraws (h : m.kind = .deliver ∧ m.standDown = true) :
    s.backToWaiting m = ((s.updMove m.seq Move.again).handlerIdle).withdraw m none := if_pos h

theorem State.backToWaiting_ungranted (s : State) (m : Move) : s.handlerIdle.Ungranted (s.backToWaiting m) := by
  have waits : s.handlerIdle.Ungranted ((s.updMove m.seq Move.again).handlerIdle) := .of_eq rfl rfl rfl rfl
  by_cases h : m.kind = .deliver ∧ m.standDown = true
  · rw [State.backToWaiting_withdraws h]
    exact waits.trans (State.ungranted_withdraw _ m none)
  · rw [State.backToWaiting_waits h]
    exact waits

theorem State.backToWaiting_handler (s : State) (m : Move) : (s.backToWaiting m).handler = s.handler.idled :=
  (s.backToWaiting_ungranted m).handler

theorem State.backToWaiting_slot (s : State) (m : Move) (n : Slot) : (s.backToWaiting m).slot n = s.slot n :=
  congrArg (fun v : Vector SlotEntry 396 => v.get n) (s.backToWaiting_ungranted m).slots

theorem State.steady_backToWaiting (s : State) (m : Move) : (s.backToWaiting m).steady = s.steady := by
  by_cases h : m.kind = .deliver ∧ m.standDown = true
  · rw [State.backToWaiting_withdraws h, State.steady_withdraw _ (m := m) (by simp [h.1])]
    rfl
  · rw [State.backToWaiting_waits h]
    rfl

/-- A DELIVER marked for stand-down is withdrawn as it would wait again (R159). -/
theorem State.backToWaiting_drops (h : m.kind = .deliver ∧ m.standDown = true) :
    (∀ y ∈ (s.backToWaiting m).queue, y.seq ≠ m.seq) ∧ ∀ r ∈ (s.backToWaiting m).catalogue, r.binding ≠ some m.seq := by
  rw [State.backToWaiting_withdraws h]
  refine ⟨fun y here => ?_, State.withdraw_binding _ m none⟩
  rw [State.withdraw_queue] at here
  simpa using (List.mem_filter.mp here).2

theorem State.mem_backToWaiting (h : ¬(m.kind = .deliver ∧ m.standDown = true)) (here : m ∈ s.queue) :
    m.again ∈ (s.backToWaiting m).queue := by
  rw [State.backToWaiting_waits h]
  exact List.mem_map.mpr ⟨m, here, if_pos rfl⟩

/-! ## A move whose staging slot was occupied (R158) -/

theorem State.endMove_ungranted (s : State) (m : Move) : (s.dropped m).Ungranted (s.endMove m) :=
  (s.dropped m).ungranted_deferredAdmission m.kind

theorem State.steady_endMove (s : State) (m : Move) : (s.endMove m).steady = s.steady := by
  rw [State.endMove, State.steady_deferredAdmission]
  exact s.steady_dropped m

theorem State.endMove_drops {b : State} (here : m ∈ b.queue) (next : s.nextSeq = b.nextSeq) : b.DropsMove (s.endMove m) m := by
  refine State.Gone.drops (i := 0 + 1) fun fresh => ?_
  have old : s.Old m.seq 0 := by
    rw [State.Old, next]
    exact fresh m here
  have gone : (s.dropped m).Gone m.seq 0 := State.gone_dropMove old
  exact ((s.dropped m).calm_deferredAdmission m.kind).gone m.seq 0 (by omega) gone

/-- What the end of a putback leaves, by its cause (R155, R158, R159). -/
theorem State.endsPutback_of_cause {c : PutbackCause} (here : m ∈ s.queue) (exec_ : s.handler.exec = some e)
    (cause : e.cause = some c) : s.EndsPutback (s.putbackEnds m c) m e := by
  cases c with
  | mismatch =>
    have same : identRead (s.handler.exec.bind (·.read)) = identRead e.read := by rw [exec_]; rfl
    obtain ⟨handler, ends, slot, nest, lost, raised, doubts⟩ := State.mismatchEnd_spec here same
    refine ⟨handler, fun _ => ⟨ends, fun read is => ?_⟩, fun n id _ _ occupied => ?_⟩
    · have readIs : identRead e.read = read := by
        refine Option.ext fun z => ?_
        rw [is z]
        cases e.read with
        | none => simp [identRead]
        | some r => cases r <;> simp [identRead]
      rw [readIs] at slot nest raised doubts
      refine ⟨slot, nest, fun id expected => ⟨lost id expected, ?_⟩, fun none_ => ?_, fun _ z readZ other => doubts z readZ other⟩
      · rwa [mismatchDetail, expected] at raised
      · rwa [mismatchDetail, none_] at raised
    · rcases occupied with h | h <;> cases cause.symm.trans h
  | occupiedNest =>
    refine ⟨?_, fun mismatch => (nomatch cause.symm.trans mismatch), fun n id source names _ => ⟨?_, ?_, fun _ waits => ?_, fun drops => ?_⟩⟩
    · exact ((s.backAtSource m).backToWaiting_handler m).trans (congrArg Handler.idled (s.backAtSource_handler m))
    · refine ((s.backAtSource m).backToWaiting_slot m n).trans ?_
      rw [State.backAtSource_slot source names]
      exact s.slot_setSlot_same n _
    · exact State.forall_records (P := fun r => r.location = .slot n) id
        (by rw [State.putbackEnds, State.steady_backToWaiting]) (State.forall_putBack source names)
    · exact ⟨m.again, State.mem_backToWaiting waits (by rwa [(s.backAtSource_queue m).1]), rfl, rfl⟩
    · have standDown : m.kind = .deliver ∧ m.standDown = true :=
        drops.resolve_left fun staging => nomatch cause.symm.trans staging
      have gone := State.backToWaiting_drops (s := s.backAtSource m) standDown
      exact ⟨fun _ => gone, fun _ => gone.1⟩
  | occupiedStaging =>
    refine ⟨?_, fun mismatch => (nomatch cause.symm.trans mismatch), fun n id source names _ =>
      ⟨?_, ?_, fun nest => (nomatch cause.symm.trans nest), fun _ => ⟨?_, fun kind => ?_⟩⟩⟩
    · exact ((s.backAtSource m).endMove_ungranted m).handler.trans (congrArg Handler.idled (s.backAtSource_handler m))
    · refine (congrArg (fun v : Vector SlotEntry 396 => v.get n) ((s.backAtSource m).endMove_ungranted m).slots).trans ?_
      rw [State.backAtSource_slot source names]
      exact s.slot_setSlot_same n _
    · exact State.forall_records (P := fun r => r.location = .slot n) id
        (by rw [State.putbackEnds, State.steady_endMove]) (State.forall_putBack source names)
    · exact State.endMove_drops here (s.backAtSource_queue m).2
    · have unmoved : (s.backAtSource m).endMove m = (s.backAtSource m).dropped m :=
        State.deferredAdmission_of_other _ (by rcases kind with h | h <;> simp [h]) (by rcases kind with h | h <;> simp [h])
      intro y mem
      rw [State.putbackEnds, unmoved] at mem
      simpa using (List.mem_filter.mp mem).2

end Sys2Proof.Machine
end

section
/-! SUPPORT. The completion of a move at its target, and the placement at a tool nest (R60, R83, R154). -/

namespace Sys2Proof.Machine

open Sys2Proof

variable {s t u : State} {m : Move} {e : ExecRecord} {ph : Phase}

/-! ## The fab-side nests -/

/-- The fab-side nests stand. -/
structure State.FabStands (s t : State) : Prop where
  bi : t.bi = s.bi
  bo : t.bo = s.bo
  inn : t.inn = s.inn

theorem State.FabStands.refl (s : State) : s.FabStands s := ⟨rfl, rfl, rfl⟩

theorem State.FabStands.trans (h : s.FabStands t) (g : t.FabStands u) : s.FabStands u :=
  ⟨g.bi.trans h.bi, g.bo.trans h.bo, g.inn.trans h.inn⟩

theorem State.NestsStand.fab (h : s.NestsStand t) : s.FabStands t := ⟨h.bi, h.bo, h.inn⟩

theorem State.fabStands_withdraw (s : State) (m : Move) (r : Option Reason) : s.FabStands (s.withdraw m r) := by
  obtain ⟨_, h⟩ := s.withdraw_eq m r
  rw [h]
  by_cases scan : m.kind = .scan
  · rw [if_pos scan]
    exact ⟨rfl, rfl, rfl⟩
  · rw [if_neg scan]
    exact ⟨rfl, rfl, rfl⟩

theorem State.fabStands_setHeld (s : State) (id : Ident) : s.FabStands (s.setHeld id) := by
  unfold State.setHeld State.withdrawHeldDeliver
  split
  · split
    · exact .refl s
    · have held : s.FabStands (s.updRecord id (fun x => { x with held := true })) := ⟨rfl, rfl, rfl⟩
      split
      · split
        · exact (held.trans (State.fabStands_withdraw _ _ _)).trans (State.nestsStand_reclaimIfUnfit _ id).fab
        · exact held.trans (State.nestsStand_reclaimIfUnfit _ id).fab
      · exact held.trans (State.nestsStand_reclaimIfUnfit _ id).fab
  · exact .refl s

/-! ## The placement at a tool nest (R60) -/

/-- The placement of a fit record at the nest of an ATTACHED port (R60). -/
def State.madeReady (s : State) (p : Port) (id : Ident) : State :=
  ((s.setToolNest p .outWait).sendTool p (.ready id)).startWindow p .collect

/-- The placement of a record that is reclaimed at once (R60). -/
def State.lapsedAtOnce (s : State) (p : Port) (id : Ident) : State := (s.lapseNest p).offerInward (reclaimOffer p id)

theorem State.placementTest_cases {p : Port} {id : Ident} {r : Rec} (known : s.record id = some r) (x : Bool) :
    ((s.port p).state = .attached ∧ x = false ∧ r.fit = true ∧ s.placementTest p id x = s.madeReady p id)
      ∨ (((s.port p).state ≠ .attached ∨ x = true ∨ r.fit = false)
        ∧ (s.placementTest p id x = s.lapsedAtOnce p id
          ∨ s.placementTest p id x = (s.lapsedAtOnce p id).sendTool p (.withdrawn id r.unfitReason))) := by
  unfold State.placementTest
  rw [known]
  by_cases ready : (s.port p).state = .attached ∧ x = false ∧ r.fit = true
  · exact .inl ⟨ready.1, ready.2.1, ready.2.2, if_pos ready⟩
  · refine .inr ⟨?_, ?_⟩
    · by_cases attached : (s.port p).state = .attached
      · cases x with
        | true => exact .inr (.inl rfl)
        | false => exact .inr (.inr (by simpa [attached] using ready))
      · exact .inl attached
    · by_cases told : r.fit = false ∧ x = false
      · exact .inr ((if_neg ready).trans (if_pos told))
      · exact .inl ((if_neg ready).trans (if_neg told))

theorem State.placementTest_unknown {p : Port} {id : Ident} (unknown : s.record id = none) (x : Bool) :
    s.placementTest p id x = s := by
  unfold State.placementTest
  rw [unknown]

/-- The three ways a placement can go, for what holds of each (R60). -/
theorem State.placementTest_ind {P : State → Prop} (s : State) (p : Port) (id : Ident) (x : Bool) (stays : P s)
    (ready : P (s.madeReady p id)) (lapsed : P (s.lapsedAtOnce p id))
    (told : ∀ f, P ((s.lapsedAtOnce p id).sendTool p f)) : P (s.placementTest p id x) := by
  cases known : s.record id with
  | none => rwa [State.placementTest_unknown known]
  | some r =>
    rcases State.placementTest_cases (p := p) known x with ⟨_, _, _, h⟩ | ⟨_, h | h⟩ <;> rw [h]
    · exact ready
    · exact lapsed
    · exact told _

theorem State.extends_madeReady (s : State) (p : Port) (id : Ident) : s.Extends (s.madeReady p id) := by
  unfold State.madeReady State.startWindow State.setToolNest
  exact ((s.extends_updPort p _).trans (State.extends_sendTool _ p _)).trans (State.extends_updPort _ p _)

theorem State.extends_lapsedAtOnce (s : State) (p : Port) (id : Ident) : s.Extends (s.lapsedAtOnce p id) :=
  (s.extends_updPort p _).trans (State.extends_offerInward _ _)

theorem State.extends_placementTest (s : State) (p : Port) (id : Ident) (x : Bool) : s.Extends (s.placementTest p id x) :=
  s.placementTest_ind p id x (.refl s) (s.extends_madeReady p id) (s.extends_lapsedAtOnce p id)
    fun f => (s.extends_lapsedAtOnce p id).trans (State.extends_sendTool _ p f)

theorem State.steady_lapsedAtOnce (s : State) (p : Port) (id : Ident) : (s.lapsedAtOnce p id).steady = s.steady :=
  (State.steady_offerInward _ _).trans (s.steady_lapseNest p)

theorem State.steady_madeReady (s : State) (p : Port) (id : Ident) : (s.madeReady p id).steady = s.steady :=
  (State.steady_updPort _ p _ rfl).trans ((State.steady_sendTool _ p _).trans (s.steady_setToolNest p _))

theorem State.steady_placementTest (s : State) (p : Port) (id : Ident) (x : Bool) :
    (s.placementTest p id x).steady = s.steady :=
  s.placementTest_ind (P := fun t => t.steady = s.steady) p id x rfl (s.steady_madeReady p id) (s.steady_lapsedAtOnce p id)
    fun f => (State.steady_sendTool _ p f).trans (s.steady_lapsedAtOnce p id)

theorem State.fabStands_placementTest (s : State) (p : Port) (id : Ident) (x : Bool) :
    s.FabStands (s.placementTest p id x) := by
  have lapsed : s.FabStands (s.lapsedAtOnce p id) :=
    State.FabStands.trans (t := s.lapseNest p) ⟨rfl, rfl, rfl⟩ (State.nestsStand_offerInward _ _).fab
  refine s.placementTest_ind p id x (.refl s) ?_ lapsed fun f => lapsed.trans (State.nestsStand_sendTool _ p f).fab
  have sent : s.FabStands ((s.setToolNest p .outWait).sendTool p (.ready id)) :=
    State.FabStands.trans (t := s.setToolNest p .outWait) ⟨rfl, rfl, rfl⟩ (State.nestsStand_sendTool _ p _).fab
  exact sent.trans ⟨rfl, rfl, rfl⟩

/-! ## A delivery (R60, R83) -/

theorem State.delivered_cases (s : State) (m : Move) (id : Ident) :
    s.delivered m id = s
      ∨ ∃ p, m.kind = .deliver ∧ m.beneficiary = some p
          ∧ s.delivered m id = (s.updAhead p (fun a => a.placed id)).placementTest p id m.standDown := by
  unfold State.delivered
  split
  · next p kind own => exact .inr ⟨p, kind, own, rfl⟩
  · exact .inl rfl

theorem State.ungranted_delivered (s : State) (m : Move) (id : Ident) : s.Ungranted (s.delivered m id) := by
  rcases s.delivered_cases m id with h | ⟨p, _, _, h⟩ <;> rw [h]
  · exact .refl s
  · exact State.Ungranted.trans (t := s.updAhead p (fun a => a.placed id)) (.of_eq rfl rfl rfl rfl)
      (State.extends_placementTest _ _ _ _).1

theorem State.fabStands_delivered (s : State) (m : Move) (id : Ident) : s.FabStands (s.delivered m id) := by
  rcases s.delivered_cases m id with h | ⟨p, _, _, h⟩ <;> rw [h]
  · exact .refl s
  · exact State.FabStands.trans (t := s.updAhead p (fun a => a.placed id)) ⟨rfl, rfl, rfl⟩
      (State.fabStands_placementTest _ _ _ _)

theorem State.records_delivered (s : State) (m : Move) (id : Ident) :
    (s.delivered m id).steady.records = s.steady.records := by
  rcases s.delivered_cases m id with h | ⟨p, _, _, h⟩ <;> rw [h]
  rw [State.steady_placementTest]
  rfl

/-! ## The completion (R154) -/

/-- The record at the move's target, held if the offer was so decided (R154, R189). -/
def State.arrivedAt (s : State) (m : Move) (x : Position) (id : Ident) : State :=
  if m.holdOnCompletion then (s.placeAt x id).setHeld id else s.placeAt x id

/-- What follows the placement in a completion (R154). -/
def State.completed (s : State) (m : Move) (id : Ident) : State :=
  ((((s.dropMove m.seq).tellEnd m .placed).handlerIdle).delivered m id).deferredAdmission m.kind

theorem State.complete_eq {id : Ident} {x : Position} (names : m.reticle = some id) (target : m.target = .pos x) :
    s.complete m = (s.arrivedAt m x id).completed m id := by
  simp only [State.complete, names, target, Target.pos?]
  rfl

theorem State.ungranted_completed (s : State) (m : Move) (id : Ident) : s.handlerIdle.Ungranted (s.completed m id) := by
  have told : s.Ungranted ((s.dropMove m.seq).tellEnd m .placed) :=
    (s.ungranted_dropMove m.seq).trans (State.ungranted_tellEnd _ m .placed)
  have idle : s.handlerIdle.Ungranted (((s.dropMove m.seq).tellEnd m .placed).handlerIdle) :=
    ⟨congrArg Handler.idled told.handler, told.slots, told.orders, told.held⟩
  exact (idle.trans (State.ungranted_delivered _ m id)).trans (State.ungranted_deferredAdmission _ _)

theorem State.completed_handler (s : State) (m : Move) (id : Ident) : (s.completed m id).handler = s.handler.idled :=
  (s.ungranted_completed m id).handler

theorem State.completed_slots (s : State) (m : Move) (id : Ident) : (s.completed m id).slots = s.slots :=
  (s.ungranted_completed m id).slots

theorem State.completed_fab (s : State) (m : Move) (id : Ident) : s.FabStands (s.completed m id) := by
  have dropped : s.FabStands (s.dropMove m.seq) := ⟨rfl, rfl, rfl⟩
  have told := dropped.trans (State.nestsStand_tellEnd (s.dropMove m.seq) m .placed).fab
  have idle : s.FabStands (((s.dropMove m.seq).tellEnd m .placed).handlerIdle) := told.trans ⟨rfl, rfl, rfl⟩
  exact (idle.trans (State.fabStands_delivered _ m id)).trans (State.nestsStand_deferredAdmission _ _).fab

theorem State.completed_records (s : State) (m : Move) (id : Ident) :
    (s.completed m id).steady.records = s.steady.records := by
  rw [State.completed, State.steady_deferredAdmission, State.records_delivered]
  rw [State.handlerIdle, State.steady_updHandler, State.steady_tellEnd, State.steady_dropMove]

/-- A completion is the end of the move (R154, R164). -/
theorem State.completed_endsMove {b : State} {i : Nat} {id : Ident} (here : m ∈ b.queue) (before : b.Hushed i s)
    (small : i < 1000) (frees : ∀ n q, (s.slot n).move = some q → s.slot n = b.slot n)
    (target : ∀ n z q, m.target = .pos (.slot n) → b.slot n = .inbound z q → (s.slot n).move = none) :
    b.EndsMove (s.completed m id) m .placed := by
  have after : ((s.dropMove m.seq).tellEnd m .placed).Calm 2 (s.completed m id) := by
    have idle : ((s.dropMove m.seq).tellEnd m .placed).Calm 0 (((s.dropMove m.seq).tellEnd m .placed).handlerIdle) :=
      .of_same (.of_tx rfl) rfl rfl rfl fun _ => rfl
    exact (idle.trans (State.calm_delivered _ m id)).trans (State.calm_deferredAdmission _ _)
  exact State.endsMove_of_calm here before (State.Calm.refl _) after (by omega) (s.completed_slots m id) frees target
    fun _ _ _ _ other => absurd rfl other

/-! ## The placement (R154) -/

theorem State.calm_placeAt (s : State) (x : Position) (id : Ident) : s.Calm 0 (s.placeAt x id) := by
  unfold State.placeAt
  split
  · exact (s.calm_setSlot _ _).trans (State.calm_updRecord _ id (f := Rec.putIn _) fun _ => rfl)
  · have moved := s.calm_updRecord id (f := Rec.moveTo (.nest .bo)) fun _ => rfl
    have stands : (s.updRecord id (Rec.moveTo (.nest .bo))).Calm 0
        { s.updRecord id (Rec.moveTo (.nest .bo)) with bo := .awayWait } := .of_same (.of_tx rfl) rfl rfl rfl fun _ => rfl
    exact moved.trans stands
  · have moved := s.calm_updRecord id (f := fun r => { r with location := .nest .inn, verdictOwed := true }) fun _ => rfl
    have stands : (s.updRecord id (fun r => { r with location := .nest .inn, verdictOwed := true })).Calm 0
        { s.updRecord id (fun r => { r with location := .nest .inn, verdictOwed := true }) with inn := .awayWait } :=
      .of_same (.of_tx rfl) rfl rfl rfl fun _ => rfl
    exact moved.trans stands
  · exact s.calm_updRecord id (f := Rec.moveTo (.nest _)) fun _ => rfl
  · exact .refl s

theorem State.calm_arrivedAt (s : State) (m : Move) (x : Position) (id : Ident) : s.Calm 1 (s.arrivedAt m x id) := by
  unfold State.arrivedAt
  split
  · exact (s.calm_placeAt x id).trans (State.calm_setHeld _ id)
  · exact (s.calm_placeAt x id).mono (by omega)

theorem State.placeAt_handler (s : State) (x : Position) (id : Ident) : (s.placeAt x id).handler = s.handler := by
  unfold State.placeAt
  split <;> rfl

theorem State.arrivedAt_ungranted (s : State) (m : Move) (x : Position) (id : Ident) :
    (s.placeAt x id).Ungranted (s.arrivedAt m x id) := by
  unfold State.arrivedAt
  split
  · exact State.ungranted_setHeld _ id
  · exact .refl _

theorem State.arrivedAt_fab (s : State) (m : Move) (x : Position) (id : Ident) :
    (s.placeAt x id).FabStands (s.arrivedAt m x id) := by
  unfold State.arrivedAt
  split
  · exact State.fabStands_setHeld _ id
  · exact .refl _

theorem State.arrivedAt_steady (s : State) (m : Move) (x : Position) (id : Ident) :
    (s.arrivedAt m x id).steady = (s.placeAt x id).steady := by
  unfold State.arrivedAt
  split
  · exact State.steady_setHeld _ id
  · rfl

theorem State.placeAt_slot (s : State) (x : Position) (id : Ident) (k : Slot) :
    (x = .slot k ∧ (s.placeAt x id).slot k = .filled id) ∨ (x ≠ .slot k ∧ (s.placeAt x id).slot k = s.slot k) := by
  cases x with
  | slot n =>
    by_cases same : n = k
    · subst same
      exact .inl ⟨rfl, s.slot_setSlot_same n _⟩
    · exact .inr ⟨fun e => same (Position.slot.inj e), s.slot_setSlot_other (Ne.symm same) _⟩
  | nest y => cases y <;> exact .inr ⟨by simp, rfl⟩
  | shelf _ => exact .inr ⟨by simp, rfl⟩

/-- The record of an identifier placed is where the move went (R154). -/
theorem State.placeAt_located (s : State) (x : Position) (id : Ident) :
    ∀ r ∈ (s.placeAt x id).catalogue, r.id = id →
      (∀ n, x = .slot n → r.location = .slot n ∧ ∀ k, toStorage n = some k → r.home = some k)
        ∧ (∀ y, x = .nest y → r.location = .nest y ∧ (y = .inn → r.verdictOwed = true)) := by
  cases x with
  | slot n =>
    refine State.forall_updRecord _ id (f := Rec.putIn n) fun r _ _ => ⟨fun k same => ?_, fun y same => (nomatch same)⟩
    cases same
    exact ⟨rfl, fun h storage => by rw [Rec.putIn, storage]⟩
  | nest y =>
    cases y with
    | bo | bi | t p =>
      refine State.forall_updRecord s id (f := Rec.moveTo (.nest _)) fun r _ _ => ⟨fun n same => (nomatch same), fun y same => ?_⟩
      cases same
      exact ⟨rfl, fun inn => nomatch inn⟩
    | inn =>
      refine State.forall_updRecord s id (f := fun r => { r with location := .nest .inn, verdictOwed := true })
        fun r _ _ => ⟨fun n same => (nomatch same), fun y same => ?_⟩
      cases same
      exact ⟨rfl, fun _ => rfl⟩
  | shelf n => exact fun _ _ _ => ⟨fun k same => (nomatch same), fun y same => (nomatch same)⟩

end Sys2Proof.Machine
end

section
/-! PROOFS. PLACED: the completion of a move and the end of a putback (R60, R83, R101, R108, R121, R154, R155, R158, R159,
R164). -/

namespace Sys2Proof.Machine

open Sys2Proof

variable {s t u : State} {m : Move} {e : ExecRecord} {ph : Phase}

/-! ## The completion of a move (R154) -/

/-- A completion that starts in `s`, in a change from `b` that has left the slots but for the target and for releases. -/
theorem State.complete_spec {b : State} {i : Nat} {id : Ident} {x : Position} (here : m ∈ b.queue) (before : b.Hushed i s)
    (small : i < 900) (names : m.reticle = some id) (target : m.target = .pos x)
    (written : ∀ k, x ≠ .slot k → s.slot k = b.slot k ∨ (s.slot k).move = none) :
    (s.complete m).handler = s.handler.idled ∧ b.EndsMove (s.complete m) m .placed
      ∧ (∀ k, (s.complete m).slot k = (s.placeAt x id).slot k)
      ∧ (∀ r ∈ (s.complete m).catalogue, r.id = id →
        (∀ n, x = .slot n → r.location = .slot n ∧ ∀ k, toStorage n = some k → r.home = some k)
          ∧ (∀ y, x = .nest y → r.location = .nest y ∧ (y = .inn → r.verdictOwed = true)))
      ∧ (s.placeAt x id).FabStands (s.complete m) := by
  rw [State.complete_eq names target]
  have slot (k : Slot) : (s.arrivedAt m x id).slot k = (s.placeAt x id).slot k :=
    congrArg (fun v : Vector SlotEntry 396 => v.get k) (s.arrivedAt_ungranted m x id).slots
  refine ⟨?_, State.completed_endsMove here (before.trans (s.calm_arrivedAt m x id).hushed) (by omega) (fun n q h => ?_)
      (fun n z q own _ => ?_), fun k => ?_, ?_, (s.arrivedAt_fab m x id).trans (State.completed_fab _ m id)⟩
  · rw [State.completed_handler, (s.arrivedAt_ungranted m x id).handler, s.placeAt_handler]
  · rw [slot] at h ⊢
    rcases s.placeAt_slot x id n with ⟨_, filled⟩ | ⟨other, same⟩
    · rw [filled] at h
      cases h
    · rw [same] at h ⊢
      rcases written n other with stays | free
      · exact stays
      · rw [free] at h
        cases h
  · rw [slot]
    rcases s.placeAt_slot x id n with ⟨_, filled⟩ | ⟨other, _⟩
    · rw [filled]
      rfl
    · rw [target] at own
      exact absurd (Target.pos.inj own) other
  · exact (congrArg (fun v : Vector SlotEntry 396 => v.get k) (State.completed_slots _ m id)).trans (slot k)
  · have records : ((s.arrivedAt m x id).completed m id).steady.records = (s.placeAt x id).steady.records := by
      rw [State.completed_records, State.arrivedAt_steady]
    exact State.forall_records (P := fun r =>
      (∀ n, x = .slot n → r.location = .slot n ∧ ∀ k, toStorage n = some k → r.home = some k)
        ∧ (∀ y, x = .nest y → r.location = .nest y ∧ (y = .inn → r.verdictOwed = true))) id records (s.placeAt_located x id)

theorem State.CatalogueSound.placeAt (sound : s.CatalogueSound) (x : Position) (id : Ident) :
    (s.placeAt x id).CatalogueSound := by
  unfold State.placeAt
  split
  · exact State.CatalogueSound.updRecord (s := s.setSlot _ (.filled id)) sound id (f := Rec.putIn _) fun _ => rfl
  · exact sound.updRecord id (f := Rec.moveTo (.nest .bo)) fun _ => rfl
  · exact sound.updRecord id (f := fun r => { r with location := .nest .inn, verdictOwed := true }) fun _ => rfl
  · exact sound.updRecord id (f := Rec.moveTo (.nest _)) fun _ => rfl
  · exact sound

theorem State.CatalogueSound.record_of_mem (sound : s.CatalogueSound) {r : Rec} (here : r ∈ s.catalogue) :
    s.record r.id = some r := by
  obtain ⟨x, known⟩ : ∃ x, s.record r.id = some x :=
    Option.isSome_iff_exists.mp (List.find?_isSome.mpr ⟨r, here, decide_eq_true rfl⟩)
  rw [known, State.CatalogueSound.eq_of_record sound known here rfl]

/-- A record that is held on completion is held when the completion is done (R154, R189). -/
theorem State.complete_held {id : Ident} {x : Position} (sound : s.CatalogueSound) (names : m.reticle = some id)
    (target : m.target = .pos x) (hold : m.holdOnCompletion = true) :
    ∀ r ∈ (s.complete m).catalogue, r.id = id → r.held = true := by
  rw [State.complete_eq names target]
  have arrived : s.arrivedAt m x id = (s.placeAt x id).setHeld id := if_pos hold
  have held : (s.arrivedAt m x id).AllHeld id := by
    rw [arrived]
    exact State.allHeld_setHeld (sound.placeAt x id) id
  have sound' : (s.arrivedAt m x id).CatalogueSound :=
    (sound.placeAt x id).of_steady (by rw [s.arrivedAt_steady])
  have sound'' : ((s.arrivedAt m x id).completed m id).CatalogueSound := sound'.of_steady (by rw [State.completed_records])
  intro r here same
  obtain ⟨y, known, _⟩ := State.record_some_of_records (s := (s.arrivedAt m x id).completed m id) (t := s.arrivedAt m x id)
    (by rw [State.completed_records]) (State.CatalogueSound.record_of_mem sound'' here)
  obtain ⟨w, known', stands⟩ := (State.ungranted_completed (s.arrivedAt m x id) m id).held r.id y known
  cases (State.CatalogueSound.record_of_mem sound'' here).symm.trans known'
  exact stands (held y (State.record_some _ known).1 ((State.record_some _ known).2.trans same))

/-! ## A placement at a tool nest (R60, R83) -/

/-- A DELIVER's completion at its tool nest, told nobody and followed by no deferred admission. -/
theorem State.complete_deliver {id : Ident} {p : Port} (names : m.reticle = some id) (target : m.target = .pos (.nest (.t p)))
    (kind : m.kind = .deliver) (own : m.beneficiary = some p) (hold : m.holdOnCompletion = false) :
    s.complete m = ((((s.updRecord id (Rec.moveTo (.nest (.t p)))).dropped m).updAhead p (fun a => a.placed id)).placementTest p
      id m.standDown) := by
  have arrived : s.arrivedAt m (.nest (.t p)) id = s.updRecord id (Rec.moveTo (.nest (.t p))) := if_neg (by simp [hold])
  have untold (a : State) : a.tellEnd m .placed = a := by
    simp only [State.tellEnd, names, kind, true_and, if_true]
  rw [State.complete_eq names target, arrived, State.completed, untold,
    State.deferredAdmission_of_other _ (by simp [kind]) (by simp [kind])]
  simp only [State.delivered, kind, own]
  rfl

theorem State.record_dropped {id : Ident} {r : Rec} (known : s.record id = some r) (m : Move) :
    ∃ y, (s.dropped m).record id = some y ∧ y.fit = r.fit := by
  have dropped := State.record_mapCatalogue { s with queue := s.queue.filter (fun x => !decide (x.seq = m.seq)) }
    (f := fun r => if r.binding = some m.seq then { r with binding := none } else r) (fun r => by split <;> rfl) id
  refine ⟨_, dropped.trans (congrArg (Option.map _) known), ?_⟩
  dsimp only
  split <;> rfl

/-- What a placement at a tool nest leaves: READY on an OUT_WAIT nest, or a lapsed nest with its RECLAIM (R60). -/
theorem State.placementTest_spec {p : Port} {id : Ident} {r : Rec} (known : s.record id = some r) (x : Bool) :
    ((s.port p).state = .attached → x = false → r.fit = true →
        (s.placementTest p id x).toolNest p = .outWait
        ∧ ((s.placementTest p id x).port p).window = some ⟨.collect, windowLength (s.port p).settings.windowCount⟩
        ∧ (s.placementTest p id x).sent (.request (.tool p)) = s.sent (.request (.tool p)) ++ [.ready id])
      ∧ ((s.port p).state ≠ .attached ∨ x = true ∨ r.fit = false →
        (s.placementTest p id x).toolNest p = .outLapsed
        ∧ ∃ y ∈ (s.placementTest p id x).queue,
            y.seq = s.nextSeq ∧ y.kind = .reclaim ∧ y.reticle = some id ∧ y.source = .nest (.t p)) := by
  have lapsed (f : State → State) (ports : ∀ a, (f a).ports = a.ports) (queue : ∀ a, (f a).queue = a.queue) :
      (f (s.lapsedAtOnce p id)).toolNest p = .outLapsed
        ∧ ∃ y ∈ (f (s.lapsedAtOnce p id)).queue,
            y.seq = s.nextSeq ∧ y.kind = .reclaim ∧ y.reticle = some id ∧ y.source = .nest (.t p) := by
    obtain ⟨hold, entered⟩ := (s.lapseNest p).offerInward_queue (reclaimOffer p id)
    refine ⟨?_, (s.lapseNest p).entered (reclaimOffer p id) false hold, ?_, rfl, rfl, rfl, rfl⟩
    · rw [State.toolNest, State.port, ports, State.lapsedAtOnce, State.offerInward_ports]
      exact congrArg PortRec.nest (s.port_updPort_same p _)
    · rw [queue, State.lapsedAtOnce, entered]
      exact List.mem_append_right _ (List.mem_singleton_self _)
  rcases State.placementTest_cases (p := p) known x with ⟨attached, still, fit, h⟩ | ⟨unfit, h | h⟩
  · refine ⟨fun _ _ _ => ?_, fun other => ?_⟩
    · have port : ((s.setToolNest p .outWait).sendTool p (.ready id)).port p = { s.port p with nest := .outWait } := by
        rw [State.port, State.sendTool_ports]
        exact s.port_updPort_same p _
      have ready : (s.madeReady p id).port p
          = { s.port p with nest := .outWait, window := some ⟨.collect, windowLength (s.port p).settings.windowCount⟩ } := by
        rw [State.madeReady, State.startWindow, State.port_updPort_same, port]
      rw [h]
      refine ⟨congrArg PortRec.nest ready, congrArg PortRec.window ready, ?_⟩
      have sent := (s.setToolNest p .outWait).sent_sendTool p (.ready id) (.request (.tool p))
      have opened : ((s.setToolNest p .outWait).port p).state ≠ .closed := by
        rw [State.setToolNest, s.port_updPort_same, attached]
        simp
      rw [if_pos ⟨rfl, opened⟩] at sent
      exact sent
    · rcases other with silent | standDown | held
      · exact absurd attached silent
      · rw [still] at standDown
        cases standDown
      · rw [fit] at held
        cases held
  · refine ⟨fun attached still fit => ?_, fun _ => by rw [h]; exact lapsed (fun a => a) (fun _ => rfl) fun _ => rfl⟩
    rcases unfit with silent | standDown | held
    · exact absurd attached silent
    · rw [still] at standDown
      cases standDown
    · rw [fit] at held
      cases held
  · refine ⟨fun attached still fit => ?_, fun _ => by
      rw [h]
      exact lapsed (fun a => a.sendTool p (.withdrawn id r.unfitReason)) (fun a => a.sendTool_ports _ _) fun a => a.sendTool_queue _ _⟩
    rcases unfit with silent | standDown | held
    · exact absurd attached silent
    · rw [still] at standDown
      cases standDown
    · rw [fit] at held
      cases held

/-! ## PLACED -/

theorem State.takePlaced_placing (h : s.handler.state = .placing) : s.takePlaced m = s.complete m := by
  unfold State.takePlaced
  rw [h]

theorem State.takePlaced_putback {c : PutbackCause} (h : s.handler.state = .putback) (exec_ : s.handler.exec = some e)
    (cause : e.cause = some c) : s.takePlaced m = s.putbackEnds m c := by
  have known : s.handler.exec.bind (·.cause) = some c := by rw [exec_]; exact cause
  unfold State.takePlaced
  rw [h, known]

/-- Settles O51, by the completion of a move and the ends of a putback. -/
theorem placedCompletesMoveOrPutback : Obligations.PlacedCompletesMoveOrPutback := by
  refine ⟨fun s number m e id x awaits names target => ?_, fun s number m e awaits caused => ?_⟩
  · have here := awaits.1.mem
    obtain ⟨handler, ends, slot, located, fab⟩ := State.complete_spec here (State.Calm.refl s).hushed (by omega) names target
      fun _ _ => .inl rfl
    have taken : s.takePlaced m = s.complete m := State.takePlaced_placing awaits.2.1
    refine ⟨_, execPlaced_awaited awaits (.inl rfl), ?_⟩
    rw [taken]
    refine ⟨handler, ends, fun n same => ⟨?_, fun r mem own => (located r mem own).1 n same⟩, fun same => ?_, fun same => ?_,
      fun hold _ sound => State.complete_held sound names target hold, fun p r same kind own hold known => ?_⟩
    · rw [slot, same]
      exact s.slot_setSlot_same n _
    · subst same
      have bo : (s.complete m).bo = .awayWait := fab.bo
      exact ⟨bo, decide_eq_true bo, fun r mem own => ((located r mem own).2 .bo rfl).1⟩
    · subst same
      have inn : (s.complete m).inn = .awayWait := fab.inn
      exact ⟨inn, decide_eq_true inn, fun r mem own =>
        ⟨((located r mem own).2 .inn rfl).1, ((located r mem own).2 .inn rfl).2 rfl⟩⟩
    · subst same
      obtain ⟨y, known', fit⟩ := State.record_dropped (s := s.updRecord id (Rec.moveTo (.nest (.t p))))
        ((s.record_updRecord_same id (Rec.moveTo (.nest (.t p))) fun _ => rfl).trans (congrArg (Option.map _) known)) m
      have eq := State.complete_deliver (s := s) names target kind own hold
      obtain ⟨ready, lapsed⟩ := State.placementTest_spec (p := p)
        (s := ((s.updRecord id (Rec.moveTo (.nest (.t p)))).dropped m).updAhead p (fun a => a.placed id)) known' m.standDown
      have ahead : (s.complete m).aheadOf p = (s.aheadOf p).placed id := by
        rw [eq]
        refine (congrArg (fun x : Steady => x.ahead.get p) (State.steady_placementTest _ p id m.standDown)).trans ?_
        exact State.aheadOf_setAhead_same _ p _
      rw [← eq] at ready lapsed
      refine ⟨ahead, fun y mem same => ((located y mem same).2 (.t p) rfl).1, fun attached still fit' => ?_, fun other => ?_⟩
      · obtain ⟨nest, window, sent⟩ := ready attached still (fit.trans fit')
        exact ⟨nest, decide_eq_true nest, window, sent⟩
      · exact lapsed (other.imp_right (Or.imp_right fit.trans))
  · obtain ⟨c, cause⟩ := Option.ne_none_iff_exists'.mp caused
    have taken : s.takePlaced m = s.putbackEnds m c := State.takePlaced_putback awaits.2.1 awaits.1.1 cause
    refine ⟨_, execPlaced_awaited awaits (.inr rfl), ?_⟩
    rw [taken]
    exact State.endsPutback_of_cause awaits.1.mem awaits.1.1 cause

end Sys2Proof.Machine
end

section
/-! PROOFS. RESOLVE(AT_TARGET) and RESOLVE(AT_SOURCE) (R121, R154, R155, R158, R159, R164, R166, R198). -/

namespace Sys2Proof.Machine

open Sys2Proof

variable {s t u : State} {m : Move} {e : ExecRecord} {ph : Phase}

/-! ## The requests -/

theorem execResolveAtTarget_service (s : State) (tag : Byte) :
    exec (.resolveAtTarget .service tag (some ())) s
      = .next ((replyResolveAtTarget s).finish s .service tag FrameKind.resolve.byte) :=
  congrArg Host.Outcome.next (s.request_service tag .resolve () (fun a _ _ => replyResolveAtTarget a))

theorem execResolveAtSource_service (s : State) (tag : Byte) :
    exec (.resolveAtSource .service tag (some ())) s
      = .next ((replyResolveAtSource s).finish s .service tag FrameKind.resolve.byte) :=
  congrArg Host.Outcome.next (s.request_service tag .resolve () (fun a _ _ => replyResolveAtSource a))

theorem execResolveRemoved_service (s : State) (tag : Byte) :
    exec (.resolveRemoved .service tag (some ())) s
      = .next ((replyResolveRemoved s).finish s .service tag FrameKind.resolve.byte) :=
  congrArg Host.Outcome.next (s.request_service tag .resolve () (fun a _ _ => replyResolveRemoved a))

theorem finish_refuse_state (s : State) (tag kind : Byte) :
    (refuse s .state).finish s .service tag kind = s.send (.request .service) (.answer tag kind .state .none) := rfl

theorem finish_handler (u s : State) (tag kind : Byte) (f : AnswerFields) :
    (Reply.handler u f).finish s .service tag kind = (u.settleHandler s).send (.request .service) (.answer tag kind .ok f) := rfl

/-- A resolution at target that is taken (R166). -/
theorem resolveAtTarget_taken {id : Ident} {x : Position} (halted : s.HaltedWith m e ph) (names : m.reticle = some id)
    (target : m.target = .pos x) (scan : m.kind ≠ .scan) (putback : ph ≠ .putback) (tag : Byte) :
    exec (.resolveAtTarget .service tag (some ())) s
      = .next (((s.resolvedAtTarget m ph id).settleHandler s).send (.request .service)
          (.answer tag FrameKind.resolve.byte .ok .none)) := by
  have reply : replyResolveAtTarget s = .handler (s.resolvedAtTarget m ph id) .none := by
    unfold replyResolveAtTarget
    rw [State.haltedAt_of_haltedWith halted]
    simp only [names, target, Target.pos?]
    exact if_neg fun h => h.elim scan putback
  rw [execResolveAtTarget_service, reply, finish_handler]

/-- A resolution at source that is taken (R166). -/
theorem resolveAtSource_taken (halted : s.HaltedWith m e ph) (allowed : s.sourceRefuses m.source = false) (tag : Byte) :
    exec (.resolveAtSource .service tag (some ())) s
      = .next (((s.resolvedAtSource m ph e.cause).settleHandler s).send (.request .service)
          (.answer tag FrameKind.resolve.byte .ok .none)) := by
  have reply : replyResolveAtSource s = .handler (s.resolvedAtSource m ph e.cause) .none := by
    have cause : s.handler.exec.bind (·.cause) = e.cause := by rw [halted.1.1]; rfl
    unfold replyResolveAtSource
    rw [State.haltedAt_of_haltedWith halted]
    dsimp only
    rw [if_neg (by simp [allowed]), cause]
  rw [execResolveAtSource_service, reply, finish_handler]

theorem resolveAtSource_refused (halted : s.HaltedWith m e ph) (refused : s.sourceRefuses m.source = true) (tag : Byte) :
    exec (.resolveAtSource .service tag (some ())) s
      = .next (s.send (.request .service) (.answer tag FrameKind.resolve.byte .state .none)) := by
  have reply : replyResolveAtSource s = refuse s .state := by
    unfold replyResolveAtSource
    rw [State.haltedAt_of_haltedWith halted]
    dsimp only
    rw [if_pos refused]
  rw [execResolveAtSource_service, reply, finish_refuse_state]

/-! ## The pick taken as accepted (R151, R166) -/

theorem State.nameMove_eq (s : State) (m : Move) (id : Ident) :
    ∃ q c, s.nameMove m id = { s with queue := q, catalogue := c } := by
  unfold State.nameMove
  split
  · exact ⟨_, _, rfl⟩
  · have rob : ∃ q, s.robCollect id = { s with queue := q } := by
      unfold State.robCollect
      split
      · split
        · exact ⟨_, rfl⟩
        · exact ⟨_, rfl⟩
      · exact ⟨_, rfl⟩
    obtain ⟨_, e⟩ := rob
    rw [e]
    exact ⟨_, _, rfl⟩

theorem State.freeSource_slot (s : State) (x : Position) (k : Slot) :
    (x = .slot k ∧ (s.freeSource x).slot k = .empty) ∨ (x ≠ .slot k ∧ (s.freeSource x).slot k = s.slot k) := by
  cases x with
  | slot n =>
    by_cases same : n = k
    · subst same
      exact .inl ⟨rfl, s.slot_setSlot_same n _⟩
    · exact .inr ⟨fun e => same (Position.slot.inj e), s.slot_setSlot_other (Ne.symm same) _⟩
  | nest y =>
    obtain ⟨_, _, _, _, e⟩ := s.nestEmptied_eq y
    exact .inr ⟨by simp, by rw [State.freeSource, e]; rfl⟩
  | shelf _ => exact .inr ⟨by simp, rfl⟩

theorem State.expectAt_slot_other (s : State) {n : Option Slot} {k : Slot} (other : n ≠ some k) (id : Ident) :
    (s.expectAt n id).slot k = s.slot k := by
  unfold State.expectAt
  split
  · next n =>
    split
    · exact s.slot_setSlot_other (fun same => other (congrArg some same.symm)) _
    · rfl
  · rfl

/-- An accepted pick frees its source and leaves every other slot but the target (R151). -/
theorem State.acceptPick_slot {k : Slot} (other : m.target.slot? ≠ some k) (id : Ident) :
    (m.source = .slot k ∧ (s.acceptPick m id).slot k = .empty)
      ∨ (m.source ≠ .slot k ∧ (s.acceptPick m id).slot k = s.slot k) := by
  have same : (s.acceptPick m id).slot k = ((s.updRecord id (Rec.moveTo .gripper)).freeSource m.source).slot k := by
    obtain ⟨_, _, e⟩ := ((s.updRecord id (Rec.moveTo .gripper)).freeSource m.source).nameMove_eq m id
    rw [State.acceptPick, State.expectAt_slot_other _ other, e]
    rfl
  rw [same]
  exact (s.updRecord id (Rec.moveTo .gripper)).freeSource_slot m.source k

theorem State.Hushed.of_same (tx : t.tx = s.tx) (next : t.nextSeq = s.nextSeq)
    (ports : ∀ p, (t.port p).state = (s.port p).state) : s.Hushed 0 t :=
  ⟨.of_tx tx, fun q k _ old => by rwa [State.Old, next], ports⟩

theorem State.hushed_acceptPick (s : State) (m : Move) (id : Ident) : s.Hushed 0 (s.acceptPick m id) := by
  have free : (s.updRecord id (Rec.moveTo .gripper)).Calm 0 ((s.updRecord id (Rec.moveTo .gripper)).freeSource m.source) := by
    unfold State.freeSource
    split
    · exact State.calm_setSlot _ _ _
    · exact State.calm_nestEmptied _ _
    · exact .refl _
  have moved : s.Hushed 0 (s.updRecord id (Rec.moveTo .gripper)) := .of_same rfl rfl fun _ => rfl
  obtain ⟨_, _, named⟩ := ((s.updRecord id (Rec.moveTo .gripper)).freeSource m.source).nameMove_eq m id
  have binds : ((s.updRecord id (Rec.moveTo .gripper)).freeSource m.source).Hushed 0
      (((s.updRecord id (Rec.moveTo .gripper)).freeSource m.source).nameMove m id) := by
    rw [named]
    exact .of_same rfl rfl fun _ => rfl
  obtain ⟨_, expect, _⟩ := (((s.updRecord id (Rec.moveTo .gripper)).freeSource m.source).nameMove m id).expectAt_eq
    m.target.slot? id
  have expects : (((s.updRecord id (Rec.moveTo .gripper)).freeSource m.source).nameMove m id).Hushed 0 (s.acceptPick m id) := by
    rw [State.acceptPick, expect]
    exact .of_same rfl rfl fun _ => rfl
  exact ((moved.trans free.hushed).trans binds).trans expects

/-- RESOLVE(AT_TARGET) as taken (R154, R166). -/
theorem State.resolvedAtTarget_spec {id : Ident} {x : Position} (here : m ∈ s.queue) (names : m.reticle = some id)
    (target : m.target = .pos x) :
    (s.resolvedAtTarget m ph id).handler = s.handler.idled ∧ s.EndsMove (s.resolvedAtTarget m ph id) m .placed
      ∧ (∀ n, x = .slot n → (s.resolvedAtTarget m ph id).slot n = .filled id
        ∧ ∀ r ∈ (s.resolvedAtTarget m ph id).catalogue, r.id = id → r.location = .slot n)
      ∧ (∀ y, x = .nest y → ∀ r ∈ (s.resolvedAtTarget m ph id).catalogue, r.id = id → r.location = .nest y)
      ∧ (ph = .picking → ∀ k, m.source = .slot k → x ≠ .slot k → (s.resolvedAtTarget m ph id).slot k = .empty) := by
  have slotOf (k : Slot) (other : x ≠ .slot k) : m.target.slot? ≠ some k := fun same => by
    rw [target] at same
    cases x with
    | slot n => exact other (congrArg Position.slot (Option.some.inj same))
    | nest y => cases same
    | shelf y => cases same
  have start : ∃ a : State, s.resolvedAtTarget m ph id = a.complete m ∧ a.handler = s.handler ∧ s.Hushed 0 a
      ∧ (∀ k, x ≠ .slot k → a.slot k = s.slot k ∨ (a.slot k).move = none)
      ∧ (ph = .picking → ∀ k, m.source = .slot k → x ≠ .slot k → a.slot k = .empty) := by
    by_cases picking : ph = .picking
    · refine ⟨s.acceptPick m id, by rw [State.resolvedAtTarget, if_pos picking], s.acceptPick_handler m id,
        s.hushed_acceptPick m id, fun k other => ?_, fun _ k source other => ?_⟩
      · rcases State.acceptPick_slot (s := s) (slotOf k other) id with ⟨_, empty⟩ | ⟨_, same⟩
        · exact .inr (by rw [empty]; rfl)
        · exact .inl same
      · rcases State.acceptPick_slot (s := s) (slotOf k other) id with ⟨_, empty⟩ | ⟨away, _⟩
        · exact empty
        · exact absurd source away
    · exact ⟨s, by rw [State.resolvedAtTarget, if_neg picking], rfl, (State.Calm.refl s).hushed, fun _ _ => .inl rfl,
        fun same => absurd same picking⟩
  obtain ⟨a, eq, handler', hushed, written, freed⟩ := start
  obtain ⟨handler, ends, slot, located, _⟩ := State.complete_spec here hushed (by omega) names target written
  rw [eq]
  refine ⟨by rw [handler, handler'], ends, fun n same => ⟨?_, fun r mem own => ((located r mem own).1 n same).1⟩,
    fun y same r mem own => ((located r mem own).2 y same).1, fun picking k source other => ?_⟩
  · rw [slot, same]
    exact a.slot_setSlot_same n _
  · rcases a.placeAt_slot x id k with ⟨same, _⟩ | ⟨_, stays⟩
    · exact absurd same other
    · rw [slot, stays, freed picking k source other]

end Sys2Proof.Machine
end

section
/-! PROOFS. RESOLVE(AT_SOURCE) (R155, R158, R159, R166, R198). -/

namespace Sys2Proof.Machine

open Sys2Proof

variable {s t u : State} {m : Move} {e : ExecRecord} {ph : Phase}

/-! ## A move put back at its source (R166) -/

/-- The pod at its source again, the target released, and the move waiting (R166). -/
def State.returnedToSource (s : State) (m : Move) : State := ((s.backAtSource m).releaseTarget m.target).backToWaiting m

theorem State.resolvedAtSource_returned (h : ph = .picking ∨ ph = .carrying ∨ ph = .placing) (c : Option PutbackCause) :
    s.resolvedAtSource m ph c = s.returnedToSource m := by
  rcases h with rfl | rfl | rfl <;> rfl

theorem State.releaseTarget_eq (s : State) (x : Target) :
    ∃ slots ports bi bo inn, s.releaseTarget x = { s with slots := slots, ports := ports, bi := bi, bo := bo, inn := inn } := by
  unfold State.releaseTarget
  split
  · split <;> exact ⟨_, _, _, _, _, rfl⟩
  · split
    · obtain ⟨_, _, _, _, eq⟩ := s.nestEmptied_eq ‹Nest›
      exact ⟨_, _, _, _, _, eq⟩
    · exact ⟨_, _, _, _, _, rfl⟩
  · exact ⟨_, _, _, _, _, rfl⟩

theorem State.returnedToSource_eq (s : State) (m : Move) :
    ∃ slots catalogue ports bi bo inn, (s.backAtSource m).releaseTarget m.target = { s with
      slots := slots, catalogue := catalogue, ports := ports, bi := bi, bo := bo, inn := inn } := by
  obtain ⟨_, _, _, _, _, back⟩ := s.backAtSource_eq m
  obtain ⟨_, _, _, _, _, released⟩ := (s.backAtSource m).releaseTarget_eq m.target
  rw [released, back]
  exact ⟨_, _, _, _, _, _, rfl⟩

theorem State.returnedToSource_handler (s : State) (m : Move) : (s.returnedToSource m).handler = s.handler.idled := by
  obtain ⟨_, _, _, _, _, _, eq⟩ := s.returnedToSource_eq m
  rw [State.returnedToSource, State.backToWaiting_handler, eq]

theorem State.returnedToSource_queue (h : ¬(m.kind = .deliver ∧ m.standDown = true)) :
    (s.returnedToSource m).queue = s.queue.map (fun y => if y.seq = m.seq then
      { y with state := .waiting, target := if y.kind.isStore then .toSelect else y.target } else y) := by
  obtain ⟨_, _, _, _, _, _, eq⟩ := s.returnedToSource_eq m
  rw [State.returnedToSource, State.backToWaiting_waits h, eq]
  rfl

theorem State.returnedToSource_slot (s : State) (m : Move) (k : Slot) :
    (s.returnedToSource m).slot k = ((s.backAtSource m).releaseTarget m.target).slot k := State.backToWaiting_slot _ m k

theorem State.returnedToSource_records (s : State) (m : Move) :
    (s.returnedToSource m).steady.records = (s.backAtSource m).steady.records := by
  rw [State.returnedToSource, State.steady_backToWaiting, State.steady_releaseTarget]

/-- An INBOUND target slot is EMPTY again, unless it is the source (R166). -/
theorem State.returnedToSource_target {k : Slot} (target : m.target = .pos (.slot k)) (other : m.source ≠ .slot k) {z : Option Ident}
    {q : Seq} (reserved : s.slot k = .inbound z q) : (s.returnedToSource m).slot k = .empty := by
  have stays : (s.backAtSource m).slot k = .inbound z q := by
    unfold State.backAtSource
    split
    · next n id source names =>
      exact (s.slot_setSlot_other (fun same => other (source.trans (congrArg Position.slot same.symm))) _).trans reserved
    · next x id _ _ =>
      obtain ⟨_, _, _, restored⟩ := s.nestRestored_eq x m.kind
      rw [restored]
      dsimp only
      split <;> exact reserved
    · next x _ _ =>
      obtain ⟨_, _, _, restored⟩ := s.nestRestored_eq x m.kind
      rw [restored]
      exact reserved
    · exact reserved
  rw [State.returnedToSource_slot, State.releaseTarget_slot target stays]

theorem State.returnedToSource_fields (s : State) (m : Move) :
    (s.returnedToSource m).ports = ((s.backAtSource m).releaseTarget m.target).ports
      ∧ (s.returnedToSource m).bi = ((s.backAtSource m).releaseTarget m.target).bi
      ∧ (s.returnedToSource m).inn = ((s.backAtSource m).releaseTarget m.target).inn := by
  by_cases h : m.kind = .deliver ∧ m.standDown = true
  · rw [State.returnedToSource, State.backToWaiting_withdraws h]
    obtain ⟨_, eq⟩ := (((s.backAtSource m).releaseTarget m.target).updMove m.seq Move.again).handlerIdle.withdraw_eq m none
    rw [eq, if_neg (by simp [h.1])]
    exact ⟨rfl, rfl, rfl⟩
  · rw [State.returnedToSource, State.backToWaiting_waits h]
    exact ⟨rfl, rfl, rfl⟩

/-! ## From a nest -/

theorem State.backAtSource_nest {y : Nest} (source : m.source = .nest y) :
    ∃ c, s.backAtSource m = { s.nestRestored y m.kind with catalogue := c }
      ∧ ∀ r ∈ c, m.reticle = some r.id → s.locatedAt r.id .gripper = true → r.location = .nest y := by
  cases names : m.reticle with
  | none =>
    refine ⟨(s.nestRestored y m.kind).catalogue, ?_, fun r _ none_ => nomatch none_⟩
    simp only [State.backAtSource, source, names]
  | some id =>
    have back : s.backAtSource m = if s.locatedAt id .gripper then (s.nestRestored y m.kind).updRecord id (Rec.moveTo (.nest y))
        else s.nestRestored y m.kind := by
      simp only [State.backAtSource, source, names]
    by_cases carried : s.locatedAt id .gripper = true
    · refine ⟨((s.nestRestored y m.kind).updRecord id (Rec.moveTo (.nest y))).catalogue, back.trans (if_pos carried),
        fun r here same _ => ?_⟩
      exact State.forall_updRecord (P := fun r => r.location = .nest y) _ id (f := Rec.moveTo (.nest y)) (fun _ _ _ => rfl) r here
        (Option.some.inj same).symm
    · refine ⟨(s.nestRestored y m.kind).catalogue, back.trans (if_neg carried), fun r _ same here => ?_⟩
      cases same
      exact absurd here carried

/-- A move put back on the nest it came from: the nest as before the grant, with the record in the gripper on it (R166). -/
theorem State.returnedToSource_nest {y : Nest} (source : m.source = .nest y) :
    (∀ p, y = .t p → m.target ≠ .pos (.nest (.t p)) →
        (s.returnedToSource m).toolNest p = (if m.kind = .reclaim then .outLapsed else .returned))
      ∧ (y = .bi → (s.returnedToSource m).bi = .arrived) ∧ (y = .inn → m.target ≠ .pos (.nest .inn) → (s.returnedToSource m).inn = .arrived)
      ∧ ∀ r ∈ (s.returnedToSource m).catalogue, m.reticle = some r.id → s.locatedAt r.id .gripper = true → r.location = .nest y := by
  obtain ⟨c, back, moved⟩ := State.backAtSource_nest (s := s) source
  obtain ⟨ports, bi, inn⟩ := s.returnedToSource_fields m
  refine ⟨fun p same other => ?_, fun same => ?_, fun same other => ?_, fun r here names carried => ?_⟩
  · subst same
    have stands : ((s.backAtSource m).releaseTarget m.target).toolNest p = (s.backAtSource m).toolNest p :=
      (s.backAtSource m).nestStands_releaseTarget m.target (y := .t p) (.inr other)
    refine (congrArg (fun v : Vector PortRec 6 => (v.get p).nest) ports).trans (stands.trans ?_)
    rw [back]
    exact s.toolNest_setToolNest_same p _
  · subst same
    have stands : ((s.backAtSource m).releaseTarget m.target).bi = (s.backAtSource m).bi :=
      (s.backAtSource m).nestStands_releaseTarget m.target (y := .bi) (.inl rfl)
    rw [bi, stands, back]
    rfl
  · subst same
    have stands : ((s.backAtSource m).releaseTarget m.target).inn = (s.backAtSource m).inn :=
      (s.backAtSource m).nestStands_releaseTarget m.target (y := .inn) (.inr other)
    rw [inn, stands, back]
    rfl
  · refine State.forall_records (P := fun r => r.location = .nest y) r.id (s.returnedToSource_records m) (fun x here' same => ?_) r here rfl
    rw [back] at here'
    exact moved x here' (names.trans (congrArg some same.symm)) (by rw [same]; exact carried)

/-! ## From a slot -/

theorem State.returnedToSource_fromSlot {n : Slot} {id : Ident} (source : m.source = .slot n) (names : m.reticle = some id) :
    (s.returnedToSource m).slot n = .filled id ∧ ∀ r ∈ (s.returnedToSource m).catalogue, r.id = id → r.location = .slot n := by
  have filled : (s.backAtSource m).slot n = .filled id := by
    rw [State.backAtSource_slot source names]
    exact s.slot_setSlot_same n _
  refine ⟨?_, State.forall_records (P := fun r => r.location = .slot n) id (s.returnedToSource_records m)
    (State.forall_putBack source names)⟩
  rw [State.returnedToSource_slot, State.releaseTarget_slot_stays _ m.target filled (by simp)]

theorem State.returnedToSource_tx (s : State) (m : Move) : (s.returnedToSource m).tx = s.tx := by
  obtain ⟨_, _, _, _, _, _, eq⟩ := s.returnedToSource_eq m
  by_cases h : m.kind = .deliver ∧ m.standDown = true
  · rw [State.returnedToSource, State.backToWaiting_withdraws h, State.withdraw_tx, eq]
    rfl
  · rw [State.returnedToSource, State.backToWaiting_waits h, eq]
    rfl

/-! ## A SCAN put back (R166, R198) -/

theorem State.scanPutBack_running (h : s.census.state = .running) :
    s.scanPutBack m = (s.updMove m.seq (fun x => { x with state := .waiting })).handlerIdle := by
  unfold State.scanPutBack
  dsimp only
  rw [h]

theorem State.scanPutBack_withdraws (h : s.census.state ≠ .running) :
    s.scanPutBack m = ((s.updMove m.seq (fun x => { x with state := .waiting })).handlerIdle).withdraw m none := by
  unfold State.scanPutBack
  dsimp only
  split
  · next running => exact absurd running h
  · rfl

theorem State.scanPutBack_spec (scan : m.kind = .scan) :
    (s.scanPutBack m).handler = s.handler.idled ∧ (s.scanPutBack m).slots = s.slots
      ∧ (s.scanPutBack m).steady.records = s.steady.records
      ∧ (s.census.state = .running → (s.scanPutBack m).census = s.census ∧ (s.scanPutBack m).catalogue = s.catalogue
        ∧ (s.scanPutBack m).queue = s.queue.map (fun x => if x.seq = m.seq then { x with state := .waiting } else x))
      ∧ (s.census.state ≠ .running →
        (s.scanPutBack m).census = { s.census with state := .idle, scan := none, nextShelf := none }
        ∧ (∀ y ∈ (s.scanPutBack m).queue, y.seq ≠ m.seq) ∧ ∀ r ∈ (s.scanPutBack m).catalogue, r.binding ≠ some m.seq) := by
  by_cases running : s.census.state = .running
  · rw [State.scanPutBack_running running]
    exact ⟨rfl, rfl, rfl, fun _ => ⟨rfl, rfl, rfl⟩, fun other => absurd running other⟩
  · let a := (s.updMove m.seq (fun x => { x with state := .waiting })).handlerIdle
    have withdrawn : s.scanPutBack m = a.withdraw m none := State.scanPutBack_withdraws running
    have ended : a.withdraw m none = (a.dropMove m.seq).censusEnds := by
      unfold State.withdraw
      rw [scan]
      rfl
    rw [withdrawn]
    refine ⟨a.withdraw_handler m none, a.withdraw_slots m none, ?_, fun same => absurd same running, fun _ => ⟨?_, fun y here => ?_,
      a.withdraw_binding m none⟩⟩
    · rw [ended]
      exact show (a.dropMove m.seq).steady.records = a.steady.records from congrArg Steady.records (a.steady_dropMove m.seq)
    · rw [ended]
      rfl
    · rw [State.withdraw_queue] at here
      simpa using (List.mem_filter.mp here).2

/-! ## What is refused (R166) -/

theorem State.sourceRefuses_of_nest {y : Nest} (source : m.source = .nest y) : s.sourceRefuses m.source = s.nestRefuses y := by
  rw [source]
  rfl

theorem State.nestRefuses_of_allowed {y : Nest}
    (h : s.nestAsGranted y = true ∨ (s.nestIsEmpty y = true ∧ ∀ p, y = .t p → s.putRecorded p = false)) :
    s.nestRefuses y = false := by
  rcases h with granted | ⟨empty, unput⟩
  · simp [State.nestRefuses, granted]
  · have since : s.podSince y = false := by
      cases y with
      | t p => simp [State.podSince, unput p rfl]
      | bi | bo | inn => rfl
    simp [State.nestRefuses, empty, since]

theorem State.sourceRefuses_of_slot {n : Slot} (source : m.source = .slot n) : s.sourceRefuses m.source = false := by
  rw [source]
  rfl

/-- Settles O44, by the phases of a halt. -/
theorem resolveAtTargetOrSource : Obligations.ResolveAtTargetOrSource := by
  refine ⟨fun s tag refused c request => ?_, fun s tag m e ph halted => ⟨fun shut => ?_, fun id x names target scan putback => ?_⟩,
    fun s tag m e ph halted => ⟨fun y source ungranted => ?_, fun y source phase allowed => ?_, fun phase caused allowed => ?_,
      fun n phase scan source => ?_, fun n id source names phase => ?_⟩⟩
  · rcases request with rfl | rfl
    · rw [execResolveAtTarget_service, replyResolveAtTarget, State.haltedAt_none refused, finish_refuse_state]
    · rw [execResolveAtSource_service, replyResolveAtSource, State.haltedAt_none refused, finish_refuse_state]
  · have reply : replyResolveAtTarget s = refuse s .state := by
      unfold replyResolveAtTarget
      rw [State.haltedAt_of_haltedWith halted]
      dsimp only
      split
      · next id y names target =>
        rcases shut with scan | putback | none_ | none_
        · exact if_pos (.inl scan)
        · exact if_pos (.inr putback)
        · cases none_.symm.trans target
        · cases none_.symm.trans names
      · rfl
    rw [execResolveAtTarget_service, reply, finish_refuse_state]
  · exact ⟨_, resolveAtTarget_taken halted names target scan putback tag, State.resolvedAtTarget_spec halted.1.mem names target⟩
  · refine ⟨fun full => ?_, fun p same empty pod put => ?_⟩
    · refine resolveAtSource_refused halted ?_ tag
      rw [State.sourceRefuses_of_nest source]
      simp [State.nestRefuses, ungranted, full]
    · subst same
      refine resolveAtSource_refused halted ?_ tag
      rw [State.sourceRefuses_of_nest source]
      simp [State.nestRefuses, ungranted, State.podSince, pod, put]
  · have taken := resolveAtSource_taken halted ((State.sourceRefuses_of_nest source).trans (State.nestRefuses_of_allowed allowed)) tag
    rw [State.resolvedAtSource_returned phase] at taken
    obtain ⟨tool, bi, inn, carried⟩ := State.returnedToSource_nest (s := s) source
    exact ⟨_, taken, s.returnedToSource_handler m, tool, bi, inn, carried,
      fun k target z q reserved => State.returnedToSource_target target (by rw [source]; simp) reserved,
      fun other => State.returnedToSource_queue fun h => other h.1⟩
  · obtain ⟨c, cause⟩ := Option.ne_none_iff_exists'.mp caused
    have open_ : s.sourceRefuses m.source = false := by
      cases source : m.source with
      | slot n => rfl
      | shelf n => rfl
      | nest y => exact State.nestRefuses_of_allowed (allowed y source)
    have taken := resolveAtSource_taken halted open_ tag
    have ends : s.resolvedAtSource m ph e.cause = s.putbackEnds m c := by rw [phase, cause]; rfl
    rw [ends] at taken
    exact ⟨_, taken, State.endsPutback_of_cause halted.1.mem halted.1.1 cause⟩
  · have open_ : s.sourceRefuses m.source = false := by rw [source]; rfl
    have taken := resolveAtSource_taken halted open_ tag
    have back : s.resolvedAtSource m ph e.cause = s.scanPutBack m := by rw [phase]; rfl
    rw [back] at taken
    exact ⟨_, taken, State.scanPutBack_spec scan⟩
  · have taken := resolveAtSource_taken halted (State.sourceRefuses_of_slot source) tag
    rw [State.resolvedAtSource_returned phase] at taken
    obtain ⟨filled, located⟩ := State.returnedToSource_fromSlot (s := s) source names
    refine ⟨_, taken, s.returnedToSource_handler m, filled, located, fun k target other z q reserved => ?_, fun standDown => ?_,
      State.returnedToSource_queue⟩
    · exact State.returnedToSource_target target (fun same => other (Position.slot.inj (source.symm.trans same)).symm) reserved
    · obtain ⟨gone, unbound⟩ := State.backToWaiting_drops (s := (s.backAtSource m).releaseTarget m.target) standDown
      exact ⟨gone, unbound, fun l => by rw [State.sent, s.returnedToSource_tx]; rfl⟩

end Sys2Proof.Machine
end

section
/-! PROOFS. RESOLVE(REMOVED), and what follows the end of a SCAN (R121, R164, R167, R197, R198). -/

namespace Sys2Proof.Machine

open Sys2Proof

variable {s t u : State} {m : Move} {e : ExecRecord} {ph : Phase}

/-! ## A move resolved as removed (R167) -/

theorem ExecRecord.pickAccepted_iff (phase : e.phase = some ph) :
    e.pickAccepted = true ↔ ph = .carrying ∨ ph = .placing ∨ (ph = .putback ∧ e.cause ≠ some .mismatch) := by
  unfold ExecRecord.pickAccepted
  rw [phase]
  cases ph <;> simp

theorem ExecRecord.ReadIs.eq {read : Option Ident} (h : e.ReadIs read) : identRead e.read = read := by
  refine Option.ext fun z => ?_
  rw [h z]
  cases e.read with
  | none => simp [identRead]
  | some r => cases r <;> simp [identRead]

theorem State.resolvedRemoved_eq (away : ∀ n, m.source ≠ .shelf n) :
    s.resolvedRemoved m e
      = ((s.removedSource m.source e.pickAccepted (identRead e.read)).releaseTarget m.target).failed m .removed m.reticle
        (identRead e.read) none := by
  unfold State.resolvedRemoved
  split
  · next n source => exact absurd source (away n)
  · rfl

theorem resolveRemoved_taken (halted : s.HaltedWith m e ph) (tag : Byte) :
    exec (.resolveRemoved .service tag (some ())) s
      = .next (((s.resolvedRemoved m e).settleHandler s).send (.request .service)
          (.answer tag FrameKind.resolve.byte .ok .none)) := by
  have reply : replyResolveRemoved s = .handler (s.resolvedRemoved m e) .none := by
    unfold replyResolveRemoved
    rw [if_pos halted.2, halted.1.execMove, halted.1.1]
  rw [execResolveRemoved_service, reply, finish_handler]

/-! ### Its source -/

theorem State.removedSource_slot {n : Slot} (source : m.source = .slot n) (a : Bool) (read : Option Ident) :
    ((∀ z q, s.slot n = .outbound z q → (s.removedSource m.source a read).slot n = .fault none)
      ∧ ((∀ z q, s.slot n ≠ .outbound z q) → (s.removedSource m.source a read).slot n = .empty))
      ∧ ∀ k, k ≠ n → (s.removedSource m.source a read).slot k = s.slot k := by
  rw [source]
  unfold State.removedSource
  dsimp only
  split
  · next z q out =>
    exact ⟨⟨fun _ _ _ => s.slot_setSlot_same n _, fun not_ => absurd out (not_ z q)⟩, fun k other => s.slot_setSlot_other other _⟩
  · next not_ =>
    exact ⟨⟨fun z q out => absurd out (not_ z q), fun _ => s.slot_setSlot_same n _⟩, fun k other => s.slot_setSlot_other other _⟩

theorem State.removedSource_nest_slots (s : State) (y : Nest) (a : Bool) (read : Option Ident) (k : Slot) :
    (s.removedSource (.nest y) a read).slot k = s.slot k := by
  unfold State.removedSource
  dsimp only
  split
  · rfl
  · split
    · obtain ⟨_, _, _, _, _, _, _, eq⟩ := s.nestBlocks_eq y read
      rw [eq]
      rfl
    · obtain ⟨_, _, _, _, eq⟩ := s.nestEmptied_eq y
      rw [eq]
      rfl

theorem State.removedSource_slot_other {k : Slot} (other : m.source ≠ .slot k) (a : Bool) (read : Option Ident) :
    (s.removedSource m.source a read).slot k = s.slot k := by
  cases source : m.source with
  | slot n =>
    have apart : k ≠ n := fun same => other (source.trans (congrArg Position.slot same.symm))
    have stands := (State.removedSource_slot (s := s) source a read).2 k apart
    rwa [source] at stands
  | nest y => exact s.removedSource_nest_slots y a read k
  | shelf n => rfl

theorem State.removedSource_freed {n : Slot} (source : m.source = .slot n) (a : Bool) (read : Option Ident) :
    (s.removedSource m.source a read).slot n = .fault none ∨ (s.removedSource m.source a read).slot n = .empty := by
  obtain ⟨⟨out, other⟩, _⟩ := State.removedSource_slot (s := s) source a read
  by_cases outbound : ∃ z q, s.slot n = .outbound z q
  · obtain ⟨z, q, h⟩ := outbound
    exact .inl (out z q h)
  · exact .inr (other fun z q h => outbound ⟨z, q, h⟩)

theorem State.calm_removedSource (s : State) (x : Position) (a : Bool) (read : Option Ident) :
    s.Calm 0 (s.removedSource x a read) := by
  unfold State.removedSource
  split
  · split <;> exact s.calm_setSlot _ _
  · split
    · exact .refl s
    · split
      · exact s.calm_nestBlocks _ _
      · exact s.calm_nestEmptied _
  · exact .refl s

theorem State.removedSource_handler (s : State) (x : Position) (a : Bool) (read : Option Ident) :
    (s.removedSource x a read).handler = s.handler := by
  unfold State.removedSource
  split
  · split <;> rfl
  · split
    · rfl
    · split
      · exact s.nestBlocks_handler _ _
      · exact s.nestEmptied_handler _
  · rfl

theorem State.removedSource_records (s : State) (x : Position) (a : Bool) (read : Option Ident) :
    (s.removedSource x a read).steady.records = s.steady.records := by
  unfold State.removedSource
  split
  · split <;> rfl
  · split
    · rfl
    · split
      · exact s.records_nestBlocks _ _
      · exact congrArg Steady.records (s.steady_nestEmptied _)
  · rfl

theorem State.NestStands.inbound {y : Nest} (h : s.NestStands t y) (inbound : s.nestIsInbound y = true) :
    t.nestIsInbound y = true := by
  cases y with
  | t p => exact decide_eq_true (Eq.trans h (of_decide_eq_true inbound))
  | bi => cases inbound
  | bo => exact decide_eq_true (Eq.trans h (of_decide_eq_true inbound))
  | inn => exact decide_eq_true (Eq.trans h (of_decide_eq_true inbound))

theorem State.nestStands_nestBlocks (s : State) {x y : Nest} (other : y ≠ x) (id : Option Ident) :
    s.NestStands (s.nestBlocks x id) y := by
  have raised (a : State) (d : Detail) (h : s.NestStands a y) : s.NestStands (a.raise .nestBlocked d) y := by
    have stands : a.NestStands (a.raise .nestBlocked d) y :=
      State.nestStands_of_fields y (a.raise_ports _ d) (a.raise_bi _ d) (a.raise_bo _ d) (a.raise_inn _ d)
    cases y <;> exact Eq.trans stands h
  unfold State.nestBlocks
  refine raised _ _ ?_
  cases x with
  | t p =>
    cases y with
    | t q => exact s.toolNest_setToolNest_other (fun same => other (congrArg Nest.t same)) .blocked
    | bi | bo | inn => rfl
  | bi =>
    cases y with
    | bi => exact absurd rfl other
    | t _ | bo | inn => rfl
  | bo =>
    cases y with
    | bo => exact absurd rfl other
    | t _ | bi | inn => rfl
  | inn =>
    cases y with
    | inn => exact absurd rfl other
    | t _ | bi | bo => rfl

theorem State.nestStands_removedSource (s : State) {x : Position} {y : Nest} (other : x ≠ .nest y) (a : Bool)
    (read : Option Ident) : s.NestStands (s.removedSource x a read) y := by
  unfold State.removedSource
  split
  · split <;> exact State.nestStands_of_fields y rfl rfl rfl rfl
  · next z =>
    have apart : y ≠ z := fun same => other (congrArg Position.nest same.symm)
    split
    · exact State.nestStands_of_fields y rfl rfl rfl rfl
    · split
      · exact s.nestStands_nestBlocks apart _
      · exact s.nestStands_nestEmptied apart
  · exact State.nestStands_of_fields y rfl rfl rfl rfl

/-! ### The move -/

/-- The slots of a move resolved as removed (R121, R167). -/
theorem State.resolvedRemoved_slots (away : ∀ n, m.source ≠ .shelf n) :
    (∀ n, m.source = .slot n → (∀ z q, s.slot n = .outbound z q → (s.resolvedRemoved m e).slot n = .fault none)
        ∧ ((∀ z q, s.slot n ≠ .outbound z q) → (s.resolvedRemoved m e).slot n = .empty))
      ∧ (∀ k, m.target = .pos (.slot k) → m.source ≠ .slot k → ∀ z q, s.slot k = .inbound z q →
        (s.resolvedRemoved m e).slot k = .empty)
      ∧ ∀ k : Slot, m.source ≠ .slot k → m.target ≠ .pos (.slot k) → (s.resolvedRemoved m e).slot k = s.slot k := by
  rw [State.resolvedRemoved_eq away]
  refine ⟨fun n source => ?_, fun k target other z q reserved => ?_, fun k other apart => ?_⟩
  · have freed := State.removedSource_freed (s := s) source e.pickAccepted (identRead e.read)
    obtain ⟨⟨out, other⟩, _⟩ := State.removedSource_slot (s := s) source e.pickAccepted (identRead e.read)
    have stays : ((s.removedSource m.source e.pickAccepted (identRead e.read)).releaseTarget m.target).slot n
        = (s.removedSource m.source e.pickAccepted (identRead e.read)).slot n := by
      rcases freed with h | h <;> rw [h] <;> exact State.releaseTarget_slot_stays _ m.target h (by simp)
    exact ⟨fun z q h => (State.failed_slot _ n).trans (stays.trans (out z q h)),
      fun h => (State.failed_slot _ n).trans (stays.trans (other h))⟩
  · rw [State.failed_slot]
    exact State.releaseTarget_slot target ((State.removedSource_slot_other other _ _).trans reserved)
  · rw [State.failed_slot]
    rcases State.releaseTarget_slot_cases (s.removedSource m.source e.pickAccepted (identRead e.read)) m.target k with
      h | ⟨own, _⟩
    · exact h.trans (State.removedSource_slot_other other _ _)
    · exact absurd own apart

theorem State.resolvedRemoved_endsMove (here : m ∈ s.queue) (away : ∀ n, m.source ≠ .shelf n) :
    (s.resolvedRemoved m e).handler = s.handler.idled ∧ s.EndsMove (s.resolvedRemoved m e) m .removed := by
  rw [State.resolvedRemoved_eq away]
  have written (k : Slot) : (s.removedSource m.source e.pickAccepted (identRead e.read)).slot k = s.slot k
      ∨ ((s.removedSource m.source e.pickAccepted (identRead e.read)).slot k).move = none := by
    by_cases own : m.source = .slot k
    · rcases State.removedSource_freed (s := s) own e.pickAccepted (identRead e.read) with h | h <;> rw [h] <;> exact .inr rfl
    · exact .inl (State.removedSource_slot_other own _ _)
  obtain ⟨frees, target⟩ := State.released_frees m.target written
  refine ⟨?_, State.failed_endsMove here ((s.calm_removedSource _ _ _).trans (State.calm_releaseTarget _ _)) frees target
    fun n z q source _ => ?_⟩
  · rw [State.failed_handler, State.releaseTarget_handler, s.removedSource_handler]
  · rcases State.removedSource_freed (s := s) source e.pickAccepted (identRead e.read) with h | h <;>
      rw [State.releaseTarget_slot_stays _ m.target h (by simp)] <;> rfl

/-- The nests of a move resolved as removed (R167). -/
theorem State.resolvedRemoved_nests (away : ∀ n, m.source ≠ .shelf n) {read : Option Ident} (is : e.ReadIs read) :
    (∀ y, m.source = .nest y →
      (e.pickAccepted = false → s.presAt y = true → (s.resolvedRemoved m e).BlockedAt y read)
      ∧ (e.pickAccepted = false → s.presAt y = false → (s.resolvedRemoved m e).nestIsEmpty y = true)
      ∧ (e.pickAccepted = true → m.target ≠ .pos (.nest y) →
        (∀ p, y = .t p → s.toolNest p ≠ .outWait → (s.resolvedRemoved m e).toolNest p = s.toolNest p)
        ∧ (y = .bi → (s.resolvedRemoved m e).bi = s.bi) ∧ (y = .bo → (s.resolvedRemoved m e).bo = s.bo)
        ∧ (y = .inn → (s.resolvedRemoved m e).inn = s.inn)))
      ∧ ∀ y, m.target = .pos (.nest y) → m.source ≠ .nest y → s.nestIsInbound y = true →
        (s.resolvedRemoved m e).nestIsEmpty y = true := by
  rw [State.resolvedRemoved_eq away, is.eq]
  refine ⟨fun y source => ⟨fun refused pod => ?_, fun refused clear => ?_, fun accepted other => ?_⟩,
    fun y target other inbound => ?_⟩
  · have blocks : s.removedSource m.source e.pickAccepted read = s.nestBlocks y read := by
      rw [source]
      simp [State.removedSource, refused, pod]
    rw [blocks]
    have block := s.nestBlocked_nestBlocks y read
    have blocked := block.stands (State.nestStands_releaseTarget _ m.target (.inl block.not_inbound))
    exact ((State.failed_nests _).blocked blocked).blockedAt
      (((s.nestBlocks_raised y read).releaseTarget m.target).failed (by simp) (by simp) (by simp))
  · have empties : s.removedSource m.source e.pickAccepted read = s.nestEmptied y := by
      rw [source]
      simp [State.removedSource, refused, clear]
    rw [empties]
    exact (State.failed_nests _).isEmpty ((State.releaseTarget_nest _ m.target y).1 (s.nestIsEmpty_nestEmptied y))
  · have stands : s.removedSource m.source e.pickAccepted read = s := by
      rw [source]
      simp [State.removedSource, accepted]
    rw [stands]
    have kept := s.nestStands_releaseTarget m.target (y := y) (.inr other)
    obtain ⟨bi, bo, inn, tool⟩ := State.failed_nests (s.releaseTarget m.target) (m := m) (x := .removed) (lost := m.reticle)
      (read := read) (note := none)
    refine ⟨fun p same out => ?_, fun same => ?_, fun same => ?_, fun same => ?_⟩ <;> subst same
    · have kept' : (s.releaseTarget m.target).toolNest p = s.toolNest p := kept
      exact (tool p (by rwa [kept'])).trans kept'
    · exact bi.trans kept
    · exact bo.trans kept
    · exact inn.trans kept
  · have inbound' := (s.nestStands_removedSource other e.pickAccepted read).inbound inbound
    exact (State.failed_nests _).isEmpty ((State.releaseTarget_nest _ m.target y).2 target inbound')

/-- The records of a move resolved as removed (R16, R167). -/
theorem State.resolvedRemoved_records (away : ∀ n, m.source ≠ .shelf n) {read : Option Ident} (is : e.ReadIs read) :
    (∀ id, m.reticle = some id → (s.resolvedRemoved m e).Lost id)
      ∧ (s.CatalogueSound → ∀ z, read = some z → m.reticle ≠ some z → s.Doubts (s.resolvedRemoved m e) z)
      ∧ (m.reticle = none → (∀ z, read = some z → s.record z = none) →
        (s.resolvedRemoved m e).steady.records = s.steady.records) := by
  rw [State.resolvedRemoved_eq away, is.eq]
  have records : ((s.removedSource m.source e.pickAccepted read).releaseTarget m.target).steady.records = s.steady.records := by
    rw [State.steady_releaseTarget, State.removedSource_records]
  refine ⟨fun id names => ?_, fun _ z readZ other => ?_, fun none_ unknown => ?_⟩
  · rw [names]
    exact State.failed_lost _ id
  · rw [readZ] at records ⊢
    exact State.failed_doubts _ other records.symm
  · rw [none_, State.failed_steady]
    cases readZ : read with
    | none => exact (congrArg Steady.records (State.steady_dropped _ m)).trans (by rwa [readZ] at records)
    | some z =>
      rw [readZ] at records
      have fixed := (s.record_eq_none_iff z).mp (unknown z readZ)
      rw [← records] at fixed
      refine (congrArg Steady.records (State.steady_doubtRecord _ z)).trans ?_
      rw [State.steady_dropped, Steady.updRecord_of_fixed fixed, records]

/-! ## What follows the end of a SCAN (R197, R198) -/

/-- The next shelf below (R197). -/
def Shelf.below (n : Shelf) : Shelf := ⟨n.val - 1, by omega⟩

theorem State.censusMovesOn_cases (s : State) (n : Shelf) :
    s.censusMovesOn n = s ∨ s.censusMovesOn n = s.censusEnds ∨ s.censusMovesOn n = s.censusDone
      ∨ s.censusMovesOn n = s.offerScan (Shelf.below n) := by
  unfold State.censusMovesOn
  split
  · split
    · exact .inr (.inr (.inr rfl))
    · exact .inr (.inr (.inl rfl))
  · exact .inl rfl
  · exact .inr (.inl rfl)

section
variable {first last n : Shelf} (running : s.census.state = .running) (range : s.census.range = some (first, last))
include running range

/-- A running census goes on to the next shelf below (R197). -/
theorem State.censusMovesOn_next (more : first < n) : s.censusMovesOn n = s.offerScan (Shelf.below n) := by
  unfold State.censusMovesOn
  rw [running, range]
  exact if_pos more

/-- A running census is done after its first shelf (R197). -/
theorem State.censusMovesOn_last (last : ¬ first < n) : s.censusMovesOn n = s.censusDone := by
  unfold State.censusMovesOn
  rw [running, range]
  exact if_neg last

end

theorem State.offerScan_spec (s : State) (n : Shelf) :
    (s.offerScan n).queue = s.queue ++ [(s.entered (scanOffer n) false false)] ∧ (s.offerScan n).census.scan = some s.nextSeq
      ∧ (s.offerScan n).census.nextShelf = some n ∧ (s.offerScan n).census.state = s.census.state
      ∧ (s.offerScan n).census.tally = s.census.tally := ⟨rfl, rfl, rfl, rfl, rfl⟩

theorem State.censusDone_spec (s : State) :
    s.censusDone.census = { s.census with state := .idle, scan := none, nextShelf := none }
      ∧ s.censusDone.Raised .censusDone ⟨none, none, s.census.lowestFaulted.map .slot, none, some s.census.tally.faulted⟩ :=
  ⟨State.raise_census _ _ _, State.raise_raised _ _ _⟩

theorem State.calm_censusMovesOn (s : State) (n : Shelf) : s.Calm 1 (s.censusMovesOn n) := by
  have ends : s.Calm 0 s.censusEnds := .of_same (.of_tx rfl) rfl rfl rfl fun _ => rfl
  rcases s.censusMovesOn_cases n with h | h | h | h <;> rw [h]
  · exact (State.Calm.refl s).mono (by omega)
  · exact ends.mono (by omega)
  · exact (ends.trans (State.calm_raise _ _ _)).mono (by omega)
  · have counted : s.Calm 0 (s.updCensus (fun c => { c with nextShelf := some (Shelf.below n), scan := some s.nextSeq })) :=
      .of_same (.of_tx rfl) rfl rfl rfl fun _ => rfl
    exact counted.trans (State.calm_enter _ (scanOffer (Shelf.below n)) false false)

theorem State.ungranted_censusMovesOn (s : State) (n : Shelf) : s.Ungranted (s.censusMovesOn n) := by
  have ends : s.Ungranted s.censusEnds := .of_eq rfl rfl rfl rfl
  rcases s.censusMovesOn_cases n with h | h | h | h <;> rw [h]
  · exact .refl s
  · exact ends
  · exact ends.trans (State.ungranted_raise _ _ _)
  · have counted : s.Ungranted (s.updCensus (fun c => { c with nextShelf := some (Shelf.below n), scan := some s.nextSeq })) :=
      .of_eq rfl rfl rfl rfl
    exact counted.trans (State.ungranted_enter _ (scanOffer (Shelf.below n)) false false)

theorem State.records_censusMovesOn (s : State) (n : Shelf) : (s.censusMovesOn n).steady.records = s.steady.records := by
  rcases s.censusMovesOn_cases n with h | h | h | h <;> rw [h]
  · rfl
  · rw [State.censusDone, State.steady_raise]
    rfl
  · rw [State.offerScan, State.steady_enter]
    rfl

/-! ## A SCAN resolved as removed (R198) -/

theorem State.resolvedRemoved_scan {n : Shelf} (source : m.source = .shelf n) :
    s.resolvedRemoved m e = (s.dropped m).scanSkipped n := by
  unfold State.resolvedRemoved
  rw [source]
  rfl

theorem State.scanSkipped_running {n : Shelf} (running : s.census.state = .running) :
    s.scanSkipped n = (s.countTally (fun t => { t with skipped := t.skipped + 1 })).censusMovesOn n := by
  unfold State.scanSkipped
  rw [running]

theorem State.scanSkipped_other {n : Shelf} (other : s.census.state ≠ .running) : s.scanSkipped n = s.censusEnds := by
  unfold State.scanSkipped
  split
  · next running => exact absurd running other
  · rfl

/-- A SCAN that ends without result (R198). -/
theorem State.scanSkipped_spec (s : State) (n : Shelf) :
    s.Calm 1 (s.scanSkipped n) ∧ s.Ungranted (s.scanSkipped n) ∧ (s.scanSkipped n).steady.records = s.steady.records
      ∧ (∀ first last, s.census.state = .running → s.census.range = some (first, last) →
        (s.scanSkipped n).census.tally.skipped = s.census.tally.skipped + 1
        ∧ (first < n → ∃ k : Shelf, k.val + 1 = n.val ∧ (s.scanSkipped n).census.state = .running
          ∧ (s.scanSkipped n).census.nextShelf = some k
          ∧ ∃ y ∈ (s.scanSkipped n).queue, (s.scanSkipped n).census.scan = some y.seq ∧ y.kind = .scan ∧ y.source = .shelf k)
        ∧ (¬ first < n → (s.scanSkipped n).census.state = .idle ∧ (s.scanSkipped n).census.scan = none
          ∧ (s.scanSkipped n).Raised .censusDone
            ⟨none, none, s.census.lowestFaulted.map .slot, none, some s.census.tally.faulted⟩))
      ∧ (s.census.state ≠ .running → (s.scanSkipped n).census.state = .idle ∧ (s.scanSkipped n).census.scan = none) := by
  by_cases running : s.census.state = .running
  · rw [State.scanSkipped_running running]
    let a := s.countTally (fun t => { t with skipped := t.skipped + 1 })
    have counted : s.Calm 0 a := .of_same (.of_tx rfl) rfl rfl rfl fun _ => rfl
    have same : s.Ungranted a := .of_eq rfl rfl rfl rfl
    refine ⟨counted.trans (a.calm_censusMovesOn n), same.trans (a.ungranted_censusMovesOn n), a.records_censusMovesOn n,
      fun first last _ range => ?_, fun other => absurd running other⟩
    have running' : a.census.state = .running := running
    have range' : a.census.range = some (first, last) := range
    by_cases more : first < n
    · rw [show s.countTally _ = a from rfl, State.censusMovesOn_next running' range' more]
      obtain ⟨queue, scan, next, state, tally⟩ := a.offerScan_spec (Shelf.below n)
      refine ⟨congrArg Tally.skipped tally, fun _ => ⟨Shelf.below n, ?_, state.trans running, next, _,
        by rw [queue]; exact List.mem_append_right _ (List.mem_singleton_self _), scan, rfl, rfl⟩, fun done => absurd more done⟩
      have : first.val < n.val := more
      exact Nat.sub_add_cancel (by omega)
    · rw [show s.countTally _ = a from rfl, State.censusMovesOn_last running' range' more]
      obtain ⟨census, raised⟩ := a.censusDone_spec
      exact ⟨by rw [census]; rfl, fun less => absurd less more, fun _ => ⟨by rw [census], by rw [census], raised⟩⟩
  · rw [State.scanSkipped_other running]
    exact ⟨State.Calm.mono (i := 0) (.of_same (.of_tx rfl) rfl rfl rfl fun _ => rfl) (by omega), .of_eq rfl rfl rfl rfl, rfl,
      fun _ _ same => absurd same running, fun _ => ⟨rfl, rfl⟩⟩

/-- Settles O45, by the source of the move. -/
theorem resolveRemovedEndsMove : Obligations.ResolveRemovedEndsMove := by
  refine fun s tag => ⟨fun other => ?_, fun halted none_ => ?_, fun m e ph accepted read halted iff is away => ?_,
    fun m e ph n halted source => ?_⟩
  · rw [execResolveRemoved_service, replyResolveRemoved, if_neg other, finish_refuse_state]
  · have moveless : s.execMove = none := by
      rw [State.execMove]
      split
      · next e exec_ =>
        rw [exec_] at none_
        simp only [Option.bind_some] at none_
        rw [none_, Option.bind_none]
      · rfl
    have reply : replyResolveRemoved s = .handler s.handlerIdle .none := by
      unfold replyResolveRemoved
      rw [if_pos halted, moveless]
    rw [execResolveRemoved_service, reply, finish_handler]
    rfl
  · obtain ⟨handler, ends⟩ := State.resolvedRemoved_endsMove (e := e) halted.1.mem away
    obtain ⟨source, target, elsewhere⟩ := State.resolvedRemoved_slots (s := s) (e := e) away
    obtain ⟨nests, nestTarget⟩ := State.resolvedRemoved_nests (s := s) away is
    obtain ⟨lost, doubts, same⟩ := State.resolvedRemoved_records (s := s) away is
    have picked : e.pickAccepted = true ↔ accepted := (ExecRecord.pickAccepted_iff halted.1.2.2.2).trans iff.symm
    have unpicked (h : ¬ accepted) : e.pickAccepted = false := by rwa [← Bool.not_eq_true, picked]
    refine ⟨_, resolveRemoved_taken halted tag, handler, ends, source, fun y own => ?_, target, nestTarget, elsewhere, lost, doubts,
      same⟩
    obtain ⟨blocked, empty, stands⟩ := nests y own
    exact ⟨fun h => blocked (unpicked h), fun h => empty (unpicked h), fun h => stands (picked.mpr h)⟩
  · obtain ⟨calm, ungranted, records, running, other⟩ := (s.dropped m).scanSkipped_spec n
    refine ⟨_, resolveRemoved_taken halted tag, ?_⟩
    rw [State.resolvedRemoved_scan source]
    refine ⟨ungranted.handler, State.Gone.drops (i := 0 + 1) fun fresh => ?_, ungranted.slots,
      records.trans (by rw [s.steady_dropped]), running, other⟩
    have gone : (s.dropped m).Gone m.seq 0 := State.gone_dropMove (State.Old.of_fresh fresh halted.1.mem)
    exact calm.gone m.seq 0 (by omega) gone

end Sys2Proof.Machine
end

section
/-! PROOFS. The picks of store moves that name no reticle (R20, R21, R42, R69, R93, R97, R98, R110, R151). -/

namespace Sys2Proof.Machine

open Sys2Proof

variable {s t u : State} {m : Move} {e : ExecRecord} {ph : Phase}

/-! ## Storage slots and their selection -/

theorem toStorage_ofStorage (k : Fin 384) : toStorage (ofStorage k) = some k := by
  unfold toStorage ofStorage
  rw [dif_pos k.isLt]

theorem ofStorage_inj {j k : Fin 384} (h : ofStorage j = ofStorage k) : j = k := by
  have values : j.val = k.val := congrArg (fun x : Slot => x.val) h
  exact Fin.ext values

/-- The selection reads of the slots which are EMPTY, and of the rest the zone table. -/
theorem State.selectBy_congr (h : ∀ n, t.slot (ofStorage n) = .empty ↔ s.slot (ofStorage n) = .empty) (zones : t.zones = s.zones)
    (c : SelectionClass) (home : Option (Fin 384)) (anchor : Shelf) : t.selectBy c home anchor = s.selectBy c home anchor := by
  have resolve (n : Shelf) : t.resolve n = s.resolve n := by
    simp only [State.resolve, State.zoneMatches, zones]
  have candidate (n : Fin 384) : t.isCandidate c n = s.isCandidate c n := by
    simp only [State.isCandidate, resolve, h]
  simp only [State.selectBy, State.nearestCandidate, candidate, funext candidate]

theorem State.selectBy_candidate {c : SelectionClass} {home : Option (Fin 384)} {anchor : Shelf} {j : Fin 384}
    (h : s.selectBy c home anchor = some j) : s.slot (ofStorage j) = .empty := by
  have nearest (found : s.nearestCandidate c anchor = some j) : s.slot (ofStorage j) = .empty := by
    rcases s.nearestCandidate_cases c anchor with ⟨none_, _⟩ | ⟨n, some_, is, _⟩
    · cases none_.symm.trans found
    · cases some_.symm.trans found
      exact ((s.isCandidate_iff c j).mp is).1
  unfold State.selectBy at h
  split at h
  · split at h
    · next is =>
      cases h
      exact ((s.isCandidate_iff c j).mp is).1
    · exact nearest h
  · exact nearest h

/-! ## Naming the move (R123, R151) -/

theorem State.move?_updMove (s : State) (q q' : Seq) {f : Move → Move} (h : ∀ x, (f x).seq = x.seq) :
    (s.updMove q f).move? q' = (s.move? q').map (fun x => if x.seq = q then f x else x) := by
  simp only [State.move?, State.updMove_queue, List.find?_map]
  congr 2
  funext x
  dsimp only [Function.comp]
  split <;> simp [h]

/-- A move as it is named by the identifier read (R151). -/
def Move.named (id : Ident) (m : Move) : Move := { m with reticle := some id, pickTest := .named }

/-- A COLLECT whose record was accepted elsewhere (R123). -/
def Move.robbed (m : Move) : Move := { m with reticle := none, pickTest := .anyAtTool }

/-- The COLLECT that another move's pick robs of its record is the named move itself, or another. -/
theorem State.robCollect_move? (found : s.move? m.seq = some m) (id : Ident) :
    ∃ q y, s.robCollect id = { s with queue := q } ∧ (s.robCollect id).move? m.seq = some y ∧ y.named id = m.named id := by
  unfold State.robCollect
  split
  · next c _ =>
    split
    · refine ⟨_, _, rfl, (s.move?_updMove c.seq m.seq (f := Move.robbed) fun _ => rfl).trans (congrArg (Option.map _) found), ?_⟩
      dsimp only
      split <;> rfl
    · exact ⟨_, m, rfl, found, rfl⟩
  · exact ⟨_, m, rfl, found, rfl⟩

/-- A pick that names an unnamed move: the record bound to it, the move NAMED (R123, R151). -/
theorem State.nameMove_spec (unnamed : m.pickTest ≠ .named) (found : s.move? m.seq = some m) {id : Ident} {r : Rec}
    (known : s.record id = some r) :
    ∃ q c, s.nameMove m id = { s with queue := q, catalogue := c }
      ∧ (s.nameMove m id).record id = some { r with binding := some m.seq }
      ∧ (s.nameMove m id).move? m.seq = some (m.named id) := by
  obtain ⟨q, y, robbed, found', same⟩ := State.robCollect_move? found id
  have eq : s.nameMove m id = ((s.robCollect id).updMove m.seq (Move.named id)).bind id m.seq := if_neg unnamed
  obtain ⟨q', c, frame⟩ := s.nameMove_eq m id
  refine ⟨q', c, frame, ?_, ?_⟩
  · have kept : ((s.robCollect id).updMove m.seq (Move.named id)).record id = some r := by
      rw [robbed]
      exact known
    rw [eq]
    exact (State.record_updRecord_same _ id (fun x => { x with binding := some m.seq }) fun _ => rfl).trans
      (congrArg (Option.map _) kept)
  · have moved := (s.robCollect id).move?_updMove_same m.seq (Move.named id) fun _ => rfl
    rw [eq]
    exact moved.trans ((congrArg (Option.map _) found').trans (congrArg some same))

/-! ## The pick check (R42) -/

/-- A store move given another target at its pick check (R42). -/
def State.redirected (s : State) (m : Move) (id : Ident) (k j : Fin 384) : State :=
  ((s.setSlot (ofStorage k) .empty).setSlot (ofStorage j) (.inbound (some id) m.seq)).updMove m.seq
    (fun x => { x with target := .pos (storagePosition j) })

theorem State.pickCheck_eq {k : Fin 384} {id : Ident} {r : Rec} (target : m.target = .pos (storagePosition k))
    (known : s.record id = some r) :
    s.pickCheck m id = if (s.resolve (shelfOf k)).classMask.getLsbD r.cls.val then s
      else match s.selectBy (.one r.cls) r.home (s.anchorOf m) with
        | some j => s.redirected m id k j
        | none => s := by
  have slot : m.target.slot? = some (ofStorage k) := by rw [target]; rfl
  unfold State.pickCheck
  rw [slot, known]
  simp only [toStorage_ofStorage, State.redirected] <;> rfl

theorem State.anchorOf_congr (settings : t.settings = s.settings)
    (ports : ∀ p, (t.port p).settings = (s.port p).settings) (m : Move) : t.anchorOf m = s.anchorOf m := by
  unfold State.anchorOf
  split
  · rw [settings]
  · rw [settings]
  · split
    · rw [ports]
    · rw [settings]

/-- What the pick check of a store move with its slot reserved leaves: the slot of the move's target, its own or a new one
(R42). -/
theorem State.pickCheck_spec {k : Fin 384} {id : Ident} {r : Rec} {y : Move} (target : m.target = .pos (storagePosition k))
    (known : s.record id = some r) (reserved : s.slot (ofStorage k) = .inbound (some id) m.seq)
    (found : s.move? m.seq = some y) (own : y.target = m.target) :
    ∃ (j : Fin 384) (sl : Vector SlotEntry 396) (q : List Move), s.pickCheck m id = { s with slots := sl, queue := q }
      ∧ ((s.resolve (shelfOf k)).classMask.getLsbD r.cls.val = true → j = k)
      ∧ ((s.resolve (shelfOf k)).classMask.getLsbD r.cls.val = false →
        j = (s.selectBy (.one r.cls) r.home (s.anchorOf m)).getD k)
      ∧ (s.pickCheck m id).slot (ofStorage j) = .inbound (some id) m.seq
      ∧ (j ≠ k → (s.pickCheck m id).slot (ofStorage k) = .empty)
      ∧ (s.pickCheck m id).move? m.seq = some { y with target := .pos (storagePosition j) } := by
  have same : some { y with target := .pos (storagePosition k) } = some y := by
    rw [← own.trans target]
  have eq := State.pickCheck_eq target known
  by_cases admits : (s.resolve (shelfOf k)).classMask.getLsbD r.cls.val = true
  · rw [if_pos admits] at eq
    rw [eq]
    exact ⟨k, s.slots, s.queue, rfl, fun _ => rfl, fun not_ => (by rw [admits] at not_; cases not_), reserved,
      fun other => absurd rfl other, found.trans same.symm⟩
  · rw [if_neg admits] at eq
    cases selected : s.selectBy (.one r.cls) r.home (s.anchorOf m) with
    | none =>
      rw [selected] at eq
      have eq' : s.pickCheck m id = s := eq
      rw [eq']
      exact ⟨k, s.slots, s.queue, rfl, fun _ => rfl, fun _ => rfl, reserved, fun other => absurd rfl other, found.trans same.symm⟩
    | some j =>
      rw [selected] at eq
      have eq' : s.pickCheck m id = s.redirected m id k j := eq
      have apart : ofStorage k ≠ ofStorage j := fun e => by
        have empty := State.selectBy_candidate selected
        rw [← e, reserved] at empty
        cases empty
      rw [eq']
      refine ⟨j, _, _, rfl, fun yes => absurd yes admits, fun _ => rfl, ?_, fun _ => ?_, ?_⟩
      · exact State.slot_setSlot_same _ (ofStorage j) _
      · exact (State.slot_setSlot_other _ apart _).trans (s.slot_setSlot_same (ofStorage k) _)
      · refine (State.move?_updMove_same _ m.seq (fun x => { x with target := .pos (storagePosition j) }) fun _ => rfl).trans ?_
        exact congrArg (Option.map _) found

end Sys2Proof.Machine
end

section
/-! PROOFS. The picks of store moves that name no reticle (R20, R21, R42, R69, R93, R97, R98, R110, R151). -/

namespace Sys2Proof.Machine

open Sys2Proof

variable {s t u : State} {m : Move} {e : ExecRecord} {ph : Phase}

/-! ## The pick taken (R151) -/

theorem State.nestEmptied_settings (s : State) (x : Nest) (p : Port) :
    ((s.nestEmptied x).port p).settings = (s.port p).settings := by
  cases x with
  | t q =>
    by_cases same : p = q
    · subst same
      show ((s.updPort p _).port p).settings = _
      rw [State.port_updPort_same]
    · exact congrArg PortRec.settings (s.port_updPort_other same (fun r => { r with nest := .empty }))
  | bi | bo | inn => rfl

/-- A pick of an unnamed store move from a nest, as accepted for a record (R151). -/
theorem State.acceptPick_unnamed {x : Nest} {k : Fin 384} {id : Ident} {r : Rec} (unnamed : m.pickTest ≠ .named)
    (found : s.move? m.seq = some m) (source : m.source = .nest x) (target : m.target = .pos (storagePosition k))
    (reserved : s.slot (ofStorage k) = .inbound none m.seq) (known : s.record id = some r) :
    ∃ q c sl ports bi bo inn, s.acceptPick m id
        = { s with queue := q, catalogue := c, slots := sl, ports := ports, bi := bi, bo := bo, inn := inn }
      ∧ (s.acceptPick m id).record id = some { r with location := .gripper, binding := some m.seq }
      ∧ (s.acceptPick m id).move? m.seq = some (m.named id) ∧ (s.acceptPick m id).nestIsEmpty x = true
      ∧ (s.acceptPick m id).slot (ofStorage k) = .inbound (some id) m.seq
      ∧ (∀ n, (s.acceptPick m id).slot (ofStorage n) = .empty ↔ s.slot (ofStorage n) = .empty)
      ∧ (s.acceptPick m id).anchorOf m = s.anchorOf m := by
  let a := (s.updRecord id (Rec.moveTo .gripper)).nestEmptied x
  obtain ⟨ports, bi, bo, inn, emptied⟩ := (s.updRecord id (Rec.moveTo .gripper)).nestEmptied_eq x
  have known' : a.record id = some (Rec.moveTo .gripper r) := by
    rw [show a = _ from emptied]
    exact (s.record_updRecord_same id (Rec.moveTo .gripper) fun _ => rfl).trans (congrArg (Option.map _) known)
  have found' : a.move? m.seq = some m := by
    rw [show a = _ from emptied]
    exact found
  have slots : a.slots = s.slots := by rw [show a = _ from emptied]; rfl
  obtain ⟨q, c, named, record, move⟩ := State.nameMove_spec unnamed found' known'
  have reserved' : (a.nameMove m id).slot (ofStorage k) = .inbound none m.seq := by
    rw [named, State.slot, slots]
    exact reserved
  have eq : s.acceptPick m id = (a.nameMove m id).setSlot (ofStorage k) (.inbound (some id) m.seq) := by
    have slot : m.target.slot? = some (ofStorage k) := by rw [target]; rfl
    rw [State.acceptPick, source, slot, State.expectAt]
    simp only [State.freeSource]
    rw [show (a.nameMove m id).slot (ofStorage k) = _ from reserved']
  have other (n : Fin 384) (apart : n ≠ k) : (s.acceptPick m id).slot (ofStorage n) = s.slot (ofStorage n) := by
    rw [eq, State.slot_setSlot_other _ (fun same => apart (ofStorage_inj same)), named, State.slot, slots]
    rfl
  have own : (s.acceptPick m id).slot (ofStorage k) = .inbound (some id) m.seq := by
    rw [eq]
    exact State.slot_setSlot_same _ (ofStorage k) _
  refine ⟨q, c, _, ports, bi, bo, inn, by rw [eq, named, show a = _ from emptied]; rfl, ?_, ?_, ?_, own, fun n => ?_, ?_⟩
  · rw [eq]
    exact record
  · rw [eq]
    exact move
  · rw [eq, named]
    exact State.nestIsEmpty_nestEmptied _ x
  · by_cases same : n = k
    · subst same
      rw [own, reserved]
      simp
    · rw [other n same]
  · refine State.anchorOf_congr ?_ (fun p => ?_) m
    · rw [eq, named, show a = _ from emptied]
      rfl
    · rw [eq, named]
      exact State.nestEmptied_settings _ x p

/-- A change that reports what was read, and perhaps creates a record, before the pick is judged done. -/
structure State.Reads (b a : State) (e : ExecRecord) (id : Ident) : Prop where
  eq : ∃ h c n mn sn tx, a = { b with
    handler := h, catalogue := c, announcements := n, materialNotices := mn, serviceNotices := sn, tx := tx }
  handler : a.handler = { b.handler with exec := some { e with read := some (.ident id) } }
  sent : a.sent .handler = b.sent .handler
  announcements : b.known id = false → a.announcements = b.announcements.filter (fun y => !decide (y.id = id))

/-- A pick taken: named and bound, its target checked, and PLACE sent (R42, R151). -/
theorem State.Reads.takesUp {b a : State} {x : Nest} {k : Fin 384} {id : Ident} {r : Rec} (reads : b.Reads a e id)
    (unnamed : m.pickTest ≠ .named) (store : m.kind.isStore = true) (found : b.move? m.seq = some m)
    (source : m.source = .nest x) (target : m.target = .pos (storagePosition k))
    (reserved : b.slot (ofStorage k) = .inbound none m.seq) (known : a.record id = some r) :
    b.TakesUp (a.picks m id) m e x k { r with location := .gripper, binding := some m.seq } := by
  obtain ⟨eq, handler, sent, announcements⟩ := reads
  obtain ⟨h, c, n, mn, sn, tx, ha⟩ := eq
  have ids : r.id = id := (State.record_some a known).2
  have slot (n : Slot) : a.slot n = b.slot n := by rw [ha]; rfl
  have found' : a.move? m.seq = some m := by rw [ha]; exact found
  obtain ⟨_, _, _, _, _, _, _, frame, record, move, empty, own, empties, anchor⟩ :=
    State.acceptPick_unnamed (s := a) unnamed found' source target ((slot _).trans reserved) known
  obtain ⟨j, sl, q, check, admitted, replaced, placed, freed, move'⟩ :=
    State.pickCheck_spec (s := a.acceptPick m id) target record own move rfl
  have resolve : (a.acceptPick m id).resolve (shelfOf k) = b.resolve (shelfOf k) := by rw [frame, ha]; rfl
  have select : (a.acceptPick m id).selectBy (.one r.cls) r.home ((a.acceptPick m id).anchorOf m)
      = b.selectBy (.one r.cls) r.home (b.anchorOf m) := by
    have anchor' : a.anchorOf m = b.anchorOf m := by
      rw [ha]
      rfl
    rw [anchor, anchor']
    exact State.selectBy_congr (fun n => by rw [empties, slot]) (by rw [frame, ha]) _ _ _
  have carried : a.picks m id = ((a.acceptPick m id).pickCheck m id).sendPlace (storagePosition j) .placing := by
    have notDeliver : m.kind ≠ .deliver := fun same => by simp [same, MoveKind.isStore] at store
    rw [State.picks, if_pos ⟨store, unnamed⟩]
    exact State.carryOn_free (fun busy => notDeliver busy.1) (by rw [move']; rfl)
  have handler' : ((a.acceptPick m id).pickCheck m id).handler
      = { b.handler with exec := some { e with read := some (.ident id) } } := by
    rw [State.pickCheck_handler, State.acceptPick_handler, handler]
  have sent' : ((a.acceptPick m id).pickCheck m id).sent .handler = b.sent .handler := by
    rw [check, frame]
    exact sent
  have announced : ((a.acceptPick m id).pickCheck m id).announcements = a.announcements := by rw [check, frame]
  have record' : ((a.acceptPick m id).pickCheck m id).record id = some { r with location := .gripper, binding := some m.seq } := by
    rw [check]
    exact record
  have nest : ((a.acceptPick m id).pickCheck m id).nestIsEmpty x = true := by
    rw [check]
    exact empty
  rw [resolve] at admitted replaced
  rw [select] at replaced
  rw [carried]
  subst ids
  generalize (a.acceptPick m r.id).pickCheck m r.id = w at placed freed move' handler' sent' announced record' nest
  refine ⟨record', nest, fun unknown => announced.trans (announcements unknown), j, admitted, replaced, placed, freed,
    (State.move?_some w move').1, ?_, ?_⟩
  · rw [State.sendPlace, State.order_handler, handler', Option.map_some]
    rfl
  · rw [State.sendPlace, State.sent_order, handler', sent']

/-! ## What is read (R150) -/

theorem State.reads_keepRead (exec_ : s.handler.exec = some e) {id : Ident} (known : s.known id = true) :
    s.Reads (s.keepRead (.ident id)) e id :=
  ⟨⟨_, _, _, _, _, _, rfl⟩, State.keepRead_handler exec_ _, rfl, fun unknown => by rw [known] at unknown; cases unknown⟩

theorem State.sent_createRecord (s : State) (r : Rec) : (s.createRecord r).sent .handler = s.sent .handler := by
  unfold State.createRecord
  dsimp only
  split
  · exact State.sent_raise_other _ _ _ (by simp)
  · rfl

theorem State.reads_createRecord (exec_ : s.handler.exec = some e) (r : Rec) :
    s.Reads ((s.keepRead (.ident r.id)).createRecord r) e r.id := by
  obtain ⟨mn, sn, tx, eq⟩ := (s.keepRead (.ident r.id)).createRecord_eq r
  exact ⟨⟨_, _, _, mn, sn, tx, eq⟩, (State.createRecord_handler _ r).trans (State.keepRead_handler exec_ _),
    State.sent_createRecord _ r, fun _ => State.createRecord_announcements _ r⟩

theorem State.record_createRecord {r : Rec} (unknown : s.record r.id = none) : (s.createRecord r).record r.id = some r := by
  have absent : s.catalogue.find? (fun x => x.id = r.id) = none := unknown
  rw [State.record, State.createRecord_catalogue, List.find?_append, absent]
  simp

theorem State.judgePick_keepRead (s : State) (m : Move) (read : ReadId) :
    (s.keepRead read).judgePick m read = s.judgePick m read := rfl

theorem State.takePicked_accept {read : ReadId} {id : Ident} (judged : s.judgePick m read = .accept id) :
    s.takePicked m read = (s.keepRead read).picks m id := by
  rw [← State.judgePick_keepRead] at judged
  unfold State.takePicked
  simp only [State.keepRead] at judged
  simp only [judged, State.keepRead]

theorem State.takePicked_create {read : ReadId} {r : Rec} (judged : s.judgePick m read = .create r) :
    s.takePicked m read = ((s.keepRead read).createRecord r).picks m r.id := by
  rw [← State.judgePick_keepRead] at judged
  unfold State.takePicked
  simp only [State.keepRead] at judged
  simp only [judged, State.keepRead]

theorem State.takePicked_full {read : ReadId} {id : Ident} (judged : s.judgePick m read = .full id) :
    s.takePicked m read = ((s.keepRead read).refuseCreation id m.source).mismatch m := by
  rw [← State.judgePick_keepRead] at judged
  unfold State.takePicked
  simp only [State.keepRead] at judged
  simp only [judged, State.keepRead]

/-- The putback of a pick refused because the catalogue is full (R21, R155). -/
theorem State.turnsBack_full (exec_ : s.handler.exec = some e) (read : ReadId) (id : Ident) :
    s.TurnsBack (((s.keepRead read).refuseCreation id m.source).mismatch m) m e read
      ∧ (((s.keepRead read).refuseCreation id m.source).mismatch m).Raised .catalogueFull
        ⟨some id, none, some m.source, none, none⟩ := by
  have raised := (s.keepRead read).raise_raised .catalogueFull ⟨some id, none, some m.source, none, none⟩
  have sent : ((s.keepRead read).refuseCreation id m.source).sent .handler = s.sent .handler :=
    State.sent_raise_other (s.keepRead read) _ _ (by simp)
  refine ⟨State.turnsBack_mismatch ⟨_, _, _, _, (s.keepRead read).refuseCreation_eq id m.source⟩
    ((State.refuseCreation_handler _ id m.source).trans (State.keepRead_handler exec_ read)) sent, ?_⟩
  obtain ⟨_, _, eq⟩ := ((s.keepRead read).refuseCreation id m.source).mismatch_eq m
  rw [eq]
  exact raised.of_sets rfl rfl

/-! ## The judgement (R69, R97, R110, R150) -/

section
variable {id : Ident}

theorem State.judgeStockIn_known (known : s.known id = true) : s.judgeStockIn id = .refuse := if_pos known

theorem State.judgeStockIn_unknown (unknown : s.known id = false) :
    s.judgeStockIn id = match s.announcements.find? (fun a => a.id = id) with
      | some a => s.createAtPick id a.cls .ready a.hold
      | none => if s.announcements = [] then s.createAtPick id 0 .ready true else .refuse := by
  unfold State.judgeStockIn
  exact if_neg (by simp [unknown])

theorem State.judgePick_of_stockIn (test : m.pickTest = .stockIn) : s.judgePick m (.ident id) = s.judgeStockIn id := by
  simp only [State.judgePick, test]

theorem State.judgePick_of_anyAtTool (test : m.pickTest = .anyAtTool) : s.judgePick m (.ident id) = s.judgeAnyAtTool id := by
  simp only [State.judgePick, test]

theorem State.judgePick_of_inspection (test : m.pickTest = .anyAtInspection) :
    s.judgePick m (.ident id) = if s.locatedAt id .inspection then .accept id else .refuse := by
  simp only [State.judgePick, test]

theorem State.judgeAnyAtTool_unknown (unknown : s.record id = none) :
    s.judgeAnyAtTool id = s.createAtPick id 0 .quarantine true := by
  unfold State.judgeAnyAtTool
  rw [unknown]

theorem State.judgeAnyAtTool_accept {r : Rec} {q : Port} (known : s.record id = some r) (here : r.location = .tool q) :
    s.judgeAnyAtTool id = .accept id := by
  unfold State.judgeAnyAtTool
  rw [known]
  dsimp only
  rw [here]

theorem State.judgeAnyAtTool_refuse {r : Rec} (known : s.record id = some r) (away : ∀ q, r.location ≠ .tool q) :
    s.judgeAnyAtTool id = .refuse := by
  unfold State.judgeAnyAtTool
  rw [known]
  dsimp only
  split
  · next q here => exact absurd here (away q)
  · rfl

theorem State.createAtPick_room (room : s.catalogue.length < 480) (cls : ClassNo) (c : Condition) (held : Bool) :
    s.createAtPick id cls c held = .create (newRecord id .gripper cls c held none none) :=
  if_neg (fun full => absurd (of_decide_eq_true full) (Nat.not_le.mpr room))

theorem State.createAtPick_full (full : 480 ≤ s.catalogue.length) (cls : ClassNo) (c : Condition) (held : Bool) :
    s.createAtPick id cls c held = .full id :=
  if_pos (decide_eq_true full)

end

/-- Settles O49: each pick test's judgement, and what it leads to. -/
theorem unnamedPicksAreJudged : Obligations.UnnamedPicksAreJudged := by
  intro s number m e x k takes putBack awaits store source target reserved takesIff backIff id ok
  have ⟨⟨exec_, _, found, _⟩, _⟩ := awaits
  have accepts {r : Rec} (unnamed : m.pickTest ≠ .named) (known : s.record id = some r)
      (judged : s.judgePick m (.ident id) = .accept id) : takes id { r with location := .gripper, binding := some m.seq } := by
    refine (takesIff _ _).mpr ⟨_, execPicked_awaited awaits ok, ?_⟩
    rw [State.takePicked_accept judged]
    exact (State.reads_keepRead exec_ (State.known_of_record known)).takesUp unnamed store found source target reserved known
  have creates {cls : ClassNo} {c : Condition} {held : Bool} (unnamed : m.pickTest ≠ .named) (unknown : s.record id = none)
      (room : s.catalogue.length < 480) (judged : s.judgePick m (.ident id) = s.createAtPick id cls c held) :
      takes id ⟨id, cls, .gripper, c, held, false, false, some m.seq, none, 0, 0, 0⟩ := by
    refine (takesIff _ _).mpr ⟨_, execPicked_awaited awaits ok, ?_⟩
    rw [State.createAtPick_room room] at judged
    rw [State.takePicked_create judged]
    exact (State.reads_createRecord exec_ (newRecord id .gripper cls c held none none)).takesUp unnamed store found source target
      reserved (State.record_createRecord (s := s.keepRead (.ident id)) unknown)
  have refuses (read : ReadId) (ok : readOk read = true) (judged : s.judgePick m read = .refuse) : ∃ u, putBack read u := by
    refine ⟨_, (backIff _ _).mpr ⟨execPicked_awaited awaits ok, ?_⟩⟩
    rw [State.takePicked_refuse judged]
    exact State.turnsBack_keepRead exec_ read
  have fills (judged : s.judgePick m (.ident id) = .full id) :
      ∃ u, putBack (.ident id) u ∧ u.Raised .catalogueFull ⟨some id, none, some (.nest x), none, none⟩ := by
    obtain ⟨back, raised⟩ := State.turnsBack_full (m := m) exec_ (.ident id) id
    rw [← State.takePicked_full judged, source] at raised
    rw [← State.takePicked_full judged] at back
    exact ⟨_, (backIff _ _).mpr ⟨execPicked_awaited awaits ok, back⟩, raised⟩
  refine ⟨fun test => ⟨fun known => ?_, fun unknown room => ⟨fun a announced => ?_, fun empty => ?_⟩,
      fun unknown unannounced some_ => ?_⟩,
    fun test => ⟨fun r q known here => ?_, fun r known away => ?_, fun unknown room => ?_⟩,
    fun test => ⟨fun r known here => ?_, fun away => ?_⟩, fun unknown full tests => ?_, refuses .noread rfl rfl⟩
  · exact refuses _ ok ((State.judgePick_of_stockIn test).trans (State.judgeStockIn_known known))
  · refine creates (by simp [test]) (by simpa [State.known] using unknown) room ((State.judgePick_of_stockIn test).trans ?_)
    rw [State.judgeStockIn_unknown unknown, announced]
  · refine creates (by simp [test]) (by simpa [State.known] using unknown) room ((State.judgePick_of_stockIn test).trans ?_)
    rw [State.judgeStockIn_unknown unknown, empty]
    rfl
  · refine refuses _ ok ((State.judgePick_of_stockIn test).trans ?_)
    rw [State.judgeStockIn_unknown unknown, unannounced]
    exact if_neg some_
  · exact accepts (by simp [test]) known ((State.judgePick_of_anyAtTool test).trans (State.judgeAnyAtTool_accept known here))
  · exact refuses _ ok ((State.judgePick_of_anyAtTool test).trans (State.judgeAnyAtTool_refuse known away))
  · exact creates (by simp [test]) unknown room
      ((State.judgePick_of_anyAtTool test).trans (State.judgeAnyAtTool_unknown unknown))
  · exact accepts (by simp [test]) known ((State.judgePick_of_inspection test).trans
      (if_pos ((s.locatedAt_iff id .inspection).mpr ⟨r, known, here⟩)))
  · exact refuses _ ok ((State.judgePick_of_inspection test).trans (if_neg (by simp [away])))
  · refine fills ?_
    have strange : s.known id = false := by simp [State.known, unknown]
    rcases tests with test | ⟨test, announced | empty⟩
    · rw [State.judgePick_of_anyAtTool test, State.judgeAnyAtTool_unknown unknown, State.createAtPick_full full]
    · obtain ⟨a, here, same⟩ := announced
      obtain ⟨b, first⟩ : ∃ b, s.announcements.find? (fun y => y.id = id) = some b :=
        Option.isSome_iff_exists.mp (List.find?_isSome.mpr ⟨a, here, decide_eq_true same⟩)
      rw [State.judgePick_of_stockIn test, State.judgeStockIn_unknown strange, first]
      exact State.createAtPick_full full _ _ _
    · rw [State.judgePick_of_stockIn test, State.judgeStockIn_unknown strange, empty]
      exact State.createAtPick_full full _ _ _

end Sys2Proof.Machine
end

section
/-! PROOFS. The results of a scan, place by place (R200 to R202). -/

namespace Sys2Proof.Machine

open Sys2Proof

variable {s t u : State} {m : Move} {i j : Nat}

/-! ## The records of an identifier -/

/-- The records of an identifier. -/
def State.namesakes (s : State) (id : Ident) : List Rec := s.catalogue.filter (fun r => r.id = id)

theorem State.record_of_namesakes {id : Ident} (h : t.namesakes id = s.namesakes id) : t.record id = s.record id := by
  have head (a : State) : a.record id = (a.namesakes id).head? := (List.head?_filter ..).symm
  rw [head, head, h]

theorem State.mem_namesakes {id : Ident} {r : Rec} : r ∈ s.namesakes id ↔ r ∈ s.catalogue ∧ r.id = id := by
  simp [State.namesakes]

theorem State.namesakes_updRecord_other (s : State) {id x : Ident} {f : Rec → Rec} (ids : ∀ r, (f r).id = r.id) (other : x ≠ id) :
    (s.updRecord id f).namesakes x = s.namesakes x := by
  have here (r : Rec) : decide ((if r.id = id then f r else r).id = x) = decide (r.id = x) := by
    split
    · rw [ids]
    · rfl
  rw [State.namesakes, State.namesakes, State.updRecord_catalogue, List.filter_map]
  have tests : ((fun r : Rec => decide (r.id = x)) ∘ fun r => if r.id = id then f r else r) = fun r => decide (r.id = x) :=
    funext here
  rw [tests]
  refine (List.map_congr_left fun r hr => ?_).trans (List.map_id' _)
  have named : r.id = x := of_decide_eq_true (List.mem_filter.mp hr).2
  exact if_neg fun same => other (named.symm.trans same)

theorem State.namesakes_createRecord_other (s : State) {r : Rec} {x : Ident} (other : x ≠ r.id) :
    (s.createRecord r).namesakes x = s.namesakes x := by
  rw [State.namesakes, State.createRecord_catalogue, List.filter_append]
  simp [State.namesakes, Ne.symm other]

/-! ## What results leave of a state -/

/-- What scan results leave of a state that write only the slots `N` and the records of the identifiers `P`, creating at most `i`
records. -/
structure State.Scans (i : Nat) (N : Slot → Prop) (P : Ident → Prop) (s t : State) : Prop where
  handler : t.handler = s.handler
  queue : t.queue = s.queue
  nextSeq : t.nextSeq = s.nextSeq
  ports : t.ports = s.ports
  census : t.census.state = s.census.state ∧ t.census.range = s.census.range
    ∧ t.census.tally.scanned = s.census.tally.scanned
  slot : ∀ k, ¬ N k → t.slot k = s.slot k
  record : ∀ id, ¬ P id → t.namesakes id = s.namesakes id
  bound : ∀ r ∈ t.catalogue, ∀ q, r.binding = some q → ∃ x ∈ s.catalogue, x.binding = some q
  least : s.catalogue.length ≤ t.catalogue.length
  most : t.catalogue.length ≤ s.catalogue.length + i
  noEnd : s.NoEnd t
  notices : ∀ l k, k ≠ .catalogueFull → ((t.noticeSet l).entry k).pending = ((s.noticeSet l).entry k).pending
    ∧ ((t.noticeSet l).entry k).detail = ((s.noticeSet l).entry k).detail

section
variable {N : Slot → Prop} {P : Ident → Prop}

theorem State.Scans.refl (s : State) : s.Scans 0 N P s where
  handler := rfl
  queue := rfl
  nextSeq := rfl
  ports := rfl
  census := ⟨rfl, rfl, rfl⟩
  slot := fun _ _ => rfl
  record := fun _ _ => rfl
  bound := fun r hr _ bound => ⟨r, hr, bound⟩
  least := Nat.le_refl _
  most := Nat.le_refl _
  noEnd := .of_tx rfl
  notices := fun _ _ _ => ⟨rfl, rfl⟩

theorem State.Scans.trans (h : s.Scans i N P t) (g : t.Scans j N P u) : s.Scans (i + j) N P u where
  handler := g.handler.trans h.handler
  queue := g.queue.trans h.queue
  nextSeq := g.nextSeq.trans h.nextSeq
  ports := g.ports.trans h.ports
  census := ⟨g.census.1.trans h.census.1, g.census.2.1.trans h.census.2.1, g.census.2.2.trans h.census.2.2⟩
  slot := fun k other => (g.slot k other).trans (h.slot k other)
  record := fun id other => (g.record id other).trans (h.record id other)
  bound := fun r hr q bound => by
    obtain ⟨x, hx, bound'⟩ := g.bound r hr q bound
    exact h.bound x hx q bound'
  least := h.least.trans g.least
  most := by have := h.most; have := g.most; omega
  noEnd := h.noEnd.trans g.noEnd
  notices := fun l k other =>
    ⟨(g.notices l k other).1.trans (h.notices l k other).1, (g.notices l k other).2.trans (h.notices l k other).2⟩

theorem State.Scans.mono (h : s.Scans i N P t) {N' : Slot → Prop} {P' : Ident → Prop} (le : i ≤ j)
    (slots : ∀ k, N k → N' k) (records : ∀ id, P id → P' id) : s.Scans j N' P' t :=
  { h with
    slot := fun k other => h.slot k fun here => other (slots k here)
    record := fun id other => h.record id fun here => other (records id here)
    most := h.most.trans (by omega) }

theorem State.Scans.le (h : s.Scans i N P t) (le : i ≤ j) : s.Scans j N P t := { h with most := h.most.trans (by omega) }

/-- Results keep the queue and create no binding, so they free no move (R121). -/
theorem State.Scans.calm (h : s.Scans i N P t) : s.Calm 0 t :=
  .of_parts h.noEnd h.nextSeq (fun y hy => ⟨y, by rwa [h.queue] at hy, rfl⟩) h.bound
    fun p => by rw [State.port, State.port, h.ports]

theorem State.scans_setSlot (s : State) {n : Slot} (here : N n) (x : SlotEntry) : s.Scans 0 N P (s.setSlot n x) :=
  { State.Scans.refl (N := N) (P := P) s with
    slot := fun _ other => s.slot_setSlot_other (fun same => other (by rw [same]; exact here)) x }

theorem State.scans_updCensus (s : State) {f : Census → Census} (state : (f s.census).state = s.census.state)
    (range : (f s.census).range = s.census.range) (scanned : (f s.census).tally.scanned = s.census.tally.scanned) :
    s.Scans 0 N P (s.updCensus f) :=
  { State.Scans.refl (N := N) (P := P) s with census := ⟨state, range, scanned⟩ }

theorem State.scans_updRecord (s : State) {id : Ident} (here : P id) {f : Rec → Rec} (ids : ∀ r, (f r).id = r.id)
    (bindings : ∀ r, (f r).binding = r.binding) : s.Scans 0 N P (s.updRecord id f) :=
  { State.Scans.refl (N := N) (P := P) s with
    record := fun _ other => s.namesakes_updRecord_other ids fun same => other (same ▸ here)
    bound := fun r hr q bound => by
      obtain ⟨x, hx, rfl⟩ := List.mem_map.mp hr
      refine ⟨x, hx, ?_⟩
      split at bound
      · rwa [bindings] at bound
      · exact bound
    least := (List.length_map ..).symm.le
    most := (List.length_map ..).le }

theorem State.scans_raise (s : State) (d : Detail) : s.Scans 0 N P (s.raise .catalogueFull d) :=
  { State.Scans.refl (N := N) (P := P) s with
    handler := s.raise_handler _ d
    queue := s.raise_queue _ d
    nextSeq := s.raise_nextSeq _ d
    ports := s.raise_ports _ d
    census := by rw [s.raise_census]; exact ⟨rfl, rfl, rfl⟩
    slot := fun k _ => by rw [State.slot, State.slot, s.raise_slots]
    record := fun id _ => by rw [State.namesakes, State.namesakes, s.raise_catalogue]
    bound := fun r hr q bound => ⟨r, by rwa [s.raise_catalogue] at hr, bound⟩
    least := by rw [s.raise_catalogue]
    most := by rw [s.raise_catalogue]; omega
    noEnd := s.noEnd_raise _ d
    notices := fun l k other => by
      obtain ⟨pending, detail, _⟩ := s.raise_other other d l
      exact ⟨pending, detail⟩ }

theorem State.scans_createRecord (s : State) {r : Rec} (here : P r.id) (unbound : r.binding = none) :
    s.Scans 1 N P (s.createRecord r) := by
  let a : State := { s with
    catalogue := s.catalogue ++ [r]
    announcements := s.announcements.filter (fun a => !decide (a.id = r.id)) }
  have created : s.Scans 1 N P a :=
    { State.Scans.refl (N := N) (P := P) s with
      record := fun x other => by
        have apart : r.id ≠ x := fun same => other (same ▸ here)
        simp [a, State.namesakes, apart]
      bound := fun x hx q bound => by
        rcases List.mem_append.mp hx with old | new
        · exact ⟨x, old, bound⟩
        · rw [List.mem_singleton.mp new, unbound] at bound
          cases bound
      least := by simp [a]
      most := by simp [a] }
  unfold State.createRecord
  dsimp only
  split
  · exact created.trans (State.scans_raise a noDetail)
  · exact created

theorem State.scans_countTally (s : State) {f : Tally → Tally} (scanned : (f s.census.tally).scanned = s.census.tally.scanned) :
    s.Scans 0 N P (s.countTally f) := s.scans_updCensus rfl rfl scanned

theorem State.scans_scanFaults (s : State) {n : Slot} (here : N n) (found : Option Ident) :
    s.Scans 0 N P (s.scanFaults n found) :=
  ((s.scans_setSlot here _).trans (State.scans_countTally _ rfl)).trans (State.scans_updCensus _ rfl rfl rfl)

end

/-! ## What a result leaves -/

/-- The details that a fold keeps stay kept, and at most `i` more records are doubted. -/
structure ScanFold.Carries (i : Nat) (f g : ScanFold) : Prop where
  full : f.full.isSome → g.full.isSome
  mismatch : f.mismatch.isSome → g.mismatch.isSome
  doubted : g.doubted.length ≤ f.doubted.length + i

theorem firstDetail_isSome (old : Option Detail) (d : Detail) : (firstDetail old d).isSome := by
  cases old <;> rfl

/-- The identifier of a FILLED slot read in it again (R201). -/
theorem ScanFold.held_same {f : ScanFold} (n : Slot) {id x : Ident} (same : x = id) :
    f.held n id (.ident x) = { f with state := f.state.updRecord id (fun r => { Rec.putIn n r with suspect := false }) } :=
  if_pos same

/-- Another identifier read in a FILLED slot (R201). -/
theorem ScanFold.held_other {f : ScanFold} (n : Slot) {id x : Ident} (other : x ≠ id) :
    f.held n id (.ident x) = { (f.loses n id (some x)).doubts x with
      mismatch := firstDetail f.mismatch ⟨some id, some x, some (.slot n), none, none⟩ } :=
  if_neg other

section
variable (f : ScanFold) {N : Slot → Prop} {P : Ident → Prop} {n : Slot} (slot : N n)
include slot

theorem ScanFold.scans_found {id : Ident} (here : P id) :
    f.state.Scans 1 N P (f.found n id).state ∧ f.Carries 1 (f.found n id) := by
  unfold ScanFold.found
  split
  · split
    · exact ⟨(f.state.scans_scanFaults slot _).le (by omega), fun _ => firstDetail_isSome _ _, fun h => h, Nat.le_succ _⟩
    · refine ⟨?_, fun h => h, fun h => h, Nat.le_succ _⟩
      have created : f.state.Scans 1 N P (f.state.createAt n id 0) :=
        (f.state.scans_createRecord (r := newRecord id (.slot n) 0 .ready true none (toStorage n)) here rfl).trans
          (State.scans_setSlot _ slot _)
      exact created.trans (State.scans_countTally _ (f := fun t => { t with created := t.created + 1 }) rfl)
  · split
    · refine ⟨?_, fun h => h, fun h => h, Nat.le_succ _⟩
      have located : f.state.Scans 0 N P (f.state.relocate n id) :=
        (f.state.scans_setSlot slot _).trans
          (State.scans_updRecord _ (f := fun r => { Rec.putIn n r with suspect := false }) here (fun _ => rfl) fun _ => rfl)
      exact (located.trans
        (State.scans_countTally _ (f := fun t => { t with relocated := t.relocated + 1 }) rfl)).le (by omega)
    · have doubted : f.state.Scans 0 N P ((f.state.scanFaults n (some id)).updRecord id Rec.doubt) :=
        (f.state.scans_scanFaults slot _).trans
          (State.scans_updRecord _ (f := Rec.doubt) here (fun _ => rfl) fun _ => rfl)
      exact ⟨doubted.le (by omega), fun h => h, fun _ => firstDetail_isSome _ _, by simp [ScanFold.doubts]⟩

theorem ScanFold.scans_bare {r : ScanResult} (here : ∀ id, r = .ident id → P id) :
    f.state.Scans 1 N P (f.bare n r).state ∧ f.Carries 1 (f.bare n r) := by
  cases r with
  | empty => exact ⟨(f.state.scans_setSlot slot _).le (by omega), fun h => h, fun h => h, Nat.le_succ _⟩
  | ident id => exact f.scans_found slot (here id rfl)
  | unreadable => exact ⟨(f.state.scans_scanFaults slot _).le (by omega), fun h => h, fun h => h, Nat.le_succ _⟩

theorem ScanFold.scans_loses {id : Ident} (here : P id) (x : Option Ident) : f.state.Scans 0 N P (f.loses n id x).state :=
  (f.state.scans_scanFaults slot _).trans (State.scans_updRecord _ (f := Rec.lose) here (fun _ => rfl) fun _ => rfl)

theorem ScanFold.scans_held {id : Ident} {r : ScanResult} (own : P id) (here : ∀ x, r = .ident x → P x) :
    f.state.Scans 1 N P (f.held n id r).state ∧ f.Carries 1 (f.held n id r) := by
  cases r with
  | empty => exact ⟨(f.scans_loses slot own none).le (by omega), fun h => h, fun h => h, Nat.le_succ _⟩
  | unreadable =>
    exact ⟨(f.scans_loses slot own none).le (by omega), fun h => h, fun _ => firstDetail_isSome _ _, Nat.le_succ _⟩
  | ident x =>
    by_cases same : x = id
    · rw [ScanFold.held_same n same]
      exact ⟨(f.state.scans_updRecord (f := fun r => { Rec.putIn n r with suspect := false }) own (fun _ => rfl)
        fun _ => rfl).le (by omega), fun h => h, fun h => h, Nat.le_succ _⟩
    · rw [ScanFold.held_other n same]
      have doubted : f.state.Scans 0 N P ((f.loses n id (some x)).state.updRecord x Rec.doubt) :=
        (f.scans_loses slot own (some x)).trans
          (State.scans_updRecord _ (f := Rec.doubt) (here x rfl) (fun _ => rfl) fun _ => rfl)
      exact ⟨doubted.le (by omega), fun h => h, fun _ => firstDetail_isSome _ _, by simp [ScanFold.doubts, ScanFold.loses]⟩

end

section
variable (f : ScanFold) (n : Slot)

theorem ScanFold.apply_filled {id : Ident} (filled : f.state.slot n = .filled id) (r : ScanResult) :
    f.apply n r = f.held n id (scanReading r) := by
  unfold ScanFold.apply
  rw [filled]

theorem ScanFold.apply_bare (bare : (f.state.slot n).content = .unknown ∨ f.state.slot n = .empty
    ∨ ∃ x, f.state.slot n = .fault x) (r : ScanResult) : f.apply n r = f.bare n (scanReading r) := by
  unfold ScanFold.apply
  split
  · next h => simp [h, SlotEntry.content] at bare
  · next h => simp [h, SlotEntry.content] at bare
  · next h => simp [h, SlotEntry.content] at bare
  · rfl

theorem scanReading_ident {r : ScanResult} {id : Ident} (h : scanReading r = .ident id) : r = .ident id := by
  cases r with
  | ident x =>
    simp only [scanReading] at h
    split at h
    · exact h
    · cases h
  | empty | unreadable => cases h

theorem scanReading_ok {id : Ident} (ok : identOk id = true) : scanReading (.ident id) = .ident id := if_pos ok

/-- One result writes its slot and the records of the identifier read and of the one in the slot (R200, R201). -/
theorem ScanFold.scans_apply (r : ScanResult) :
    f.state.Scans 1 (· = n) (fun id => r = .ident id ∨ f.state.slot n = .filled id) (f.apply n r).state
      ∧ f.Carries 1 (f.apply n r) := by
  let P (id : Ident) : Prop := r = .ident id ∨ f.state.slot n = .filled id
  have own : n = n := rfl
  unfold ScanFold.apply
  split
  · next id filled =>
    exact f.scans_held (N := (· = n)) (P := P) own (id := id) (.inr filled) fun x h => .inl (scanReading_ident h)
  · exact ⟨(State.Scans.refl _).le (by omega), fun h => h, fun h => h, Nat.le_succ _⟩
  · exact ⟨(State.Scans.refl _).le (by omega), fun h => h, fun h => h, Nat.le_succ _⟩
  · exact f.scans_bare (N := (· = n)) (P := P) own fun x h => .inl (scanReading_ident h)

end

/-! ## The places of a shelf (R202) -/

section
variable (n : Shelf) (results : Vector ScanResult 8)

/-- The results of some places, applied in their order. -/
def ScanFold.places (f : ScanFold) (ks : List (Fin 8)) : ScanFold :=
  ks.foldl (fun f k => f.apply (shelfSlot n k) (results.get k)) f

theorem shelfSlot_inj {n : Shelf} {j k : Fin 8} (h : shelfSlot n j = shelfSlot n k) : j = k := by
  have := congrArg Fin.val h
  simp only [shelfSlot] at this
  exact Fin.ext (by omega)

/-- The results of some places write their slots and the records of what they show and of what was shown there (R200, R201). -/
theorem ScanFold.scans_places (ks : List (Fin 8)) (distinct : ks.Nodup) (f : ScanFold)
    (here : ∀ k ∈ ks, f.state.slot (shelfSlot n k) = s.slot (shelfSlot n k)) :
    f.state.Scans ks.length (fun k => ∃ j ∈ ks, k = shelfSlot n j)
        (fun id => ∃ j ∈ ks, results.get j = .ident id ∨ s.slot (shelfSlot n j) = .filled id) (f.places n results ks).state
      ∧ f.Carries ks.length (f.places n results ks) := by
  induction ks generalizing f with
  | nil => exact ⟨.refl _, fun h => h, fun h => h, Nat.le_refl _⟩
  | cons k ks ih =>
    obtain ⟨new, distinct⟩ := List.nodup_cons.mp distinct
    obtain ⟨scans, carries⟩ := f.scans_apply (shelfSlot n k) (results.get k)
    rw [here k (List.mem_cons_self ..)] at scans
    have still (j : Fin 8) (hj : j ∈ ks) : (f.apply (shelfSlot n k) (results.get k)).state.slot (shelfSlot n j)
        = s.slot (shelfSlot n j) :=
      (scans.slot _ fun same => new (shelfSlot_inj same ▸ hj)).trans (here j (List.mem_cons_of_mem _ hj))
    obtain ⟨scans', carries'⟩ := ih distinct _ still
    have first := scans.mono (j := 1) (N' := fun i => ∃ j ∈ k :: ks, i = shelfSlot n j)
      (P' := fun id => ∃ j ∈ k :: ks, results.get j = .ident id ∨ s.slot (shelfSlot n j) = .filled id) (Nat.le_refl 1)
      (fun _ h => ⟨k, List.mem_cons_self .., h⟩) (fun _ h => ⟨k, List.mem_cons_self .., h⟩)
    have rest := scans'.mono (j := ks.length) (N' := fun i => ∃ j ∈ k :: ks, i = shelfSlot n j)
      (P' := fun id => ∃ j ∈ k :: ks, results.get j = .ident id ∨ s.slot (shelfSlot n j) = .filled id) (Nat.le_refl _)
      (fun _ ⟨j, hj, h⟩ => ⟨j, List.mem_cons_of_mem _ hj, h⟩) (fun _ ⟨j, hj, h⟩ => ⟨j, List.mem_cons_of_mem _ hj, h⟩)
    refine ⟨(first.trans rest).mono (by simp; omega) (fun _ h => h) (fun _ h => h), carries'.full ∘ carries.full,
      carries'.mismatch ∘ carries.mismatch, ?_⟩
    have := carries.doubted
    have := carries'.doubted
    simp only [ScanFold.places, List.foldl_cons, List.length_cons] at *
    omega

/-- The fold a scan begins with. -/
def ScanFold.start (s : State) : ScanFold := ⟨s, none, none, none, [], []⟩

theorem eightPlaces_nodup : eightPlaces.Nodup := by decide

theorem mem_eightPlaces (k : Fin 8) : k ∈ eightPlaces := by
  revert k
  decide

theorem State.scans_scanFold (s : State) (n : Shelf) (results : Vector ScanResult 8) :
    s.Scans 8 (fun k => ∃ j, k = shelfSlot n j) (fun id => ∃ j, results.get j = .ident id ∨ s.slot (shelfSlot n j) = .filled id)
        (s.scanFold n results).state ∧ (s.scanFold n results).doubted.length ≤ 8 := by
  obtain ⟨scans, carries⟩ := ScanFold.scans_places (s := s) n results eightPlaces eightPlaces_nodup (.start s) fun _ _ => rfl
  exact ⟨scans.mono (Nat.le_refl 8) (fun _ ⟨j, _, h⟩ => ⟨j, h⟩) (fun _ ⟨j, _, h⟩ => ⟨j, h⟩), carries.doubted⟩

/-- What one place of a scan finds and leaves: its slot is the one found, and an identifier no other place shows has its own
record, before and after. -/
structure ScanFold.AtPlace (s : State) (n : Shelf) (results : Vector ScanResult 8) (whole : ScanFold) (k : Fin 8) (f g : ScanFold) :
    Prop where
  slot : f.state.slot (shelfSlot n k) = s.slot (shelfSlot n k)
  slotAfter : whole.state.slot (shelfSlot n k) = g.state.slot (shelfSlot n k)
  record : ∀ id, (∀ j, j ≠ k → results.get j ≠ .ident id ∧ s.slot (shelfSlot n j) ≠ .filled id) →
    f.state.namesakes id = s.namesakes id ∧ whole.state.namesakes id = g.state.namesakes id
  least : s.catalogue.length ≤ f.state.catalogue.length
  most : f.state.catalogue.length ≤ s.catalogue.length + 7
  full : g.full.isSome → whole.full.isSome
  mismatch : g.mismatch.isSome → whole.mismatch.isSome

theorem State.scanFold_place (s : State) (k : Fin 8) :
    ∃ f : ScanFold, ScanFold.AtPlace s n results (s.scanFold n results) k f (f.apply (shelfSlot n k) (results.get k)) := by
  obtain ⟨before, after, split⟩ := List.append_of_mem (mem_eightPlaces k)
  have distinct := eightPlaces_nodup
  rw [split] at distinct
  obtain ⟨distinctBefore, distinctAfter, apart⟩ := List.nodup_append.mp distinct
  obtain ⟨newAfter, distinctAfter⟩ := List.nodup_cons.mp distinctAfter
  have newBefore : k ∉ before := fun h => apart k h k (List.mem_cons_self ..) rfl
  have length : before.length ≤ 7 := by
    have := congrArg List.length split
    simp [eightPlaces] at this
    omega
  obtain ⟨scans, _⟩ := ScanFold.scans_places (s := s) n results before distinctBefore (.start s) fun _ _ => rfl
  let f := (ScanFold.start s).places n results before
  let g := f.apply (shelfSlot n k) (results.get k)
  have found : f.state.slot (shelfSlot n k) = s.slot (shelfSlot n k) :=
    scans.slot _ fun ⟨j, hj, same⟩ => newBefore (shelfSlot_inj same ▸ hj)
  obtain ⟨own, _⟩ := f.scans_apply (shelfSlot n k) (results.get k)
  have still (j : Fin 8) (hj : j ∈ after) : g.state.slot (shelfSlot n j) = s.slot (shelfSlot n j) :=
    (own.slot _ fun same => newAfter (shelfSlot_inj same ▸ hj)).trans
      (scans.slot _ fun ⟨i, hi, same⟩ => apart i hi j (List.mem_cons_of_mem _ hj) (shelfSlot_inj same).symm)
  obtain ⟨rest, carries⟩ := ScanFold.scans_places (s := s) n results after distinctAfter g still
  have whole : s.scanFold n results = g.places n results after := by
    show (ScanFold.start s).places n results eightPlaces = _
    rw [split, ScanFold.places, List.foldl_append, List.foldl_cons]
    rfl
  refine ⟨f, found, ?_, fun id alone => ⟨scans.record id ?_, ?_⟩, scans.least, scans.most.trans (by simpa [ScanFold.start]), ?_, ?_⟩
  · rw [whole]
    exact rest.slot _ fun ⟨j, hj, same⟩ => newAfter (shelfSlot_inj same ▸ hj)
  · rintro ⟨j, hj, shown⟩
    have other : j ≠ k := fun same => newBefore (same ▸ hj)
    exact shown.elim (alone j other).1 (alone j other).2
  · rw [whole]
    refine rest.record id ?_
    rintro ⟨j, hj, shown⟩
    have other : j ≠ k := fun same => newAfter (same ▸ hj)
    exact shown.elim (alone j other).1 (alone j other).2
  · rw [whole]
    exact carries.full
  · rw [whole]
    exact carries.mismatch

end

end Sys2Proof.Machine
end

section
/-! PROOFS. SCANNED: what a scan's change leaves once its results are applied (R139, R163, R197, R202). -/

namespace Sys2Proof.Machine

open Sys2Proof

variable {s t u : State} {m : Move} {i j : Nat}

/-! ## What is told once the results stand (R139, R202, R65) -/

/-- What follows the results of a scan: slots and records stand but for bindings, and a record located at a slot is bound to no
move anew. -/
structure State.Aftercare (s t : State) : Prop where
  slots : t.slots = s.slots
  records : t.steady.records = s.steady.records
  located : ∀ id r n, s.record id = some r → r.location = .slot n →
    ∃ b, t.record id = some { r with binding := b } ∧ (r.binding = none → b = none)

theorem State.Aftercare.of_catalogue (slots : t.slots = s.slots) (catalogue : t.catalogue = s.catalogue) : s.Aftercare t where
  slots := slots
  records := by simp only [State.steady]; rw [catalogue]
  located := fun id r n known _ => ⟨r.binding, by rw [State.record, catalogue]; exact known, fun h => h⟩

theorem State.Aftercare.refl (s : State) : s.Aftercare s := .of_catalogue rfl rfl

theorem State.Aftercare.trans (h : s.Aftercare t) (g : t.Aftercare u) : s.Aftercare u where
  slots := g.slots.trans h.slots
  records := g.records.trans h.records
  located := fun id r n known here => by
    obtain ⟨b, known', unbound⟩ := h.located id r n known here
    obtain ⟨c, known'', unbound'⟩ := g.located id _ n known' here
    exact ⟨c, known'', unbound' ∘ unbound⟩

theorem State.Aftercare.foldl {α : Type} {step : State → α → State} (h : ∀ t x, State.Aftercare t (step t x)) (xs : List α)
    (s : State) : s.Aftercare (xs.foldl step s) := by
  induction xs generalizing s with
  | nil => exact .refl s
  | cons x xs ih => exact (h s x).trans (ih _)

theorem State.aftercare_dropMove (s : State) (q : Seq) : s.Aftercare (s.dropMove q) where
  slots := rfl
  records := congrArg Steady.records (s.steady_dropMove q)
  located := fun id r n known _ => by
    have dropped := State.record_mapCatalogue { s with queue := s.queue.filter (fun x => !decide (x.seq = q)) }
      (f := fun r => if r.binding = some q then { r with binding := none } else r) (fun r => by split <;> rfl) id
    have known' := dropped.trans (congrArg (Option.map _) known)
    by_cases own : r.binding = some q
    · exact ⟨none, known'.trans (congrArg some (if_pos own)), fun _ => rfl⟩
    · exact ⟨r.binding, known'.trans (congrArg some (if_neg own)), fun h => h⟩

theorem State.aftercare_withdraw (s : State) (m : Move) (r : Option Reason) : s.Aftercare (s.withdraw m r) :=
  (s.aftercare_dropMove m.seq).trans (.of_catalogue (s.withdraw_slots m r) (s.withdraw_catalogue m r))

theorem State.offerInward_catalogue (s : State) {o : Offer} {id : Ident} (named : o.reticle = some id) :
    (s.offerInward o).catalogue = (s.updRecord id (fun r => { r with binding := some s.nextSeq })).catalogue := by
  rcases s.offerInward_cases o with ⟨_, h⟩ | ⟨n, _, h⟩ <;> rw [h, State.enter_catalogue _ named]
  · rfl
  · simp [State.countHit]

theorem State.aftercare_reclaimIfUnfit (s : State) (id : Ident) : s.Aftercare (s.reclaimIfUnfit id) where
  slots := (s.ungranted_reclaimIfUnfit id).slots
  records := congrArg Steady.records (s.steady_reclaimIfUnfit id)
  located := fun x r n known here => by
    rcases s.reclaimIfUnfit_cases id with h | ⟨y, p, known', onNest, _, _, h⟩ <;> rw [h]
    · exact ⟨r.binding, known, fun h => h⟩
    · have other : x ≠ id := by
        rintro rfl
        rw [known'] at known
        cases known
        rw [onNest] at here
        cases here
      refine ⟨r.binding, ?_, fun h => h⟩
      rw [State.record, State.sendTool_catalogue, State.offerInward_catalogue _ (id := id) rfl]
      exact ((s.lapseNest p).record_updRecord_other (fun r => { r with binding := some (s.lapseNest p).nextSeq }) (fun _ => rfl)
        other).trans known

theorem State.withdrawLost_cases (s : State) (id : Ident) :
    s.withdrawLost id = s ∨ ∃ r m, s.record id = some r ∧ s.boundMove r = some m ∧ m.isWaiting = true
      ∧ s.withdrawLost id = s.withdraw m (some .unlocated) := by
  unfold State.withdrawLost
  cases known : s.record id with
  | none => exact .inl rfl
  | some r =>
    simp only [Option.bind_some]
    split
    · next m bound =>
      split
      · next waits => exact .inr ⟨r, m, rfl, bound, waits, rfl⟩
      · exact .inl rfl
    · exact .inl rfl

/-- The census stands, or has ended (R198). -/
def Census.Stands (c d : Census) : Prop := d = c ∨ d = { c with state := .idle, scan := none, nextShelf := none }

theorem Census.Stands.trans {c d e : Census} (h : c.Stands d) (g : d.Stands e) : c.Stands e := by
  rcases h with rfl | rfl <;> rcases g with rfl | rfl
  · exact .inl rfl
  · exact .inr rfl
  · exact .inr rfl
  · exact .inr rfl

/-- What the neighbours are told of keeps: the handler interface, the notices but for NO_SLOT and INTERCEPT, and the census unless
a SCAN is withdrawn. -/
structure State.Tells (i : Nat) (s t : State) : Prop where
  care : s.Aftercare t
  ungranted : s.Ungranted t
  notices : s.NoticesStand t
  calm : s.Calm i t
  census : s.census.Stands t.census

theorem State.Tells.refl (s : State) : s.Tells 0 s := ⟨.refl s, .refl s, .of_eq rfl rfl, .refl s, .inl rfl⟩

theorem State.Tells.trans (h : s.Tells i t) (g : t.Tells j u) : s.Tells (i + j) u :=
  ⟨h.care.trans g.care, h.ungranted.trans g.ungranted, h.notices.trans g.notices, h.calm.trans g.calm,
    h.census.trans g.census⟩

theorem State.Tells.foldl {α : Type} {step : State → α → State} (h : ∀ t x, State.Tells i t (step t x)) (xs : List α)
    (s : State) : s.Tells (xs.length * i) (xs.foldl step s) := by
  induction xs generalizing s with
  | nil =>
    rw [List.length_nil, Nat.zero_mul]
    exact .refl s
  | cons x xs ih =>
    rw [List.length_cons, Nat.succ_mul, Nat.add_comm]
    exact (h s x).trans (ih _)

theorem State.tells_withdraw (s : State) (m : Move) (r : Option Reason) : s.Tells 0 (s.withdraw m r) := by
  refine ⟨s.aftercare_withdraw m r, s.ungranted_withdraw m r, s.noticesStand_withdraw m r, s.calm_withdraw m r, ?_⟩
  obtain ⟨_, h⟩ := s.withdraw_eq m r
  rw [h]
  split
  · exact .inr rfl
  · exact .inl rfl

theorem State.tells_withdrawLost (s : State) (id : Ident) : s.Tells 0 (s.withdrawLost id) := by
  rcases s.withdrawLost_cases id with h | ⟨_, m, _, _, _, h⟩ <;> rw [h]
  · exact .refl s
  · exact s.tells_withdraw m _

theorem State.tells_reclaimIfUnfit (s : State) (id : Ident) : s.Tells 1 (s.reclaimIfUnfit id) :=
  ⟨s.aftercare_reclaimIfUnfit id, s.ungranted_reclaimIfUnfit id, s.noticesStand_reclaimIfUnfit id, s.calm_reclaimIfUnfit id,
    .inl (congrArg Steady.census (s.steady_reclaimIfUnfit id))⟩

theorem ScanFold.tells_told (f : ScanFold) (s : State) : s.Tells f.doubted.length (f.told s) := by
  have withdrawn := State.Tells.foldl (i := 0) State.tells_withdrawLost f.lost s
  have reclaimed := State.Tells.foldl (i := 1) State.tells_reclaimIfUnfit f.doubted (f.lost.foldl State.withdrawLost s)
  rw [Nat.mul_zero] at withdrawn
  rw [Nat.mul_one] at reclaimed
  exact Nat.zero_add f.doubted.length ▸ withdrawn.trans reclaimed

/-! ### The next SCAN stands -/

/-- The next SCAN of a census waits in the queue, the one SCAN there, and no record is bound to its number. -/
structure State.ScanWaits (s : State) (y : Move) : Prop where
  mem : y ∈ s.queue
  alone : ∀ x ∈ s.queue, x.kind = .scan → x.seq = y.seq
  unbound : ∀ r ∈ s.catalogue, r.binding ≠ some y.seq

theorem State.ScanWaits.withdrawLost {y : Move} (h : s.ScanWaits y) (id : Ident) :
    (s.withdrawLost id).ScanWaits y ∧ (s.withdrawLost id).census = s.census := by
  rcases s.withdrawLost_cases id with e | ⟨r, m, known, bound, _, e⟩ <;> rw [e]
  · exact ⟨h, rfl⟩
  · obtain ⟨q, binding, found⟩ := Option.bind_eq_some_iff.mp bound
    obtain ⟨here, number⟩ := s.move?_some found
    have other : m.seq ≠ y.seq := fun same => h.unbound r (s.record_some known).1 (binding.trans (by rw [← number, same]))
    have plain : m.kind ≠ .scan := fun same => other (h.alone m here same)
    refine ⟨⟨?_, fun x hx scan => ?_, fun x hx => ?_⟩, ?_⟩
    · rw [State.withdraw_queue]
      exact List.mem_filter.mpr ⟨h.mem, by simp [Ne.symm other]⟩
    · rw [State.withdraw_queue] at hx
      exact h.alone x (List.mem_of_mem_filter hx) scan
    · rw [State.withdraw_catalogue] at hx
      obtain ⟨z, hz, rfl⟩ := List.mem_map.mp hx
      split
      · simp
      · exact h.unbound z hz
    · obtain ⟨_, eq⟩ := s.withdraw_eq m (some .unlocated)
      rw [eq, if_neg plain]
      rfl

theorem ScanFold.told_keeps_scan (f : ScanFold) {y : Move} (h : s.ScanWaits y) :
    y ∈ (f.told s).queue ∧ (f.told s).census = s.census := by
  have withdrawn (xs : List Ident) (a : State) (waits : a.ScanWaits y) :
      (xs.foldl State.withdrawLost a).ScanWaits y ∧ (xs.foldl State.withdrawLost a).census = a.census := by
    induction xs generalizing a with
    | nil => exact ⟨waits, rfl⟩
    | cons x xs ih =>
      obtain ⟨waits', census⟩ := waits.withdrawLost x
      obtain ⟨last, census'⟩ := ih _ waits'
      exact ⟨last, census'.trans census⟩
  have reclaimed (xs : List Ident) (a : State) (here : y ∈ a.queue) :
      y ∈ (xs.foldl State.reclaimIfUnfit a).queue ∧ (xs.foldl State.reclaimIfUnfit a).census = a.census := by
    induction xs generalizing a with
    | nil => exact ⟨here, rfl⟩
    | cons x xs ih =>
      obtain ⟨last, census⟩ := ih (a.reclaimIfUnfit x) ((a.extends_reclaimIfUnfit x).2.subset here)
      exact ⟨last, census.trans (congrArg Steady.census (a.steady_reclaimIfUnfit x))⟩
  obtain ⟨waits, census⟩ := withdrawn f.lost s h
  obtain ⟨here, census'⟩ := reclaimed f.doubted _ waits.mem
  exact ⟨here, census'.trans census⟩

/-! ## The change up to what is told -/

/-- Whether a notice kind is pending on both links. -/
def State.Pends (s : State) (k : NoticeKind) : Prop := ∀ l, ((s.noticeSet l).entry k).pending = true

theorem State.Pends.raise {k : NoticeKind} (h : s.Pends k) (i : NoticeKind) (d : Detail) : (s.raise i d).Pends k := fun l => by
  by_cases same : k = i
  · subst same
    exact (s.raise_raised k d l).1
  · exact (s.raise_other same d l).1.trans (h l)

theorem State.Pends.stands {k : NoticeKind} (h : s.Pends k) (stands : s.NoticesStand t) (noSlot : k ≠ .noSlot)
    (intercept : k ≠ .intercept) : t.Pends k := fun l => (stands l k noSlot intercept).1.trans (h l)

theorem State.Pends.raiseIf {k : NoticeKind} (h : s.Pends k) (i : NoticeKind) (d : Option Detail) : (s.raiseIf i d).Pends k := by
  cases d with
  | none => exact h
  | some d => exact h.raise i d

theorem State.pends_raiseIf (s : State) (k : NoticeKind) {d : Option Detail} (some_ : d.isSome) : (s.raiseIf k d).Pends k := by
  obtain ⟨d, rfl⟩ := Option.isSome_iff_exists.mp some_
  exact fun l => (s.raise_raised k d l).1

theorem State.raiseIf_eq (s : State) (k : NoticeKind) (d : Option Detail) :
    ∃ mn sn tx, s.raiseIf k d = { s with materialNotices := mn, serviceNotices := sn, tx := tx } := by
  cases d with
  | none => exact ⟨_, _, _, rfl⟩
  | some d => exact s.raise_eq k d

theorem State.noEnd_raiseIf (s : State) (k : NoticeKind) (d : Option Detail) : s.NoEnd (s.raiseIf k d) := by
  cases d with
  | none => exact .of_tx rfl
  | some d => exact s.noEnd_raise k d

theorem State.raiseIf_other (s : State) {k i : NoticeKind} (other : i ≠ k) (d : Option Detail) (l : NoticeLink) :
    (((s.raiseIf k d).noticeSet l).entry i).pending = ((s.noticeSet l).entry i).pending
      ∧ (((s.raiseIf k d).noticeSet l).entry i).detail = ((s.noticeSet l).entry i).detail := by
  cases d with
  | none => exact ⟨rfl, rfl⟩
  | some d => exact ⟨(s.raise_other other d l).1, (s.raise_other other d l).2.1⟩

/-- The notices of a scan, each kind once (R202). -/
def ScanFold.raises (f : ScanFold) (s : State) : State :=
  ((s.raiseIf .catalogueFull f.full).raiseIf .mismatch f.mismatch).raiseIf .slotFault f.slotFault

theorem ScanFold.raises_eq (f : ScanFold) (s : State) :
    ∃ mn sn tx, f.raises s = { s with materialNotices := mn, serviceNotices := sn, tx := tx } := by
  obtain ⟨mn, sn, tx, eq⟩ := (((s.raiseIf .catalogueFull f.full).raiseIf .mismatch f.mismatch)).raiseIf_eq .slotFault f.slotFault
  obtain ⟨mn', sn', tx', eq'⟩ := (s.raiseIf .catalogueFull f.full).raiseIf_eq .mismatch f.mismatch
  obtain ⟨mn'', sn'', tx'', eq''⟩ := s.raiseIf_eq .catalogueFull f.full
  exact ⟨mn, sn, tx, by rw [ScanFold.raises, eq, eq', eq'']⟩

theorem ScanFold.raises_pends (f : ScanFold) (s : State) :
    (f.full.isSome → (f.raises s).Pends .catalogueFull) ∧ (f.mismatch.isSome → (f.raises s).Pends .mismatch) :=
  ⟨fun full => ((s.pends_raiseIf _ full).raiseIf _ _).raiseIf _ _, fun mismatch => (State.pends_raiseIf _ _ mismatch).raiseIf _ _⟩

theorem ScanFold.raises_other (f : ScanFold) (s : State) {k : NoticeKind} (other : k = .censusDone) (l : NoticeLink) :
    (((f.raises s).noticeSet l).entry k).pending = ((s.noticeSet l).entry k).pending
      ∧ (((f.raises s).noticeSet l).entry k).detail = ((s.noticeSet l).entry k).detail := by
  subst other
  have first := s.raiseIf_other (i := .censusDone) (k := .catalogueFull) (by simp) f.full l
  have second := (s.raiseIf .catalogueFull f.full).raiseIf_other (i := .censusDone) (k := .mismatch) (by simp) f.mismatch l
  have third := ((s.raiseIf .catalogueFull f.full).raiseIf .mismatch f.mismatch).raiseIf_other (i := .censusDone) (k := .slotFault)
    (by simp) f.slotFault l
  exact ⟨(third.1.trans second.1).trans first.1, (third.2.trans second.2).trans first.2⟩

/-- A scan's change before the census moves on: its results, its SCAN gone, its notices raised and its shelf counted. -/
def ScanFold.scanned (f : ScanFold) (m : Move) : State :=
  (f.raises (f.state.dropped m)).countTally (fun t => { t with scanned := t.scanned + 1 })

/-- The whole change: the census moves on, and the neighbours are told. -/
def ScanFold.taken (f : ScanFold) (m : Move) (n : Shelf) : State := f.told ((f.scanned m).censusMovesOn n)

theorem State.takeScanned_eq {n : Shelf} (source : m.source = .shelf n) (results : Vector ScanResult 8) :
    s.takeScanned m results
      = (s.scanFold n results).taken m n := by
  unfold State.takeScanned
  rw [source]
  rfl

theorem ScanFold.aftercare_scanned (f : ScanFold) (m : Move) : f.state.Aftercare (f.scanned m) := by
  obtain ⟨mn, sn, tx, eq⟩ := f.raises_eq (f.state.dropped m)
  have counted : (f.state.dropped m).Aftercare (f.scanned m) := by
    rw [ScanFold.scanned, eq]
    exact .of_catalogue rfl rfl
  have idled : (f.state.dropMove m.seq).Aftercare (f.state.dropped m) := .of_catalogue rfl rfl
  exact ((f.state.aftercare_dropMove m.seq).trans idled).trans counted

theorem State.aftercare_censusMovesOn (s : State) (n : Shelf) : s.Aftercare (s.censusMovesOn n) := by
  rcases s.censusMovesOn_cases n with h | h | h | h <;> rw [h]
  · exact .refl s
  · exact .of_catalogue rfl rfl
  · exact .of_catalogue (State.raise_slots ..) (State.raise_catalogue ..)
  · exact .of_catalogue rfl rfl

theorem State.Pends.censusMovesOn {k : NoticeKind} (h : s.Pends k) (n : Shelf) : (s.censusMovesOn n).Pends k := by
  rcases s.censusMovesOn_cases n with e | e | e | e <;> rw [e]
  · exact h
  · exact h
  · have ended : s.censusEnds.Pends k := h
    exact ended.raise _ _
  · exact h

end Sys2Proof.Machine
end

section
/-! PROOFS. SCANNED: the results of a shelf applied, and the census taken on (R163, R197, R200 to R202). -/

namespace Sys2Proof.Machine

open Sys2Proof

variable {s t u : State} {m : Move} {e : ExecRecord}

/-! ## One result -/

theorem toStorage_shelfSlot (n : Shelf) (k : Fin 8) : ∃ h, toStorage (shelfSlot n k) = some h := by
  have small : (shelfSlot n k).val < 384 := by simp only [shelfSlot]; omega
  exact ⟨_, dif_pos small⟩

/-- A record found at a slot: located there, which is its home, its suspect flag cleared (R15, R16, R200). -/
def Rec.relocated (n : Slot) (r : Rec) : Rec := { Rec.putIn n r with suspect := false }

theorem Rec.relocated_shelf (n : Shelf) (k : Fin 8) (r : Rec) :
    Rec.relocated (shelfSlot n k) r
      = { r with location := .slot (shelfSlot n k), suspect := false, home := toStorage (shelfSlot n k) } := by
  obtain ⟨h, home⟩ := toStorage_shelfSlot n k
  simp only [Rec.relocated, Rec.putIn, home]

theorem State.catalogueFull_iff (s : State) : s.catalogueFull = true ↔ 480 ≤ s.catalogue.length := decide_eq_true_iff

section
variable {f : ScanFold} {n : Slot} {id : Ident} {r : Rec}

theorem State.slot_scanFaults (s : State) (n : Slot) (found : Option Ident) : (s.scanFaults n found).slot n = .fault found :=
  s.slot_setSlot_same n _

/-- An identifier of no record, read in a slot that holds none: its record created there (R19, R20, R200). -/
theorem ScanFold.found_creates (unknown : f.state.record id = none) (room : f.state.catalogue.length < 480) :
    (f.found n id).state.slot n = .filled id
      ∧ (f.found n id).state.record id = some (newRecord id (.slot n) 0 .ready true none (toStorage n)) := by
  have spare : f.state.catalogueFull ≠ true := fun full => absurd ((State.catalogueFull_iff _).mp full) (Nat.not_le.mpr room)
  unfold ScanFold.found
  rw [unknown]
  dsimp only
  rw [if_neg spare]
  exact ⟨State.slot_setSlot_same _ n _,
    State.record_createRecord (s := f.state) (r := newRecord id (.slot n) 0 .ready true none (toStorage n)) unknown⟩

/-- The same with a full catalogue: the slot in FAULT and CATALOGUE_FULL (R21, R200). -/
theorem ScanFold.found_full (unknown : f.state.record id = none) (full : 480 ≤ f.state.catalogue.length) :
    (f.found n id).state.slot n = .fault (some id) ∧ (f.found n id).state.record id = none ∧ (f.found n id).full.isSome := by
  unfold ScanFold.found
  rw [unknown]
  dsimp only
  rw [if_pos ((State.catalogueFull_iff _).mpr full)]
  exact ⟨State.slot_scanFaults _ n _, unknown, firstDetail_isSome _ _⟩

/-- An UNLOCATED record read: located there (R16, R200). -/
theorem ScanFold.found_relocates (known : f.state.record id = some r) (stray : r.location = .unlocated) :
    (f.found n id).state.slot n = .filled id ∧ (f.found n id).state.record id = some (Rec.relocated n r) := by
  unfold ScanFold.found
  rw [known]
  dsimp only
  rw [if_pos stray]
  exact ⟨State.slot_setSlot_same _ n _, ((f.state.setSlot n (.filled id)).record_updRecord_same id (Rec.relocated n)
    fun _ => rfl).trans (congrArg (Option.map _) known)⟩

/-- A record located elsewhere read: the slot in FAULT, the record doubted, and MISMATCH (R16, R200). -/
theorem ScanFold.found_doubts (known : f.state.record id = some r) (placed : r.location ≠ .unlocated) :
    (f.found n id).state.slot n = .fault (some id) ∧ (f.found n id).state.record id = some (Rec.doubt r)
      ∧ (f.found n id).mismatch.isSome := by
  unfold ScanFold.found
  rw [known]
  dsimp only
  rw [if_neg placed]
  exact ⟨State.slot_scanFaults _ n _, ((f.state.scanFaults n (some id)).record_updRecord_same id Rec.doubt
    fun _ => rfl).trans (congrArg (Option.map _) known), firstDetail_isSome _ _⟩

/-- The identifier that a result shows. -/
def scanShown : ScanResult → Option Ident
  | .ident x => some x
  | _ => none

/-- A FILLED slot with another result than its own identifier: in FAULT, its record lost (R201). -/
theorem ScanFold.held_loses {x : ScanResult} (other : x ≠ .ident id) :
    (f.held n id x).state.slot n = .fault (scanShown x) ∧ (f.held n id x).state.Lost id
      ∧ (x ≠ .empty → (f.held n id x).mismatch.isSome) := by
  have lost (found : Option Ident) : (f.loses n id found).state.Lost id := State.lost_updRecord _ id
  cases x with
  | empty => exact ⟨State.slot_scanFaults _ n _, lost none, fun h => absurd rfl h⟩
  | unreadable => exact ⟨State.slot_scanFaults _ n _, lost none, fun _ => firstDetail_isSome _ _⟩
  | ident y =>
    have apart : y ≠ id := fun same => other (congrArg _ same)
    rw [ScanFold.held_other n apart]
    exact ⟨State.slot_scanFaults _ n _, (lost (some y)).updRecord (f := Rec.doubt) apart fun _ => rfl,
      fun _ => firstDetail_isSome _ _⟩

theorem scanReading_empty {x : ScanResult} (h : scanReading x = .empty) : x = .empty := by
  cases x with
  | ident y =>
    simp only [scanReading] at h
    split at h <;> cases h
  | empty => rfl
  | unreadable => cases h

end

/-! ## The change -/

theorem State.Lost.of_namesakes {id : Ident} (lost : s.Lost id) (h : t.namesakes id = s.namesakes id) : t.Lost id :=
  fun r hr same => by
    have here : r ∈ s.namesakes id := h ▸ State.mem_namesakes.mpr ⟨hr, same⟩
    exact lost r (State.mem_namesakes.mp here).1 same

/-- A record at a slot after the results stands but for its binding. -/
theorem State.Aftercare.relocated (h : s.Aftercare t) {n : Shelf} {k : Fin 8} {id : Ident} {r : Rec}
    (known : s.record id = some (Rec.relocated (shelfSlot n k) r)) :
    ∃ y, t.record id = some y ∧ y.held = r.held
      ∧ y.steady = { r.steady with
          location := .slot (shelfSlot n k), suspect := false, home := toStorage (shelfSlot n k) } := by
  obtain ⟨b, known', _⟩ := h.located id _ (shelfSlot n k) known rfl
  rw [Rec.relocated_shelf] at known'
  exact ⟨_, known', rfl, rfl⟩

theorem State.Aftercare.record_none (h : s.Aftercare t) {id : Ident} (unknown : s.record id = none) : t.record id = none := by
  have same := State.record_steady_records h.records id
  rw [unknown] at same
  exact Option.map_eq_none_iff.mp same

theorem State.Aftercare.doubted (h : s.Aftercare t) {id : Ident} {r : Rec} (known : s.record id = some (Rec.doubt r)) :
    ∃ y, t.record id = some y ∧ y.location = r.location ∧ y.condition = .quarantine ∧ y.suspect = true := by
  obtain ⟨y, known', same⟩ := State.record_some_of_records h.records known
  have parts : y.steady.location = r.location ∧ y.steady.condition = .quarantine ∧ y.steady.suspect = true := by
    rw [same]
    exact ⟨rfl, rfl, rfl⟩
  exact ⟨y, known', parts⟩

section
variable (f : ScanFold) (m) (n : Shelf) {i : Nat} {N : Slot → Prop} {P : Ident → Prop}

/-- A scan's change up to what is told. -/
def ScanFold.movedOn (f : ScanFold) (m : Move) (n : Shelf) : State := (f.scanned m).censusMovesOn n

theorem ScanFold.tells_taken : (f.movedOn m n).Tells f.doubted.length (f.taken m n) :=
  f.tells_told _

theorem ScanFold.aftercare_taken : f.state.Aftercare (f.taken m n) :=
  ((f.aftercare_scanned m).trans (State.aftercare_censusMovesOn _ n)).trans (f.tells_taken m n).care

theorem ScanFold.scanned_handler : (f.scanned m).handler = f.state.handler.idled := by
  obtain ⟨_, _, _, eq⟩ := f.raises_eq (f.state.dropped m)
  rw [ScanFold.scanned, eq]
  rfl

theorem ScanFold.taken_handler (scans : s.Scans i N P f.state) : (f.taken m n).handler = s.handler.idled := by
  rw [(f.tells_taken m n).ungranted.handler, ScanFold.movedOn, (State.ungranted_censusMovesOn _ n).handler,
    ScanFold.scanned_handler, scans.handler]

theorem ScanFold.calm_scanned : (f.state.dropMove m.seq).Calm 0 (f.scanned m) := by
  obtain ⟨_, _, _, eq⟩ := f.raises_eq (f.state.dropped m)
  have told : (f.state.dropMove m.seq).NoEnd (f.scanned m) := by
    have idled : (f.state.dropMove m.seq).NoEnd (f.state.dropped m) := .of_tx rfl
    exact ((idled.trans (State.noEnd_raiseIf _ _ _)).trans (State.noEnd_raiseIf _ _ _)).trans (State.noEnd_raiseIf _ _ _)
  refine .of_same told ?_ ?_ ?_ fun p => ?_ <;> rw [ScanFold.scanned, eq] <;> rfl

theorem ScanFold.taken_drops (scans : s.Scans i N P f.state) (few : f.doubted.length ≤ 8) (here : m ∈ s.queue) : s.DropsMove (f.taken m n) m := by
  refine State.Gone.drops (i := 0 + 1 + f.doubted.length) fun fresh => ?_
  have old := scans.calm.old m.seq 0 (by omega) (State.Old.of_fresh fresh here)
  have gone := (f.calm_scanned m).gone m.seq 0 (by omega) (State.gone_dropMove old)
  have moved := (State.calm_censusMovesOn _ n).gone m.seq 0 (by omega) gone
  exact (f.tells_taken m n).calm.gone m.seq (0 + 1) (by omega) moved

/-! ### The census (R197) -/

theorem ScanFold.scanned_census :
    (f.scanned m).census
      = { f.state.census with tally := { f.state.census.tally with scanned := f.state.census.tally.scanned + 1 } } := by
  obtain ⟨_, _, _, eq⟩ := f.raises_eq (f.state.dropped m)
  rw [ScanFold.scanned, eq]
  rfl

theorem State.censusMovesOn_tally (a : State) : (a.censusMovesOn n).census.tally = a.census.tally := by
  rcases a.censusMovesOn_cases n with h | h | h | h <;> rw [h]
  · rfl
  · rw [a.censusDone_spec.1]
  · rfl

theorem Census.Stands.kept {c d : Census} (h : c.Stands d) : d.tally = c.tally ∧ d.lowestFaulted = c.lowestFaulted
    ∧ (c.state = .idle → d.state = .idle) ∧ (c.scan = none → d.scan = none) := by
  rcases h with rfl | rfl
  · exact ⟨rfl, rfl, fun h => h, fun h => h⟩
  · exact ⟨rfl, rfl, fun _ => rfl, fun _ => rfl⟩

theorem ScanFold.taken_counts (scans : s.Scans i N P f.state) : (f.taken m n).census.tally.scanned = s.census.tally.scanned + 1 := by
  rw [(f.tells_taken m n).census.kept.1, ScanFold.movedOn, State.censusMovesOn_tally, ScanFold.scanned_census,
    scans.census.2.2]

variable {n}

/-- A RUNNING census goes on to the next shelf below, its SCAN the one in the queue (R118, R197). -/
theorem ScanFold.taken_next (scans : s.Scans i N P f.state) {first last : Shelf} (running : s.census.state = .running)
    (range : s.census.range = some (first, last)) (alone : ∀ y ∈ s.queue, y.kind = .scan → y.seq = m.seq)
    (sound : s.QueueSound) (fresh : s.SeqsFresh) (more : first < n) :
    ∃ k : Shelf, k.val + 1 = n.val ∧ (f.taken m n).census.state = .running
      ∧ (f.taken m n).census.nextShelf = some k
      ∧ ∃ y ∈ (f.taken m n).queue, (f.taken m n).census.scan = some y.seq ∧ y.kind = .scan
        ∧ y.source = .shelf k := by
  obtain ⟨_, _, _, raised⟩ := f.raises_eq (f.state.dropped m)
  have counted := f.scanned_census m
  have movedOn : f.movedOn m n = (f.scanned m).offerScan (Shelf.below n) :=
    State.censusMovesOn_next (by rw [counted]; exact scans.census.1.trans running)
      (by rw [counted]; exact scans.census.2.1.trans range) more
  have queue : (f.scanned m).queue = s.queue.filter (fun x => !decide (x.seq = m.seq)) := by
    rw [ScanFold.scanned, raised]
    exact congrArg (List.filter _) scans.queue
  have next : (f.scanned m).nextSeq = s.nextSeq := by
    rw [ScanFold.scanned, raised]
    exact scans.nextSeq
  obtain ⟨grown, scan, shelf, state, _⟩ := (f.scanned m).offerScan_spec (Shelf.below n)
  let y := (f.scanned m).entered (scanOffer (Shelf.below n)) false false
  have waits : (f.movedOn m n).ScanWaits y := by
    rw [movedOn]
    refine ⟨by rw [grown]; exact List.mem_append_right _ (List.mem_singleton_self _), fun x hx isScan => ?_, fun r hr bound => ?_⟩
    · rw [grown, queue] at hx
      rcases List.mem_append.mp hx with old | new
      · obtain ⟨here, other⟩ := List.mem_filter.mp old
        rw [alone x here isScan] at other
        simp at other
      · rw [List.mem_singleton.mp new]
    · have mapped : r ∈ (f.state.dropMove m.seq).catalogue := by
        have same : ((f.scanned m).offerScan (Shelf.below n)).catalogue = (f.state.dropMove m.seq).catalogue := by
          show (f.scanned m).catalogue = _
          rw [ScanFold.scanned, raised]
          rfl
        rwa [same] at hr
      obtain ⟨z, hz, rfl⟩ := List.mem_map.mp mapped
      have bound' : z.binding = some s.nextSeq := by
        split at bound
        · cases bound
        · exact bound.trans (congrArg some next)
      obtain ⟨w, hw, sameBinding⟩ := scans.bound z hz _ bound'
      obtain ⟨v, hv, number⟩ := sound.bound w hw _ sameBinding
      have := (fresh v hv).1
      rw [number] at this
      simp [ageAt] at this
  obtain ⟨here, census⟩ := f.told_keeps_scan waits
  have below : (Shelf.below n).val + 1 = n.val := by
    have : first.val < n.val := more
    exact Nat.sub_add_cancel (by omega)
  have census' : (f.taken m n).census = ((f.scanned m).offerScan (Shelf.below n)).census := by
    rw [← movedOn]
    exact census
  rw [census']
  refine ⟨Shelf.below n, below, ?_, shelf, y, here, scan, rfl, rfl⟩
  rw [state, counted]
  exact scans.census.1.trans running

/-- A RUNNING census is done after its first shelf (R197). -/
theorem ScanFold.taken_last (scans : s.Scans i N P f.state) {first last : Shelf} (running : s.census.state = .running)
    (range : s.census.range = some (first, last)) (done : ¬ first < n) :
    (f.taken m n).census.state = .idle ∧ (f.taken m n).census.scan = none
      ∧ (f.taken m n).Raised .censusDone ⟨none, none, (f.taken m n).census.lowestFaulted.map .slot, none,
        some (f.taken m n).census.tally.faulted⟩ := by
  have counted := f.scanned_census m
  have movedOn : f.movedOn m n = (f.scanned m).censusDone :=
    State.censusMovesOn_last (by rw [counted]; exact scans.census.1.trans running)
      (by rw [counted]; exact scans.census.2.1.trans range) done
  have tells := f.tells_taken m n
  obtain ⟨census, raised⟩ := (f.scanned m).censusDone_spec
  obtain ⟨tally, lowest, idle, scan⟩ := tells.census.kept
  rw [movedOn, census] at tally lowest idle scan
  refine ⟨idle rfl, scan rfl, fun l => ?_⟩
  rw [tally, lowest]
  obtain ⟨pending, detail⟩ := tells.notices l .censusDone (by simp) (by simp)
  rw [movedOn] at pending detail
  exact ⟨pending.trans (raised l).1, detail.trans (raised l).2⟩

/-- A census not RUNNING is IDLE, with no CENSUS_DONE (R197). -/
theorem ScanFold.taken_stopped (scans : s.Scans i N P f.state)
    (stopped : s.census.state = .stopping ∨ s.census.state = .idle) :
    (f.taken m n).census.state = .idle
      ∧ (s.census.state = .stopping → (f.taken m n).census.scan = none)
      ∧ ∀ l, ((((f.taken m n).noticeSet l).entry .censusDone).pending = ((s.noticeSet l).entry .censusDone).pending)
        ∧ (((f.taken m n).noticeSet l).entry .censusDone).detail = ((s.noticeSet l).entry .censusDone).detail := by
  have state : (f.scanned m).census.state = s.census.state := by
    rw [f.scanned_census m]
    exact scans.census.1
  have tells := f.tells_taken m n
  obtain ⟨_, _, idle, scan⟩ := tells.census.kept
  have moved : (f.movedOn m n).census.state = .idle
      ∧ (s.census.state = .stopping → (f.movedOn m n).census.scan = none)
      ∧ ∀ l, (f.movedOn m n).noticeSet l = (f.scanned m).noticeSet l := by
    rcases stopped with stopping | idle
    · have ends : f.movedOn m n = (f.scanned m).censusEnds := by
        unfold ScanFold.movedOn State.censusMovesOn
        rw [state, stopping]
      rw [ends]
      exact ⟨rfl, fun _ => rfl, fun _ => rfl⟩
    · have stays : f.movedOn m n = f.scanned m := by
        unfold ScanFold.movedOn State.censusMovesOn
        rw [state, idle]
      rw [stays]
      exact ⟨state.trans idle, fun stopping => by simp [idle] at stopping, fun _ => rfl⟩
  obtain ⟨idle', scan', sets⟩ := moved
  refine ⟨idle idle', fun stopping => scan (scan' stopping), fun l => ?_⟩
  obtain ⟨pending, detail⟩ := tells.notices l .censusDone (by simp) (by simp)
  obtain ⟨pending', detail'⟩ := f.raises_other (f.state.dropped m) rfl l
  obtain ⟨pending'', detail''⟩ := scans.notices l .censusDone (by simp)
  rw [sets] at pending detail
  exact ⟨(pending.trans pending').trans pending'', (detail.trans detail').trans detail''⟩

variable (n)

/-! ### Its notices (R202) -/

theorem ScanFold.taken_pends :
    (f.full.isSome → (f.taken m n).Pends .catalogueFull)
      ∧ (f.mismatch.isSome → (f.taken m n).Pends .mismatch) := by
  have tells := f.tells_taken m n
  obtain ⟨full, mismatch⟩ := f.raises_pends (f.state.dropped m)
  have onward {k : NoticeKind} (noSlot : k ≠ .noSlot) (intercept : k ≠ .intercept) (h : (f.raises (f.state.dropped m)).Pends k) :
      (f.taken m n).Pends k := by
    have counted : (f.scanned m).Pends k := h
    exact (counted.censusMovesOn n).stands tells.notices noSlot intercept
  exact ⟨fun h => onward (by simp) (by simp) (full h), fun h => onward (by simp) (by simp) (mismatch h)⟩

end

/-- Settles O53, place by place. -/
theorem scannedAppliesResults : Obligations.ScannedAppliesResults := by
  intro s number m e n results bare alone _ awaits source bareIff aloneIff
  obtain ⟨whole, isWhole⟩ : ∃ f, f = s.scanFold n results := ⟨_, rfl⟩
  have placed (k : Fin 8) := s.scanFold_place n results k
  obtain ⟨scans, few⟩ := s.scans_scanFold n results
  rw [← isWhole] at placed scans few
  let u := whole.taken m n
  have run : exec (.scanned number results) s = .next (u.settleHandler s) := by
    have taken : s.takeScanned m results = u := by rw [State.takeScanned_eq source results, ← isWhole]
    rw [← taken]
    exact congrArg Host.Outcome.next (awaits.takeReport (by simp [Phase.handlerState]) _)
  have care : whole.state.Aftercare u := whole.aftercare_taken m n
  have slots (k : Slot) : u.slot k = whole.state.slot k := by rw [State.slot, State.slot, care.slots]
  obtain ⟨full, mismatch⟩ := whole.taken_pends m n
  refine ⟨u, run, whole.taken_handler m n scans, whole.taken_drops m n scans few awaits.1.mem, whole.taken_counts m n scans,
    fun k isBare => ?_, fun k id filled => ?_, fun j other => (slots j).trans (scans.slot j fun ⟨k, same⟩ => other k same),
    fun first last running range single => ⟨whole.taken_next m scans running range single,
      whole.taken_last m scans running range⟩, whole.taken_stopped m scans⟩
  · obtain ⟨f, place⟩ := placed k
    have bare' := (bareIff k).mp isBare
    rw [← place.slot] at bare'
    have slotAfter := (slots _).trans place.slotAfter
    have apply := f.apply_bare (shelfSlot n k) bare' (results.get k)
    refine ⟨fun shows => ?_, fun shows => ?_, fun id shows ok single => ?_⟩
    · rw [slotAfter, apply, shows]
      exact State.slot_setSlot_same _ _ _
    · rw [slotAfter, apply, shows]
      exact State.slot_scanFaults _ _ _
    · have found : f.apply (shelfSlot n k) (results.get k) = f.found (shelfSlot n k) id := by
        rw [apply, shows, scanReading_ok ok]
        rfl
      rw [found] at slotAfter place
      obtain ⟨before, after⟩ := place.record id ((aloneIff k id).mp single)
      have before' := State.record_of_namesakes before
      have after' := State.record_of_namesakes after
      refine ⟨fun unknown room => ?_, fun unknown short => ?_, fun r known stray => ?_, fun r known located => ?_⟩
      · have few := place.most
        obtain ⟨slot, record⟩ := ScanFold.found_creates (n := shelfSlot n k) (before'.trans unknown) (by omega)
        obtain ⟨b, known, unbound⟩ := care.located id _ (shelfSlot n k) (after'.trans record) rfl
        rw [unbound rfl] at known
        exact ⟨slotAfter.trans slot, known⟩
      · obtain ⟨slot, record, raised⟩ := ScanFold.found_full (n := shelfSlot n k) (before'.trans unknown)
          (short.trans place.least)
        exact ⟨slotAfter.trans slot, care.record_none (after'.trans record), full (place.full raised)⟩
      · obtain ⟨slot, record⟩ := ScanFold.found_relocates (n := shelfSlot n k) (before'.trans known) stray
        exact ⟨slotAfter.trans slot, care.relocated (after'.trans record)⟩
      · obtain ⟨slot, record, raised⟩ := ScanFold.found_doubts (n := shelfSlot n k) (before'.trans known) located
        exact ⟨slotAfter.trans slot, care.doubted (after'.trans record), mismatch (place.mismatch raised)⟩
  · obtain ⟨f, place⟩ := placed k
    have slotAfter := (slots _).trans place.slotAfter
    have apply := f.apply_filled (shelfSlot n k) (place.slot.trans filled) (results.get k)
    rw [apply] at slotAfter place
    have loses (other : results.get k ≠ .ident id) :=
      ScanFold.held_loses (f := f) (n := shelfSlot n k) (id := id) (fun same => other (scanReading_ident same))
    refine ⟨fun shows ok => ?_, fun shows => ?_, fun x shows ok apart => ?_, fun other single => ?_, fun other occupied => ?_⟩
    · rw [shows, scanReading_ok ok, ScanFold.held_same _ rfl] at slotAfter place
      refine ⟨slotAfter.trans (place.slot.trans filled), fun r known single => ?_⟩
      obtain ⟨before, after⟩ := place.record id ((aloneIff k id).mp single)
      refine care.relocated ((State.record_of_namesakes after).trans ?_)
      exact (f.state.record_updRecord_same id (Rec.relocated (shelfSlot n k)) fun _ => rfl).trans
        (congrArg (Option.map _) ((State.record_of_namesakes before).trans known))
    · have other : results.get k ≠ .ident id := by rcases shows with h | h <;> simp [h]
      rw [slotAfter, (loses other).1]
      rcases shows with h | h <;> rw [h] <;> rfl
    · have other : results.get k ≠ .ident id := by simpa [shows] using apart
      rw [slotAfter, (loses other).1, shows, scanReading_ok ok]
      rfl
    · obtain ⟨_, after⟩ := place.record id ((aloneIff k id).mp single)
      exact ((loses other).2.1.of_namesakes after).of_records care.records
    · exact mismatch (place.mismatch ((loses other).2.2 fun same => occupied (scanReading_empty same)))

end Sys2Proof.Machine
end

section
/-! PROOFS. The RESTART taking effect: the waiting work cleared, the ports shut, the notices set anew (R55, R84, R142, R193,
R214). -/

namespace Sys2Proof.Machine

open Sys2Proof

variable {s t u : State} {m : Move}

/-! ## The waiting work (R142) -/

theorem State.queue_withdrawFold (ms : List Move) (r : Option Reason) (t : State) :
    (ms.foldl (fun t m => t.withdraw m r) t).queue = t.queue.filter (fun x => ms.all (fun m => !decide (x.seq = m.seq))) := by
  induction ms generalizing t with
  | nil => simp
  | cons m ms ih =>
    rw [List.foldl_cons, ih, State.withdraw_queue, List.filter_filter]
    refine List.filter_congr fun x _ => ?_
    rw [List.all_cons, Bool.and_comm]

/-- A withdrawal of a set of moves touches the queue, the bindings, the census and what the transmitters hold. -/
theorem State.withdrawWhere_eq (s : State) (f : Move → Bool) (r : Option Reason) :
    ∃ q c x tx, s.withdrawWhere f r = { s with queue := q, catalogue := c, census := x, tx := tx } := by
  refine s.withdrawWhere_ind (fun t => ∃ q c x tx, t = { s with queue := q, catalogue := c, census := x, tx := tx }) f r
    (fun t m _ _ _ h => ?_) ⟨_, _, _, _, rfl⟩
  obtain ⟨q, c, x, tx, rfl⟩ := h
  obtain ⟨tx', e⟩ := State.withdraw_eq { s with queue := q, catalogue := c, census := x, tx := tx } m r
  rw [e]
  split <;> exact ⟨_, _, _, _, rfl⟩

theorem State.tells_withdrawWhere (s : State) (f : Move → Bool) (r : Option Reason) : s.Tells 0 (s.withdrawWhere f r) :=
  s.withdrawWhere_ind (fun t => s.Tells 0 t) f r (fun t m _ _ _ h => h.trans (t.tells_withdraw m r)) (.refl s)

/-- The withdrawals of a RESTART, before the tenure record is cleared. -/
def State.workWithdrawn (s : State) : State :=
  (s.withdrawWhere (fun m => m.kind ≠ .scan) (some .restart)).withdrawWhere (fun _ => true) none

theorem State.restartQueue_eq (s : State) : s.restartQueue = { s.workWithdrawn with tenure := ⟨none, 0⟩ } := rfl

theorem State.workWithdrawn_waiting (s : State) (h : m ∈ s.workWithdrawn.queue) : m.isWaiting = false := by
  by_contra waits
  have waits' : m.state = .waiting := of_decide_eq_true (Bool.not_eq_false _ ▸ waits)
  exact Bool.noConfusion (State.withdrawWhere_waiting h waits')

theorem Move.not_waiting (h : m.isWaiting = false) : m.state = .executing := by
  cases state : m.state with
  | waiting => simp [Move.isWaiting, state] at h
  | executing => rfl

/-- With distinct numbers the withdrawals leave the EXECUTING moves as they are. -/
theorem State.workWithdrawn_queue (distinct : s.SeqsDistinct) :
    s.workWithdrawn.queue = s.queue.filter (fun m => !m.isWaiting) := by
  have stays (a : State) (f : Move → Bool) (r : Option Reason) : (a.withdrawWhere f r).queue
      = a.queue.filter (fun x => (a.queue.filter (fun m => m.isWaiting && f m)).all (fun m => !decide (x.seq = m.seq))) :=
    State.queue_withdrawFold _ r a
  have first := stays s (fun m => m.kind ≠ .scan) (some .restart)
  unfold State.workWithdrawn
  rw [stays, first, List.filter_filter]
  refine List.filter_congr fun x hx => ?_
  have same {y : Move} (hy : y ∈ s.queue) (number : x.seq = y.seq) : x = y := List.inj_on_of_nodup_map distinct hx hy number
  refine Bool.eq_iff_iff.mpr ⟨fun h => ?_, fun h => ?_⟩
  · obtain ⟨second, first⟩ := (Bool.and_eq_true_iff).mp h
    by_contra waits
    have waits : x.isWaiting = true := by simpa using waits
    have kept := List.all_eq_true.mp second x (List.mem_filter.mpr ⟨List.mem_filter.mpr ⟨hx, first⟩, by simp [waits]⟩)
    simp at kept
  · have apart {y : Move} (hy : y ∈ s.queue) (waits : y.isWaiting = true) : x.seq ≠ y.seq := fun number => by
      rw [same hy number, waits] at h
      cases h
    refine (Bool.and_eq_true_iff).mpr ⟨List.all_eq_true.mpr fun y hy => ?_, List.all_eq_true.mpr fun y hy => ?_⟩
    · obtain ⟨here, waits⟩ := List.mem_filter.mp hy
      have := apart (List.mem_of_mem_filter here) (by simpa using waits)
      simp [this]
    · obtain ⟨here, waits⟩ := List.mem_filter.mp hy
      have := apart here ((Bool.and_eq_true_iff).mp waits).1
      simp [this]

/-- Every WAITING move of a link but a SCAN is told RESTART (R137, R142). -/
theorem State.workWithdrawn_told (here : m ∈ s.queue) {id : Ident} (waits : m.isWaiting = true) (plain : m.kind ≠ .scan)
    (named : m.reticle = some id) {l : ReqLink} (from_ : m.requester.link = some l)
    (open_ : ∀ q, l = .tool q → (s.port q).state ≠ .closed) :
    .withdrawn id .restart ∈ (s.workWithdrawn.sent (.request l)).drop (s.sent (.request l)).length := by
  have fold (ms : List Move) (a : State) (ports : a.ports = s.ports) (told : s.Told a) (mem : m ∈ ms) :
      .withdrawn id .restart ∈ ((ms.foldl (fun t m => t.withdraw m (some .restart)) a).sent (.request l)).drop
        (s.sent (.request l)).length := by
    induction ms generalizing a with
    | nil => cases mem
    | cons x ms ih =>
      have later (xs : List Move) (b : State) : b.Told (xs.foldl (fun t m => t.withdraw m (some .restart)) b) := by
        induction xs generalizing b with
        | nil => exact .of_tx_eq rfl
        | cons y ys ih => exact (b.told_withdraw y _).trans (ih _)
      rcases List.mem_cons.mp mem with rfl | rest
      · have frame := a.withdraw_told .restart named from_ fun q own => by
          rw [State.port, ports]
          exact open_ q own
        refine State.Told.mem_drop (told.trans (a.told_withdraw m (some .restart))) (later ms _) ?_
        obtain ⟨fs, _, sent⟩ := told l
        rw [frame, sent, List.append_assoc, List.drop_left]
        exact List.mem_append_right _ (List.mem_singleton_self _)
      · exact ih (a.withdraw x (some .restart)) ((a.withdraw_ports x _).trans ports) (told.trans (a.told_withdraw x _)) rest
  have first := fold (s.queue.filter (fun m => m.isWaiting && m.kind ≠ .scan)) s rfl (.of_tx_eq rfl)
    (List.mem_filter.mpr ⟨here, by simp [waits, plain]⟩)
  exact State.Told.mem_drop (s.advances_withdrawWhere _ _).sends.told (State.advances_withdrawWhere _ _ _).sends.told first

/-- The NO_SLOT test among moves none of which waits raises nothing (R44). -/
theorem State.noSlotStep_idle (a : State) (idle : ∀ m ∈ a.queue, m.isWaiting = false) (b : State) (x : Touch) :
    ∃ flag, a.noSlotStep b x = { a with noSlot := flag } := by
  have none_ : a.queue.filter a.lacksCandidate = [] := by
    refine List.filter_eq_nil_iff.mpr fun m hm => ?_
    simp [State.lacksCandidate, idle m hm]
  unfold State.noSlotStep State.testNoSlot
  split
  · rw [none_]
    exact ⟨false, rfl⟩
  · exact ⟨a.noSlot, rfl⟩

/-! ## The ports (R55, R84) -/

/-- A port record after a RESTART. -/
def PortRec.restarted (r : PortRec) : PortRec :=
  let x := if r.state = .closed then r else { r with state := .silent, livenessLeft := none }
  if r.nest = .outWait then { x with nest := .outLapsed, window := none, lapseDeferred := false } else x

theorem State.restartPort_spec (s : State) (p : Port) :
    (∃ ports ahead, s.restartPort p = { s with ports := ports, ahead := ahead })
      ∧ (s.restartPort p).port p = (s.port p).restarted ∧ (∀ q, q ≠ p → (s.restartPort p).port q = s.port q)
      ∧ (s.restartPort p).aheadOf p = (s.aheadOf p).emptied ∧ ∀ q, q ≠ p → (s.restartPort p).aheadOf q = s.aheadOf q := by
  let f (r : PortRec) : PortRec := if r.state = .closed then r else { r with state := .silent, livenessLeft := none }
  let a := (s.updPort p f).emptyLists p
  have shut : a.port p = f (s.port p) := s.port_updPort_same p f
  have others (q : Port) (other : q ≠ p) : a.port q = s.port q := s.port_updPort_other other f
  have emptied : a.aheadOf p = (s.aheadOf p).emptied := State.aheadOf_setAhead_same _ p _
  have lists (q : Port) (other : q ≠ p) : a.aheadOf q = s.aheadOf q := State.aheadOf_setAhead_other _ other _
  have nest : (f (s.port p)).nest = (s.port p).nest := by
    simp only [f]
    split <;> rfl
  have unfolded : s.restartPort p = if a.toolNest p = .outWait then a.lapseNest p else a := rfl
  have restarted : (s.port p).restarted = if (s.port p).nest = .outWait
      then { f (s.port p) with nest := .outLapsed, window := none, lapseDeferred := false } else f (s.port p) := rfl
  rw [unfolded, restarted, State.toolNest, shut, nest]
  split
  · refine ⟨⟨_, _, rfl⟩, ?_, fun q other => (a.port_updPort_other other _).trans (others q other), emptied, lists⟩
    have lapsed := a.port_updPort_same p (fun r => { r with nest := .outLapsed, window := none, lapseDeferred := false })
    rw [shut] at lapsed
    exact lapsed
  · exact ⟨⟨_, _, rfl⟩, shut, others, emptied, lists⟩

theorem State.restartPorts_spec (ps : List Port) (distinct : ps.Nodup) (s : State) :
    (∃ ports ahead, ps.foldl State.restartPort s = { s with ports := ports, ahead := ahead })
      ∧ ∀ p, (ps.foldl State.restartPort s).port p = (if p ∈ ps then (s.port p).restarted else s.port p)
        ∧ (ps.foldl State.restartPort s).aheadOf p = (if p ∈ ps then (s.aheadOf p).emptied else s.aheadOf p) := by
  induction ps generalizing s with
  | nil => exact ⟨⟨_, _, rfl⟩, fun p => by simp⟩
  | cons q ps ih =>
    obtain ⟨new, distinct⟩ := List.nodup_cons.mp distinct
    obtain ⟨⟨ports, ahead, eq⟩, same, others, emptied, lists⟩ := s.restartPort_spec q
    obtain ⟨⟨ports', ahead', eq'⟩, rest⟩ := ih distinct (s.restartPort q)
    rw [List.foldl_cons]
    refine ⟨⟨ports', ahead', by rw [eq', eq]⟩, fun p => ?_⟩
    obtain ⟨port, list⟩ := rest p
    rw [port, list]
    by_cases own : p = q
    · subst own
      simp only [if_neg new, List.mem_cons_self, if_true]
      exact ⟨same, emptied⟩
    · rw [others p own, lists p own]
      simp only [List.mem_cons, own, false_or]
      exact ⟨trivial, trivial⟩

theorem allPorts_nodup : allPorts.Nodup := by decide

/-! ## The notices (R214) -/

/-- What the conditions of the kinds read stands. -/
theorem State.conditionHolds_congr (handler : t.handler.state = s.handler.state) (noSlot : t.noSlot = s.noSlot)
    (ports : t.ports = s.ports) (bi : t.bi = s.bi) (bo : t.bo = s.bo) (inn : t.inn = s.inn) (zones : t.zones = s.zones)
    (catalogue : t.catalogue.length = s.catalogue.length) (k : NoticeKind) : t.conditionHolds k = s.conditionHolds k := by
  cases k with
  | halted => simp only [State.conditionHolds, handler]
  | noSlot => exact noSlot
  | nestBlocked =>
    have nests : t.toolNest = s.toolNest := funext fun p => by rw [State.toolNest, State.toolNest, State.port, State.port, ports]
    unfold State.conditionHolds State.anyBlocked
    rw [nests, bi, bo, inn]
  | zoneConflict =>
    have resolved : t.resolve = s.resolve := funext fun n => by
      simp only [State.resolve, State.zoneMatches, zones]
    simp only [State.conditionHolds, State.conflictedShelves, resolved]
  | catalogueFull => simp only [State.conditionHolds, State.catalogueFull, catalogue]
  | _ => rfl

theorem State.restartNoticesOn_spec (s : State) (l : NoticeLink) :
    (∃ mn sn tx, s.restartNoticesOn l = { s with materialNotices := mn, serviceNotices := sn, tx := tx })
      ∧ (∀ k, (((s.restartNoticesOn l).noticeSet l).entry k).pending = s.conditionHolds k
        ∧ (((s.restartNoticesOn l).noticeSet l).entry k).detail = ((s.noticeSet l).entry k).detail
        ∧ (((s.restartNoticesOn l).noticeSet l).entry k).masked = ((s.noticeSet l).entry k).masked)
      ∧ ∀ j, j ≠ l → ∀ k, (((s.restartNoticesOn l).noticeSet j).entry k).pending = ((s.noticeSet j).entry k).pending
        ∧ (((s.restartNoticesOn l).noticeSet j).entry k).detail = ((s.noticeSet j).entry k).detail
        ∧ (((s.restartNoticesOn l).noticeSet j).entry k).masked = ((s.noticeSet j).entry k).masked := by
  let y := (s.noticeSet l).mapKinds fun k e => { e with pending := s.conditionHolds k, fresh := s.conditionHolds k }
  let a := s.setNoticeSet l y
  have written (k : NoticeKind) : (a.noticeSet l).entry k
      = { (s.noticeSet l).entry k with pending := s.conditionHolds k, fresh := s.conditionHolds k } := by
    rw [State.noticeSet_setNoticeSet_same, NoticeSet.entry_mapKinds]
  have others (j : NoticeLink) (other : j ≠ l) : a.noticeSet j = s.noticeSet j := State.noticeSet_setNoticeSet_other _ other _
  have frame : ∃ mn sn tx, a = { s with materialNotices := mn, serviceNotices := sn, tx := tx } := by
    cases l <;> exact ⟨_, _, _, rfl⟩
  have unfolded : s.restartNoticesOn l = if allNoticeKinds.any (fun k => (y.entry k).shown) then a.pushNotice l else a := rfl
  rw [unfolded]
  split
  · refine ⟨?_, fun k => ?_, fun j other k => ?_⟩
    · obtain ⟨x, tx, pushed⟩ := a.pushNotice_eq l
      obtain ⟨mn, sn, tx', eq⟩ := frame
      rw [pushed, eq]
      cases l <;> exact ⟨_, _, _, rfl⟩
    · rcases a.entry_pushNotice l l k with h | h <;> rw [h, written] <;> exact ⟨rfl, rfl, rfl⟩
    · rcases a.entry_pushNotice l j k with h | h <;> rw [h, others j other] <;> exact ⟨rfl, rfl, rfl⟩
  · exact ⟨frame, fun k => by rw [written]; exact ⟨rfl, rfl, rfl⟩, fun j other k => by rw [others j other]; exact ⟨rfl, rfl, rfl⟩⟩

/-- The notice sets after a RESTART: each kind pending as its condition holds, masks and details as before (R214). -/
theorem State.restartNotices_spec (s : State) :
    (∃ mn sn tx, s.restartNotices = { s with materialNotices := mn, serviceNotices := sn, tx := tx })
      ∧ ∀ l k, ((s.restartNotices.noticeSet l).entry k).pending = s.conditionHolds k
        ∧ ((s.restartNotices.noticeSet l).entry k).detail = ((s.noticeSet l).entry k).detail
        ∧ ((s.restartNotices.noticeSet l).entry k).masked = ((s.noticeSet l).entry k).masked := by
  obtain ⟨⟨mn, sn, tx, eq⟩, own, others⟩ := s.restartNoticesOn_spec .material
  obtain ⟨⟨mn', sn', tx', eq'⟩, own', others'⟩ := (s.restartNoticesOn .material).restartNoticesOn_spec .service
  have same (k : NoticeKind) : (s.restartNoticesOn .material).conditionHolds k = s.conditionHolds k := by
    rw [eq]
    exact State.conditionHolds_congr rfl rfl rfl rfl rfl rfl rfl rfl k
  refine ⟨⟨mn', sn', tx', by rw [State.restartNotices, eq', eq]⟩, fun l k => ?_⟩
  cases l with
  | material =>
    obtain ⟨pending, detail, masked⟩ := others' .material (by simp) k
    obtain ⟨pending', detail', masked'⟩ := own k
    exact ⟨pending.trans pending', detail.trans detail', masked.trans masked'⟩
  | service =>
    obtain ⟨pending, detail, masked⟩ := own' k
    obtain ⟨_, detail', masked'⟩ := others .service (by simp) k
    exact ⟨pending.trans (same k), detail.trans detail', masked.trans masked'⟩

end Sys2Proof.Machine
end

section
/-! PROOFS. The RESTART taking effect: the fresh moves admitted (R55, R112, R168). -/

namespace Sys2Proof.Machine

open Sys2Proof

variable {s t u : State} {m : Move}

/-! ## Inward admissions -/

/-- What inward admissions of the moves `ys` leave of a state. -/
structure State.Freshens (s t : State) (ys : List Move) : Prop where
  eq : ∃ c x mn sn tx, t = { s with
    queue := s.queue ++ ys, nextSeq := s.nextSeq + BitVec.ofNat 32 ys.length, catalogue := c, intercepts := x
    materialNotices := mn, serviceNotices := sn, tx := tx }
  records : t.steady.records = s.steady.records
  fresh : ∀ y ∈ ys, y.state = .waiting ∧ y.enqueued = s.clock ∧ y.requester = .internal
    ∧ (y.kind = .reclaim ∨ y.kind = .collect ∨ y.kind = .stockIn ∨ y.kind = .reshelve)
  notices : ∀ l k, ((t.noticeSet l).entry k).masked = ((s.noticeSet l).entry k).masked
    ∧ (k ≠ .intercept → ((t.noticeSet l).entry k).pending = ((s.noticeSet l).entry k).pending
      ∧ ((t.noticeSet l).entry k).detail = ((s.noticeSet l).entry k).detail)

theorem State.Freshens.refl (s : State) : s.Freshens s [] where
  eq := ⟨s.catalogue, s.intercepts, s.materialNotices, s.serviceNotices, s.tx, by simp⟩
  records := rfl
  fresh := fun y hy => nomatch hy
  notices := fun _ _ => ⟨rfl, fun _ => ⟨rfl, rfl⟩⟩

theorem State.Freshens.trans {xs ys : List Move} (h : s.Freshens t xs) (g : t.Freshens u ys) : s.Freshens u (xs ++ ys) := by
  have clock : t.clock = s.clock := by
    obtain ⟨_, _, _, _, _, eq⟩ := h.eq
    rw [eq]
  refine ⟨?_, g.records.trans h.records, fun y hy => ?_, fun l k => ⟨(g.notices l k).1.trans (h.notices l k).1, fun other =>
    ⟨((g.notices l k).2 other).1.trans ((h.notices l k).2 other).1,
      ((g.notices l k).2 other).2.trans ((h.notices l k).2 other).2⟩⟩⟩
  · obtain ⟨_, _, _, _, _, eq⟩ := h.eq
    obtain ⟨c, x, mn, sn, tx, eq'⟩ := g.eq
    refine ⟨c, x, mn, sn, tx, ?_⟩
    rw [eq', eq, List.append_assoc, List.length_append, BitVec.ofNat_add, BitVec.add_assoc]
  · rcases List.mem_append.mp hy with old | new
    · exact h.fresh y old
    · have := g.fresh y new
      rwa [clock] at this

theorem State.raise_masked (s : State) (k i : NoticeKind) (d : Detail) (l : NoticeLink) :
    (((s.raise k d).noticeSet l).entry i).masked = ((s.noticeSet l).entry i).masked := by
  by_cases same : i = k
  · subst same
    unfold State.raise
    cases l with
    | material =>
      exact ((s.raiseOn .material i d).entry_raiseOn_other .service .material i i d (.inl (by decide))).2.2.trans
        (s.entry_raiseOn_same .material i d).2.2
    | service =>
      exact ((s.raiseOn .material i d).entry_raiseOn_same .service i d).2.2.trans
        (s.entry_raiseOn_other .material .service i i d (.inl (by decide))).2.2
  · exact (s.raise_other same d l).2.2

theorem State.freshens_offerInward (s : State) {o : Offer} (internal : o.requester = .internal)
    (kind : o.kind = .reclaim ∨ o.kind = .collect ∨ o.kind = .stockIn ∨ o.kind = .reshelve) :
    ∃ y, s.Freshens (s.offerInward o) [y] ∧ y.kind = o.kind ∧ y.source = o.source ∧ y.reticle = o.reticle
      ∧ y.pickTest = o.pickTest := by
  have entered (a : State) (b : Bool) (clock : a.clock = s.clock) (y : Move) (hy : y ∈ [a.entered o false b]) :
      y.state = .waiting ∧ y.enqueued = s.clock ∧ y.requester = .internal
        ∧ (y.kind = .reclaim ∨ y.kind = .collect ∨ y.kind = .stockIn ∨ y.kind = .reshelve) := by
    rw [List.mem_singleton.mp hy]
    exact ⟨rfl, clock, internal, kind⟩
  rcases s.offerInward_cases o with ⟨_, h⟩ | ⟨n, _, h⟩
  · obtain ⟨c, eq, _⟩ := s.enter_eq o false false
    refine ⟨s.entered o false false, ⟨⟨c, s.intercepts, s.materialNotices, s.serviceNotices, s.tx, ?_⟩,
      congrArg Steady.records (s.steady_offerInward o), entered s false rfl, fun l k => ?_⟩, rfl, rfl, rfl, rfl⟩
    · rw [h, eq]
      rfl
    · rw [h, eq]
      exact ⟨rfl, fun _ => ⟨rfl, rfl⟩⟩
  · let hold : Bool := (s.intercepts.get n).action = .hold
    obtain ⟨c, eq, _⟩ := (s.countHit n o).enter_eq o false hold
    obtain ⟨mn, sn, tx, raised⟩ := State.raise_eq { s with
      intercepts := s.intercepts.set n.val { s.intercepts.get n with hits := clampTo 255 ((s.intercepts.get n).hits.val + 1) } n.isLt }
      .intercept ⟨o.reticle, none, some o.source, o.beneficiary, some n.val⟩
    have counted : s.countHit n o = _ := raised
    refine ⟨(s.countHit n o).entered o false hold, ⟨⟨c,
      s.intercepts.set n.val { s.intercepts.get n with hits := clampTo 255 ((s.intercepts.get n).hits.val + 1) } n.isLt,
      mn, sn, tx, ?_⟩,
      congrArg Steady.records (s.steady_offerInward o), entered _ hold ?_, fun l k => ?_⟩, rfl, rfl, rfl, rfl⟩
    · rw [h, eq, counted]
      rfl
    · rw [counted]
    · rw [h, eq]
      exact ⟨State.raise_masked _ .intercept k _ l, fun other =>
        ⟨(State.raise_other _ other _ l).1, (State.raise_other _ other _ l).2.1⟩⟩

/-! ## The fresh moves (R55, R112) -/

/-- What a fresh move becomes in the queue, as kind and source: nothing without a record on the nest, or while one of its kind is
EXECUTING. -/
def State.freshEntry (s : State) : FreshMove → List (MoveKind × Position)
  | .reclaim p => if (s.onNest p).isSome then [(.reclaim, .nest (.t p))] else []
  | .collect p _ => [(.collect, .nest (.t p))]
  | .stockIn => if s.executing .stockIn then [] else [(.stockIn, .nest .bi)]
  | .reshelve => if s.executing .reshelve then [] else [(.reshelve, .nest .inn)]

/-- The moves that an admitted fresh move must be found among. -/
def State.FreshFound (s : State) (ys : List Move) : FreshMove → Prop
  | .reclaim p => ∀ id, (s.onNest p).map (·.id) = some id →
      ∃ y ∈ ys, y.kind = .reclaim ∧ y.source = .nest (.t p) ∧ y.reticle = some id
  | .collect p id => ∃ y ∈ ys, y.kind = .collect ∧ y.source = .nest (.t p) ∧ y.reticle = id
      ∧ y.pickTest = if id = none then .anyAtTool else .named
  | .stockIn => True
  | .reshelve => True

theorem State.FreshFound.mono {xs ys : List Move} {f : FreshMove} (h : s.FreshFound xs f) (sub : ∀ y ∈ xs, y ∈ ys) :
    s.FreshFound ys f := by
  cases f with
  | reclaim p =>
    intro id here
    obtain ⟨y, hy, rest⟩ := h id here
    exact ⟨y, sub y hy, rest⟩
  | collect p id =>
    obtain ⟨y, hy, rest⟩ := h
    exact ⟨y, sub y hy, rest⟩
  | stockIn => trivial
  | reshelve => trivial

theorem State.recordAt_ids (h : t.steady.records = s.steady.records) (x : Location) :
    (t.recordAt x).map (·.id) = (s.recordAt x).map (·.id) := by
  have found (a : State) : (a.recordAt x).map (·.id)
      = (a.steady.records.find? (fun r => decide (r.location = x))).map (·.id) := by
    simp only [State.recordAt, State.steady, List.find?_map, Option.map_map]
    rfl
  rw [found, found, h]

theorem State.executing_of_filter
    (h : t.queue.filter (fun m => m.state = .executing) = s.queue.filter (fun m => m.state = .executing)) (k : MoveKind) :
    t.executing k = s.executing k := by
  have here (a : State) : a.executing k = (a.queue.filter (fun m => m.state = .executing)).any (fun m => m.kind = k) := by
    rw [List.any_filter]
    simp only [State.executing, State.anyMove, Bool.and_comm]
  rw [here, here, h]

theorem State.Freshens.executing {ys : List Move} (h : s.Freshens t ys) :
    t.queue.filter (fun m => m.state = .executing) = s.queue.filter (fun m => m.state = .executing) := by
  obtain ⟨_, _, _, _, _, eq⟩ := h.eq
  rw [eq]
  have waits : ys.filter (fun m => m.state = .executing) = [] :=
    List.filter_eq_nil_iff.mpr fun y hy => by simp [(h.fresh y hy).1]
  simp [waits]

theorem State.Freshens.freshEntry {ys : List Move} (h : s.Freshens t ys) (f : FreshMove) : t.freshEntry f = s.freshEntry f := by
  cases f with
  | reclaim p =>
    have same := congrArg Option.isSome (State.recordAt_ids h.records (.nest (.t p)))
    rw [Option.isSome_map, Option.isSome_map] at same
    exact if_congr (iff_of_eq (congrArg (· = true) same)) rfl rfl
  | collect p id => rfl
  | stockIn => simp only [State.freshEntry, State.executing_of_filter h.executing]
  | reshelve => simp only [State.freshEntry, State.executing_of_filter h.executing]

theorem State.Freshens.found {ys zs : List Move} (h : s.Freshens t ys) {f : FreshMove} (g : t.FreshFound zs f) : s.FreshFound zs f := by
  cases f with
  | reclaim p =>
    intro id here
    exact g id ((State.recordAt_ids h.records _).trans here)
  | collect p id => exact g
  | stockIn => trivial
  | reshelve => trivial

theorem State.freshens_admitFresh (s : State) (f : FreshMove) :
    ∃ ys, s.Freshens (s.admitFresh f) ys ∧ ys.map (fun m => (m.kind, m.source)) = s.freshEntry f ∧ s.FreshFound ys f := by
  cases f with
  | reclaim p =>
    cases here : s.onNest p with
    | none =>
      have stays : s.admitFresh (.reclaim p) = s := by rw [State.admitFresh, State.reclaimNest, here]
      rw [stays]
      exact ⟨[], .refl s, by simp [State.freshEntry, here], fun id onNest => by rw [here] at onNest; cases onNest⟩
    | some r =>
      have offers : s.admitFresh (.reclaim p) = s.offerInward (reclaimOffer p r.id) := by
        rw [State.admitFresh, State.reclaimNest, here]
      obtain ⟨y, fresh, kind, source, reticle, _⟩ := s.freshens_offerInward (o := reclaimOffer p r.id) rfl (.inl rfl)
      rw [offers]
      refine ⟨[y], fresh, by simp [State.freshEntry, here, kind, source, reclaimOffer], fun id onNest => ?_⟩
      rw [here, Option.map_some, Option.some.injEq] at onNest
      exact ⟨y, List.mem_singleton_self y, kind, source, reticle.trans (congrArg some onNest)⟩
  | collect p id =>
    obtain ⟨y, fresh, kind, source, reticle, test⟩ := s.freshens_offerInward (o := collectOffer p id) rfl (.inr (.inl rfl))
    refine ⟨[y], fresh, by simp [State.freshEntry, kind, source, collectOffer], y, List.mem_singleton_self y, kind, source, reticle,
      test.trans ?_⟩
    cases id <;> rfl
  | stockIn =>
    by_cases busy : s.executing .stockIn = true
    · have stays : s.admitFresh .stockIn = s := if_pos busy
      rw [stays]
      exact ⟨[], .refl s, by simp [State.freshEntry, busy], trivial⟩
    · have offers : s.admitFresh .stockIn = s.offerInward stockInOffer := if_neg busy
      obtain ⟨y, fresh, kind, source, _, _⟩ := s.freshens_offerInward (o := stockInOffer) rfl (.inr (.inr (.inl rfl)))
      rw [offers]
      exact ⟨[y], fresh, by simp [State.freshEntry, busy, kind, source, stockInOffer], trivial⟩
  | reshelve =>
    by_cases busy : s.executing .reshelve = true
    · have stays : s.admitFresh .reshelve = s := if_pos busy
      rw [stays]
      exact ⟨[], .refl s, by simp [State.freshEntry, busy], trivial⟩
    · have offers : s.admitFresh .reshelve = s.offerInward reshelveOffer := if_neg busy
      obtain ⟨y, fresh, kind, source, _, _⟩ := s.freshens_offerInward (o := reshelveOffer) rfl (.inr (.inr (.inr rfl)))
      rw [offers]
      exact ⟨[y], fresh, by simp [State.freshEntry, busy, kind, source, reshelveOffer], trivial⟩

/-- The fresh moves of a RESTART, admitted in any order. -/
theorem State.freshens_admitAll (fs : List FreshMove) (s : State) :
    ∃ ys, s.Freshens (fs.foldl State.admitFresh s) ys
      ∧ ys.map (fun m => (m.kind, m.source)) = fs.flatMap s.freshEntry ∧ ∀ f ∈ fs, s.FreshFound ys f := by
  induction fs generalizing s with
  | nil => exact ⟨[], .refl s, rfl, fun f hf => nomatch hf⟩
  | cons f fs ih =>
    obtain ⟨ys, fresh, entries, found⟩ := s.freshens_admitFresh f
    obtain ⟨zs, fresh', entries', found'⟩ := ih (s.admitFresh f)
    refine ⟨ys ++ zs, fresh.trans fresh', ?_, fun g hg => ?_⟩
    · rw [List.map_append, entries, entries', List.flatMap_cons]
      congr 1
      exact List.flatMap_congr fun g _ => fresh.freshEntry g
    · rcases List.mem_cons.mp hg with rfl | rest
      · exact found.mono fun y hy => List.mem_append_left _ hy
      · exact (fresh.found (found' g rest)).mono fun y hy => List.mem_append_right _ hy

/-! ## The RESTART taking effect (R168) -/

theorem PortRec.restarted_nest (r : PortRec) :
    r.restarted.nest = if r.nest = .outWait then .outLapsed else r.nest := by
  unfold PortRec.restarted
  dsimp only
  split
  · rfl
  · split <;> rfl

theorem PortRec.restarted_state (r : PortRec) : r.restarted.state = (if r.state = .closed then .closed else .silent)
    ∧ (r.state ≠ .closed → r.restarted.livenessLeft = none) := by
  unfold PortRec.restarted
  dsimp only
  by_cases closed : r.state = .closed
  · simp only [if_pos closed]
    split <;> exact ⟨closed, fun h => absurd closed h⟩
  · simp only [if_neg closed]
    split <;> exact ⟨rfl, fun _ => rfl⟩

theorem State.restartCensus_eq (s : State) : ∃ x, s.restartCensus = { s with census := x }
    ∧ x.tally = s.census.tally ∧ x.range = s.census.range
    ∧ (s.executing .scan = false → x.state = .idle)
    ∧ (s.census.state ≠ .idle → s.executing .scan = true → x.state = .stopping) := by
  unfold State.restartCensus
  split
  · next idle => exact ⟨s.census, rfl, rfl, rfl, fun _ => idle, fun h => absurd idle h⟩
  · next busy =>
    split
    · next scan => exact ⟨_, rfl, rfl, rfl, fun h => (by rw [scan] at h; cases h), fun _ _ => rfl⟩
    · next scan => exact ⟨_, rfl, rfl, rfl, fun _ => rfl, fun _ h => absurd h scan⟩

/-- A RESTART's change up to its NO_SLOT test: the waiting work withdrawn and the tenure record cleared (R44, R142). -/
def State.workCleared (s : State) : State := s.restartQueue.noSlotStep s noTouch

theorem State.workCleared_spec (s : State) :
    (∃ q c x tx flag, s.workCleared = { s with
        queue := q, catalogue := c, census := x, tx := tx, noSlot := flag, tenure := ⟨none, 0⟩ })
      ∧ s.workCleared.queue = s.workWithdrawn.queue ∧ s.workCleared.census = s.workWithdrawn.census
      ∧ s.workCleared.steady.records = s.steady.records ∧ s.census.Stands s.workCleared.census
      ∧ s.workWithdrawn.Told s.workCleared := by
  obtain ⟨q, c, x, tx, withdrawn⟩ := s.withdrawWhere_eq (fun m => m.kind ≠ .scan) (some .restart)
  obtain ⟨q', c', x', tx', withdrawn'⟩ :=
    (s.withdrawWhere (fun m => m.kind ≠ .scan) (some .restart)).withdrawWhere_eq (fun _ => true) none
  have work : s.workWithdrawn = { s with queue := q', catalogue := c', census := x', tx := tx' } := by
    rw [State.workWithdrawn, withdrawn', withdrawn]
  have tells : s.Tells 0 s.workWithdrawn := (s.tells_withdrawWhere _ _).trans (State.tells_withdrawWhere _ _ _)
  obtain ⟨flag, tested⟩ := s.restartQueue.noSlotStep_idle (fun m hm => s.workWithdrawn_waiting hm) s noTouch
  have whole : s.workCleared = { s.workWithdrawn with noSlot := flag, tenure := ⟨none, 0⟩ } := by
    rw [State.workCleared, tested, State.restartQueue_eq]
  refine ⟨⟨q', c', x', tx', flag, by rw [whole, work]⟩, ?_, ?_, ?_, ?_, .of_tx_eq ?_⟩ <;> rw [whole]
  · exact tells.care.records
  · exact tells.census

/-- A RESTART's change of the ports, the announcement list, the census and the notices (R55, R93, R193, R214). -/
def State.shutDown (s : State) : State :=
  { allPorts.foldl State.restartPort s with announcements := [] }.restartCensus.restartNotices

theorem State.shutDown_spec (s : State) :
    (∃ x tx ports ahead mn sn, s.shutDown = { s with
        census := x, tx := tx, ports := ports, ahead := ahead, materialNotices := mn, serviceNotices := sn, announcements := [] })
      ∧ (∀ p, s.shutDown.port p = (s.port p).restarted ∧ s.shutDown.aheadOf p = (s.aheadOf p).emptied)
      ∧ (∀ l k, ((s.shutDown.noticeSet l).entry k).pending = s.shutDown.conditionHolds k
        ∧ ((s.shutDown.noticeSet l).entry k).detail = ((s.noticeSet l).entry k).detail
        ∧ ((s.shutDown.noticeSet l).entry k).masked = ((s.noticeSet l).entry k).masked)
      ∧ s.shutDown.census.tally = s.census.tally ∧ s.shutDown.census.range = s.census.range
      ∧ (s.executing .scan = false → s.shutDown.census.state = .idle)
      ∧ (s.census.state ≠ .idle → s.executing .scan = true → s.shutDown.census.state = .stopping)
      ∧ s.Told s.shutDown := by
  obtain ⟨⟨ports, ahead, shut⟩, each⟩ := State.restartPorts_spec allPorts allPorts_nodup s
  have unfolded : s.shutDown = { allPorts.foldl State.restartPort s with announcements := [] }.restartCensus.restartNotices := rfl
  generalize allPorts.foldl State.restartPort s = ps at shut each unfolded
  obtain ⟨b, isB⟩ : ∃ b : State, b = { ps with announcements := [] } := ⟨_, rfl⟩
  have port (p : Port) : b.port p = (s.port p).restarted ∧ b.aheadOf p = (s.aheadOf p).emptied := by
    have here := each p
    rw [if_pos (mem_allPorts p), if_pos (mem_allPorts p)] at here
    rw [isB]
    exact here
  have start : s.shutDown = b.restartCensus.restartNotices := by rw [unfolded, isB]
  have whole : b = { s with ports := ports, ahead := ahead, announcements := [] } := by rw [isB, shut]
  obtain ⟨y, counted, tally, range, idle, stopping⟩ := b.restartCensus_eq
  obtain ⟨⟨mn, sn, tx, noticed⟩, notices⟩ := b.restartCensus.restartNotices_spec
  have told : s.Told s.shutDown := by
    rw [start]
    have before : s.Told b := .of_tx_eq (by rw [whole])
    exact (before.trans b.advances_restartCensus.sends.told).trans ((State.advances_restartNoticesOn _ .material).trans
      (State.advances_restartNoticesOn _ .service)).sends.told
  have total : s.shutDown = { b with census := y, materialNotices := mn, serviceNotices := sn, tx := tx } := by
    rw [start, noticed, counted]
  have scans : b.executing .scan = s.executing .scan := by rw [whole]; rfl
  have census : b.census = s.census := by rw [whole]
  rw [census] at tally range stopping
  refine ⟨⟨y, tx, ports, ahead, mn, sn, by rw [total, whole]⟩, fun p => ?_, fun l k => ?_, ?_, ?_, fun quiet => ?_,
    fun live busy => ?_, told⟩
  · rw [← (port p).1, ← (port p).2, total]
    exact ⟨rfl, rfl⟩
  · obtain ⟨pending, detail, masked⟩ := notices l k
    have same : b.restartCensus.noticeSet l = s.noticeSet l := by
      rw [counted, whole]
      cases l <;> rfl
    have holds : s.shutDown.conditionHolds k = b.restartCensus.conditionHolds k := by
      rw [total, counted]
      exact State.conditionHolds_congr rfl rfl rfl rfl rfl rfl rfl rfl k
    rw [same] at detail masked
    rw [holds, start]
    exact ⟨pending, detail, masked⟩
  · rw [total]
    exact tally
  · rw [total]
    exact range
  · rw [total]
    exact idle (scans.trans quiet)
  · rw [total]
    exact stopping live (scans.trans busy)

/-- The fresh moves of a RESTART become those of R55 and R112. -/
theorem State.freshMoves_entries
    (executing : t.queue.filter (fun m => m.state = .executing) = s.queue.filter (fun m => m.state = .executing))
    (records : t.steady.records = s.steady.records) (nests : ∀ p, t.toolNest p = (s.port p).restarted.nest) (bi : t.bi = s.bi)
    (inn : t.inn = s.inn) : (t.freshMoves s).flatMap t.freshEntry = s.freshAtRestart := by
  have port (p : Port) : (t.freshOfPort s p).flatMap t.freshEntry
      = (if (s.toolNest p = .outWait ∨ s.toolNest p = .outLapsed) ∧ (s.recordAt (.nest (.t p))).isSome then
        [(MoveKind.reclaim, Position.nest (.t p))]
      else if s.toolNest p = .returned ∧ s.anyMove (fun m => m.waitsAt .collect (.t p)) then [(.collect, .nest (.t p))]
      else []) := by
    have onNest : (t.onNest p).isSome = (s.recordAt (.nest (.t p))).isSome := by
      have same := congrArg Option.isSome (State.recordAt_ids records (.nest (.t p)))
      rwa [Option.isSome_map, Option.isSome_map] at same
    have nest := nests p
    unfold State.freshOfPort
    rw [nest]
    rw [PortRec.restarted_nest, ← State.toolNest]
    cases here : s.toolNest p with
    | outWait => simp [State.freshEntry, onNest]
    | outLapsed => simp [State.freshEntry, onNest]
    | returned =>
      have waits : (fun m : Move => m.kind = .collect && m.source = .nest (.t p) && m.isWaiting) = fun m => m.waitsAt .collect (.t p) :=
        rfl
      simp only [reduceCtorEq, if_false, false_or, false_and, true_and, waits]
      cases found : s.queue.find? (fun m => m.waitsAt .collect (.t p)) with
      | none =>
        have none_ : s.anyMove (fun m => m.waitsAt .collect (.t p)) = false := by
          simpa [State.anyMove] using found
        simp [none_]
      | some m =>
        have some_ : s.anyMove (fun m => m.waitsAt .collect (.t p)) = true :=
          List.any_eq_true.mpr ⟨m, List.mem_of_find?_eq_some found, List.find?_some (p := fun m : Move => m.waitsAt .collect (.t p)) found⟩
        simp [some_, State.freshEntry]
    | empty | inbound | outbound | blocked => simp
  unfold State.freshMoves State.freshAtRestart
  rw [List.flatMap_append, List.flatMap_append, List.flatMap_assoc, bi, inn]
  congr 1
  · congr 1
    · exact List.flatMap_congr fun p _ => port p
    · by_cases arrived : s.bi = .arrived
      · by_cases busy : s.executing .stockIn = true <;>
          simp [arrived, State.freshEntry, State.executing_of_filter executing, busy]
      · simp [arrived]
  · by_cases arrived : s.inn = .arrived
    · by_cases busy : s.executing .reshelve = true <;>
        simp [arrived, State.freshEntry, State.executing_of_filter executing, busy]
    · simp [arrived]

/-- A RESTART's change before the fresh moves. -/
def State.restartCleared (s : State) : State := s.workCleared.shutDown

theorem State.restartEffect_eq (s : State) :
    s.restartEffect = ((freeOrder (s.restartCleared.freshMoves s) s.restartCleared).1.foldl State.admitFresh
      (freeOrder (s.restartCleared.freshMoves s) s.restartCleared).2).updHandler
      (fun h => { h with restartPending := false }) := rfl

end Sys2Proof.Machine
end

section
/-! PROOFS. RESTART (R55, R84, R93, R112, R142, R168, R193, R214). -/

namespace Sys2Proof.Machine

open Sys2Proof

variable {s t u : State} {m : Move}

/-- What a RESTART clears before its fresh moves, in a change from `s` (R55, R84, R93, R142, R193, R214). -/
structure State.ClearedTo (s c : State) : Prop where
  eq : ∃ q a x tx flag ports ahead mn sn, c = { s with
    queue := q, catalogue := a, census := x, tx := tx, noSlot := flag, ports := ports, ahead := ahead
    materialNotices := mn, serviceNotices := sn, announcements := [], tenure := ⟨none, 0⟩ }
  queue : c.queue = s.workWithdrawn.queue
  records : c.steady.records = s.steady.records
  ports : ∀ p, c.port p = (s.port p).restarted ∧ c.aheadOf p = (s.aheadOf p).emptied
  notices : ∀ l k, ((c.noticeSet l).entry k).pending = c.conditionHolds k
    ∧ ((c.noticeSet l).entry k).detail = ((s.noticeSet l).entry k).detail
    ∧ ((c.noticeSet l).entry k).masked = ((s.noticeSet l).entry k).masked
  tally : c.census.tally = s.census.tally
  range : c.census.range = s.census.range
  idle : s.workWithdrawn.executing .scan = false → c.census.state = .idle
  stopping : s.workWithdrawn.census.state ≠ .idle → s.workWithdrawn.executing .scan = true → c.census.state = .stopping
  told : s.workWithdrawn.Told c

/-- What a RESTART admits afresh after what it cleared, `ys` in `u` (R55, R112). -/
structure State.Refills (s c u : State) (ys : List Move) : Prop where
  eq : ∃ n t, State.Freshens { c with choices := n } t ys ∧ u = t.updHandler (fun h => { h with restartPending := false })
  perm : (ys.map (fun m => (m.kind, m.source))).Perm ((c.freshMoves s).flatMap c.freshEntry)
  found : ∀ f ∈ c.freshMoves s, c.FreshFound ys f
  told : c.Told u

theorem State.restartEffect_refills (s : State) : ∃ ys, s.Refills s.restartCleared s.restartEffect ys := by
  rw [State.restartEffect_eq]
  generalize s.restartCleared = c
  obtain ⟨n, ordered⟩ := freeOrder_state c (c.freshMoves s)
  have perm := freeOrder_perm (c.freshMoves s) c
  rw [ordered]
  generalize (freeOrder (c.freshMoves s) c).1 = fs at perm
  obtain ⟨ys, fresh, entries, found⟩ := State.freshens_admitAll fs { c with choices := n }
  have told : c.Told ((fs.foldl State.admitFresh { c with choices := n }).updHandler fun h => { h with restartPending := false }) := by
    have chosen : c.Told { c with choices := n } := .of_tx_eq rfl
    have admitted := (State.advances_foldl State.advances_admitFresh fs { c with choices := n }).sends.told
    exact (chosen.trans admitted).trans (.of_tx_eq rfl)
  refine ⟨ys, ⟨n, _, fresh, rfl⟩, ?_, fun f hf => found f (perm.mem_iff.mpr hf), told⟩
  rw [entries]
  exact perm.flatMap_right _

theorem State.restartCleared_restartsPort (s : State) (p : Port) :
    s.restartCleared.port p = (s.port p).restarted ∧ s.restartCleared.aheadOf p = (s.aheadOf p).emptied := by
  obtain ⟨⟨_, _, _, _, _, work⟩, _⟩ := s.workCleared_spec
  obtain ⟨_, each, _⟩ := s.workCleared.shutDown_spec
  obtain ⟨port, list⟩ := each p
  rw [State.restartCleared, port, list, work]
  exact ⟨rfl, rfl⟩

theorem State.restartCleared_clears (s : State) : s.ClearedTo s.restartCleared := by
  obtain ⟨⟨q, c, x, tx, flag, work⟩, queue, census, records, stands, told⟩ := s.workCleared_spec
  obtain ⟨⟨y, tx', ports, ahead, mn, sn, shut⟩, _, notices, tally, range, idle, stopping, told'⟩ := s.workCleared.shutDown_spec
  have executing : s.workCleared.executing .scan = s.workWithdrawn.executing .scan := by
    rw [State.executing, State.executing, State.anyMove, State.anyMove, queue]
  have sets (l : NoticeLink) : s.workCleared.noticeSet l = s.noticeSet l := by
    rw [work]
    cases l <;> rfl
  obtain ⟨tally', range'⟩ : s.workCleared.census.tally = s.census.tally ∧ s.workCleared.census.range = s.census.range := by
    rcases stands with h | h <;> rw [h] <;> exact ⟨rfl, rfl⟩
  have each := s.restartCleared_restartsPort
  unfold State.restartCleared at each ⊢
  refine ⟨⟨q, c, y, tx', flag, ports, ahead, mn, sn, by rw [shut, work]⟩, ?_, ?_, each, fun l k => ?_, tally.trans tally',
    range.trans range', fun quiet => idle (executing.trans quiet), fun live busy => stopping (by rwa [census]) (executing.trans busy),
    told.trans told'⟩
  · rw [← queue, shut]
  · rw [← records, shut]
    rfl
  · rw [← sets]
    exact notices l k

theorem State.executing_workWithdrawn (s : State) (k : MoveKind) :
    s.workWithdrawn.executing k = true → ∃ m ∈ s.queue, m.kind = k ∧ m.state = .executing := fun busy => by
  obtain ⟨m, hm, here⟩ := List.any_eq_true.mp busy
  have old := (State.mem_withdrawWhere _ _ _ m).mp hm
  exact ⟨m, ((State.mem_withdrawWhere _ _ _ m).mp old.1).1, by simpa using here⟩

/-- The census of a RESTART whose SCANs are all EXECUTING is not withdrawn (R193). -/
theorem State.workWithdrawn_census (h : ∀ m ∈ s.queue, m.kind = .scan → m.state = .executing) :
    s.workWithdrawn.census = s.census := by
  have keeps (a : State) (sub : ∀ m ∈ a.queue, m ∈ s.queue) (f : Move → Bool) (r : Option Reason) :
      (a.withdrawWhere f r).census = a.census := by
    refine a.withdrawWhere_ind (fun t => t.census = a.census) f r (fun t m hm waits _ same => ?_) rfl
    have plain : m.kind ≠ .scan := fun scan => by simp [Move.isWaiting, h m (sub m hm) scan] at waits
    obtain ⟨_, eq⟩ := t.withdraw_eq m r
    rw [eq, if_neg plain]
    exact same
  exact (keeps _ (fun m hm => ((State.mem_withdrawWhere _ _ _ m).mp hm).1) _ _).trans (keeps s (fun m hm => hm) _ _)

/-- A RESTART that takes effect (R168). -/
theorem State.ClearedTo.restartsTo {c : State} (clears : s.ClearedTo c) {ys : List Move} (refills : s.Refills c u ys) :
    s.RestartsTo u := by
  obtain ⟨⟨n, t, fresh, eq⟩, perm, found, told⟩ := refills
  obtain ⟨⟨_, _, _, _, _, _, _, _, _, cleared⟩, queue, records, each, notices, tally, range, idle, stopping, told'⟩ := clears
  obtain ⟨c', x', mn', sn', tx', frame⟩ := fresh.eq
  have port (p : Port) : u.port p = (s.port p).restarted ∧ u.aheadOf p = (s.aheadOf p).emptied := by
    rw [← (each p).1, ← (each p).2, eq, frame]
    exact ⟨rfl, rfl⟩
  have records' : u.steady.records = s.steady.records := by
    rw [← records, eq]
    exact fresh.records
  have queue' : u.queue = s.workWithdrawn.queue ++ ys := by rw [← queue, eq, frame]; rfl
  have nextSeq : u.nextSeq = s.nextSeq + BitVec.ofNat 32 ys.length := by
    rw [eq, frame, cleared]
    rfl
  have clock : c.clock = s.clock := by rw [cleared]
  have waits {y : Move} (hy : y ∈ ys) : y.isWaiting = true := decide_eq_true (fresh.fresh y hy).1
  have census : u.census = c.census := by rw [eq, frame]; rfl
  have holds (k : NoticeKind) : u.conditionHolds k = c.conditionHolds k := by
    have size : u.catalogue.length = c.catalogue.length := by
      have := congrArg List.length (records'.trans records.symm)
      simpa [State.steady] using this
    refine State.conditionHolds_congr ?_ ?_ ?_ ?_ ?_ ?_ ?_ size k <;> rw [eq, frame] <;> rfl
  have freshIn {f : FreshMove} (hf : f ∈ c.freshMoves s) : c.FreshFound ys f := found f hf
  have memFresh {p : Port} {f : FreshMove} (hf : f ∈ c.freshOfPort s p) : f ∈ c.freshMoves s :=
    List.mem_append_left _ (List.mem_append_left _ (List.mem_flatMap.mpr ⟨p, mem_allPorts p, hf⟩))
  have nest (p : Port) : c.toolNest p = if s.toolNest p = .outWait then .outLapsed else s.toolNest p := by
    rw [State.toolNest, (each p).1, PortRec.restarted_nest]
    rfl
  refine ⟨?_, ?_, ?_, ?_, records', fun p => ?_, fun y hy state => ?_, fun distinct => ?_, fun p r here known => ?_,
    fun p y returned waiting => ?_, fun y hy id waiting plain named l from_ opened => ?_, fun l k => ?_, ?_, ?_, fun quiet => ?_,
    fun distinct live busy all => ?_⟩
  · rw [eq, frame, cleared]
    rfl
  · rw [eq, frame, cleared]
    rfl
  · rw [eq, frame, cleared]
    rfl
  · rw [eq, frame, cleared]
    rfl
  · obtain ⟨same, lists⟩ := port p
    obtain ⟨state, liveness⟩ := (s.port p).restarted_state
    rw [State.toolNest, same, lists, PortRec.restarted_nest]
    refine ⟨state, liveness, ?_, ?_, rfl⟩
    · simp only [CallAhead.nextList, CallAhead.emptied, Vector.get_eq_getElem, Vector.getElem_set]
      split
      · rfl
      · rfl
    · simp only [CallAhead.activeList, CallAhead.emptied, Vector.get_eq_getElem, Vector.getElem_set_self]
  · rw [queue'] at hy
    rcases List.mem_append.mp hy with old | new
    · have := s.workWithdrawn_waiting old
      simp [Move.isWaiting, state] at this
    · obtain ⟨_, enqueued, internal, kind⟩ := fresh.fresh y new
      exact ⟨enqueued.trans clock, internal, kind⟩
  · have executing : s.workWithdrawn.queue.filter (fun m => m.state = .executing) = s.queue.filter (fun m => m.state = .executing) := by
      rw [s.workWithdrawn_queue distinct, List.filter_filter]
      refine List.filter_congr fun y _ => ?_
      cases y with
      | mk => simp only [Move.isWaiting]; cases ‹MoveState› <;> rfl
    have none_ : ys.filter (fun m => m.state = .executing) = [] :=
      List.filter_eq_nil_iff.mpr fun y hy => by simp [(fresh.fresh y hy).1]
    have idle : s.workWithdrawn.queue.filter (·.isWaiting) = [] :=
      List.filter_eq_nil_iff.mpr fun y hy => by simp [s.workWithdrawn_waiting hy]
    have all : ys.filter (·.isWaiting) = ys := List.filter_eq_self.mpr fun y hy => waits hy
    have entries := State.freshMoves_entries (s := s) (t := c) (by rw [queue]; exact executing) records
      (fun p => congrArg PortRec.nest (each p).1) (by rw [cleared]) (by rw [cleared])
    rw [entries] at perm
    refine ⟨?_, ?_, ?_⟩
    · rw [queue', List.filter_append, none_, List.append_nil, executing]
    · rw [queue', List.filter_append, idle, all, List.nil_append]
      exact perm
    · have size := perm.length_eq
      rw [List.length_map] at size
      rw [nextSeq, size]
  · have lapsed : c.toolNest p = .outLapsed := by
      rw [nest p]
      rcases here with h | h <;> rw [h] <;> rfl
    have offered : FreshMove.reclaim p ∈ c.freshOfPort s p := by
      rw [State.freshOfPort, lapsed]
      exact List.mem_singleton_self _
    have onNest : (c.onNest p).map (·.id) = some r.id := by
      rw [State.onNest, State.recordAt_ids records, known]
      rfl
    obtain ⟨y, hy, kind, source, reticle⟩ := freshIn (memFresh offered) r.id onNest
    exact ⟨y, by rw [queue']; exact List.mem_append_right _ hy, kind, source, reticle, waits hy⟩
  · have still : c.toolNest p = .returned := by rw [nest p, returned]; rfl
    have offered : FreshMove.collect p y.reticle ∈ c.freshOfPort s p := by
      have same : s.queue.find? (fun m => m.kind = .collect && m.source = .nest (.t p) && m.isWaiting) = some y := waiting
      rw [State.freshOfPort, still]
      dsimp only
      rw [same]
      exact List.mem_singleton_self _
    obtain ⟨z, hz, kind, source, reticle, test⟩ := freshIn (memFresh offered)
    exact ⟨z, by rw [queue']; exact List.mem_append_right _ hz, by simp [Move.waitsAt, kind, source, waits hz], reticle, test⟩
  · have first := s.workWithdrawn_told hy waiting plain named from_ opened
    have before : s.Told s.workWithdrawn :=
      ((s.advances_withdrawWhere _ _).trans (State.advances_withdrawWhere _ _ _)).sends.told
    exact State.Told.mem_drop before (told'.trans told) first
  · obtain ⟨pending, detail, masked⟩ := notices l k
    obtain ⟨masked', rest⟩ := fresh.notices l k
    have same : u.noticeSet l = t.noticeSet l := by rw [eq]; cases l <;> rfl
    have chosen : State.noticeSet { c with choices := n } l = c.noticeSet l := by cases l <;> rfl
    rw [chosen] at masked' rest
    rw [same, holds]
    exact ⟨masked'.trans masked, fun other => ⟨(rest other).1.trans pending, (rest other).2.trans detail⟩⟩
  · rw [census]
    exact tally
  · rw [census]
    exact range
  · rw [census]
    refine idle ((Bool.not_eq_true _).mp fun busy => ?_)
    obtain ⟨y, hy, scan⟩ := s.executing_workWithdrawn .scan busy
    exact quiet y hy scan
  · rw [census]
    refine stopping (by rw [State.workWithdrawn_census all]; exact live) ?_
    obtain ⟨y, hy, scan, state⟩ := busy
    have here : y ∈ s.workWithdrawn.queue := by
      rw [s.workWithdrawn_queue distinct]
      exact List.mem_filter.mpr ⟨hy, by simp [Move.isWaiting, state]⟩
    exact List.any_eq_true.mpr ⟨y, here, by simp [scan, state]⟩

theorem State.restartsTo_restartEffect (s : State) : s.RestartsTo s.restartEffect := by
  obtain ⟨ys, refills⟩ := s.restartEffect_refills
  exact s.restartCleared_clears.restartsTo refills

/-! ## RESTART -/

theorem execRestart_service (s : State) (tag : Byte) :
    exec (.restart .service tag (some ())) s
      = .next (((s.updHandler (fun h => { h with restartPending := true })).settleHandler s).send (.request .service)
          (.answer tag FrameKind.restart.byte .ok (.restart s.handler.busy))) := rfl

theorem State.settleHandler_restarts {a b : State} (pending : b.handler.restartPending = true)
    (still : b.handler.state = .idle ∨ b.handler.state = .halted) :
    b.settleHandler a = b.restartEffect.settle a ⟨false, none, false, true⟩ := if_pos ⟨pending, still⟩

theorem State.settleHandler_waits {a b : State}
    (h : b.handler.restartPending = false ∨ (b.handler.state ≠ .idle ∧ b.handler.state ≠ .halted)) :
    b.settleHandler a = b.settle a noTouch := by
  refine if_neg fun ⟨pending, still⟩ => ?_
  rcases h with clear | ⟨idle, halted⟩
  · rw [clear] at pending
    cases pending
  · exact still.elim idle halted

/-- Settles O46: RESTART notes the request and settles the handler interface, where the effect takes place. -/
theorem restartClearsWaitingWork : Obligations.RestartClearsWaitingWork := by
  refine ⟨fun s tag => ⟨fun idle halted => ?_, fun still => ?_⟩, fun a b => ⟨fun pending still => ?_, State.settleHandler_waits⟩⟩
  · have busy : s.handler.busy = true := by simp [Handler.busy, idle, halted]
    rw [execRestart_service, busy, State.settleHandler_waits
      (b := s.updHandler (fun h => { h with restartPending := true })) (.inr ⟨idle, halted⟩)]
    rfl
  · have free : s.handler.busy = false := by rcases still with h | h <;> simp [Handler.busy, h]
    let b := s.updHandler (fun h => { h with restartPending := true })
    refine ⟨b.restartEffect, ?_, ?_⟩
    · rw [execRestart_service, free, State.settleHandler_restarts (b := b) rfl still]
    · have restarts := b.restartsTo_restartEffect
      exact ⟨restarts.tenure, restarts.announcements, restarts.handler, restarts.slots, restarts.records, restarts.ports,
        restarts.waiting, restarts.queue, restarts.reclaims, restarts.collects, restarts.told, restarts.notices, restarts.tally,
        restarts.range, restarts.censusIdle, restarts.censusStopping⟩
  · exact ⟨b.restartEffect, State.settleHandler_restarts pending still, b.restartsTo_restartEffect⟩

end Sys2Proof.Machine
end

section
/-! PROOFS. The prestage window: its review and its requests (R85 to R89). -/

namespace Sys2Proof.Machine

open Sys2Proof

variable {s t u : State} {m : Move} {p : Port} {w : List Ident}

/-! ## The review (R88) -/

/-- A record without its binding. -/
def Rec.unbound (r : Rec) : Rec := { r with binding := none }

/-- Two catalogues that differ in bindings alone. -/
def State.SameUnbound (s t : State) : Prop := t.catalogue.map Rec.unbound = s.catalogue.map Rec.unbound

theorem State.SameUnbound.record (h : s.SameUnbound t) (id : Ident) :
    (t.record id).map Rec.unbound = (s.record id).map Rec.unbound := by
  have found (a : State) : (a.record id).map Rec.unbound = (a.catalogue.map Rec.unbound).find? (fun r => r.id = id) := by
    simp only [State.record, List.find?_map]
    rfl
  rw [found, found, h]

theorem State.SameUnbound.any (h : s.SameUnbound t) (id : Ident) {f : Rec → Bool} (free : ∀ r, f r.unbound = f r) :
    (t.record id).any f = (s.record id).any f := by
  have through (a : State) : (a.record id).any f = ((a.record id).map Rec.unbound).any f := by
    cases a.record id with
    | none => rfl
    | some r => exact (free r).symm
  rw [through, through, h.record]

theorem State.locatedAt_any (s : State) (id : Ident) (x : Location) :
    s.locatedAt id x = (s.record id).any (fun r => r.location = x) := by
  unfold State.locatedAt
  cases s.record id <;> rfl

/-- What the review reads of a move's record and target stands when slots do, and records but for bindings. -/
theorem State.SameUnbound.prestageUnwanted (h : s.SameUnbound t) (slots : t.slots = s.slots) (w : List Ident) (m : Move) :
    t.prestageUnwanted w m = s.prestageUnwanted w m := by
  have slot (n : Slot) : t.slot n = s.slot n := by rw [State.slot, State.slot, slots]
  have fit (id : Ident) := h.any id (f := Rec.fit) fun _ => rfl
  have source : t.atSource m = s.atSource m := by
    unfold State.atSource
    split
    · rw [State.locatedAt_any, State.locatedAt_any]
      exact h.any _ fun _ => rfl
    · rfl
  unfold State.prestageUnwanted
  split
  · rw [source, slot, fit]
  · rfl

/-- What the review makes of a move: none when it is withdrawn (R88). -/
def State.reviewed (s : State) (p : Port) (w : List Ident) (m : Move) : Option Move :=
  if m.isWaiting = true ∧ m.beneficiary = some p then
    match m.kind with
    | .prestage => if s.prestageUnwanted w m then none else some { m with listPosition := m.reticle.bind (windowPosition w) }
    | .destage => if m.reticle.any (fun id => w.contains id) then none else some m
    | _ => some m
  else some m

theorem State.reviewed_prestage (waits : m.isWaiting = true) (own : m.beneficiary = some p) (kind : m.kind = .prestage) :
    s.reviewed p w m
      = if s.prestageUnwanted w m then none else some { m with listPosition := m.reticle.bind (windowPosition w) } := by
  simp only [State.reviewed, waits, own, kind, and_self, if_true]

theorem State.reviewed_destage (waits : m.isWaiting = true) (own : m.beneficiary = some p) (kind : m.kind = .destage) :
    s.reviewed p w m = if m.reticle.any (fun id => w.contains id) then none else some m := by
  simp only [State.reviewed, waits, own, kind, and_self, if_true]

theorem State.reviewed_other (h : m.state ≠ .waiting ∨ m.beneficiary ≠ some p ∨ (m.kind ≠ .prestage ∧ m.kind ≠ .destage)) :
    s.reviewed p w m = some m := by
  unfold State.reviewed
  split
  · next own =>
    rcases h with busy | other | ⟨noPrestage, noDestage⟩
    · exact absurd (of_decide_eq_true own.1) busy
    · exact absurd own.2 other
    · cases kind : m.kind with
      | prestage => exact absurd kind noPrestage
      | destage => exact absurd kind noDestage
      | _ => rfl
  · rfl

theorem State.reviewed_seq {y : Move} (h : s.reviewed p w m = some y) : y.seq = m.seq := by
  unfold State.reviewed at h
  split at h
  · split at h
    · split at h
      · cases h
      · cases h; rfl
    · split at h
      · cases h
      · cases h; rfl
    · cases h; rfl
  · cases h; rfl

/-- The review withdraws a move or writes its window position. -/
theorem State.reviewMove_cases (s : State) (p : Port) (w : List Ident) (m : Move) :
    (s.reviewed p w m = none ∧ s.reviewMove p w m = s.dropMove m.seq)
      ∨ ∃ y, s.reviewed p w m = some y
        ∧ (s.reviewMove p w m = s ∧ y = m ∨ ∃ f : Move → Move, s.reviewMove p w m = s.updMove m.seq f ∧ f m = y) := by
  have withdrawn (kind : m.kind ≠ .scan) : s.withdraw m none = s.dropMove m.seq := by
    unfold State.withdraw
    dsimp only
    rw [if_neg kind]
  unfold State.reviewMove
  split
  · next own =>
    obtain ⟨waits, own⟩ := (Bool.and_eq_true_iff).mp own
    have own := of_decide_eq_true own
    split
    · next kind =>
      rw [State.reviewed_prestage waits own kind]
      split
      · exact .inl ⟨rfl, withdrawn (by simp [kind])⟩
      · refine .inr ⟨_, rfl, ?_⟩
        dsimp only
        split
        · next same => exact .inl ⟨rfl, by rw [← same]⟩
        · exact .inr ⟨_, rfl, rfl⟩
    · next kind =>
      rw [State.reviewed_destage waits own kind]
      split
      · exact .inl ⟨rfl, withdrawn (by simp [kind])⟩
      · exact .inr ⟨m, rfl, .inl ⟨rfl, rfl⟩⟩
    · next noPrestage noDestage =>
      exact .inr ⟨m, State.reviewed_other (.inr (.inr ⟨noPrestage, noDestage⟩)), .inl ⟨rfl, rfl⟩⟩
  · next other =>
    refine .inr ⟨m, State.reviewed_other ?_, .inl ⟨rfl, rfl⟩⟩
    by_cases waits : m.state = .waiting
    · exact .inr (.inl fun own => other (by simp [Move.isWaiting, waits, own]))
    · exact .inl waits

theorem State.reviewed_congr (h : s.SameUnbound t) (slots : t.slots = s.slots) (m : Move) :
    t.reviewed p w m = s.reviewed p w m := by
  unfold State.reviewed
  simp only [h.prestageUnwanted slots]

/-- The review of the moves not yet seen, in their order. -/
theorem State.review_fold (s : State) (p : Port) (w : List Ident) (rest done : List Move) (t : State) (c : List Rec)
    (eq : t = { s with queue := done ++ rest, catalogue := c }) (same : s.SameUnbound t)
    (distinct : ((done ++ rest).map (·.seq)).Nodup) :
    ∃ c, rest.foldl (fun t m => t.reviewMove p w m) t
        = { s with queue := done ++ rest.filterMap (s.reviewed p w), catalogue := c }
      ∧ c.map Rec.unbound = s.catalogue.map Rec.unbound := by
  induction rest generalizing done t c with
  | nil => exact ⟨c, by rw [eq]; rfl, by rw [eq] at same; exact same⟩
  | cons m rest ih =>
    have reviewed : t.reviewed p w m = s.reviewed p w m := State.reviewed_congr same (by rw [eq]) m
    have apart : ∀ x ∈ done ++ rest, x.seq ≠ m.seq := by
      rw [List.map_append, List.map_cons, List.nodup_middle, ← List.map_append] at distinct
      exact fun x hx number => (List.nodup_cons.mp distinct).1 (number ▸ List.mem_map_of_mem hx)
    have early (x : Move) (hx : x ∈ done) : x.seq ≠ m.seq := apart x (List.mem_append_left _ hx)
    have late (x : Move) (hx : x ∈ rest) : x.seq ≠ m.seq := apart x (List.mem_append_right _ hx)
    rw [List.foldl_cons]
    rcases t.reviewMove_cases p w m with ⟨gone, step⟩ | ⟨y, kept, step⟩
    · have queue : (done ++ m :: rest).filter (fun x => !decide (x.seq = m.seq)) = done ++ rest := by
        rw [List.filter_append, List.filter_cons_of_neg (by simp), List.filter_eq_self.mpr fun x hx => by simp [early x hx],
          List.filter_eq_self.mpr fun x hx => by simp [late x hx]]
      obtain ⟨c', final, same'⟩ := ih done (t.reviewMove p w m)
        (c.map (fun r => if r.binding = some m.seq then { r with binding := none } else r)) (by
          rw [step, eq]
          simp only [State.dropMove, State.release, queue]) (by
          rw [step]
          refine Eq.trans ?_ same
          simp only [State.dropMove, State.release, List.map_map]
          refine List.map_congr_left fun r _ => ?_
          simp only [Function.comp]
          split <;> rfl) (by
          rw [List.map_append, List.map_cons, List.nodup_middle, ← List.map_append] at distinct
          exact (List.nodup_cons.mp distinct).2)
      exact ⟨c', by rw [final, List.filterMap_cons_none (reviewed ▸ gone)], same'⟩
    · have number : y.seq = m.seq := State.reviewed_seq kept
      have stepped : t.reviewMove p w m = { s with queue := (done ++ [y]) ++ rest, catalogue := c } := by
        rcases step with ⟨step, rfl⟩ | ⟨f, step, rfl⟩
        · rw [step, eq, List.append_assoc]
          rfl
        · have own (x : Move) (other : x.seq ≠ m.seq) : (if x.seq = m.seq then f x else x) = x := if_neg other
          rw [step, eq, State.updMove]
          simp only [List.map_append, List.map_cons, if_true, List.append_assoc, List.cons_append, List.nil_append]
          rw [List.map_congr_left (fun x hx => own x (early x hx)), List.map_congr_left (fun x hx => own x (late x hx))]
          simp
      obtain ⟨c', final, same'⟩ := ih (done ++ [y]) (t.reviewMove p w m) c stepped (by
          rw [stepped]
          rw [eq] at same
          exact same) (by
          rw [List.append_assoc, List.singleton_append, List.map_append, List.map_cons, number]
          rwa [List.map_append, List.map_cons] at distinct)
      exact ⟨c', by rw [final, List.filterMap_cons_some (reviewed ▸ kept), List.append_assoc]; rfl, same'⟩

/-- The review of a port's window (R88). -/
theorem State.review_spec (distinct : s.SeqsDistinct) (p : Port) :
    ∃ c, s.review p = { s with queue := s.queue.filterMap (s.reviewed p (s.window p)), catalogue := c }
      ∧ c.map Rec.unbound = s.catalogue.map Rec.unbound :=
  s.review_fold p (s.window p) s.queue [] s s.catalogue rfl rfl distinct

/-- A map of a queue that keeps numbers or drops moves drops numbers alone. -/
theorem filterMap_seq_sublist {g : Move → Option Move} (keeps : ∀ m y, g m = some y → y.seq = m.seq) (ms : List Move) :
    ((ms.filterMap g).map (·.seq)).Sublist (ms.map (·.seq)) := by
  induction ms with
  | nil => exact List.Sublist.refl _
  | cons m ms ih =>
    cases h : g m with
    | none =>
      rw [List.filterMap_cons_none h]
      exact ih.cons _
    | some y =>
      rw [List.filterMap_cons_some h, List.map_cons, List.map_cons, keeps m y h]
      exact ih.cons_cons _

theorem State.review_gone (distinct : s.SeqsDistinct) (here : m ∈ s.queue) (gone : s.reviewed p (s.window p) m = none) :
    (s.review p).move? m.seq = none := by
  obtain ⟨c, eq, _⟩ := State.review_spec distinct p
  refine List.find?_eq_none.mpr fun x hx number => ?_
  rw [eq] at hx
  obtain ⟨z, hz, same⟩ := List.mem_filterMap.mp hx
  have numbers : z.seq = m.seq := (State.reviewed_seq same).symm.trans (of_decide_eq_true number)
  rw [List.inj_on_of_nodup_map distinct hz here numbers, gone] at same
  cases same

theorem State.review_kept (distinct : s.SeqsDistinct) {y : Move} (here : m ∈ s.queue)
    (kept : s.reviewed p (s.window p) m = some y) : y ∈ (s.review p).queue := by
  obtain ⟨c, eq, _⟩ := State.review_spec distinct p
  rw [eq]
  exact List.mem_filterMap.mpr ⟨m, here, kept⟩

theorem windowPosition_iff (w : List Ident) (id : Ident) (pos : Fin 2) :
    windowPosition w id = some pos ↔ w[pos.val]? = some id ∧ (pos = 1 → w[0]? ≠ some id) := by
  unfold windowPosition
  by_cases first : w[0]? = some id
  · rw [if_pos first]
    constructor
    · intro h
      cases h
      exact ⟨first, fun one => absurd one (by decide)⟩
    · rintro ⟨_, later⟩
      have zero : pos ≠ 1 := fun one => later one first
      exact congrArg some (by omega)
  · rw [if_neg first]
    constructor
    · intro h
      split at h
      · next second =>
        cases h
        exact ⟨second, fun _ => first⟩
      · cases h
    · rintro ⟨at_, _⟩
      have one : pos = 1 := by
        by_contra other
        have zero : pos = 0 := by omega
        exact first (by rw [zero] at at_; exact at_)
      subst one
      exact if_pos at_

/-- A record fit at a slot. -/
def State.FitAt (s : State) (id : Ident) (n : Slot) : Prop :=
  ∃ r, s.record id = some r ∧ r.location = .slot n ∧ r.condition = .ready ∧ r.held = false

theorem Rec.fit_iff (r : Rec) : r.fit = true ↔ r.condition = .ready ∧ r.held = false := by
  simp [Rec.fit]

/-- A PRESTAGE stays for its reticle in the window, fit and at its source, and its target EMPTY (R88). -/
theorem State.prestageUnwanted_iff (s : State) (w : List Ident) (m : Move) :
    s.prestageUnwanted w m = false ↔ ∃ pos id n k, m.reticle = some id ∧ m.source = .slot k ∧ m.target = .pos (.slot n)
      ∧ s.FitAt id k ∧ s.slot n = .empty ∧ windowPosition w id = some pos := by
  unfold State.prestageUnwanted
  constructor
  · intro wanted
    split at wanted
    · next id n names target =>
      simp only [Bool.or_eq_false_iff, Bool.not_eq_false', decide_eq_true_iff] at wanted
      obtain ⟨⟨⟨inWindow, fit⟩, source⟩, empty⟩ := wanted
      obtain ⟨pos, position⟩ := Option.isSome_iff_exists.mp (Option.isNone_eq_false_iff.mp inWindow)
      have targets : m.target = .pos (.slot n) := by
        cases holds : m.target with
        | pos x => cases x <;> simp_all [Target.slot?, Target.pos?, Position.slot?]
        | _ => simp [holds, Target.slot?, Target.pos?] at target
      unfold State.atSource at source
      rw [names] at source
      split at source
      · next id' k same from_ =>
        cases same
        obtain ⟨r, known, here⟩ := (s.locatedAt_iff _ _).mp source
        rw [known] at fit
        obtain ⟨ready, free⟩ := (Rec.fit_iff r).mp fit
        exact ⟨pos, _, n, k, names, from_, targets, ⟨r, known, here, ready, free⟩, empty, position⟩
      · cases source
    · cases wanted
  · rintro ⟨pos, id, n, k, names, from_, targets, ⟨r, known, here, ready, free⟩, empty, position⟩
    have source : s.atSource m = true := by
      rw [State.atSource, names, from_]
      exact (s.locatedAt_iff _ _).mpr ⟨r, known, here⟩
    have target : m.target.slot? = some n := by rw [targets]; rfl
    rw [names, target]
    simp [position, known, (Rec.fit_iff r).mpr ⟨ready, free⟩, source, empty]

/-! ## The requests (R86, R87) -/

/-- A window entry that a port wants from a storage slot (R86). -/
def State.Wants (s : State) (p : Port) (id : Ident) (k : Fin 384) : Prop :=
  (s.port p).state = .attached ∧ s.FitAt id (ofStorage k) ∧ (∃ r, s.record id = some r ∧ r.binding = none)
    ∧ (s.resolve (shelfOf k)).serveMask.getLsbD p.val = true

theorem ofStorage_of_toStorage {n : Slot} {k : Fin 384} (h : toStorage n = some k) : n = ofStorage k := by
  unfold toStorage at h
  split at h
  · cases h
    rfl
  · cases h

theorem State.prestageSource_of_wants {id : Ident} {k : Fin 384} (h : s.Wants p id k) :
    s.prestageSource p id = some (ofStorage k) := by
  obtain ⟨attached, ⟨r, known, here, ready, held⟩, ⟨x, known', unbound⟩, serves⟩ := h
  rw [known] at known'
  cases known'
  unfold State.prestageSource
  rw [known]
  dsimp only
  rw [here]
  dsimp only
  rw [toStorage_ofStorage]
  exact if_pos ⟨attached, (Rec.fit_iff r).mpr ⟨ready, held⟩, unbound, serves⟩

theorem State.wants_of_prestageSource {id : Ident} {n : Slot} (h : s.prestageSource p id = some n) :
    ∃ k, n = ofStorage k ∧ s.Wants p id k := by
  unfold State.prestageSource at h
  split at h
  · next r known =>
    split at h
    · next j here =>
      split at h
      · next k storage =>
        split at h
        · next wanted =>
          cases h
          obtain ⟨attached, fit, unbound, serves⟩ := wanted
          obtain ⟨ready, held⟩ := (Rec.fit_iff r).mp fit
          have place := ofStorage_of_toStorage storage
          exact ⟨k, place, attached, ⟨r, known, here.trans (congrArg _ place), ready, held⟩, ⟨r, known, unbound⟩, serves⟩
        · cases h
      · cases h
    · cases h
  · cases h

theorem State.prestageSource_isSome (s : State) (p : Port) (id : Ident) :
    (s.prestageSource p id).isSome = true ↔ ∃ k, s.Wants p id k := by
  constructor
  · intro h
    obtain ⟨n, found⟩ := Option.isSome_iff_exists.mp h
    obtain ⟨k, _, wants⟩ := State.wants_of_prestageSource found
    exact ⟨k, wants⟩
  · rintro ⟨k, wants⟩
    rw [State.prestageSource_of_wants wants]
    rfl

/-- A slot that no move stages and nothing holds (R86). -/
def State.FreeToStage (s : State) (n : Slot) : Prop :=
  s.slot n = .empty ∧ s.execSourceSlot ≠ some n
    ∧ ∀ m ∈ s.queue, m.kind = .prestage ∨ m.kind = .destage → m.source ≠ .slot n ∧ m.target ≠ .pos (.slot n)

theorem State.stagingFree_iff (s : State) (n : Slot) : s.stagingFree n = true ↔ s.FreeToStage n := by
  unfold State.stagingFree State.FreeToStage
  simp only [Bool.and_eq_true, Bool.not_eq_true', decide_eq_true_iff, decide_eq_false_iff_not, and_assoc, State.anyMove,
    List.any_eq_false, Move.stages, Bool.or_eq_true, not_and, not_or]

theorem State.freeStaging_first (h : s.FreeToStage (stagingSlot p 0)) : s.freeStaging p = some (stagingSlot p 0) := by
  rw [State.freeStaging, List.find?_cons_of_pos ((s.stagingFree_iff _).mpr h)]

theorem State.freeStaging_second (taken : ¬ s.FreeToStage (stagingSlot p 0)) (h : s.FreeToStage (stagingSlot p 1)) :
    s.freeStaging p = some (stagingSlot p 1) := by
  rw [State.freeStaging, List.find?_cons_of_neg (fun free => taken ((s.stagingFree_iff _).mp free)),
    List.find?_cons_of_pos ((s.stagingFree_iff _).mpr h)]

theorem State.freeStaging_none (s : State) (p : Port) :
    s.freeStaging p = none ↔ ¬ s.FreeToStage (stagingSlot p 0) ∧ ¬ s.FreeToStage (stagingSlot p 1) := by
  rw [State.freeStaging, List.find?_eq_none]
  simp only [List.mem_cons, List.not_mem_nil, or_false, forall_eq_or_imp, forall_eq, s.stagingFree_iff]

theorem State.askPrestage_some {id : Ident} {pos : Fin 2} {k : Fin 384} {n : Slot} (wants : s.Wants p id k)
    (free : s.freeStaging p = some n) : s.askPrestage p id pos = s.offerPrestage (prestageOffer p id pos (ofStorage k) n) := by
  unfold State.askPrestage
  rw [State.prestageSource_of_wants wants, free]

theorem State.askPrestage_none {id : Ident} (pos : Fin 2) (h : (∀ k, ¬ s.Wants p id k) ∨ s.freeStaging p = none) :
    s.askPrestage p id pos = s := by
  unfold State.askPrestage
  split
  · next n free source staging =>
    obtain ⟨k, _, wants⟩ := State.wants_of_prestageSource source
    rcases h with no | none_
    · exact absurd wants (no k)
    · rw [none_] at staging
      cases staging
  · rfl

theorem State.askDestage_some {wanted : Nat} {n : Slot} {id : Ident} (filled : s.slot n = .filled id) (away : id ∉ s.window p)
    (unbound : ∃ r, s.record id = some r ∧ r.binding = none) :
    s.askDestage p wanted n = if s.destages p < wanted then s.offerInward (destageOffer p id n) else s := by
  obtain ⟨r, known, free⟩ := unbound
  have may : s.destageable p n = some id := by
    unfold State.destageable
    rw [filled]
    dsimp only
    rw [if_pos (by simp [away, known, free])]
  unfold State.askDestage
  rw [may]

theorem State.askDestage_none {wanted : Nat} {n : Slot}
    (h : ∀ id, s.slot n = .filled id → id ∈ s.window p ∨ ∀ r, s.record id = some r → r.binding ≠ none) :
    s.askDestage p wanted n = s := by
  have may : s.destageable p n = none := by
    unfold State.destageable
    split
    · next id filled =>
      refine if_neg fun free => ?_
      simp only [Bool.and_eq_true, Bool.not_eq_true', List.contains_eq_mem, decide_eq_false_iff_not] at free
      obtain ⟨away, unbound⟩ := free
      rcases h id filled with inside | bound
      · exact away inside
      · cases known : s.record id with
        | none => simp [known] at unbound
        | some r =>
          rw [known, Option.any_some, Option.isNone_iff_eq_none] at unbound
          exact bound r known unbound
    · rfl
  unfold State.askDestage
  rw [may]

theorem State.destages_eq (s : State) (p : Port) : s.destages p = s.queue.countP (fun m => m.kind = .destage
    && (m.source = .slot (stagingSlot p 0) || m.source = .slot (stagingSlot p 1))) := by
  unfold State.destages
  refine List.countP_congr fun m _ => ?_
  cases source : m.source with
  | slot n => simp [Position.slot?, isStagingOf]
  | nest x => simp [Position.slot?]
  | shelf n => simp [Position.slot?]

/-! ## The events (R89) -/

/-- A change that only makes one port's window be re-evaluated, and that re-evaluation no other (R89). -/
theorem State.forecastStep_single (s a : State) (t : Touch) (p : Port) (event : ∀ q, windowEvent a s t q = true ↔ q = p)
    (handler : (s.reevaluate p).handler = s.handler)
    (quiet : ∀ q, q ≠ p → windowEvent s (s.reevaluate p) noTouch q = false) : s.forecastStep a t = s.reevaluate p := by
  have single : allPorts.filter (windowEvent a s t) = [p] := by
    have tests : windowEvent a s t = fun q => decide (q = p) := funext fun q => Bool.eq_iff_iff.mpr (by simp [event q])
    rw [tests]
    clear event handler quiet tests
    revert p
    decide
  have more : allPorts.filter (fun q => !([] : List Port).contains q && windowFollows s (s.reevaluate p) p q) = [] := by
    refine List.filter_eq_nil_iff.mpr fun q _ follows => ?_
    simp only [windowFollows, handler, decide_true, Bool.not_true, Bool.or_false, List.contains_nil, Bool.not_false,
      Bool.true_and, Bool.and_eq_true, Bool.not_eq_true', decide_eq_false_iff_not] at follows
    obtain ⟨other, follows⟩ := follows
    rw [quiet q other] at follows
    cases follows
  have first : freeOrder [p] s = ([p], s) := rfl
  rw [State.forecastStep, single, first]
  dsimp only [reevaluationBound, reevaluateAll]
  rw [if_pos more]
  rfl

theorem windowEvent_closed {a b : State} {t : Touch} {p : Port} (h : (b.port p).state ≠ .attached) :
    windowEvent a b t p = false := by
  simp [windowEvent, h]

/-- Each event of R89. -/
theorem windowEvent_of_event {a s : State} {t : Touch} {p : Port} (attached : (s.port p).state = .attached)
    (event : t.zone = true ∨ (a.port p).state ≠ .attached ∨ (a.aheadOf p).activeList ≠ (s.aheadOf p).activeList
      ∨ a.slot (stagingSlot p 0) ≠ s.slot (stagingSlot p 0) ∨ a.slot (stagingSlot p 1) ≠ s.slot (stagingSlot p 1)
      ∨ (∃ m ∈ a.queue, s.move? m.seq = none ∧ ∃ id, m.reticle = some id
          ∧ ((∃ e ∈ (s.aheadOf p).activeEntries, e.id = id) ∨ ∃ k : Fin 2, s.locatedAt id (.slot (stagingSlot p k)) = true))
      ∨ (∃ e ∈ (s.aheadOf p).activeEntries, (a.record e.id).isSome ≠ (s.record e.id).isSome
          ∨ ∃ r x, a.record e.id = some r ∧ s.record e.id = some x ∧ r.forecastView ≠ x.forecastView)) :
    windowEvent a s t p = true := by
  unfold windowEvent
  rw [decide_eq_true attached, Bool.true_and]
  simp only [Bool.or_eq_true, Bool.not_eq_true', decide_eq_false_iff_not, or_assoc]
  rcases event with zone | opened | list | first | second | ended | changed
  · exact .inl zone
  · exact .inr (.inl opened)
  · exact .inr (.inr (.inr (.inl list)))
  · exact .inr (.inr (.inr (.inr (.inl first))))
  · exact .inr (.inr (.inr (.inr (.inr (.inl second)))))
  · obtain ⟨m, hm, gone, id, names, listed⟩ := ended
    refine .inr (.inr (.inr (.inr (.inr (.inr (.inl (List.any_eq_true.mpr ⟨m, hm, ?_⟩)))))))
    have told : ((s.aheadOf p).names id || s.locatedAt id (.slot (stagingSlot p 0)) || s.locatedAt id (.slot (stagingSlot p 1)))
        = true := by
      rcases listed with ⟨e, he, same⟩ | ⟨k, located⟩
      · have listed : (s.aheadOf p).names id = true := List.any_eq_true.mpr ⟨e, he, decide_eq_true same⟩
        simp [listed]
      · by_cases zero : k = 0
        · subst zero
          simp [located]
        · have one : k = 1 := by omega
          subst one
          simp [located]
    simp [gone, names, told]
  · obtain ⟨e, he, views⟩ := changed
    refine .inr (.inr (.inr (.inr (.inr (.inr (.inr (List.any_eq_true.mpr ⟨e, he, ?_⟩)))))))
    simp only [Bool.not_eq_true', decide_eq_false_iff_not]
    intro same
    rcases views with some_ | ⟨r, x, known, known', other⟩
    · have := congrArg Option.isSome same
      rw [Option.isSome_map, Option.isSome_map] at this
      exact some_ this
    · rw [known, known', Option.map_some, Option.map_some, Option.some.injEq] at same
      exact other same

/-- Settles O33: the review, the requests and the events, each for itself. -/
theorem windowReviewedAndStaged : Obligations.WindowReviewedAndStaged := by
  intro s p w fit wants free isWindow fitIff wantsIff freeIff
  have window : s.window p = w := by
    rw [isWindow, State.window, List.map_take]
  have fitAt (id : Ident) (n : Slot) : fit id n ↔ s.FitAt id n := fitIff id n
  have wantsAt (id : Ident) (k : Fin 384) : wants id k ↔ s.Wants p id k := by
    rw [wantsIff, fitAt]
    rfl
  have freeAt (n : Slot) : free n ↔ s.FreeToStage n := freeIff n
  refine ⟨fun distinct u keeps isReview keepsIff => ?_, fun id pos k wanted => ⟨fun first => ?_, fun taken second => ?_⟩,
    fun id pos none_ => ?_, fun empty => ?_, fun x single => ?_, fun x y two => ?_, fun wanted n id filled away unbound => ?_,
    fun wanted n kept => ?_, s.destages_eq p, fun N isWanting => ⟨?_, fun some_ => ?_, fun first second => ?_⟩, rfl,
    fun a t => ⟨s.forecastStep_of_no_event a t, s.forecastStep_single a t p, windowEvent_closed, windowEvent_of_event⟩⟩
  · subst isReview
    obtain ⟨c, eq, same⟩ := State.review_spec distinct p
    have numbers := filterMap_seq_sublist (fun m y => State.reviewed_seq (s := s) (p := p) (w := s.window p)) s.queue
    refine ⟨(s.aftermath_review p).steady, by rw [eq], by rw [eq], by rw [eq], by rw [eq]; exact numbers, fun m here =>
      ⟨fun state own kind => ?_, fun state own kind => ?_, fun other => State.review_kept distinct here (State.reviewed_other other)⟩⟩
    · have reviewed := State.reviewed_prestage (s := s) (w := s.window p) (decide_eq_true state) own kind
      rw [window] at reviewed
      refine ⟨fun pos stays => State.review_kept distinct here ?_, fun leaves => State.review_gone distinct here ?_⟩
      · obtain ⟨id, n, k, names, source, target, fits, empty, at_⟩ := (keepsIff m pos).mp stays
        have position := (windowPosition_iff w id pos).mpr at_
        have wanted := (s.prestageUnwanted_iff w m).mpr ⟨pos, id, n, k, names, source, target, (fitAt id k).mp fits, empty, position⟩
        rw [window, reviewed, wanted, names, Option.bind_some, position]
        rfl
      · have unwanted : s.prestageUnwanted w m = true := by
          by_contra wanted
          obtain ⟨pos, id, n, k, names, source, target, fits, empty, position⟩ :=
            (s.prestageUnwanted_iff w m).mp ((Bool.not_eq_true _).mp wanted)
          exact leaves pos ((keepsIff m pos).mpr
            ⟨id, n, k, names, source, target, (fitAt id k).mpr fits, empty, (windowPosition_iff w id pos).mp position⟩)
        rw [window, reviewed, unwanted]
        rfl
    · have reviewed := State.reviewed_destage (s := s) (w := s.window p) (decide_eq_true state) own kind
      rw [window] at reviewed
      have named : m.reticle.any (fun id => w.contains id) = true ↔ ∃ id ∈ w, m.reticle = some id := by
        rw [Option.any_eq_true]
        exact ⟨fun ⟨id, names, inside⟩ => ⟨id, by simpa using inside, names⟩,
          fun ⟨id, inside, names⟩ => ⟨id, names, by simpa using inside⟩⟩
      have gone (inside : ∃ id ∈ w, m.reticle = some id) : (s.review p).move? m.seq = none := by
        refine State.review_gone distinct here ?_
        rw [window, reviewed, if_pos (named.mpr inside)]
      refine ⟨⟨fun stays id inside names => ?_, fun outside => State.review_kept distinct here ?_⟩, gone⟩
      · have found := State.move?_isSome_of_mem stays
        rw [gone ⟨id, inside, names⟩] at found
        cases found
      · rw [window, reviewed, if_neg fun inside => ?_]
        obtain ⟨id, inside, names⟩ := named.mp inside
        exact outside id inside names
  · exact State.askPrestage_some ((wantsAt id k).mp wanted) (State.freeStaging_first ((freeAt _).mp first))
  · exact State.askPrestage_some ((wantsAt id k).mp wanted)
      (State.freeStaging_second (fun h => taken ((freeAt _).mpr h)) ((freeAt _).mp second))
  · refine State.askPrestage_none pos ?_
    rcases none_ with no | ⟨first, second⟩
    · exact .inl fun k h => no k ((wantsAt id k).mpr h)
    · exact .inr ((s.freeStaging_none p).mpr ⟨fun h => first ((freeAt _).mpr h), fun h => second ((freeAt _).mpr h)⟩)
  · rw [State.askPrestages, window, empty]
  · rw [State.askPrestages, window, single]
  · rw [State.askPrestages, window, two]
  · exact State.askDestage_some filled (by rwa [window]) unbound
  · exact State.askDestage_none fun id filled => by rw [window]; exact kept id filled
  · rw [isWanting]
    rfl
  · have some' : s.freeStaging p ≠ none := fun none_ => by
      obtain ⟨first, second⟩ := (s.freeStaging_none p).mp none_
      exact some_.elim (fun h => first ((freeAt _).mp h)) fun h => second ((freeAt _).mp h)
    rw [isWanting, State.wanting]
    exact List.countP_eq_zero.mpr fun id _ => by simp [Option.isNone_iff_eq_none, some']
  · have none_ := (s.freeStaging_none p).mpr ⟨fun h => first ((freeAt _).mpr h), fun h => second ((freeAt _).mpr h)⟩
    refine ⟨w.filter (fun id => (s.prestageSource p id).isSome), List.filter_sublist, ?_, fun id inside => ?_⟩
    · rw [isWanting, State.wanting, window, List.countP_eq_length_filter]
      simp [none_]
    · rw [List.mem_filter, s.prestageSource_isSome]
      exact ⟨fun h => h.2.imp fun k => (wantsAt id k).mpr, fun h => ⟨inside, h.imp fun k => (wantsAt id k).mp⟩⟩

end Sys2Proof.Machine
end

section
/-! PROOFS. POWER_ON_RESET: the power-on values and the first admissions (R8, R57, R96, R102, R109, R141, R196, R214). -/

namespace Sys2Proof.Machine

open Sys2Proof

variable {s t u b : State} {m : Move} {ms : List FirstMove} {P : Bool}

/-! ## Tests that find nothing to do -/

theorem earliest_isSome (best : Option Move) (m : Move) : (earliest best m).isSome = true := by
  unfold earliest
  split
  · rfl
  · split <;> rfl

theorem foldl_earliest_isSome (ms : List Move) {best : Option Move} (some_ : best.isSome = true) :
    (ms.foldl earliest best).isSome = true := by
  induction ms generalizing best with
  | nil => exact some_
  | cons m ms ih => exact ih (earliest_isSome best m)

theorem lowestSeq_isSome {ms : List Move} (h : ms ≠ []) : ∃ m, lowestSeq ms = some m := by
  cases ms with
  | nil => exact absurd rfl h
  | cons m ms => exact Option.isSome_iff_exists.mp (foldl_earliest_isSome ms (earliest_isSome none m))

/-- A NO_SLOT test that finds the condition as its last test left it changes nothing (R44). -/
theorem State.testNoSlot_settled (h : s.noSlot = true ↔ s.queue.filter s.lacksCandidate ≠ []) : s.testNoSlot = s := by
  unfold State.testNoSlot
  by_cases none_ : s.queue.filter s.lacksCandidate = []
  · have clear : s.noSlot = false := by
      by_contra set_
      exact h.mp (by simpa using set_) none_
    rw [none_, ← clear]
    rfl
  · obtain ⟨m, lowest⟩ := lowestSeq_isSome none_
    rw [lowest]
    exact if_pos (h.mpr none_)

theorem State.noSlotStep_settled (h : s.noSlot = true ↔ s.queue.filter s.lacksCandidate ≠ []) (a : State) (x : Touch) :
    s.noSlotStep a x = s := by
  unfold State.noSlotStep
  split
  · exact State.testNoSlot_settled h
  · rfl

/-- A NO_SLOT test that finds the condition newly holding raises NO_SLOT (R44). -/
theorem State.testNoSlot_raises (clear : s.noSlot = false) (lacking : s.queue.filter s.lacksCandidate ≠ []) :
    ∃ d, s.testNoSlot = { s with noSlot := true }.raise .noSlot d := by
  obtain ⟨m, lowest⟩ := lowestSeq_isSome lacking
  unfold State.testNoSlot
  rw [lowest]
  exact ⟨_, if_neg (by simp [clear])⟩

theorem State.sweep_idle (h : ∀ m ∈ s.queue, s.sweeps m = none) : s.sweep = s := by
  have fold (xs : List Move) (sub : ∀ m ∈ xs, s.sweeps m = none) (a : State) : xs.foldl s.sweepStep a = a := by
    induction xs generalizing a with
    | nil => rfl
    | cons m xs ih =>
      rw [List.foldl_cons, State.sweepStep, sub m (List.mem_cons_self ..)]
      exact ih (fun y hy => sub y (List.mem_cons_of_mem _ hy)) a
  rw [State.sweep_eq]
  exact fold s.queue h s

theorem State.choose_none (h : s.queue.filter s.eligible = []) : s.choose = none := by
  have tenure : s.chooseByTenure [] = none := by
    unfold State.chooseByTenure
    split <;> rfl
  unfold State.choose
  simp only [h, tenure]
  rfl

/-- The one eligible move, not overdue and with no tenure running, is chosen (R132 to R134). -/
theorem State.choose_single (h : s.queue.filter s.eligible = [m]) (early : s.overdue m = false) (free : s.tenure.port = none) :
    s.choose = some (m, false) := by
  have noTenure : s.tenurePort = none := by
    unfold State.tenurePort
    rw [free]
  unfold State.choose
  rw [h]
  dsimp only
  rw [List.filter_cons_of_neg (by simp [early])]
  unfold State.chooseByTenure
  rw [noTenure]
  rfl

theorem State.gap_raiseOn (s : State) (l : NoticeLink) (k : NoticeKind) (d : Detail)
    (unmasked : ((s.noticeSet l).entry k).masked = false) :
    ((s.raiseOn l k d).noticeSet l).gap = some ((s.noticeSet l).gap.getD s.noticeGap)
      ∧ ∀ j, j ≠ l → (s.raiseOn l k d).noticeSet j = s.noticeSet j := by
  let x : NoticeSet := { s.noticeSet l with
    entries := (s.noticeSet l).entries.set k.number.val
      { (s.noticeSet l).entry k with pending := true, fresh := true, detail := d } k.number.isLt }
  let a := s.setNoticeSet l x
  have pushed : s.raiseOn l k d = a.pushNotice l := by
    unfold State.raiseOn
    dsimp only
    rw [if_neg (by simp [unmasked])]
  have gap : (a.noticeSet l).gap = (s.noticeSet l).gap := by
    rw [show a.noticeSet l = x from s.noticeSet_setNoticeSet_same l x]
  have others (j : NoticeLink) (other : j ≠ l) : a.noticeSet j = s.noticeSet j := s.noticeSet_setNoticeSet_other other x
  have length : a.noticeGap = s.noticeGap := by cases l <;> rfl
  rw [pushed]
  rcases a.pushNotice_cases l with ⟨none_, e⟩ | ⟨some_, e⟩ <;> rw [e]
  · rw [gap] at none_
    refine ⟨?_, fun j other => (State.noticeSet_sendNotice_other a other).trans (others j other)⟩
    rw [a.gap_sendNotice, length, none_]
    rfl
  · rw [gap] at some_ ⊢
    refine ⟨?_, others⟩
    cases h : (s.noticeSet l).gap with
    | none =>
      rw [h] at some_
      cases some_
    | some g => rfl

/-- A kind raised unmasked leaves the gap timers running, from the gap length where they were idle (R213). -/
theorem State.gap_raise (s : State) (k : NoticeKind) (d : Detail) (unmasked : ∀ l, ((s.noticeSet l).entry k).masked = false)
    (l : NoticeLink) : ((s.raise k d).noticeSet l).gap = some ((s.noticeSet l).gap.getD s.noticeGap) := by
  obtain ⟨own, others⟩ := s.gap_raiseOn .material k d (unmasked .material)
  have still := others .service (by simp)
  obtain ⟨own', others'⟩ := (s.raiseOn .material k d).gap_raiseOn .service k d (by rw [still]; exact unmasked .service)
  have length : (s.raiseOn .material k d).noticeGap = s.noticeGap := by
    obtain ⟨x, tx, e⟩ := s.raiseOn_eq .material k d
    rw [e]
    rfl
  cases l with
  | material =>
    rw [State.raise, others' .material (by simp)]
    exact own
  | service =>
    rw [State.raise, own', still, length]

/-! ## The blocks at power-on (R8) -/

/-- A state as POWER_ON_RESET finds it before the first admissions, NEST_BLOCKED pending or not. -/
structure State.Blank (b : State) (P : Bool) : Prop where
  slots : ∀ n, b.slot n = .unknown
  ports : ∀ p, (b.port p).state = .silent
  queue : b.queue = []
  nextSeq : b.nextSeq = 0
  noSlot : b.noSlot = false
  tenure : b.tenure = ⟨none, 0⟩
  settings : b.settings = ⟨600, 2, 4, 24, 47⟩
  handler : b.handler = resetHandler
  intercepts : ∀ n, (b.intercepts.get n).status = .disabled
  census : b.census = resetCensus
  noticeGap : b.noticeGap = 2
  orders : b.sent .handler = []
  tools : ∀ p, b.sent (.request (.tool p)) = []
  notices : ∀ l k, ((b.noticeSet l).entry k).masked = false
    ∧ (((b.noticeSet l).entry k).pending = true ↔ k = .nestBlocked ∧ P = true)
  gap : ∀ l, (b.noticeSet l).gap = if P = true then some 2 else none

/-- A first admission as kind and source. -/
def FirstMove.entry : FirstMove → MoveKind × Position
  | .nest (.collect p _) => (.collect, .nest (.t p))
  | .nest (.reclaim p) => (.reclaim, .nest (.t p))
  | .nest .stockIn => (.stockIn, .nest .bi)
  | .nest .reshelve => (.reshelve, .nest .inn)
  | .census => (.scan, .shelf 47)

/-- What the first admissions of `ms` leave in `t`, from `b` (R141). -/
structure State.Started (b : State) (P : Bool) (t : State) (ms : List FirstMove) : Prop where
  eq : ∃ q n f h c mn sn tx, t = { b with
    queue := q, nextSeq := n, noSlot := f, handler := h, census := c, materialNotices := mn, serviceNotices := sn, tx := tx }
  kinds : t.queue.map (fun m => (m.kind, m.source)) = ms.map FirstMove.entry
  each : ∀ m ∈ t.queue, m.reticle = none ∧ m.requester = .internal ∧ (m.state = .executing ↔ m.kind = .scan)
    ∧ (m.kind.isStore = true ∨ m.kind = .scan) ∧ m.seq.toNat < ms.length
  nextSeq : t.nextSeq = BitVec.ofNat 32 ms.length
  noSlot : t.noSlot = true ↔ ∃ e ∈ ms.map FirstMove.entry, e.1.isStore = true
  idle : .census ∉ ms → t.handler = resetHandler ∧ t.census = resetCensus ∧ t.sent .handler = []
  scanning : .census ∈ ms → t.handler.state = .scanning ∧ t.handler.orderNumber = 1 ∧ t.handler.pickTimeout = 30
    ∧ t.handler.placeTimeout = 30 ∧ t.handler.restartPending = false ∧ t.census.state = .running
    ∧ t.census.tally = ⟨0, 0, 0, 0, 0⟩ ∧ t.census.range = some (0, 47) ∧ t.sent .handler = [.scan 1 47]
  tools : ∀ p, t.sent (.request (.tool p)) = []
  notices : ∀ l k, ((t.noticeSet l).entry k).masked = false
    ∧ (((t.noticeSet l).entry k).pending = true ↔ (k = .nestBlocked ∧ P = true) ∨ (k = .noSlot ∧ t.noSlot = true))
  gap : ∀ l, (t.noticeSet l).gap = if P = true ∨ t.noSlot = true then some 2 else none

theorem State.Blank.started (blank : b.Blank P) : b.Started P b [] where
  eq := ⟨_, _, _, _, _, _, _, _, rfl⟩
  kinds := by rw [blank.queue]; rfl
  each := fun m hm => by rw [blank.queue] at hm; cases hm
  nextSeq := blank.nextSeq
  noSlot := by simp [blank.noSlot]
  idle := fun _ => ⟨blank.handler, blank.census, blank.orders⟩
  scanning := fun h => nomatch h
  tools := blank.tools
  notices := fun l k => by
    obtain ⟨masked, pending⟩ := blank.notices l k
    simp [masked, pending, blank.noSlot]
  gap := fun l => by simp [blank.gap l, blank.noSlot]

section
variable (blank : b.Blank P)
include blank

/-- Without an EMPTY slot no store move has a candidate. -/
theorem State.Blank.selectTarget (slots : t.slots = b.slots) (m : Move) : t.selectTarget m = none := by
  cases found : t.selectTarget m with
  | none => rfl
  | some k =>
    have empty := State.selectTarget_empty found
    rw [State.slot, slots] at empty
    have unknown := blank.slots (ofStorage k)
    rw [State.slot, empty] at unknown
    cases unknown

theorem State.Blank.lacks (slots : t.slots = b.slots) (m : Move) :
    t.lacksCandidate m = (m.isWaiting && m.kind.isStore) := by
  simp [State.lacksCandidate, blank.selectTarget slots]

theorem State.Blank.ineligible (slots : t.slots = b.slots) (store : m.kind.isStore = true) : t.eligible m = false := by
  have none_ := blank.selectTarget slots m
  have unfit : (t.ineligible m).isNone = false := by
    unfold State.ineligible
    cases kind : m.kind with
    | collect | reclaim =>
      dsimp only
      split
      · rw [none_]
        split <;> rfl
      · rfl
    | stockIn =>
      dsimp only
      rw [none_]
      split <;> rfl
    | reshelve | destage =>
      dsimp only
      rw [none_]
      rfl
    | deliver | stockOut | inspectOut | prestage | scan => simp [kind, MoveKind.isStore] at store
  simp [State.eligible, unfit]

theorem State.Blank.deciding (intercepts : t.intercepts = b.intercepts) (o : Offer) : t.deciding o = none := by
  refine List.find?_eq_none.mpr fun n _ => ?_
  have off := blank.intercepts n
  rw [intercepts]
  simp [InterceptEntry.catches, off]

theorem State.Blank.forecast (ports : t.ports = b.ports) (a : State) (x : Touch) : t.forecastStep a x = t := by
  refine State.forecastStep_of_no_event t a x fun q => windowEvent_closed ?_
  rw [State.port, ports]
  have silent := blank.ports q
  rw [State.port] at silent
  simp [silent]

end

namespace State.Started

variable (started : b.Started P t ms)
include started

theorem frame : t.slots = b.slots ∧ t.ports = b.ports ∧ t.intercepts = b.intercepts ∧ t.settings = b.settings
    ∧ t.tenure = b.tenure ∧ t.noticeGap = b.noticeGap ∧ t.clock = b.clock := by
  obtain ⟨_, _, _, _, _, _, _, _, eq⟩ := started.eq
  rw [eq]
  exact ⟨rfl, rfl, rfl, rfl, rfl, rfl, rfl⟩

/-- The next number is new to the queue. -/
theorem fresh (few : ms.length < 2 ^ 32) : t.move? t.nextSeq = none := by
  refine List.find?_eq_none.mpr fun m hm same => ?_
  have low := (started.each m hm).2.2.2.2
  rw [of_decide_eq_true same, started.nextSeq, BitVec.toNat_ofNat, Nat.mod_eq_of_lt few] at low
  exact Nat.lt_irrefl _ low

theorem executing (k : MoveKind) (other : k ≠ .scan) : t.executing k = false := by
  refine List.any_eq_false.mpr fun m hm => ?_
  by_cases kind : m.kind = k
  · have state := (started.each m hm).2.2.1
    simp [kind, state, other]
  · simp [kind]

/-- The flag of NO_SLOT is as a test finds it. -/
theorem settled (blank : b.Blank P) (a : State) (slots : a.slots = b.slots) (flag : a.noSlot = t.noSlot)
    (kinds : (a.queue.map (fun m => m.kind)).any (·.isStore) = (t.queue.map (fun m => m.kind)).any (·.isStore))
    (waits : ∀ m ∈ a.queue, m.kind.isStore = true → m.isWaiting = true) :
    a.noSlot = true ↔ a.queue.filter a.lacksCandidate ≠ [] := by
  have here : a.queue.filter a.lacksCandidate ≠ [] ↔ (a.queue.map (fun m => m.kind)).any (·.isStore) = true := by
    rw [List.any_map, List.any_eq_true, ne_eq, List.filter_eq_nil_iff, not_forall]
    constructor
    · rintro ⟨m, h⟩
      rw [Classical.not_imp, Classical.not_not, blank.lacks slots, Bool.and_eq_true] at h
      exact ⟨m, h.1, h.2.2⟩
    · rintro ⟨m, hm, store⟩
      refine ⟨m, ?_⟩
      rw [Classical.not_imp, Classical.not_not, blank.lacks slots, Bool.and_eq_true]
      exact ⟨hm, waits m hm store, store⟩
  have listed : (t.queue.map (fun m => m.kind)).any (·.isStore) = true ↔ ∃ e ∈ ms.map FirstMove.entry, e.1.isStore = true := by
    rw [← started.kinds, List.any_map, List.any_eq_true]
    simp
  rw [here, kinds, listed, flag]
  exact started.noSlot

end State.Started

end Sys2Proof.Machine
end

section
/-! PROOFS. POWER_ON_RESET: each first admission with its grant test (R141). -/

namespace Sys2Proof.Machine

open Sys2Proof

variable {s t u b : State} {m : Move} {ms : List FirstMove} {P : Bool}

/-- The grant of a SCAN: the move EXECUTING, its order sent, nothing reserved (R127, R150). -/
theorem State.grant_scan (a : State) (n : Shelf) (kind : m.kind = .scan) (source : m.source = .shelf n)
    (target : m.target = .pos (.shelf n)) (beneficiary : m.beneficiary = none) :
    (∃ tx, a.grant m false = { a with
        queue := a.queue.map (fun x => if x.seq = m.seq then { m with state := .executing } else x), tenure := ⟨none, 0⟩
        handler := { a.handler with
          state := .scanning, orderNumber := a.handler.orderNumber + 1, numberCurrent := true
          timer := some (2 * a.handler.pickTimeout), exec := some ⟨some m.seq, some .scanning, none, none, 0⟩ }
        tx := tx })
      ∧ (a.grant m false).sent .handler = a.sent .handler ++ [.scan (a.handler.orderNumber + 1) n]
      ∧ ∀ l, l ≠ .handler → (a.grant m false).sent l = a.sent l := by
  obtain ⟨seq, _, _, _, _, _, _, _, _, _, _, _, _, _⟩ := m
  subst kind source target beneficiary
  exact ⟨⟨_, rfl⟩, State.sent_send_same _ .handler _, fun l other => State.sent_send_other _ other _⟩

namespace State.Started

variable (started : b.Started P t ms) (blank : b.Blank P)
include started

theorem store_waits (here : m ∈ t.queue) (store : m.kind.isStore = true) : m.isWaiting = true := by
  cases state : m.state with
  | waiting => exact decide_eq_true state
  | executing =>
    have scan := (started.each m here).2.2.1.mp state
    rw [scan] at store
    cases store

theorem not_deliver (here : m ∈ t.queue) : t.sweeps m = none := by
  have kind : m.kind ≠ .deliver := fun same => by
    rcases (started.each m here).2.2.2.1 with store | scan
    · rw [same] at store
      cases store
    · rw [same] at scan
      cases scan
  unfold State.sweeps
  rw [if_neg (by simp [kind])]

include blank

theorem noSlotStep (a : State) (x : Touch) : t.noSlotStep a x = t :=
  State.noSlotStep_settled (started.settled blank t started.frame.1 rfl rfl fun _ => started.store_waits) a x

/-- Of the moves admitted only a SCAN is granted, which then is no longer WAITING: no grant is left to make. -/
theorem grantTest : t.grantTest = t := by
  by_cases free : t.handler.state = .idle ∧ t.handler.restartPending = false
  · have swept := State.sweep_idle fun m hm => started.not_deliver (m := m) hm
    have none_ : t.queue.filter t.eligible = [] := by
      refine List.filter_eq_nil_iff.mpr fun m hm => ?_
      rcases (started.each m hm).2.2.2.1 with store | scan
      · simp [blank.ineligible started.frame.1 store]
      · simp [State.eligible, Move.isWaiting, (started.each m hm).2.2.1.mpr scan]
    rw [State.grantTest_of_no_choice free.1 free.2 (by rw [swept]; exact State.choose_none none_), swept]
  · exact if_neg free

theorem serve_of_noSlotStep {c a : State} {x : Touch} (h : c.noSlotStep a x = t) : c.serve a x = t := by
  unfold State.serve
  rw [h]
  dsimp only
  split
  · rw [started.grantTest blank, started.noSlotStep blank]
  · rfl

omit blank in
/-- A store move joined to the queue, NO_SLOT pending. -/
theorem grown {f : FirstMove} {o : Offer} {c : State} (few : ms.length < 2 ^ 32) (plain : f ≠ .census) (unnamed : o.reticle = none)
    (internal : o.requester = .internal) (store : o.kind.isStore = true) (entry : f.entry = (o.kind, o.source))
    (eq : ∃ mn sn tx, c = { t with
      queue := t.queue ++ [t.entered o false false], nextSeq := t.nextSeq + 1, noSlot := true
      materialNotices := mn, serviceNotices := sn, tx := tx })
    (sent : ∀ l, (∀ j, l ≠ .request (noticeLinkOf j)) → c.sent l = t.sent l)
    (notices : ∀ l k, ((c.noticeSet l).entry k).masked = false
      ∧ (((c.noticeSet l).entry k).pending = true ↔ (k = .nestBlocked ∧ P = true) ∨ k = .noSlot))
    (gap : ∀ l, (c.noticeSet l).gap = some 2) : b.Started P c (ms ++ [f]) := by
  obtain ⟨_, _, _, grown⟩ := eq
  obtain ⟨_, _, _, _, _, _, _, _, frame⟩ := started.eq
  have queue : c.queue = t.queue ++ [t.entered o false false] := by rw [grown]
  have flag : c.noSlot = true := by rw [grown]
  have orders : c.sent .handler = t.sent .handler := sent _ fun j => by cases j <;> simp
  have onlyOld : FirstMove.census ∈ ms ++ [f] ↔ FirstMove.census ∈ ms := by simp [Ne.symm plain]
  refine ⟨⟨_, _, _, _, _, _, _, _, by rw [grown, frame]⟩, ?_, fun m hm => ?_, ?_, ?_, fun none_ => ?_, fun scan => ?_, fun p => ?_,
    fun l k => ?_, fun l => ?_⟩
  · rw [queue, List.map_append, List.map_append, started.kinds, List.map_singleton, List.map_singleton, entry]
    rfl
  · rw [queue] at hm
    rw [List.length_append, List.length_singleton]
    rcases List.mem_append.mp hm with old | new
    · obtain ⟨reticle, requester, state, kind, low⟩ := started.each m old
      exact ⟨reticle, requester, state, kind, Nat.lt_succ_of_lt low⟩
    · rw [List.mem_singleton.mp new]
      have number : (t.entered o false false).seq.toNat = ms.length := by
        rw [State.entered, started.nextSeq, BitVec.toNat_ofNat, Nat.mod_eq_of_lt few]
      refine ⟨unnamed, internal, ⟨(nomatch ·), fun scan => ?_⟩, .inl store, by omega⟩
      have scan : o.kind = .scan := scan
      rw [scan] at store
      cases store
  · rw [grown, List.length_append, List.length_singleton, BitVec.ofNat_add, ← started.nextSeq]
    rfl
  · refine ⟨fun _ => ⟨f.entry, List.mem_map_of_mem (List.mem_append_right _ (List.mem_singleton_self f)), ?_⟩, fun _ => flag⟩
    rw [entry]
    exact store
  · obtain ⟨handler, census, empty⟩ := started.idle fun h => none_ (onlyOld.mpr h)
    exact ⟨by rw [grown]; exact handler, by rw [grown]; exact census, orders.trans empty⟩
  · obtain ⟨state, number, pick, place, restart, census, tally, range, order⟩ := started.scanning (onlyOld.mp scan)
    have handler : c.handler = t.handler := by rw [grown]
    have record : c.census = t.census := by rw [grown]
    rw [handler, record]
    exact ⟨state, number, pick, place, restart, census, tally, range, orders.trans order⟩
  · exact (sent _ fun j => by cases j <;> simp [noticeLinkOf]).trans (started.tools p)
  · obtain ⟨masked, pending⟩ := notices l k
    rw [flag]
    simp [masked, pending]
  · rw [gap l, flag]
    simp

/-- A store move admitted first finds no candidate: NO_SLOT is raised once, and nothing is granted (R44, R141). -/
theorem admitStore {f : FirstMove} {o : Offer} (few : ms.length < 2 ^ 32) (plain : f ≠ .census)
    (admits : t.admitFirst f = t.offerInward o) (unnamed : o.reticle = none) (internal : o.requester = .internal)
    (store : o.kind.isStore = true) (entry : f.entry = (o.kind, o.source)) :
    b.Started P (t.firstAdmission f) (ms ++ [f]) := by
  obtain ⟨slots, ports, intercepts, _, _, noticeGap, _⟩ := started.frame
  let y := t.entered o false false
  let a : State := { t with queue := t.queue ++ [y], nextSeq := t.nextSeq + 1 }
  have entered : t.admitFirst f = a := by
    rw [admits, State.offerInward, blank.deciding intercepts, State.enter, unnamed]
    simp only [a, y, State.entered, unnamed]
  have event : noSlotEvent t a noTouch = true := by
    have changed : storeMoveChanged t a = true := by
      refine Bool.or_eq_true_iff.mpr (.inl (List.any_eq_true.mpr ⟨y, List.mem_append_right _ (List.mem_singleton_self y), ?_⟩))
      have new : t.move? y.seq = none := started.fresh few
      have kind : y.kind.isStore = true := store
      simp [new, kind]
    simp [noSlotEvent, changed]
  have lacking : a.queue.filter a.lacksCandidate ≠ [] := by
    have waits : a.lacksCandidate y = true := by
      rw [blank.lacks (t := a) slots]
      simp [y, State.entered, Move.isWaiting, store]
    exact List.ne_nil_of_mem (List.mem_filter.mpr ⟨List.mem_append_right _ (List.mem_singleton_self y), waits⟩)
  have step : a.noSlotStep t noTouch = a.testNoSlot := if_pos event
  have done (c : State) (tested : a.testNoSlot = c) (next : b.Started P c (ms ++ [f])) :
      b.Started P (t.firstAdmission f) (ms ++ [f]) := by
    have settled : t.firstAdmission f = c := by
      rw [State.firstAdmission, entered, State.settle, next.serve_of_noSlotStep blank (step.trans tested)]
      exact blank.forecast next.frame.2.1 t noTouch
    rw [settled]
    exact next
  by_cases flag : t.noSlot = true
  · refine done a (State.testNoSlot_settled ⟨fun _ => lacking, fun _ => flag⟩)
      (started.grown few plain unnamed internal store entry ⟨_, _, _, by simp only [a, y, ← flag]; rfl⟩ (fun l _ => rfl)
        (fun l k => ?_) fun l => ?_)
    · have same : a.noticeSet l = t.noticeSet l := by cases l <;> rfl
      have before := started.notices l k
      rw [flag] at before
      rw [same]
      simpa using before
    · have same : a.noticeSet l = t.noticeSet l := by cases l <;> rfl
      rw [same, started.gap l]
      simp [flag]
  · have clear : t.noSlot = false := by simpa using flag
    obtain ⟨d, raises⟩ := State.testNoSlot_raises (s := a) clear lacking
    obtain ⟨mn, sn, tx, raised⟩ := State.raise_eq { a with noSlot := true } .noSlot d
    have same (l : NoticeLink) : State.noticeSet { a with noSlot := true } l = t.noticeSet l := by cases l <;> rfl
    refine done _ raises (started.grown few plain unnamed internal store entry ⟨mn, sn, tx, raised⟩ (fun l other => ?_)
      (fun l k => ⟨?_, ?_⟩) fun l => ?_)
    · exact State.sent_raise_other _ _ _ other
    · rw [State.raise_masked, same]
      exact (started.notices l k).1
    · by_cases own : k = .noSlot
      · subst own
        simp [(State.raise_raised _ .noSlot d l).1]
      · rw [(State.raise_other _ own d l).1, same, (started.notices l k).2, clear]
        simp [own]
    · rw [State.gap_raise _ _ _ (fun j => by rw [same]; exact (started.notices j .noSlot).1), same, started.gap l]
      have length : t.noticeGap = 2 := noticeGap.trans blank.noticeGap
      by_cases blocked : P = true
      · simp [blocked]
      · simp [blocked, clear, a, length]

omit blank in
theorem census_absent (new : .census ∉ ms) (here : m ∈ t.queue) : m.kind.isStore = true := by
  refine (started.each m here).2.2.2.1.resolve_right fun scan => new ?_
  have listed : (m.kind, m.source) ∈ ms.map FirstMove.entry := by
    rw [← started.kinds]
    exact List.mem_map_of_mem here
  obtain ⟨f, hf, same⟩ := List.mem_map.mp listed
  have kind := (congrArg Prod.fst same).trans scan
  cases f with
  | census => exact hf
  | nest g => cases g <;> cases kind

/-- The SCAN of a census just started is the one move a grant test can choose, and is granted (R134). -/
theorem grantTest_census (new : .census ∉ ms) {a : State} (slots : a.slots = b.slots)
    (settings : a.settings = b.settings) (tenure : a.tenure = b.tenure) (handler : a.handler = resetHandler)
    (clock : a.clock = t.clock) (queue : a.queue = t.queue ++ [t.entered (scanOffer 47) false false]) :
    a.grantTest = a.grant (t.entered (scanOffer 47) false false) false := by
  generalize move : t.entered (scanOffer 47) false false = y at queue ⊢
  have kind : y.kind = .scan := by rw [← move]; rfl
  have eligible : a.queue.filter a.eligible = [y] := by
    have old : t.queue.filter a.eligible = [] :=
      List.filter_eq_nil_iff.mpr fun m hm => by simp [blank.ineligible slots (started.census_absent new hm)]
    have last : a.eligible y = true := by
      rw [← move]
      rfl
    rw [queue, List.filter_append, old, List.filter_cons_of_pos last]
    rfl
  have early : a.overdue y = false := by
    have limit : a.settings.starvation = 600 := by rw [settings, blank.settings]
    have age : a.ageOf y = 0 := by simp [State.ageOf, ageAt, ← move, State.entered, clock]
    simp [State.overdue, limit, age]
  have swept : a.sweep = a := by
    refine State.sweep_idle fun m hm => ?_
    have other : m.kind ≠ .deliver := by
      rw [queue] at hm
      rcases List.mem_append.mp hm with old | last
      · intro same
        have store := started.census_absent new old
        rw [same] at store
        cases store
      · rw [List.mem_singleton.mp last, kind]
        exact (nomatch ·)
    unfold State.sweeps
    rw [if_neg (by simp [other])]
  have chosen : a.sweep.choose = some (y, false) := by
    rw [swept]
    exact State.choose_single eligible early (by rw [tenure, blank.tenure])
  have free : a.handler.state = .idle ∧ a.handler.restartPending = false := by
    rw [handler]
    exact ⟨rfl, rfl⟩
  rw [State.grantTest_of_choice free.1 free.2 chosen, swept]

/-- The queue with the SCAN of the census in execution. -/
theorem scanned (few : ms.length < 2 ^ 32) {c : Census} {a g : State} {y : Move}
    (move : y = t.entered (scanOffer 47) false false)
    (running : c.state = .running ∧ c.tally = ⟨0, 0, 0, 0, 0⟩ ∧ c.range = some (0, 47))
    (before : a = { t with census := c, queue := t.queue ++ [y], nextSeq := t.nextSeq + 1 })
    (handler : t.handler = resetHandler) (orders : t.sent .handler = [])
    (granted : ∃ tx, g = { a with
        queue := a.queue.map (fun x => if x.seq = y.seq then { y with state := .executing } else x), tenure := ⟨none, 0⟩
        handler := { a.handler with
          state := .scanning, orderNumber := a.handler.orderNumber + 1, numberCurrent := true
          timer := some (2 * a.handler.pickTimeout), exec := some ⟨some y.seq, some .scanning, none, none, 0⟩ }
        tx := tx })
    (order : g.sent .handler = a.sent .handler ++ [.scan (a.handler.orderNumber + 1) 47])
    (still : ∀ l, l ≠ .handler → g.sent l = a.sent l) : b.Started P g (ms ++ [.census]) := by
  obtain ⟨tx, eq⟩ := granted
  obtain ⟨_, _, _, _, _, _, _, _, frame⟩ := started.eq
  have tenure := started.frame.2.2.2.2.1
  have number : y.seq = t.nextSeq := by rw [move]; rfl
  have apart (m : Move) (hm : m ∈ t.queue) : m.seq ≠ y.seq := fun same =>
    List.find?_eq_none.mp (started.fresh few) m hm (decide_eq_true (same.trans number))
  have queue : g.queue = t.queue ++ [{ y with state := .executing }] := by
    rw [eq, before]
    dsimp only
    rw [List.map_append, List.map_congr_left (fun m hm => if_neg (apart m hm)), List.map_id', List.map_singleton, if_pos rfl]
  have flag : g.noSlot = t.noSlot := by rw [eq, before]
  have sets (l : NoticeLink) : g.noticeSet l = t.noticeSet l := by
    rw [eq, before]
    cases l <;> rfl
  have ports (l : Link) : a.sent l = t.sent l := by
    rw [before]
    rfl
  refine ⟨?_, ?_, fun m hm => ?_, ?_, ?_, fun none_ => absurd (List.mem_append_right _ (List.mem_singleton_self _)) none_,
    fun _ => ?_, fun p => ?_, fun l k => ?_, fun l => ?_⟩
  · have free : b.tenure = ⟨none, 0⟩ := blank.tenure
    refine ⟨g.queue, g.nextSeq, g.noSlot, g.handler, g.census, g.materialNotices, g.serviceNotices, g.tx, ?_⟩
    rw [eq, before, frame, ← free]
  · rw [queue, List.map_append, List.map_append, started.kinds, move]
    rfl
  · rw [queue] at hm
    rw [List.length_append, List.length_singleton]
    rcases List.mem_append.mp hm with old | last
    · obtain ⟨reticle, requester, state, kind, low⟩ := started.each m old
      exact ⟨reticle, requester, state, kind, Nat.lt_succ_of_lt low⟩
    · have low : y.seq.toNat = ms.length := by
        rw [number, started.nextSeq, BitVec.toNat_ofNat, Nat.mod_eq_of_lt few]
      rw [List.mem_singleton.mp last]
      refine ⟨?_, ?_, ⟨fun _ => ?_, fun _ => rfl⟩, .inr ?_, Nat.lt_succ_of_le (Nat.le_of_eq low)⟩ <;> rw [move] <;> rfl
  · rw [eq, before, List.length_append, List.length_singleton, BitVec.ofNat_add, ← started.nextSeq]
    rfl
  · rw [flag, started.noSlot]
    simp [FirstMove.entry, MoveKind.isStore]
  · rw [order, ports, orders, eq, before]
    dsimp only
    rw [handler]
    exact ⟨rfl, rfl, rfl, rfl, rfl, running.1, running.2.1, running.2.2, rfl⟩
  · rw [still _ (by simp), ports]
    exact started.tools p
  · rw [sets, flag]
    exact started.notices l k
  · rw [sets, flag]
    exact started.gap l

/-- The SCAN of the census that the strap asks for is granted at once (R141, R196). -/
theorem admitCensus (few : ms.length < 2 ^ 32) (new : .census ∉ ms) :
    b.Started P (t.firstAdmission .census) (ms ++ [.census]) := by
  obtain ⟨slots, ports, intercepts, settings, tenure, noticeGap, clock⟩ := started.frame
  obtain ⟨handler, census, orders⟩ := started.idle new
  obtain ⟨y, move⟩ : ∃ y, y = t.entered (scanOffer 47) false false := ⟨_, rfl⟩
  obtain ⟨c, running, entered⟩ : ∃ c : Census,
      (c.state = .running ∧ c.tally = ⟨0, 0, 0, 0, 0⟩ ∧ c.range = some (0, 47))
      ∧ t.admitFirst .census = { t with census := c, queue := t.queue ++ [y], nextSeq := t.nextSeq + 1 } := by
    rw [move]
    exact ⟨_, ⟨rfl, rfl, rfl⟩, rfl⟩
  generalize after : t.admitFirst .census = a at entered
  have final : b.Started P (a.grant y false) (ms ++ [.census]) := by
    obtain ⟨granted, order, still⟩ := State.grant_scan (m := y) a 47 (by rw [move]; rfl) (by rw [move]; rfl) (by rw [move]; rfl)
      (by rw [move]; rfl)
    exact started.scanned blank few move running entered handler orders granted order still
  have store (m : Move) (hm : m ∈ a.queue) (store : m.kind.isStore = true) : m.isWaiting = true := by
    rw [entered] at hm
    rcases List.mem_append.mp hm with old | last
    · exact started.store_waits old store
    · rw [List.mem_singleton.mp last, move]
      rfl
  have tested : a.noSlotStep t noTouch = a := by
    refine State.noSlotStep_settled (started.settled blank a (by rw [entered]; exact slots) (by rw [entered]) ?_ store) t noTouch
    rw [entered, move]
    simp [State.entered, scanOffer, MoveKind.isStore]
  have event : grantEvent t a noTouch = true := by
    have changed : queueChanged t a = true := by
      refine Bool.or_eq_true_iff.mpr (.inl (List.any_eq_true.mpr ⟨y, ?_, ?_⟩))
      · rw [entered]
        exact List.mem_append_right _ (List.mem_singleton_self y)
      · have unknown : t.move? y.seq = none := by
          rw [move]
          exact started.fresh few
        simp [unknown]
    simp [grantEvent, changed]
  have granted : a.grantTest = a.grant y false := by
    rw [move]
    exact started.grantTest_census blank new (by rw [entered]; exact slots) (by rw [entered]; exact settings)
      (by rw [entered]; exact tenure) (by rw [entered]; exact handler) (by rw [entered]) (by rw [entered, move])
  have served : a.serve t noTouch = a.grant y false := by
    unfold State.serve
    rw [tested]
    dsimp only
    rw [if_pos event, granted]
    exact final.noSlotStep blank a noTouch
  have settled : t.firstAdmission .census = a.grant y false := by
    rw [State.firstAdmission, after, State.settle, served]
    exact blank.forecast final.frame.2.1 t noTouch
  rw [settled]
  exact final

end State.Started

end Sys2Proof.Machine
end

section
/-! PROOFS. POWER_ON_RESET: the blank state and the run of the first admissions (R8, R32, R57, R102, R141, R214). -/

namespace Sys2Proof.Machine

open Sys2Proof

variable {s t b : State} {x : Straps} {ms : List FirstMove} {P : Bool}

theorem resetNotices_entry (k : NoticeKind) :
    resetNotices.entry k = ⟨false, false, false, ⟨none, none, none, none, none⟩⟩ := by
  cases k <;> rfl

theorem portAtReset_state (r : PortRec) (full : Bool) : (portAtReset r full).state = r.state := by
  cases full <;> rfl

theorem resetPort_silent (p : Port) : (State.reset.port p).state = .silent := by
  fin_cases p <;> rfl

theorem powerOnBase_port (s : State) (x : Straps) (p : Port) :
    (s.powerOnBase x).port p = portAtReset (State.reset.port p) (x.presT.get p) := by
  simp [State.port, State.powerOnBase, Vector.get]
  rfl

theorem powerOnBase_sent (s : State) (x : Straps) (l : Link) : (s.powerOnBase x).sent l = [] := by
  simp [State.sent, State.powerOnBase, State.reset, Vector.get]

theorem powerOnBase_slot (s : State) (x : Straps) (n : Slot) : (s.powerOnBase x).slot n = .unknown := by
  simp [State.slot, State.powerOnBase, State.reset, Vector.get]

/-- The blocks of `b` are at power-on but for NEST_BLOCKED, which a pod on BO has raised. -/
theorem State.blockBo_eq (s : State) (x : Straps) : ∃ mn sn tx, (s.powerOnBase x).blockBo x = { s.powerOnBase x with
    bo := if x.presBo then .blocked else .empty, materialNotices := mn, serviceNotices := sn, tx := tx } := by
  cases pod : x.presBo with
  | false => exact ⟨_, _, _, by simp only [State.blockBo, pod]; rfl⟩
  | true =>
    obtain ⟨mn, sn, tx, raised⟩ := State.raise_eq { s.powerOnBase x with bo := .blocked } .nestBlocked
      ⟨none, none, some (.nest .bo), none, none⟩
    exact ⟨mn, sn, tx, by simp only [State.blockBo, pod]; exact raised⟩

theorem State.blockBo_sent (s : State) (x : Straps) (l : Link) (other : ∀ j, l ≠ .request (noticeLinkOf j)) :
    ((s.powerOnBase x).blockBo x).sent l = [] := by
  rw [← powerOnBase_sent s x l]
  unfold State.blockBo
  split
  · exact State.sent_raise_other _ _ _ other
  · rfl

theorem State.blockBo_notices (s : State) (x : Straps) (l : NoticeLink) :
    (∀ k, ((((s.powerOnBase x).blockBo x).noticeSet l).entry k).masked = false
      ∧ (((((s.powerOnBase x).blockBo x).noticeSet l).entry k).pending = true ↔ k = .nestBlocked ∧ x.presBo = true))
    ∧ (((s.powerOnBase x).blockBo x).noticeSet l).gap = if x.presBo = true then some 2 else none := by
  have clear (j : NoticeLink) : (s.powerOnBase x).noticeSet j = resetNotices := by cases j <;> rfl
  cases pod : x.presBo with
  | false =>
    have same : (s.powerOnBase x).blockBo x = s.powerOnBase x := by simp [State.blockBo, pod]
    rw [same, clear]
    refine ⟨fun k => ?_, rfl⟩
    simp [resetNotices_entry]
  | true =>
    obtain ⟨a, blocked⟩ : ∃ a, a = { s.powerOnBase x with bo := .blocked } := ⟨_, rfl⟩
    have before (j : NoticeLink) : a.noticeSet j = resetNotices := by
      rw [blocked]
      exact clear j
    have raised : (s.powerOnBase x).blockBo x = a.raise .nestBlocked ⟨none, none, some (.nest .bo), none, none⟩ := by
      rw [blocked]
      simp only [State.blockBo, pod]
      rfl
    rw [raised]
    refine ⟨fun k => ⟨?_, ?_⟩, ?_⟩
    · rw [State.raise_masked, before, resetNotices_entry]
    · by_cases own : k = .nestBlocked
      · subst own
        simp [(State.raise_raised a .nestBlocked _ l).1]
      · rw [(State.raise_other a own _ l).1, before, resetNotices_entry]
        simp [own]
    · rw [State.gap_raise _ _ _ (fun j => by rw [before, resetNotices_entry]), before, blocked]
      rfl

/-- The state before the first admissions, whatever number of free choices is drawn. -/
theorem State.blank_powerOn (s : State) (x : Straps) (n : Nat) :
    ({ (s.powerOnBase x).blockBo x with choices := n } : State).Blank x.presBo := by
  obtain ⟨b, before⟩ : ∃ b, b = ({ (s.powerOnBase x).blockBo x with choices := n } : State) := ⟨_, rfl⟩
  obtain ⟨mn, sn, tx, eq⟩ := s.blockBo_eq x
  have whole : b = { s.powerOnBase x with
      bo := if x.presBo then .blocked else .empty, materialNotices := mn, serviceNotices := sn, tx := tx, choices := n } := by
    rw [before, eq]
  have sent (l : Link) : b.sent l = ((s.powerOnBase x).blockBo x).sent l := by rw [before]; rfl
  have sets (l : NoticeLink) : b.noticeSet l = ((s.powerOnBase x).blockBo x).noticeSet l := by rw [before]; cases l <;> rfl
  rw [← before]
  refine ⟨fun k => ?_, fun p => ?_, ?_, ?_, ?_, ?_, ?_, ?_, fun k => ?_, ?_, ?_, ?_, fun p => ?_, fun l k => ?_, fun l => ?_⟩
  · rw [whole]
    exact powerOnBase_slot s x k
  · rw [whole]
    refine (congrArg PortRec.state (powerOnBase_port s x p)).trans ?_
    rw [portAtReset_state, resetPort_silent]
  · rw [whole]; rfl
  · rw [whole]; rfl
  · rw [whole]; rfl
  · rw [whole]; rfl
  · rw [whole]; rfl
  · rw [whole]; rfl
  · rw [whole]
    simp [State.powerOnBase, State.reset, Vector.get, resetIntercept, InterceptEntry.status]
  · rw [whole]; rfl
  · rw [whole]; rfl
  · rw [sent]
    exact s.blockBo_sent x _ fun j => by cases j <;> simp
  · rw [sent]
    exact s.blockBo_sent x _ fun j => by cases j <;> simp [noticeLinkOf]
  · rw [sets]
    exact (s.blockBo_notices x l).1 k
  · rw [sets]
    exact (s.blockBo_notices x l).2

/-! ## The moves admitted first (R141) -/

theorem mem_firstMoves {f : FirstMove} (h : f ∈ firstMoves x) :
    (f = .census) ∨ (∃ p, f = .nest (.collect p none)) ∨ f = .nest .stockIn ∨ f = .nest .reshelve := by
  simp only [firstMoves, List.mem_append, List.mem_map, List.mem_ite_nil_right, List.mem_singleton] at h
  rcases h with ((⟨p, _, e⟩ | ⟨_, e⟩) | ⟨_, e⟩) | ⟨_, e⟩
  · exact .inr (.inl ⟨p, e.symm⟩)
  · exact .inr (.inr (.inl e))
  · exact .inr (.inr (.inr e))
  · exact .inl e

theorem kinds_firstMoves (x : Straps) : (firstMoves x).map FirstMove.entry = kindsAtReset x := by
  simp only [firstMoves, kindsAtReset, List.map_append, List.map_map, apply_ite (List.map FirstMove.entry), List.map_nil,
    List.map_singleton]
  rfl

theorem census_mem_firstMoves (x : Straps) : .census ∈ firstMoves x ↔ x.autocen = true := by
  simp [firstMoves]

theorem firstMoves_nodup (x : Straps) : (firstMoves x).Nodup := by
  have collects : ((allPorts.filter (fun p => x.presT.get p)).map (fun p => FirstMove.nest (.collect p none))).Nodup :=
    ((by decide : allPorts.Nodup).filter _).map fun p q same => by simpa using same
  have one (c : Bool) (f : FirstMove) : (if c then [f] else []).Nodup := by cases c <;> simp
  refine List.Nodup.append (List.Nodup.append (List.Nodup.append collects (one _ _) ?_) (one _ _) ?_) (one _ _) ?_
  all_goals
    rw [List.disjoint_left]
    intro f here there
    rw [List.mem_ite_nil_right, List.mem_singleton] at there
    obtain ⟨_, rfl⟩ := there
    simp at here

theorem firstMoves_few (x : Straps) : (firstMoves x).length ≤ 9 := by
  have ports : (allPorts.filter (fun p => x.presT.get p)).length ≤ 6 := List.length_filter_le ..
  have one (c : Bool) (f : FirstMove) : (if c then [f] else []).length ≤ 1 := by cases c <;> simp
  simp only [firstMoves, List.length_append, List.length_map]
  have := one x.presBi (.nest .stockIn)
  have := one x.presIn (.nest .reshelve)
  have := one x.autocen .census
  omega

theorem State.Started.admitted (started : b.Started P t ms) (blank : b.Blank P) {f : FirstMove} (few : ms.length < 2 ^ 32)
    (new : f ∉ ms) (listed : f ∈ firstMoves x) : b.Started P (t.firstAdmission f) (ms ++ [f]) := by
  rcases mem_firstMoves listed with rfl | ⟨p, rfl⟩ | rfl | rfl
  · exact started.admitCensus blank few new
  · exact started.admitStore blank few (by simp) (o := collectOffer p none) rfl rfl rfl rfl rfl
  · exact started.admitStore blank few (by simp) (o := stockInOffer)
      (if_neg (by rw [started.executing .stockIn (by simp)]; simp)) rfl rfl rfl rfl
  · exact started.admitStore blank few (by simp) (o := reshelveOffer)
      (if_neg (by rw [started.executing .reshelve (by simp)]; simp)) rfl rfl rfl rfl

theorem State.Started.admitAll (blank : b.Blank P) {fs : List FirstMove} (started : b.Started P t ms)
    (few : (ms ++ fs).length < 2 ^ 32) (distinct : (ms ++ fs).Nodup) (listed : ∀ f ∈ fs, f ∈ firstMoves x) :
    b.Started P (fs.foldl State.firstAdmission t) (ms ++ fs) := by
  induction fs generalizing t ms with
  | nil =>
    rw [List.append_nil]
    exact started
  | cons f fs ih =>
    have shift : ms ++ f :: fs = (ms ++ [f]) ++ fs := by simp
    have here : f ∈ firstMoves x := listed f (List.mem_cons_self ..)
    have new : f ∉ ms := fun old => (List.nodup_append.mp distinct).2.2 f old f (List.mem_cons_self ..) rfl
    have room : ms.length < 2 ^ 32 := lt_of_le_of_lt (by simp) few
    rw [shift] at few distinct ⊢
    exact ih (started.admitted blank room new here) few distinct fun g hg => listed g (List.mem_cons_of_mem _ hg)

/-- What POWER_ON_RESET leaves: the first admissions in some order, from the blank state. -/
theorem State.powerOn_started (s : State) (x : Straps) : ∃ n ms, ms.Perm (firstMoves x)
    ∧ State.Started { (s.powerOnBase x).blockBo x with choices := n } x.presBo (s.powerOn x) ms := by
  obtain ⟨n, drawn⟩ := freeOrder_state (s := (s.powerOnBase x).blockBo x) (firstMoves x)
  have order := freeOrder_perm (firstMoves x) ((s.powerOnBase x).blockBo x)
  refine ⟨n, _, order, ?_⟩
  have run : s.powerOn x = (freeOrder (firstMoves x) ((s.powerOnBase x).blockBo x)).1.foldl State.firstAdmission
      (freeOrder (firstMoves x) ((s.powerOnBase x).blockBo x)).2 := rfl
  rw [run, drawn]
  generalize (freeOrder (firstMoves x) ((s.powerOnBase x).blockBo x)).1 = fs at order ⊢
  have blank := s.blank_powerOn x n
  have few : fs.length ≤ 9 := order.length_eq ▸ firstMoves_few x
  exact (blank.started).admitAll blank (by rw [List.nil_append]; omega)
    (order.nodup_iff.mpr (firstMoves_nodup x)) fun f hf => order.mem_iff.mp hf

/-- Settles O4: the first admissions, in any order, leave the blocks at power-on but for the queue, NO_SLOT, the census and its
SCAN. -/
theorem powerOnResetStartsThePart : Obligations.PowerOnResetStartsThePart := by
  unfold Obligations.PowerOnResetStartsThePart
  intro x s
  obtain ⟨n, ms, order, started⟩ := s.powerOn_started x
  have blank := s.blank_powerOn x n
  refine ⟨s.powerOn x, rfl, ?_⟩
  generalize s.powerOn x = t at started ⊢
  obtain ⟨mn, sn, tx, base⟩ := s.blockBo_eq x
  obtain ⟨q, c, f, h, e, mn', sn', tx', eq⟩ := started.eq
  have whole : t = { s.powerOnBase x with
      bo := if x.presBo then .blocked else .empty, choices := n, queue := q, nextSeq := c, noSlot := f, handler := h
      census := e, materialNotices := mn', serviceNotices := sn', tx := tx' } := by rw [eq, base]
  have listed : (ms.map FirstMove.entry).Perm (kindsAtReset x) := kinds_firstMoves x ▸ order.map _
  have count : ms.length = (kindsAtReset x).length := by rw [← kinds_firstMoves, List.length_map, order.length_eq]
  have asked : .census ∈ ms ↔ x.autocen = true := order.mem_iff.trans (census_mem_firstMoves x)
  have port (p : Port) : t.port p = portAtReset (State.reset.port p) (x.presT.get p) := by
    rw [whole]
    exact powerOnBase_port s x p
  have orders : t.handler.state = (if x.autocen then .scanning else .idle)
      ∧ t.handler.orderNumber = (if x.autocen then 1 else 0) ∧ t.sent .handler = (if x.autocen then [.scan 1 47] else [])
      ∧ t.handler.pickTimeout = 30 ∧ t.handler.placeTimeout = 30 ∧ t.handler.restartPending = false
      ∧ t.census.state = (if x.autocen then .running else .idle) ∧ t.census.tally = ⟨0, 0, 0, 0, 0⟩
      ∧ t.census.range = (if x.autocen then some (0, 47) else none) := by
    by_cases strap : x.autocen = true
    · obtain ⟨state, number, pick, place, restart, census, tally, range, order⟩ := started.scanning (asked.mpr strap)
      simp only [strap, if_true]
      exact ⟨state, number, order, pick, place, restart, census, tally, range⟩
    · obtain ⟨handler, census, orders⟩ := started.idle fun here => strap (asked.mp here)
      simp only [strap]
      rw [handler, census]
      exact ⟨rfl, rfl, orders, rfl, rfl, rfl, rfl, rfl, rfl⟩
  obtain ⟨state, number, sent, pick, place, restart, census, tally, range⟩ := orders
  have portState (p : Port) : (t.port p).state = .silent ∧ (t.port p).settings.anchor.val = 8 * p.val := by
    rw [port]
    fin_cases p <;> cases x.presT.get _ <;> exact ⟨rfl, rfl⟩
  refine ⟨fun k => ?_, ?_, fun k => ?_, fun p => ?_, portState, fun p => ?_, ?_, ?_, ?_, ?_, ?_, fun m hm => ?_, ?_, ?_, pick,
    place, state, number, sent, fun k => ?_, fun k => ?_, census, fun l => ?_, ?_, ?_, ?_, ?_, ?_, tally, range, restart,
    started.tools, ?_, fun l k => ?_, fun l => started.gap l⟩
  · rw [whole]
    exact powerOnBase_slot s x k
  · rw [whole]; rfl
  · rw [whole]
    simp [State.powerOnBase, State.reset, Vector.get, resetZone, ZoneEntry.enabled]
  · rw [port]
    cases x.presT.get p with
    | false => fin_cases p <;> rfl
    | true => rfl
  · rw [whole]
    simp [State.aheadOf, State.powerOnBase, State.reset, Vector.get, resetAhead]
  · rw [whole]; rfl
  · rw [whole]; rfl
  · rw [whole]
  · rw [whole]; rfl
  · rw [started.kinds]
    exact listed
  · obtain ⟨reticle, requester, executing, _⟩ := started.each m hm
    exact ⟨reticle, requester, executing⟩
  · rw [whole]; rfl
  · rw [whole]; rfl
  · rw [whole]
    simp [State.powerOnBase, State.reset, Vector.get]
  · rw [whole]
    simp [State.powerOnBase, State.reset, Vector.get, resetIntercept, InterceptEntry.status]
  · rw [whole]
    simp [State.rxOf, State.powerOnBase, State.reset, Vector.get]
  · rw [whole]; rfl
  · rw [whole]; rfl
  · rw [whole]; rfl
  · rw [started.nextSeq, count]
  · rw [whole]; rfl
  · rw [started.noSlot]
    exact exists_congr fun k => and_congr_left fun _ => listed.mem_iff
  · exact started.notices l k

end Sys2Proof.Machine
end

section
/-! PROOFS. The queue in its form: what enters, leaves and changes it. The entries are counted by the numbers given out since
the change began, since R118's distance holds of the state before it. -/

namespace Sys2Proof.Machine

open Sys2Proof

variable {s t u : State} {m x : Move} {i j k : Nat}

/-- The queue in its form, no entry admitted more than half the counter's range and `k` numbers ago, and no execution record
kept by an idle handler interface. -/
structure State.QueueForm (k : Nat) (s : State) : Prop where
  distinct : s.SeqsDistinct
  shaped : ∀ m ∈ s.queue, m.Shaped
  executing : ∀ m ∈ s.queue, m.state = .executing → s.handler.exec.bind (·.move) = some m.seq
  named : ∀ q, s.handler.exec.bind (·.move) = some q → ∃ m ∈ s.queue, m.seq = q ∧ m.state = .executing
  bound : ∀ r ∈ s.catalogue, ∀ q, r.binding = some q → ∃ m ∈ s.queue, m.seq = q
  cause : ∀ m ∈ s.queue, s.handler.exec.bind (·.move) = some m.seq → m.kind.isStore = true →
    ∀ c, s.handler.exec.bind (·.cause) = some c → c = .mismatch
  free : s.handler.state = .idle → s.handler.exec = none
  old : ∀ m ∈ s.queue, s.Old m.seq k

/-- From `s` to `t` the queue keeps its form while at most `i` numbers are given out. -/
def State.Grows (i : Nat) (s t : State) : Prop := ∀ k, k + i < 2147483648 → s.QueueForm k → t.QueueForm (k + i)

/-! ## The form of the queue and the invariant -/

theorem State.eq_of_seq (h : s.SeqsDistinct) (hm : m ∈ s.queue) (hx : x ∈ s.queue) (same : m.seq = x.seq) : m = x :=
  List.inj_on_of_nodup_map h hm hx same

theorem State.execMove_mem (h : s.execMove = some m) : m ∈ s.queue ∧ s.handler.exec.bind (·.move) = some m.seq := by
  unfold State.execMove at h
  split at h
  · next e exec =>
    obtain ⟨q, move, found⟩ := Option.bind_eq_some_iff.mp h
    have seq : m.seq = q := of_decide_eq_true (List.find?_some (p := fun x : Move => decide (x.seq = q)) found)
    exact ⟨List.mem_of_find?_eq_some found, by rw [exec, Option.bind_some, move, seq]⟩
  · cases h

theorem State.execMove_of_mem (h : s.SeqsDistinct) (hm : m ∈ s.queue) (own : s.handler.exec.bind (·.move) = some m.seq) :
    s.execMove = some m := by
  obtain ⟨e, exec, move⟩ := Option.bind_eq_some_iff.mp own
  unfold State.execMove
  rw [exec]
  dsimp only
  rw [move, Option.bind_some]
  exact State.move?_of_mem h hm

theorem State.QueueForm.of_sound (handler : s.handler.Sound) (sound : s.QueueSound) (fresh : s.SeqsFresh) :
    s.QueueForm 0 where
  distinct := sound.distinct
  shaped := sound.shaped
  executing := sound.executing
  named := sound.named
  bound := sound.bound
  cause m hm own store c hc := sound.cause m c (State.execMove_of_mem sound.distinct hm own) store hc
  free idle := by
    unfold Handler.Sound at handler
    rw [idle] at handler
    exact handler.1
  old := fresh

theorem State.QueueForm.sound (h : s.QueueForm k) : s.QueueSound where
  distinct := h.distinct
  shaped := h.shaped
  executing := h.executing
  named := h.named
  bound := h.bound
  cause m c found store hc := by
    obtain ⟨hm, own⟩ := State.execMove_mem found
    exact h.cause m hm own store c hc

theorem State.Grows.refl (s : State) : s.Grows 0 s := fun _ _ h => h

theorem State.Grows.trans (h : s.Grows i t) (g : t.Grows j u) : s.Grows (i + j) u := fun k small form => by
  have := g (k + i) (by omega) (h k (by omega) form)
  rwa [Nat.add_assoc] at this

theorem State.QueueForm.mono (h : s.QueueForm i) (le : i ≤ j) : s.QueueForm j :=
  { h with old := fun m hm => (h.old m hm).mono le }

theorem State.Grows.mono (h : s.Grows i t) (le : i ≤ j) : s.Grows j t :=
  fun k small form => (h k (by omega) form).mono (by omega)

/-! ## What leaves the queue and the execution record as they are -/

/-- The queue, the next number and the execution record stand, and no binding is new. -/
structure State.Same (s t : State) : Prop where
  queue : t.queue = s.queue
  next : t.nextSeq = s.nextSeq
  exec : t.handler.exec = s.handler.exec
  idle : t.handler.state = .idle → s.handler.state = .idle
  bound : ∀ r ∈ t.catalogue, ∀ q, r.binding = some q → ∃ x ∈ s.catalogue, x.binding = some q

theorem State.Same.trans (h : s.Same t) (g : t.Same u) : s.Same u where
  queue := g.queue.trans h.queue
  next := g.next.trans h.next
  exec := g.exec.trans h.exec
  idle e := h.idle (g.idle e)
  bound r hr q e := by
    obtain ⟨x, hx, e⟩ := g.bound r hr q e
    exact h.bound x hx q e

theorem State.Same.of_catalogue (queue : t.queue = s.queue) (next : t.nextSeq = s.nextSeq) (handler : t.handler = s.handler)
    (catalogue : t.catalogue = s.catalogue) : s.Same t where
  queue := queue
  next := next
  exec := by rw [handler]
  idle := by rw [handler]; exact id
  bound r hr q e := ⟨r, catalogue ▸ hr, e⟩

theorem State.Same.refl (s : State) : s.Same s := .of_catalogue rfl rfl rfl rfl

theorem State.Old.of_next (next : t.nextSeq = s.nextSeq) {q : Seq} (h : s.Old q k) : t.Old q k := by
  unfold State.Old at *
  rwa [next]

theorem State.Same.form (same : s.Same t) (h : s.QueueForm k) : t.QueueForm k where
  distinct := by
    unfold State.SeqsDistinct
    rw [same.queue]
    exact h.distinct
  shaped := by rw [same.queue]; exact h.shaped
  executing := by rw [same.queue, same.exec]; exact h.executing
  named := by rw [same.queue, same.exec]; exact h.named
  bound r hr q e := by
    obtain ⟨y, hy, e⟩ := same.bound r hr q e
    rw [same.queue]
    exact h.bound y hy q e
  cause := by rw [same.queue, same.exec]; exact h.cause
  free e := by rw [same.exec]; exact h.free (same.idle e)
  old m hm := (h.old m (same.queue ▸ hm)).of_next same.next

theorem State.Same.grows (same : s.Same t) : s.Grows 0 t := fun _ _ h => same.form h

theorem State.same_raise (s : State) (k : NoticeKind) (d : Detail) : s.Same (s.raise k d) := by
  obtain ⟨_, _, _, e⟩ := s.raise_eq k d
  rw [e]
  exact .of_catalogue rfl rfl rfl rfl

theorem State.same_send (s : State) (l : Link) (f : OutFrame) : s.Same (s.send l f) := .of_catalogue rfl rfl rfl rfl

theorem State.same_sendTool (s : State) (p : Port) (f : OutFrame) : s.Same (s.sendTool p f) := by
  obtain ⟨_, e⟩ := s.sendTool_eq p f
  rw [e]
  exact .of_catalogue rfl rfl rfl rfl

theorem State.same_tellWithdrawn (s : State) (m : Move) (r : Reason) : s.Same (s.tellWithdrawn m r) := by
  obtain ⟨_, e⟩ := State.tellWithdrawn_eq s m r
  rw [e]
  exact .of_catalogue rfl rfl rfl rfl

theorem State.same_tellEnd (s : State) (m : Move) (x : MoveOutcome) : s.Same (s.tellEnd m x) := by
  obtain ⟨_, e⟩ := State.tellEnd_eq s m x
  rw [e]
  exact .of_catalogue rfl rfl rfl rfl

theorem State.same_setSlot (s : State) (n : Slot) (e : SlotEntry) : s.Same (s.setSlot n e) := .of_catalogue rfl rfl rfl rfl

theorem State.same_updPort (s : State) (p : Port) (f : PortRec → PortRec) : s.Same (s.updPort p f) :=
  .of_catalogue rfl rfl rfl rfl

theorem State.same_nestBlocks (s : State) (x : Nest) (id : Option Ident) : s.Same (s.nestBlocks x id) := by
  unfold State.nestBlocks
  refine State.Same.trans ?_ (State.same_raise _ _ _)
  cases x <;> exact .of_catalogue rfl rfl rfl rfl

theorem State.same_nestEmptied (s : State) (x : Nest) : s.Same (s.nestEmptied x) := by
  cases x <;> exact .of_catalogue rfl rfl rfl rfl

theorem State.same_nestRestored (s : State) (x : Nest) (k : MoveKind) : s.Same (s.nestRestored x k) := by
  cases x <;> exact .of_catalogue rfl rfl rfl rfl

theorem State.same_mapCatalogue (s : State) {f : Rec → Rec} (h : ∀ r q, (f r).binding = some q → r.binding = some q) :
    s.Same { s with catalogue := s.catalogue.map f } where
  queue := rfl
  next := rfl
  exec := rfl
  idle := id
  bound r hr q e := by
    obtain ⟨x, hx, rfl⟩ := List.mem_map.mp hr
    exact ⟨x, hx, h x q e⟩

theorem State.same_updRecord (s : State) (id : Ident) {f : Rec → Rec} (h : ∀ r, (f r).binding = r.binding) :
    s.Same (s.updRecord id f) :=
  s.same_mapCatalogue fun r q e => by
    split at e
    · rwa [h] at e
    · exact e

theorem State.same_filterCatalogue (s : State) (f : Rec → Bool) : s.Same { s with catalogue := s.catalogue.filter f } where
  queue := rfl
  next := rfl
  exec := rfl
  idle := id
  bound r hr _ e := ⟨r, (List.mem_filter.mp hr).1, e⟩

theorem State.same_createRecord (s : State) {r : Rec} (unbound : r.binding = none) : s.Same (s.createRecord r) := by
  have entered : s.Same { s with
      catalogue := s.catalogue ++ [r], announcements := s.announcements.filter (fun a => !decide (a.id = r.id)) } :=
    ⟨rfl, rfl, rfl, id, fun x hx q e => by
      rcases List.mem_append.mp hx with old | new
      · exact ⟨x, old, e⟩
      · rw [List.mem_singleton.mp new, unbound] at e
        cases e⟩
  unfold State.createRecord
  dsimp only
  split
  · exact entered.trans (State.same_raise _ _ _)
  · exact entered

theorem State.same_countHit (s : State) (n : Fin 16) (o : Offer) : s.Same (s.countHit n o) := by
  unfold State.countHit
  dsimp only
  refine State.Same.trans ?_ (State.same_raise _ _ _)
  exact .of_catalogue rfl rfl rfl rfl

/-! ## What changes the queue -/

/-- An entry of the queue changed, but for its number, its state and its kind. -/
theorem State.grows_mapQueue (s : State) {f : Move → Move} (seq : ∀ x, (f x).seq = x.seq) (state : ∀ x, (f x).state = x.state)
    (kind : ∀ x, (f x).kind = x.kind) (shaped : ∀ x ∈ s.queue, x.Shaped → (f x).Shaped) :
    s.Grows 0 { s with queue := s.queue.map f } := fun k _ h => by
  refine ⟨?_, fun m hm => ?_, fun m hm e => ?_, fun q e => ?_, fun r hr q e => ?_, fun m hm own store => ?_, h.free, fun m hm => ?_⟩
  · have same : s.queue.map ((·.seq) ∘ f) = s.queue.map (·.seq) := List.map_congr_left fun x _ => seq x
    unfold State.SeqsDistinct
    rw [List.map_map, same]
    exact h.distinct
  · obtain ⟨x, hx, rfl⟩ := List.mem_map.mp hm
    exact shaped x hx (h.shaped x hx)
  · obtain ⟨x, hx, rfl⟩ := List.mem_map.mp hm
    rw [seq]
    exact h.executing x hx ((state x).symm.trans e)
  · obtain ⟨x, hx, e, run⟩ := h.named q e
    exact ⟨f x, List.mem_map_of_mem hx, (seq x).trans e, (state x).trans run⟩
  · obtain ⟨x, hx, e⟩ := h.bound r hr q e
    exact ⟨f x, List.mem_map_of_mem hx, (seq x).trans e⟩
  · obtain ⟨x, hx, rfl⟩ := List.mem_map.mp hm
    rw [kind] at store
    exact h.cause x hx (own.trans (congrArg some (seq x))) store
  · obtain ⟨x, hx, rfl⟩ := List.mem_map.mp hm
    rw [seq]
    exact h.old x hx

theorem State.grows_updMove (s : State) (q : Seq) {f : Move → Move} (seq : ∀ x, (f x).seq = x.seq)
    (state : ∀ x, (f x).state = x.state) (kind : ∀ x, (f x).kind = x.kind) (shaped : ∀ x, x.Shaped → (f x).Shaped) :
    s.Grows 0 (s.updMove q f) :=
  s.grows_mapQueue (f := fun m => if m.seq = q then f m else m) (fun x => by split <;> simp [seq])
    (fun x => by split <;> simp [state]) (fun x => by split <;> simp [kind]) fun x _ h => by
    split
    · exact shaped x h
    · exact h

/-- A move out of the queue, its binding released, that is not in execution. -/
theorem State.grows_dropMove (s : State) (q : Seq) (free : s.handler.exec.bind (·.move) ≠ some q) : s.Grows 0 (s.dropMove q) :=
  fun k _ h => by
  have sub (m : Move) (hm : m ∈ (s.dropMove q).queue) : m ∈ s.queue := (List.mem_filter.mp hm).1
  have stays (m : Move) (hm : m ∈ s.queue) (other : m.seq ≠ q) : m ∈ (s.dropMove q).queue :=
    List.mem_filter.mpr ⟨hm, by simp [other]⟩
  refine ⟨(h.distinct.sublist (List.Sublist.map _ List.filter_sublist)), fun m hm => h.shaped m (sub m hm),
    fun m hm => h.executing m (sub m hm), fun p e => ?_, fun r hr p e => ?_, fun m hm => h.cause m (sub m hm), h.free,
    fun m hm => h.old m (sub m hm)⟩
  · obtain ⟨m, hm, seq, run⟩ := h.named p e
    exact ⟨m, stays m hm fun same => free (e.trans (by rw [← seq, same])), seq, run⟩
  · obtain ⟨x, hx, rfl⟩ := List.mem_map.mp hr
    split at e
    · cases e
    · next other =>
      obtain ⟨m, hm, seq⟩ := h.bound x hx p e
      exact ⟨m, stays m hm fun same => other (by rw [e, ← seq, same]), seq⟩

/-- The move in execution out of the queue and the handler interface idle. -/
theorem State.QueueForm.dropIdle (h : s.QueueForm k) {q : Seq} (own : s.handler.exec.bind (·.move) = some q) :
    ((s.dropMove q).handlerIdle).QueueForm k := by
  have sub (m : Move) (hm : m ∈ (s.dropMove q).queue) : m ∈ s.queue := (List.mem_filter.mp hm).1
  refine ⟨(h.distinct.sublist (List.Sublist.map _ List.filter_sublist)), fun m hm => h.shaped m (sub m hm), fun m hm run => ?_,
    (fun _ e => nomatch e), fun r hr p e => ?_, (fun _ _ e => nomatch e), fun _ => rfl, fun m hm => h.old m (sub m hm)⟩
  · have exec := h.executing m (sub m hm) run
    rw [own] at exec
    have kept := (List.mem_filter.mp hm).2
    simp [Option.some.inj exec] at kept
  · obtain ⟨x, hx, rfl⟩ := List.mem_map.mp hr
    split at e
    · cases e
    · next other =>
      obtain ⟨m, hm, seq⟩ := h.bound x hx p e
      exact ⟨m, List.mem_filter.mpr ⟨hm, by simpa using fun same => other (by rw [e, ← seq, same])⟩, seq⟩

/-- The move in execution WAITING again and the handler interface idle. -/
theorem State.QueueForm.waitIdle (h : s.QueueForm k) {q : Seq} (own : s.handler.exec.bind (·.move) = some q) {f : Move → Move}
    (seq : ∀ x, (f x).seq = x.seq) (state : ∀ x, (f x).state = .waiting) (shaped : ∀ x, x.Shaped → (f x).Shaped) :
    ((s.updMove q f).handlerIdle).QueueForm k := by
  have seqs (x : Move) : (if x.seq = q then f x else x).seq = x.seq := by split <;> simp [seq]
  refine ⟨?_, fun m hm => ?_, fun m hm run => ?_, (fun _ e => nomatch e), fun r hr p e => ?_, (fun _ _ e => nomatch e), fun _ => rfl,
    fun m hm => ?_⟩
  · have same : s.queue.map ((·.seq) ∘ fun x => if x.seq = q then f x else x) = s.queue.map (·.seq) :=
      List.map_congr_left fun x _ => seqs x
    change ((s.queue.map fun x => if x.seq = q then f x else x).map (·.seq)).Nodup
    rw [List.map_map, same]
    exact h.distinct
  · obtain ⟨x, hx, rfl⟩ := List.mem_map.mp hm
    split
    · exact shaped x (h.shaped x hx)
    · exact h.shaped x hx
  · obtain ⟨x, hx, rfl⟩ := List.mem_map.mp hm
    split at run
    · rw [state] at run
      cases run
    · next other =>
      have exec := h.executing x hx run
      rw [own] at exec
      exact absurd (Option.some.inj exec).symm other
  · obtain ⟨x, hx, e⟩ := h.bound r hr p e
    exact ⟨_, List.mem_map_of_mem hx, (seqs x).trans e⟩
  · obtain ⟨x, hx, rfl⟩ := List.mem_map.mp hm
    rw [seqs]
    exact h.old x hx

/-- A record bound to a move of the queue. -/
theorem State.grows_bind (s : State) (id : Ident) {q : Seq} (here : ∃ m ∈ s.queue, m.seq = q) : s.Grows 0 (s.bind id q) :=
  fun k _ h => { h with
    bound := fun r hr p e => by
      obtain ⟨x, hx, rfl⟩ := List.mem_map.mp hr
      split at e
      · cases e
        exact here
      · exact h.bound x hx p e }

/-- An admission gives out one number, to the move and to the binding of the record it names (R118, R121). -/
theorem State.grows_enter (s : State) (o : Offer) (d h : Bool) (shaped : (s.entered o d h).Shaped) : s.Grows 1 (s.enter o d h) := by
  have grown : s.Grows 1 { s with queue := s.queue ++ [s.entered o d h], nextSeq := s.nextSeq + 1 } := fun k small form => by
    have new (x : Move) (hx : x ∈ s.queue) : x.seq ≠ s.nextSeq := fun same => (form.old x hx).ne same.symm
    refine ⟨?_, fun m hm => ?_, fun m hm run => ?_, fun q e => ?_, fun r hr q e => ?_, fun m hm own store => ?_, form.free,
      fun m hm => ?_⟩
    · unfold State.SeqsDistinct
      rw [List.map_append, List.nodup_append]
      refine ⟨form.distinct, List.nodup_singleton _, fun a ha b hb => ?_⟩
      obtain ⟨x, hx, rfl⟩ := List.mem_map.mp ha
      rw [List.mem_singleton.mp hb]
      exact new x hx
    · rcases List.mem_append.mp hm with here | last
      · exact form.shaped m here
      · rw [List.mem_singleton.mp last]
        exact shaped
    · rcases List.mem_append.mp hm with here | last
      · exact form.executing m here run
      · rw [List.mem_singleton.mp last] at run
        cases run
    · obtain ⟨m, hm, e⟩ := form.named q e
      exact ⟨m, List.mem_append_left _ hm, e⟩
    · obtain ⟨m, hm, e⟩ := form.bound r hr q e
      exact ⟨m, List.mem_append_left _ hm, e⟩
    · rcases List.mem_append.mp hm with here | last
      · exact form.cause m here own store
      · rw [List.mem_singleton.mp last] at own
        obtain ⟨x, hx, e, _⟩ := form.named _ own
        exact absurd e (new x hx)
    · rcases List.mem_append.mp hm with here | last
      · exact (form.old m here).succ (by omega) rfl
      · rw [List.mem_singleton.mp last]
        have age : ageAt (s.nextSeq + 1) s.nextSeq = 1 := by
          unfold ageAt
          bv_omega
        exact ⟨age.symm.le, age.le.trans (by omega)⟩
  unfold State.enter
  dsimp only
  split
  · next id _ =>
    exact grown.trans (State.grows_bind _ id ⟨s.entered o d h, List.mem_append_right _ (List.mem_singleton_self _), rfl⟩)
  · exact grown

/-! ## Admissions -/

theorem State.grows_offerInward (s : State) (o : Offer) (shaped : ∀ (a : State) h, (a.entered o false h).Shaped) :
    s.Grows 1 (s.offerInward o) := by
  rcases s.offerInward_cases o with ⟨_, e⟩ | ⟨n, _, e⟩ <;> rw [e]
  · exact s.grows_enter o _ _ (shaped _ _)
  · exact ((s.same_countHit n o).grows.trans (State.grows_enter _ o _ _ (shaped _ _))).mono (by omega)

theorem State.entered_reclaim_shaped (s : State) (p : Port) (id : Ident) (d h : Bool) :
    (s.entered (reclaimOffer p id) d h).Shaped := by
  simp [Move.Shaped, State.entered, reclaimOffer, MoveKind.isOutward]

theorem State.entered_collect_shaped (s : State) (p : Port) (id : Option Ident) (d h : Bool) :
    (s.entered (collectOffer p id) d h).Shaped := by
  simp [Move.Shaped, State.entered, collectOffer, MoveKind.isOutward]

theorem State.entered_stockIn_shaped (s : State) (d h : Bool) : (s.entered stockInOffer d h).Shaped := by
  simp [Move.Shaped, State.entered, stockInOffer, MoveKind.isOutward]

theorem State.entered_reshelve_shaped (s : State) (d h : Bool) : (s.entered reshelveOffer d h).Shaped := by
  simp [Move.Shaped, State.entered, reshelveOffer, MoveKind.isOutward]

theorem State.entered_scan_shaped (s : State) (n : Shelf) (d h : Bool) : (s.entered (scanOffer n) d h).Shaped := by
  simp [Move.Shaped, State.entered, scanOffer, MoveKind.isOutward, MoveKind.isStore]

theorem State.entered_prestage_shaped (s : State) (p : Port) (id : Ident) (pos : Fin 2) (a b : Slot) (d h : Bool) :
    (s.entered (prestageOffer p id pos a b) d h).Shaped := by
  simp [Move.Shaped, State.entered, prestageOffer, MoveKind.isOutward, MoveKind.isStore]

theorem State.entered_destage_shaped (s : State) (p : Port) (id : Ident) (n : Slot) (d h : Bool) :
    (s.entered (destageOffer p id n) d h).Shaped := by
  simp [Move.Shaped, State.entered, destageOffer, MoveKind.isOutward]

theorem State.grows_stockInArrives (s : State) : s.Grows 1 s.stockInArrives := by
  unfold State.stockInArrives
  split
  · exact (State.Grows.refl s).mono (by omega)
  · exact s.grows_offerInward _ fun _ _ => State.entered_stockIn_shaped ..

theorem State.grows_reshelveArrives (s : State) : s.Grows 1 s.reshelveArrives := by
  unfold State.reshelveArrives
  split
  · exact (State.Grows.refl s).mono (by omega)
  · exact s.grows_offerInward _ fun _ _ => State.entered_reshelve_shaped ..

theorem State.grows_deferredAdmission (s : State) (k : MoveKind) : s.Grows 1 (s.deferredAdmission k) := by
  have still : s.Grows 1 s := (State.Grows.refl s).mono (by omega)
  unfold State.deferredAdmission
  split
  · split
    · exact s.grows_stockInArrives
    · exact still
  · split
    · exact s.grows_reshelveArrives
    · exact still
  · exact still

/-! ## Withdrawals -/

/-- A WAITING entry is not the move in execution. -/
theorem State.QueueForm.waiting_free (h : s.QueueForm k) (here : m ∈ s.queue) (waits : m.isWaiting = true) :
    s.handler.exec.bind (·.move) ≠ some m.seq := fun own => by
  obtain ⟨x, hx, e, run⟩ := h.named m.seq own
  rw [State.eq_of_seq h.distinct hx here e] at run
  rw [Move.isWaiting, run] at waits
  cases waits

theorem State.grows_withdraw (s : State) (m : Move) (r : Option Reason) (free : s.handler.exec.bind (·.move) ≠ some m.seq) :
    s.Grows 0 (s.withdraw m r) := by
  have dropped : s.Grows 0 (if m.kind = .scan then (s.dropMove m.seq).censusEnds else s.dropMove m.seq) := by
    split
    · have ended : (s.dropMove m.seq).Same (s.dropMove m.seq).censusEnds := .of_catalogue rfl rfl rfl rfl
      exact (s.grows_dropMove m.seq free).trans ended.grows
    · exact s.grows_dropMove m.seq free
  unfold State.withdraw
  cases r with
  | none => exact dropped
  | some r => exact dropped.trans (State.same_tellWithdrawn _ m r).grows

theorem State.grows_withdrawWaiting (s : State) (m : Move) (r : Option Reason) (here : m ∈ s.queue) (waits : m.isWaiting = true) :
    s.Grows 0 (s.withdraw m r) :=
  fun k small h => s.grows_withdraw m r (h.waiting_free here waits) k small h

/-- Steps along a list that each keep the form while the handler interface stands keep it together. -/
theorem State.grows_foldl {α : Type} {step : State → α → State} {xs : List α} (s : State)
    (h : ∀ k, s.QueueForm k → ∀ x ∈ xs, ∀ t : State, t.handler = s.handler →
      State.Grows 0 t (step t x) ∧ (step t x).handler = t.handler) :
    s.Grows 0 (xs.foldl step s) := fun k small form => by
  have each := h k form
  clear h
  suffices ∀ t : State, t.handler = s.handler → t.QueueForm k → (xs.foldl step t).QueueForm k from this s rfl form
  intro t
  induction xs generalizing t with
  | nil => exact fun _ f => f
  | cons x xs ih =>
    intro same f
    obtain ⟨grows, handler⟩ := each x (List.mem_cons_self ..) t same
    exact ih (fun y hy => each y (List.mem_cons_of_mem _ hy)) _ (handler.trans same) (grows k small f)

theorem State.grows_withdrawWhere (s : State) (f : Move → Bool) (r : Option Reason) : s.Grows 0 (s.withdrawWhere f r) := by
  refine s.grows_foldl fun k form m hm t same => ⟨t.grows_withdraw m r ?_, t.withdraw_handler m r⟩
  obtain ⟨here, test⟩ := List.mem_filter.mp hm
  rw [same]
  exact form.waiting_free here (Bool.and_eq_true_iff.mp test).1

end Sys2Proof.Machine
end

section
/-! PROOFS. The queue in its form: holds, DUE checks, the grant, and everything that follows a change. -/

namespace Sys2Proof.Machine

open Sys2Proof

variable {s t u : State} {m x : Move} {i j k : Nat}

/-! ## Lapses: each admission of a RECLAIM takes a nest out of OUT_WAIT -/

/-- The number of nests in OUT_WAIT. -/
def State.outWaits (s : State) : Nat := (Finset.univ.filter fun p => s.toolNest p = .outWait).card

theorem State.outWaits_le (s : State) : s.outWaits ≤ 6 := Finset.card_le_univ _

/-- From `s` to `t` no nest enters OUT_WAIT, and no more numbers are given out than nests leave it. -/
structure State.Lapsing (s t : State) : Prop where
  fewer : t.outWaits ≤ s.outWaits
  grows : s.Grows (s.outWaits - t.outWaits) t

theorem State.Lapsing.trans (h : s.Lapsing t) (g : t.Lapsing u) : s.Lapsing u where
  fewer := g.fewer.trans h.fewer
  grows := by
    have fewer := h.fewer
    have fewer' := g.fewer
    exact (h.grows.trans g.grows).mono (by omega)

theorem State.Same.lapses (same : s.Same t) (ports : t.ports = s.ports) : s.Lapsing t := by
  have count : t.outWaits = s.outWaits := by
    unfold State.outWaits State.toolNest State.port
    rw [ports]
  exact ⟨count.le, same.grows.mono (Nat.zero_le _)⟩

theorem State.outWaits_lapseNest {p : Port} (waits : s.toolNest p = .outWait) : (s.lapseNest p).outWaits < s.outWaits := by
  have nest (q : Port) : (s.lapseNest p).toolNest q = if q = p then .outLapsed else s.toolNest q := by
    unfold State.lapseNest State.toolNest
    split
    · next same => rw [same, State.port_updPort_same]
    · next other => rw [State.port_updPort_other _ other]
  refine Finset.card_lt_card ((Finset.ssubset_iff_of_subset fun q hq => ?_).mpr ⟨p, by simp [waits], by simp [nest]⟩)
  rw [Finset.mem_filter, nest] at hq
  split at hq
  · cases hq.2
  · exact Finset.mem_filter.mpr hq

theorem State.lapses_reclaimIfUnfit (s : State) (id : Ident) : s.Lapsing (s.reclaimIfUnfit id) := by
  rcases s.reclaimIfUnfit_cases id with h | ⟨r, p, _, _, waits, _, h⟩ <;> rw [h]
  · exact (State.Same.refl s).lapses rfl
  · have left := State.outWaits_lapseNest waits
    have count : (((s.lapseNest p).offerInward (reclaimOffer p id)).sendTool p (.withdrawn id r.unfitReason)).outWaits
        = (s.lapseNest p).outWaits := by
      unfold State.outWaits State.toolNest State.port
      rw [State.sendTool_ports, State.offerInward_ports]
    refine ⟨by omega, ?_⟩
    have grows : s.Grows 1 (((s.lapseNest p).offerInward (reclaimOffer p id)).sendTool p (.withdrawn id r.unfitReason)) :=
      (((s.same_updPort p _).grows.trans (State.grows_offerInward _ _ fun _ _ => State.entered_reclaim_shaped ..)).trans
        (State.same_sendTool _ p _).grows).mono (by omega)
    exact grows.mono (by omega)

theorem State.grows_reclaimIfUnfit (s : State) (id : Ident) : s.Grows 1 (s.reclaimIfUnfit id) := by
  rcases s.reclaimIfUnfit_cases id with h | ⟨r, p, _, _, _, _, h⟩ <;> rw [h]
  · exact (State.Grows.refl s).mono (by omega)
  · exact (((s.same_updPort p _).grows.trans (State.grows_offerInward _ _ fun _ _ => State.entered_reclaim_shaped ..)).trans
      (State.same_sendTool _ p _).grows).mono (by omega)

theorem State.lapses_makeDue (s : State) (id : Ident) : s.Lapsing (s.makeDue id) :=
  ((s.same_updRecord id (f := fun r => { r with condition := .due }) fun _ => rfl).lapses rfl).trans
    (State.lapses_reclaimIfUnfit _ id)

theorem State.lapses_makeDueAll (s : State) (rs : List Rec) : s.Lapsing (rs.foldl (fun t r => t.makeDue r.id) s) := by
  induction rs generalizing s with
  | nil => exact (State.Same.refl s).lapses rfl
  | cons r rs ih => exact (s.lapses_makeDue r.id).trans (ih _)

theorem State.lapses_dueCheck (s : State) (f : Rec → Bool) : s.Lapsing (s.dueCheck f) := by
  have raised (t : State) (d : Detail) : t.Lapsing (t.raise .due d) := (t.same_raise .due d).lapses (by simp)
  rcases s.dueCheck_cases f with ⟨_, h⟩ | ⟨r, _, h⟩ | ⟨_, h⟩ <;> rw [h]
  · exact (State.Same.refl s).lapses rfl
  · exact (s.lapses_makeDue r.id).trans (raised _ _)
  · exact (s.lapses_makeDueAll _).trans (raised _ _)

theorem State.grows_dueCheck (s : State) (f : Rec → Bool) : s.Grows 6 (s.dueCheck f) :=
  (s.lapses_dueCheck f).grows.mono (by have := s.outWaits_le; omega)

theorem State.grows_addLots (s : State) (id : Ident) (n : Nat) : s.Grows 6 (s.addLots id n) :=
  ((s.same_updRecord id (f := fun r => { r with lots := satAdd r.lots n }) fun _ => rfl).grows.trans
    (State.grows_dueCheck _ _)).mono (by omega)

/-! ## Holds -/

theorem State.boundMove_mem {r : Rec} (h : s.boundMove r = some m) : m ∈ s.queue := by
  obtain ⟨q, _, found⟩ := Option.bind_eq_some_iff.mp h
  exact List.mem_of_find?_eq_some found

theorem State.grows_withdrawHeldDeliver (s : State) (r : Rec) : s.Grows 0 (s.withdrawHeldDeliver r) := by
  unfold State.withdrawHeldDeliver
  split
  · next m bound =>
    split
    · next waits => exact s.grows_withdrawWaiting m _ (State.boundMove_mem bound) (decide_eq_true waits.2)
    · exact .refl s
  · exact .refl s

theorem State.grows_setHeld (s : State) (id : Ident) : s.Grows 1 (s.setHeld id) := by
  have still : s.Grows 1 s := (State.Grows.refl s).mono (by omega)
  unfold State.setHeld
  split
  · split
    · exact still
    · have held := (s.same_updRecord id (f := fun x => { x with held := true }) fun _ => rfl).grows
      exact ((held.trans (State.grows_withdrawHeldDeliver _ _)).trans (State.grows_reclaimIfUnfit _ id)).mono (by omega)
  · exact still

theorem State.grows_doubtRecord (s : State) (id : Ident) : s.Grows 1 (s.doubtRecord id) :=
  ((s.same_updRecord id (f := Rec.doubt) fun _ => rfl).grows.trans (State.grows_reclaimIfUnfit _ id)).mono (by omega)

theorem State.grows_offerPrestage (s : State) (o : Offer) (shaped : ∀ (a : State), (a.entered o false false).Shaped) :
    s.Grows 1 (s.offerPrestage o) := by
  unfold State.offerPrestage
  split
  · exact s.grows_enter o _ _ (shaped _)
  · next n _ =>
    have hit := (s.same_countHit n o).grows
    dsimp only
    split
    · split
      · exact (hit.trans (State.grows_setHeld _ _)).mono (by omega)
      · exact hit.mono (by omega)
    · exact (hit.trans (State.grows_enter _ o _ _ (shaped _))).mono (by omega)

/-! ## The grant (R125, R127) -/

theorem State.same_testNoSlot (s : State) : s.Same s.testNoSlot := by
  unfold State.testNoSlot
  split
  · exact .of_catalogue rfl rfl rfl rfl
  · split
    · exact .refl s
    · have flagged : s.Same { s with noSlot := true } := .of_catalogue rfl rfl rfl rfl
      exact flagged.trans (State.same_raise _ _ _)

theorem State.same_noSlotStep (b a : State) (x : Touch) : b.Same (b.noSlotStep a x) := by
  unfold State.noSlotStep
  split
  · exact b.same_testNoSlot
  · exact .refl b

theorem State.grows_sweep (s : State) : s.Grows 0 s.sweep := by
  rw [s.sweep_eq]
  refine s.grows_foldl fun k form m hm t same => ?_
  unfold State.sweepStep
  split
  · next r swept =>
    have waits : m.isWaiting = true := by
      unfold State.sweeps at swept
      split at swept
      · next test => exact (Bool.and_eq_true_iff.mp test).1
      · cases swept
    exact ⟨t.grows_withdraw m _ (by rw [same]; exact form.waiting_free hm waits), State.withdraw_handler ..⟩
  · exact ⟨.refl t, rfl⟩

theorem State.grantTarget_shaped (s : State) (h : m.Shaped) : (s.granted m).Shaped := by
  obtain ⟨store, outward, scan, tool, inn⟩ := h
  unfold State.granted State.grantTarget
  by_cases kind : m.kind.isStore = true
  · rw [if_pos kind]
    split
    · next k _ =>
      exact ⟨fun _ => .inr (.inr ⟨k, rfl⟩), outward, scan, fun p e => by simp [storagePosition] at e,
        fun e => by simp [storagePosition] at e⟩
    · exact ⟨store, outward, scan, tool, inn⟩
  · rw [if_neg kind]
    exact ⟨store, outward, scan, tool, inn⟩

theorem earliest_mem {best : Option Move} {y : Move} (h : earliest best x = some y) : some y = best ∨ y = x := by
  unfold earliest at h
  split at h
  · exact .inr (Option.some.inj h).symm
  · split at h
    · exact .inr (Option.some.inj h).symm
    · exact .inl h.symm

theorem foldl_best_mem {f : Option Move → Move → Option Move} (step : ∀ best x y, f best x = some y → some y = best ∨ y = x)
    {ms : List Move} {best : Option Move} {y : Move} (h : ms.foldl f best = some y) : some y = best ∨ y ∈ ms := by
  induction ms generalizing best with
  | nil => exact .inl h.symm
  | cons x ms ih =>
    rcases ih h with e | here
    · rcases step best x y e.symm with e | e
      · exact .inl e
      · exact .inr (e ▸ List.mem_cons_self ..)
    · exact .inr (List.mem_cons_of_mem _ here)

theorem lowestSeq_mem {ms : List Move} (h : lowestSeq ms = some m) : m ∈ ms :=
  (foldl_best_mem (fun _ _ _ e => earliest_mem e) h).resolve_left nofun

theorem State.mostUrgent_mem {ms : List Move} (h : s.mostUrgent ms = some m) : m ∈ ms := by
  refine (foldl_best_mem (fun best x y e => ?_) h).resolve_left nofun
  unfold State.moreUrgent at e
  split at e
  · exact .inr (Option.some.inj e).symm
  · split at e
    · exact .inr (Option.some.inj e).symm
    · split at e
      · exact earliest_mem e
      · exact .inl e.symm

/-- The move chosen is an eligible one of the queue. -/
theorem State.choose_mem {b : Bool} (h : s.choose = some (m, b)) : m ∈ s.queue ∧ s.eligible m = true := by
  have listed : m ∈ s.queue.filter s.eligible := by
    unfold State.choose at h
    dsimp only at h
    split at h
    · next lowest =>
      cases h
      exact (List.mem_filter.mp (lowestSeq_mem lowest)).1
    · split at h
      · next tenured =>
        cases h
        unfold State.chooseByTenure at tenured
        split at tenured
        · exact (List.mem_filter.mp (State.mostUrgent_mem tenured)).1
        · cases tenured
      · obtain ⟨y, urgent, e⟩ := Option.map_eq_some_iff.mp h
        cases e
        exact State.mostUrgent_mem urgent
  exact List.mem_filter.mp listed

/-- A grant takes the handler interface, which was idle, to the move (R127). -/
theorem State.grows_grant (s : State) (m : Move) (b : Bool) (here : m ∈ s.queue) (idle : s.handler.state = .idle) :
    s.Grows 0 (s.grant m b) := fun k _ h => by
  have none_ : s.handler.exec = none := h.free idle
  have exec : (s.grant m b).handler.exec.bind (·.move) = some m.seq ∧ (s.grant m b).handler.exec.bind (·.cause) = none
      ∧ (s.grant m b).handler.state ≠ .idle := by
    rw [s.grant_eq]
    generalize ({ (s.placedFor m) with tenure := tenureAfter (s.placedFor m).tenure m b } : State) = a
    unfold State.firstOrder
    split <;> exact ⟨rfl, rfl, nofun⟩
  have queue : (s.grant m b).queue = s.queue.map (fun x => if x.seq = m.seq then s.granted m else x)
      ∧ (s.grant m b).nextSeq = s.nextSeq ∧ (s.grant m b).catalogue = s.catalogue := by
    obtain ⟨ports, bi, bo, inn, placed⟩ := s.placedFor_eq m
    obtain ⟨v, reserved⟩ := State.reserve_eq s (s.granted m)
    obtain ⟨tx, x, e, _⟩ := State.firstOrder_eq ({ (s.placedFor m) with tenure := tenureAfter (s.placedFor m).tenure m b }.updHandler
      (fun h => { h with exec := some ⟨some m.seq, none, none, none, 0⟩ })) (s.granted m)
    rw [s.grant_eq, e, placed, reserved]
    exact ⟨rfl, rfl, rfl⟩
  obtain ⟨move, cause, busy⟩ := exec
  obtain ⟨queue, next, catalogue⟩ := queue
  have seqs (x : Move) : (if x.seq = m.seq then s.granted m else x).seq = x.seq := by
    split
    · next same => exact same.symm
    · rfl
  refine ⟨?_, fun y hy => ?_, fun y hy run => ?_, fun q own => ?_, fun r hr q e => ?_, fun _ _ _ _ c hc => ?_,
    fun e => absurd e busy, fun y hy => ?_⟩
  · have same : s.queue.map ((·.seq) ∘ fun x => if x.seq = m.seq then s.granted m else x) = s.queue.map (·.seq) :=
      List.map_congr_left fun x _ => seqs x
    unfold State.SeqsDistinct
    rw [queue, List.map_map, same]
    exact h.distinct
  · rw [queue] at hy
    obtain ⟨x, hx, rfl⟩ := List.mem_map.mp hy
    split
    · exact s.grantTarget_shaped (h.shaped m here)
    · exact h.shaped x hx
  · rw [queue] at hy
    obtain ⟨x, hx, rfl⟩ := List.mem_map.mp hy
    split at run
    · next same => rw [move, if_pos same]; rfl
    · have own := h.executing x hx run
      rw [none_] at own
      cases own
  · rw [move, Option.some.injEq] at own
    rw [queue]
    exact ⟨_, List.mem_map_of_mem here, (seqs m).trans own, by rw [if_pos rfl]; rfl⟩
  · rw [catalogue] at hr
    rw [queue]
    obtain ⟨x, hx, e⟩ := h.bound r hr q e
    exact ⟨_, List.mem_map_of_mem hx, (seqs x).trans e⟩
  · rw [cause] at hc
    cases hc
  · rw [queue] at hy
    obtain ⟨x, hx, rfl⟩ := List.mem_map.mp hy
    rw [seqs]
    exact (h.old x hx).of_next next

theorem State.grows_grantTest (s : State) : s.Grows 0 s.grantTest := by
  rcases s.grantTest_cases with ⟨_, h⟩ | ⟨_, _, _, h⟩ | ⟨idle, _, m, b, chosen, h⟩ <;> rw [h]
  · exact .refl s
  · exact s.grows_sweep
  · exact s.grows_sweep.trans (State.grows_grant _ m b (State.choose_mem chosen).1 (by rw [State.sweep_handler]; exact idle))

theorem State.grows_serve (b a : State) (x : Touch) : b.Grows 0 (b.serve a x) := by
  have tested := (b.same_noSlotStep a x).grows
  unfold State.serve
  dsimp only
  split
  · exact (tested.trans (State.grows_grantTest _)).trans (State.same_noSlotStep _ _ _).grows
  · exact tested

theorem State.grows_served (s : State) (f : State → State) (h : s.Grows i (f s)) : s.Grows i (s.served f) :=
  h.trans (State.grows_serve _ _ _)

/-! ## The window re-evaluations (R85 to R89) -/

theorem State.grows_review (s : State) (p : Port) : s.Grows 0 (s.review p) := by
  refine s.grows_foldl fun k form m hm t same => ?_
  have gone (waits : m.isWaiting = true) : State.Grows 0 t (t.withdraw m none) ∧ (t.withdraw m none).handler = t.handler :=
    ⟨t.grows_withdraw m none (by rw [same]; exact form.waiting_free hm waits), State.withdraw_handler ..⟩
  have still : State.Grows 0 t t ∧ t.handler = t.handler := ⟨.refl t, rfl⟩
  unfold State.reviewMove
  split
  · next test =>
    have waits := (Bool.and_eq_true_iff.mp test).1
    split
    · split
      · exact gone waits
      · dsimp only
        split
        · exact still
        · exact ⟨t.grows_updMove m.seq (fun _ => rfl) (fun _ => rfl) (fun _ => rfl) fun _ h => h, rfl⟩
    · split
      · exact gone waits
      · exact still
    · exact still
  · exact still

theorem State.grows_askPrestage (s : State) (p : Port) (id : Ident) (c : Fin 2) : s.Grows 1 (s.askPrestage p id c) := by
  unfold State.askPrestage
  split
  · exact s.grows_offerPrestage _ fun _ => State.entered_prestage_shaped ..
  · exact (State.Grows.refl s).mono (by omega)

theorem State.grows_askDestage (s : State) (p : Port) (c : Nat) (n : Slot) : s.Grows 1 (s.askDestage p c n) := by
  have still : s.Grows 1 s := (State.Grows.refl s).mono (by omega)
  unfold State.askDestage
  split
  · split
    · exact s.grows_offerInward _ fun _ _ => State.entered_destage_shaped ..
    · exact still
  · exact still

theorem State.grows_askPrestages (s : State) (p : Port) : s.Grows 2 (s.askPrestages p) := by
  unfold State.askPrestages
  split
  · exact (State.Grows.refl s).mono (by omega)
  · next a _ => exact (s.grows_served (fun t => t.askPrestage p a 0) (s.grows_askPrestage p a 0)).mono (by omega)
  · next a b _ _ =>
    exact (s.grows_served (fun t => t.askPrestage p a 0) (s.grows_askPrestage p a 0)).trans
      (State.grows_served _ (fun t => t.askPrestage p b 1) (State.grows_askPrestage _ p b 1))

theorem State.grows_reevaluate (s : State) (p : Port) : s.Grows 4 (s.reevaluate p) := by
  unfold State.reevaluate
  split
  · have reviewed := s.grows_served (fun t => t.review p) (s.grows_review p)
    have destaged (t : State) (c : Nat) (n : Slot) : t.Grows 1 (t.served (fun t => t.askDestage p c n)) :=
      t.grows_served _ (t.grows_askDestage p c n)
    exact ((reviewed.trans (State.grows_askPrestages _ p)).trans (destaged _ _ _)).trans (destaged _ _ _)
  · exact (State.Grows.refl s).mono (by omega)

theorem State.same_choices (s : State) (n : Nat) : s.Same { s with choices := n } := .of_catalogue rfl rfl rfl rfl

theorem State.grows_reevaluateAll (fuel : Nat) (ps : List Port) (s : State) : s.Grows (4 * fuel) (reevaluateAll fuel ps s) := by
  induction fuel generalizing ps s with
  | zero => exact .refl s
  | succ n ih =>
    cases ps with
    | nil => exact (State.Grows.refl s).mono (by omega)
    | cons p ps =>
      have first := s.grows_reevaluate p
      unfold reevaluateAll
      dsimp only
      split
      · exact (first.trans (ih _ _)).mono (by omega)
      · obtain ⟨k, e⟩ := freeOrder_state (s := s.reevaluate p) (ps ++ allPorts.filter (fun q =>
          !ps.contains q && windowFollows s (s.reevaluate p) p q))
        rw [e]
        exact ((first.trans (State.same_choices _ k).grows).trans (ih _ _)).mono (by omega)

/-- What follows a change gives out at most 192 numbers. -/
theorem State.grows_settle (b a : State) (x : Touch) : b.Grows 192 (b.settle a x) := by
  unfold State.settle State.forecastStep
  obtain ⟨n, e⟩ := freeOrder_state (s := b.serve a x) (allPorts.filter (windowEvent a (b.serve a x) x))
  dsimp only
  rw [e]
  exact (((b.grows_serve a x).trans (State.same_choices _ n).grows).trans
    (State.grows_reevaluateAll reevaluationBound _ _)).mono (by decide)

end Sys2Proof.Machine
end

section
/-! PROOFS. The queue in its form: the tool nests, and the move in execution from its pick to its end. -/

namespace Sys2Proof.Machine

open Sys2Proof

variable {s t u a : State} {m x : Move} {i j k : Nat} {q : Seq}

/-! ## Tool nests -/

theorem State.grows_still (s : State) (i : Nat) : s.Grows i s := (State.Grows.refl s).mono (Nat.zero_le i)

theorem State.grows_reclaimNest (s : State) (p : Port) : s.Grows 1 (s.reclaimNest p) := by
  unfold State.reclaimNest
  split
  · exact s.grows_offerInward _ fun _ _ => State.entered_reclaim_shaped ..
  · exact s.grows_still 1

theorem State.grows_takeCompletes (s : State) (p : Port) : s.Grows 6 (s.takeCompletes p) := by
  have cleared := (s.same_updPort p (fun r => { r with nest := .empty, window := none, lapseDeferred := false })).grows
  unfold State.takeCompletes
  split
  · next r _ =>
    exact ((cleared.trans (State.same_updRecord _ r.id (f := fun x => { x with
      location := .tool p, deliveries := satAdd x.deliveries 1 }) fun _ => rfl).grows).trans (State.grows_dueCheck _ _)).mono
        (by omega)
  · exact cleared.mono (by omega)

theorem State.grows_unsanctionedTake (s : State) (p : Port) : s.Grows 0 (s.unsanctionedTake p) := by
  have cleared := ((s.same_updPort p (fun r => { r with nest := .empty, window := none, lapseDeferred := false })).grows.trans
    (State.grows_withdrawWhere _ (fun m => m.kind = .reclaim && m.source = .nest (.t p)) none))
  unfold State.unsanctionedTake
  dsimp only
  split
  · next r _ =>
    exact (cleared.trans (State.same_updRecord _ r.id (f := fun x => { x with
      location := .tool p, condition := .quarantine }) fun _ => rfl).grows).trans (State.same_raise _ _ _).grows
  · exact cleared.trans (State.same_raise _ _ _).grows

theorem State.grows_lapse (s : State) (p : Port) : s.Grows 1 (s.lapse p) := by
  have lapsed := (s.same_updPort p (fun r => { r with nest := .outLapsed, window := none, lapseDeferred := false })).grows.trans
    (State.grows_reclaimNest _ p)
  unfold State.lapse
  dsimp only
  split
  · exact ((lapsed.trans (State.same_sendTool _ _ _).grows).trans (State.same_raise _ _ _).grows).mono (by omega)
  · exact (lapsed.trans (State.same_raise _ _ _).grows).mono (by omega)

theorem State.grows_completeReturn (s : State) (p : Port) (id : Ident) (n : Nat) : s.Grows 7 (s.completeReturn p id n) :=
  (((s.same_updPort p _).grows.trans (State.grows_offerInward _ _ fun _ _ => State.entered_collect_shaped ..)).trans
    (State.grows_addLots _ id n)).mono (by omega)

theorem State.grows_enterReturned (s : State) (p : Port) : s.Grows 7 (s.enterReturned p) := by
  have entered := (s.same_updPort p (fun r => { r with nest := .returned, lateOpen := false })).grows
  unfold State.enterReturned
  dsimp only
  split
  · split
    · exact (entered.trans (State.grows_completeReturn _ _ _ _)).mono (by omega)
    · exact ((entered.trans (State.same_updPort _ p _).grows).trans (State.same_updPort _ p _).grows).mono (by omega)
  · exact (entered.trans (State.same_updPort _ p _).grows).mono (by omega)

theorem State.same_updAhead (s : State) (p : Port) (f : CallAhead → CallAhead) : s.Same (s.updAhead p f) :=
  .of_catalogue rfl rfl rfl rfl

theorem State.grows_dropToolWork (s : State) (p : Port) : s.Grows 0 (s.dropToolWork p) := s.grows_withdrawWhere _ _

theorem State.grows_markStandDown (s : State) (p : Port) : s.Grows 0 (s.markStandDown p) :=
  s.grows_mapQueue (fun x => by split <;> rfl) (fun x => by split <;> rfl) (fun x => by split <;> rfl) fun x _ h => by
    split
    · exact h
    · exact h

theorem State.grows_lapseQuietly (s : State) (p : Port) : s.Grows 1 (s.lapseQuietly p) := by
  unfold State.lapseQuietly
  split
  · exact ((s.same_updPort p _).grows.trans (State.grows_reclaimNest _ p)).mono (by omega)
  · exact s.grows_still 1

theorem State.grows_standDown (s : State) (p : Port) : s.Grows 1 (s.standDown p) :=
  (((s.grows_dropToolWork p).trans (State.same_updAhead _ p _).grows).trans (State.grows_markStandDown _ p)).trans
    (State.grows_lapseQuietly _ p) |>.mono (by omega)

theorem State.grows_placementTest (s : State) (p : Port) (id : Ident) (b : Bool) : s.Grows 1 (s.placementTest p id b) := by
  have lapsed := (s.same_updPort p (fun r => { r with nest := .outLapsed, window := none, lapseDeferred := false })).grows.trans
    (State.grows_offerInward _ (reclaimOffer p id) fun _ _ => State.entered_reclaim_shaped ..)
  unfold State.placementTest
  split
  · split
    · exact (((s.same_updPort p _).grows.trans (State.same_sendTool _ p _).grows).trans (State.same_updPort _ p _).grows).mono
        (by omega)
    · dsimp only
      split
      · exact (lapsed.trans (State.same_sendTool _ p _).grows).mono (by omega)
      · exact lapsed.mono (by omega)
  · exact s.grows_still 1

theorem State.grows_nestOccupied (s : State) (x : Nest) : s.Grows 7 (s.nestOccupied x) := by
  have inn (y : InNest) : s.Same { s with inn := y } := .of_catalogue rfl rfl rfl rfl
  have bo : s.Same { s with bo := .empty } := .of_catalogue rfl rfl rfl rfl
  unfold State.nestOccupied
  split
  · split
    · exact s.grows_enterReturned _
    · exact (s.same_updPort _ _).grows.mono (by omega)
  · split
    · exact (s.same_nestBlocks _ _).grows.mono (by omega)
    · exact bo.grows.mono (by omega)
  · split
    · exact ((inn .arrived).grows.trans (State.grows_reshelveArrives _)).mono (by omega)
    · exact (inn .empty).grows.mono (by omega)
  · exact s.grows_still 7

/-! ## The handler interface -/

/-- A change of the handler interface that keeps the move in execution and the cause of its putback, and the record only while
it works. -/
theorem State.grows_updHandler (s : State) (f : Handler → Handler)
    (move : (f s.handler).exec.bind (·.move) = s.handler.exec.bind (·.move))
    (cause : ∀ m ∈ s.queue, s.handler.exec.bind (·.move) = some m.seq → m.kind.isStore = true →
      ∀ c, (f s.handler).exec.bind (·.cause) = some c → s.handler.exec.bind (·.cause) = some c ∨ c = .mismatch)
    (free : (s.handler.state = .idle → s.handler.exec = none) → (f s.handler).state = .idle → (f s.handler).exec = none) :
    s.Grows 0 (s.updHandler f) := fun k _ h =>
  { h with
    executing := fun m hm run => move.trans (h.executing m hm run)
    named := fun q own => h.named q (move.symm.trans own)
    cause := fun m hm own store c hc => by
      have own' := move.symm.trans own
      exact (cause m hm own' store c hc).elim (h.cause m hm own' store c) id
    free := free h.free }

theorem State.grows_updExec (s : State) (f : ExecRecord → ExecRecord) (move : ∀ e, (f e).move = e.move)
    (cause : ∀ e, (f e).cause = e.cause) : s.Grows 0 (s.updHandler fun h => { h with exec := h.exec.map f }) :=
  s.grows_updHandler _ (by cases s.handler.exec <;> simp [move])
    (fun m _ _ _ c hc => .inl (by cases exec : s.handler.exec <;> simp_all))
    (fun free idle => by
      have none_ := free idle
      simp [none_])

/-- An order goes out and its phase is recorded. -/
theorem State.grows_order (s : State) (f : Byte → OutFrame) (n : Nat) (ph : Phase) :
    s.Grows 0 ((s.order f ph.handlerState n).setPhase ph) := by
  have sent := (s.same_send .handler (f (s.handler.orderNumber + 1))).grows
  refine sent.trans (State.grows_updHandler (s.send .handler (f (s.handler.orderNumber + 1))) (fun h => { h with
    orderNumber := s.handler.orderNumber + 1, numberCurrent := true, state := ph.handlerState, timer := some n
    exec := h.exec.map (fun e => { e with phase := some ph }) }) ?_ (fun m _ _ _ c hc => .inl ?_) fun _ idle => ?_)
  · cases exec : s.handler.exec <;> simp [exec]
  · cases exec : s.handler.exec <;> simp_all
  · exact absurd idle ph.handlerState_ne_idle

theorem State.grows_sendMove (s : State) (m : Move) : s.Grows 0 (s.sendMove m) := s.grows_order _ _ .picking

theorem State.grows_sendScan (s : State) (n : Shelf) : s.Grows 0 (s.sendScan n) := s.grows_order _ _ .scanning

theorem State.grows_sendPlace (s : State) (x : Position) (ph : Phase) : s.Grows 0 (s.sendPlace x ph) := s.grows_order _ _ ph

theorem State.grows_setCause (s : State) (c : PutbackCause) (sound : c ≠ .mismatch →
    ∀ m ∈ s.queue, s.handler.exec.bind (·.move) = some m.seq → m.kind.isStore = false) : s.Grows 0 (s.setCause c) :=
  s.grows_updHandler _ (by cases exec : s.handler.exec <;> simp)
    (fun m hm own store d hd => by
      by_cases mismatch : c = .mismatch
      · cases exec : s.handler.exec <;> simp_all
      · rw [sound mismatch m hm own] at store
        cases store)
    (fun free idle => by
      have none_ := free idle
      simp [none_])

theorem State.grows_haltAt (s : State) (c : HaltCode) (g : GripperState) (x : Option Position) : s.Grows 0 (s.haltAt c g x) := by
  unfold State.haltAt
  dsimp only
  refine State.Grows.trans (i := 0) (j := 0) ?_ (State.same_raise _ _ _).grows
  exact s.grows_updHandler (fun h => { h with
    state := .halted, halt := some ⟨c, g⟩, numberCurrent := false, timer := none }) rfl (fun _ _ _ _ _ h => .inl h)
    (fun _ idle => nomatch idle)

theorem State.grows_halt (s : State) (c : HaltCode) (g : GripperState) : s.Grows 0 (s.halt c g) :=
  s.grows_haltAt c g _

/-! ## The pick (R42, R150, R151) -/

theorem Move.Shaped.storage (h : m.Shaped) (n : Fin 384) : { m with target := .pos (storagePosition n) }.Shaped := by
  obtain ⟨_, outward, scan, _, _⟩ := h
  exact ⟨fun _ => .inr (.inr ⟨n, rfl⟩), outward, scan, fun _ e => by simp [storagePosition] at e,
    fun e => by simp [storagePosition] at e⟩

theorem Move.Shaped.noTarget (h : m.Shaped) : { m with target := .noTarget }.Shaped := by
  obtain ⟨_, outward, scan, _, _⟩ := h
  exact ⟨fun _ => .inr (.inl rfl), outward, scan, (fun _ e => nomatch e), (fun e => nomatch e)⟩

theorem Move.Shaped.waits (h : m.Shaped) :
    { m with state := .waiting, target := if m.kind.isStore then .toSelect else m.target }.Shaped := by
  obtain ⟨store, outward, scan, tool, inn⟩ := h
  by_cases kind : m.kind.isStore = true
  · simp only [kind, if_true]
    exact ⟨fun _ => .inl rfl, outward, scan, (fun _ e => nomatch e), (fun e => nomatch e)⟩
  · simp only [kind]
    exact ⟨store, outward, scan, tool, inn⟩

theorem State.updMove_seqs (s : State) (q : Seq) {f : Move → Move} (seq : ∀ x, (f x).seq = x.seq) :
    (s.updMove q f).queue.map (·.seq) = s.queue.map (·.seq) := by
  have same : s.queue.map ((·.seq) ∘ fun x => if x.seq = q then f x else x) = s.queue.map (·.seq) :=
    List.map_congr_left fun x _ => by
      change (if x.seq = q then f x else x).seq = x.seq
      split <;> simp [seq]
  exact (List.map_map ..).trans same

theorem State.same_freeSource (s : State) (x : Position) : s.Same (s.freeSource x) := by
  cases x with
  | slot n => exact s.same_setSlot n _
  | nest y => exact s.same_nestEmptied y
  | shelf _ => exact .refl s

theorem State.same_expectAt (s : State) (n : Option Slot) (id : Ident) : s.Same (s.expectAt n id) := by
  unfold State.expectAt
  split
  · split
    · exact s.same_setSlot _ _
    · exact .refl s
  · exact .refl s

theorem State.grows_robCollect (s : State) (id : Ident) : s.Grows 0 (s.robCollect id)
    ∧ (s.robCollect id).queue.map (·.seq) = s.queue.map (·.seq) := by
  unfold State.robCollect
  split
  · split
    · exact ⟨s.grows_updMove _ (fun _ => rfl) (fun _ => rfl) (fun _ => rfl) fun _ h => h, s.updMove_seqs _ fun _ => rfl⟩
    · exact ⟨.refl s, rfl⟩
  · exact ⟨.refl s, rfl⟩

theorem State.grows_nameMove (s : State) (m : Move) (id : Ident) (here : m.seq ∈ s.queue.map (·.seq)) :
    s.Grows 0 (s.nameMove m id) := by
  unfold State.nameMove
  split
  · exact .refl s
  · obtain ⟨robbed, seqs⟩ := s.grows_robCollect id
    refine (robbed.trans (State.grows_updMove _ m.seq (f := fun x => { x with reticle := some id, pickTest := .named })
      (fun _ => rfl) (fun _ => rfl) (fun _ => rfl) fun _ h => h)).trans (State.grows_bind _ id ?_)
    have still : m.seq ∈ ((s.robCollect id).updMove m.seq (fun x => { x with reticle := some id, pickTest := .named })).queue.map
        (·.seq) := by
      rw [State.updMove_seqs]
      · rw [seqs]
        exact here
      · exact fun _ => rfl
    obtain ⟨x, hx, e⟩ := List.mem_map.mp still
    exact ⟨x, hx, e⟩

theorem State.grows_acceptPick (s : State) (m : Move) (id : Ident) (here : m.seq ∈ s.queue.map (·.seq)) :
    s.Grows 0 (s.acceptPick m id) := by
  have freed := (s.same_updRecord id (f := Rec.moveTo .gripper) fun _ => rfl).trans (State.same_freeSource _ m.source)
  refine (freed.grows.trans (State.grows_nameMove _ m id ?_)).trans (State.same_expectAt _ _ id).grows
  rw [freed.queue]
  exact here

theorem State.grows_pickCheck (s : State) (m : Move) (id : Ident) : s.Grows 0 (s.pickCheck m id) := by
  unfold State.pickCheck
  split
  · split
    · split
      · exact .refl s
      · split
        · next j _ =>
          exact ((s.same_setSlot _ _).trans (State.same_setSlot _ _ _)).grows.trans (State.grows_updMove _ m.seq
            (f := fun x => { x with target := .pos (storagePosition j) }) (fun _ => rfl) (fun _ => rfl) (fun _ => rfl)
            fun _ h => h.storage j)
        · exact .refl s
    · exact .refl s
  · exact .refl s

theorem State.grows_carryOn (s : State) (m : Move) : s.Grows 0 (s.carryOn m) := by
  unfold State.carryOn
  extract_lets waits
  cases waits with
  | true =>
    exact s.grows_updHandler (fun h => { h with
      state := .carrying, timer := some h.placeTimeout, exec := h.exec.map (fun e => { e with phase := some .carrying }) })
      (by cases exec : s.handler.exec <;> simp)
      (fun m _ _ _ c hc => .inl (by cases exec : s.handler.exec <;> simp_all)) fun _ idle => nomatch idle
  | false =>
    simp only [Bool.false_eq_true, if_false]
    split
    · exact s.grows_sendPlace _ _
    · exact .refl s

theorem State.grows_picks (s : State) (m : Move) (id : Ident) (here : m.seq ∈ s.queue.map (·.seq)) :
    s.Grows 0 (s.picks m id) := by
  have accepted := s.grows_acceptPick m id here
  unfold State.picks
  dsimp only
  split
  · exact (accepted.trans (State.grows_pickCheck _ m id)).trans (State.grows_carryOn _ m)
  · exact accepted.trans (State.grows_carryOn _ m)

theorem State.grows_mismatch (s : State) (m : Move) : s.Grows 0 (s.mismatch m) :=
  (s.grows_sendPlace _ _).trans (State.grows_setCause _ _ fun h => absurd rfl h)

theorem State.createAtPick_unbound {id : Ident} {c : ClassNo} {x : Condition} {held : Bool} {r : Rec}
    (h : s.createAtPick id c x held = .create r) : r.binding = none := by
  unfold State.createAtPick at h
  split at h
  · cases h
  · cases h
    rfl

theorem State.judgePick_unbound {read : ReadId} {r : Rec} (h : s.judgePick m read = .create r) : r.binding = none := by
  unfold State.judgePick at h
  split at h
  · cases h
  · split at h
    · split at h <;> cases h
    · unfold State.judgeAnyAtTool at h
      split at h
      · split at h <;> cases h
      · exact State.createAtPick_unbound h
    · split at h <;> cases h
    · unfold State.judgeStockIn at h
      split at h
      · cases h
      · split at h
        · exact State.createAtPick_unbound h
        · split at h
          · exact State.createAtPick_unbound h
          · cases h
    · cases h

theorem State.grows_takePicked (s : State) (m : Move) (read : ReadId) (here : m.seq ∈ s.queue.map (·.seq)) :
    s.Grows 0 (s.takePicked m read) := by
  have stored := s.grows_updExec (fun e => { e with read := some read }) (fun _ => rfl) fun _ => rfl
  unfold State.takePicked
  dsimp only
  split
  · exact stored.trans (State.grows_picks _ m _ here)
  · next r judged =>
    have created := State.same_createRecord (s.updHandler (fun h => { h with
      exec := h.exec.map (fun e => { e with read := some read }) })) (State.judgePick_unbound judged)
    refine (stored.trans created.grows).trans (State.grows_picks _ m _ ?_)
    rw [created.queue]
    exact here
  · exact stored.trans (State.grows_mismatch _ m)
  · exact (stored.trans (State.same_raise _ _ _).grows).trans (State.grows_mismatch _ m)

/-! ## Ends of the move in execution (R115, R154 to R159) -/

/-- From `s` to `t` the queue keeps its form, with the move of number `q` in execution in `s`, and at most `i` numbers given
out. -/
def State.Ends (i : Nat) (q : Seq) (s t : State) : Prop :=
  ∀ k, k + i < 2147483648 → s.handler.exec.bind (·.move) = some q → s.QueueForm k → t.QueueForm (k + i)

theorem State.Grows.ends (h : s.Grows i t) (q : Seq) : s.Ends i q t := fun k small _ form => h k small form

theorem State.Ends.mono (h : s.Ends i q t) (le : i ≤ j) : s.Ends j q t :=
  fun k small own form => (h k (by omega) own form).mono (by omega)

theorem State.Ends.trans (h : s.Ends i q t) (g : t.Grows j u) : s.Ends (i + j) q u := fun k small own form => by
  have := g (k + i) (by omega) (h k (by omega) own form)
  rwa [Nat.add_assoc] at this

theorem State.Grows.then_ends (h : s.Grows i t) (exec : t.handler.exec.bind (·.move) = s.handler.exec.bind (·.move))
    (g : t.Ends j q u) : s.Ends (i + j) q u := fun k small own form => by
  have := g (k + i) (by omega) (exec.trans own) (h k (by omega) form)
  rwa [Nat.add_assoc] at this

theorem State.ends_dropIdle (s : State) (q : Seq) : s.Ends 0 q ((s.dropMove q).handlerIdle) := fun _ _ own form =>
  form.dropIdle own

theorem State.ends_endMove (s : State) (m : Move) : s.Ends 1 m.seq (s.endMove m) :=
  ((s.ends_dropIdle m.seq).trans (State.grows_deferredAdmission _ m.kind)).mono (by omega)

theorem State.same_releaseTarget (s : State) (x : Target) : s.Same (s.releaseTarget x) := by
  unfold State.releaseTarget
  split
  · split
    · exact s.same_setSlot _ _
    · exact .refl s
  · split
    · exact s.same_nestEmptied _
    · exact .refl s
  · exact .refl s

theorem State.same_lose (s : State) (id : Option Ident) : s.Same (match id with
    | some id => s.updRecord id Rec.lose
    | none => s) := by
  cases id with
  | none => exact .refl s
  | some id => exact s.same_updRecord id fun _ => rfl

theorem State.grows_loseExpected (s : State) (m : Move) (read : Option Ident) : s.Grows 1 (s.loseExpected m read) := by
  unfold State.loseExpected
  dsimp only
  generalize (if m.pickTest = .named then m.reticle else none) = expected
  have lost := (s.same_lose expected).grows
  cases read with
  | none => exact lost.mono (by omega)
  | some id =>
    dsimp only
    split
    · exact lost.mono (by omega)
    · exact (lost.trans (State.grows_doubtRecord _ id)).mono (by omega)

theorem State.same_faultSource (s : State) (m : Move) (read : Option Ident) : s.Same (s.faultSource m read) := by
  unfold State.faultSource
  split
  · exact s.same_setSlot _ _
  · exact s.same_nestBlocks _ _
  · exact .refl s

/-- The end of a move whose slots and nests have been set, by drops, records and notices. -/
theorem State.Same.ends (h : s.Same a) (g : ((a.dropMove q).handlerIdle).Grows j t) : s.Ends j q t :=
  ((h.grows.then_ends (by rw [h.exec]) (a.ends_dropIdle q)).trans g).mono (by omega)

theorem State.ends_mismatchEnd (s : State) (m : Move) : s.Ends 2 m.seq (s.mismatchEnd m) := by
  unfold State.mismatchEnd
  dsimp only
  generalize identRead (s.handler.exec.bind fun x => x.read) = read
  refine State.Same.ends ((s.same_faultSource m read).trans (State.same_releaseTarget _ m.target)) ?_
  exact ((((State.grows_loseExpected _ m _).trans (State.same_tellEnd _ m _).grows).trans (State.same_raise _ _ _).grows).trans
    (State.grows_deferredAdmission _ _)).mono (by omega)

theorem State.same_emptySource (s : State) (x : Position) : s.Same (s.emptySource x) := by
  cases x with
  | slot n => exact s.same_setSlot n _
  | nest y => exact s.same_nestEmptied y
  | shelf _ => exact .refl s

theorem State.ends_sourceEmptyEnd (s : State) (m : Move) : s.Ends 2 m.seq (s.sourceEmptyEnd m) := by
  unfold State.sourceEmptyEnd
  dsimp only
  refine State.Same.ends ((s.same_emptySource m.source).trans (State.same_releaseTarget _ m.target)) ?_
  exact ((((State.grows_loseExpected _ m _).trans (State.same_tellEnd _ m _).grows).trans (State.same_raise _ _ _).grows).trans
    (State.grows_deferredAdmission _ _)).mono (by omega)

theorem State.same_placeAt (s : State) (x : Position) (id : Ident) : s.Same (s.placeAt x id) := by
  unfold State.placeAt
  split
  · exact (s.same_setSlot _ _).trans (State.same_updRecord _ id fun _ => rfl)
  · exact (s.same_updRecord id (f := Rec.moveTo (.nest .bo)) fun _ => rfl).trans (.of_catalogue rfl rfl rfl rfl)
  · exact (s.same_updRecord id (f := fun r => { r with location := .nest .inn, verdictOwed := true }) fun _ => rfl).trans
      (.of_catalogue rfl rfl rfl rfl)
  · exact s.same_updRecord id fun _ => rfl
  · exact .refl s

theorem State.grows_delivered (s : State) (m : Move) (id : Ident) : s.Grows 1 (s.delivered m id) := by
  unfold State.delivered
  split
  · exact ((s.same_updAhead _ _).grows.trans (State.grows_placementTest _ _ id _)).mono (by omega)
  · exact s.grows_still 1

theorem State.setHeld_handler (s : State) (id : Ident) : (s.setHeld id).handler = s.handler := by
  unfold State.setHeld State.withdrawHeldDeliver
  split
  · split
    · rfl
    · rw [State.reclaimIfUnfit_handler]
      split
      · split
        · rw [State.withdraw_handler]
          rfl
        · rfl
      · rfl
  · rfl

theorem State.ends_complete (s : State) (m : Move) : s.Ends 3 m.seq (s.complete m) := by
  unfold State.complete
  split
  · next id x _ _ =>
    extract_lets s1 s2 s3
    have placed := (s.same_placeAt x id)
    have held : s1.Grows 1 s2 ∧ s2.handler = s1.handler := by
      unfold s2
      split
      · exact ⟨s1.grows_setHeld id, s1.setHeld_handler id⟩
      · exact ⟨s1.grows_still 1, rfl⟩
    have idle : ((s2.dropMove m.seq).handlerIdle).Same s3 := by
      obtain ⟨tx, e⟩ := State.tellEnd_eq (s2.dropMove m.seq) m .placed
      unfold s3
      rw [e]
      exact .of_catalogue rfl rfl rfl rfl
    have exec : s2.handler.exec.bind (·.move) = s.handler.exec.bind (·.move) := by rw [held.2, placed.exec]
    have ended : s2.Ends 2 m.seq ((s3.delivered m id).deferredAdmission m.kind) :=
      ((((s2.ends_dropIdle m.seq).trans idle.grows).trans (State.grows_delivered _ m id)).trans
        (State.grows_deferredAdmission _ m.kind)).mono (by omega)
    exact ((placed.grows.trans held.1).then_ends exec ended).mono (by omega)
  · exact (s.grows_still 3).ends _

end Sys2Proof.Machine
end

section
/-! PROOFS. The queue in its form: putbacks, occupied targets, scans, the RESTART, reports and the recovery from a halt. -/

namespace Sys2Proof.Machine

open Sys2Proof

variable {s t u a : State} {m x : Move} {i j k : Nat} {q : Seq}

/-! ## Putbacks and occupied targets (R155 to R160) -/

theorem State.same_backAtSource (s : State) (m : Move) : s.Same (s.backAtSource m) := by
  unfold State.backAtSource
  split
  · next n id _ _ => exact (s.same_setSlot n _).trans (State.same_updRecord _ id (f := Rec.putIn n) fun _ => rfl)
  · next y id _ _ =>
    dsimp only
    split
    · exact (s.same_nestRestored _ _).trans (State.same_updRecord _ id (f := Rec.moveTo (.nest y)) fun _ => rfl)
    · exact s.same_nestRestored _ _
  · exact s.same_nestRestored _ _
  · exact .refl s

/-- A move out of execution is withdrawn as a WAITING one is. -/
theorem State.grows_withdrawIdle (s : State) (m : Move) (r : Option Reason) (free : s.handler.exec = none) :
    s.Grows 0 (s.withdraw m r) := s.grows_withdraw m r (by rw [free]; exact nofun)

theorem State.ends_backToWaiting (s : State) (m : Move) : s.Ends 0 m.seq (s.backToWaiting m) := by
  have waiting : s.Ends 0 m.seq ((s.updMove m.seq (fun x =>
      { x with state := .waiting, target := if x.kind.isStore then .toSelect else x.target })).handlerIdle) :=
    fun k _ own form => form.waitIdle own (fun _ => rfl) (fun _ => rfl) fun _ h => h.waits
  unfold State.backToWaiting
  dsimp only
  split
  · exact waiting.trans (State.grows_withdrawIdle _ m none rfl)
  · exact waiting

theorem State.ends_putbackEnds (s : State) (m : Move) (c : PutbackCause) : s.Ends 2 m.seq (s.putbackEnds m c) := by
  have back := s.same_backAtSource m
  cases c with
  | mismatch => exact s.ends_mismatchEnd m
  | occupiedNest => exact (back.grows.then_ends (by rw [back.exec]) (State.ends_backToWaiting _ m)).mono (by omega)
  | occupiedStaging => exact (back.grows.then_ends (by rw [back.exec]) (State.ends_endMove _ m)).mono (by omega)

theorem State.ends_takePlaced (s : State) (m : Move) : s.Ends 3 m.seq (s.takePlaced m) := by
  unfold State.takePlaced
  split
  · exact (s.ends_putbackEnds m _).mono (by omega)
  · exact (s.grows_still 3).ends _
  · exact s.ends_complete m

theorem State.same_faultTarget (s : State) (m : Move) : s.Same (s.faultTarget m) := by
  unfold State.faultTarget
  split
  · exact (s.same_setSlot _ _).trans (State.same_raise _ _ _)
  · exact .refl s

/-- A putback of the move in execution, which is no store move unless the pick was refused. -/
theorem State.grows_putBack (s : State) (m : Move) (c : PutbackCause) (plain : c ≠ .mismatch →
    ∀ x ∈ s.queue, s.handler.exec.bind (·.move) = some x.seq → x.kind.isStore = false) : s.Grows 0 (s.putBack m c) := by
  unfold State.putBack
  extract_lets s1
  have source : s.Same s1 := by
    unfold s1
    split
    · exact s.same_setSlot _ _
    · exact .refl s
  refine (source.grows.trans (State.grows_sendPlace _ m.source .putback)).trans (State.grows_setCause _ c fun other y hy own => ?_)
  have own' : s1.handler.exec.bind (·.move) = some y.seq := by
    rw [← own]
    change _ = (s1.handler.exec.map fun e => { e with phase := some Phase.putback }).bind (·.move)
    cases exec : s1.handler.exec <;> simp
  rw [source.exec] at own'
  exact plain other y (source.queue ▸ hy) own'

theorem State.grows_storeOccupied (s : State) (m : Move) : s.Grows 0 (s.storeOccupied m) := by
  unfold State.storeOccupied
  extract_lets s1
  have faulted : s.Grows 0 s1 := (s.same_faultTarget m).grows.trans (State.grows_updMove _ m.seq
    (f := fun x => { x with target := .noTarget }) (fun _ => rfl) (fun _ => rfl) (fun _ => rfl) fun _ h => h.noTarget)
  split
  · split
    · next k _ =>
      have aimed : s1.Grows 0 ((s1.setSlot (ofStorage k) (.inbound m.reticle m.seq)).updMove m.seq
          (fun x => { x with target := .pos (storagePosition k) })) :=
        (s1.same_setSlot _ _).grows.trans (State.grows_updMove _ m.seq
          (f := fun x => { x with target := .pos (storagePosition k) }) (fun _ => rfl) (fun _ => rfl) (fun _ => rfl)
          fun _ h => h.storage k)
      exact faulted.trans ((aimed.trans (State.grows_updExec _ (fun e => { e with retargets := 1 }) (fun _ => rfl)
        fun _ => rfl)).trans (State.grows_sendPlace _ _ .placing))
    · exact faulted.trans (s1.grows_haltAt _ _ _)
  · exact faulted.trans (s1.grows_haltAt _ _ _)

/-- No store move is in execution. -/
def State.WorksOutward (s : State) : Prop :=
  ∀ x ∈ s.queue, s.handler.exec.bind (·.move) = some x.seq → x.kind.isStore = false

theorem State.worksOutward_of_exec (form : s.QueueForm k) (exec : s.execMove = some m) (plain : m.kind.isStore = false) :
    s.WorksOutward := fun x hx own => by
  obtain ⟨hm, mine⟩ := State.execMove_mem exec
  have same := Option.some.inj (own.symm.trans mine)
  rw [State.eq_of_seq form.distinct hx hm same]
  exact plain

/-- A move in execution is no store move as long as its entry stands and the numbers differ. -/
theorem State.worksOutward_of_kept (form : t.QueueForm k) (here : m ∈ t.queue) (plain : m.kind.isStore = false)
    (own : t.handler.exec.bind (·.move) = some m.seq) : t.WorksOutward := fun x hx mine => by
  rw [State.eq_of_seq form.distinct hx here (Option.some.inj (mine.symm.trans own))]
  exact plain

theorem State.enter_keeps (s : State) (o : Offer) (d h : Bool) (here : m ∈ s.queue) : m ∈ (s.enter o d h).queue := by
  rw [s.enter_queue]
  exact List.mem_append_left _ here

theorem State.offerInward_keeps (s : State) (o : Offer) (here : m ∈ s.queue) : m ∈ (s.offerInward o).queue := by
  rcases s.offerInward_cases o with ⟨_, e⟩ | ⟨n, _, e⟩ <;> rw [e]
  · exact s.enter_keeps o _ _ here
  · exact State.enter_keeps _ o _ _ ((s.same_countHit n o).queue ▸ here)

theorem State.reclaimIfUnfit_keeps (s : State) (id : Ident) (here : m ∈ s.queue) : m ∈ (s.reclaimIfUnfit id).queue := by
  rcases s.reclaimIfUnfit_cases id with h | ⟨r, p, _, _, _, _, h⟩ <;> rw [h]
  · exact here
  · rw [(State.same_sendTool _ p _).queue]
    exact State.offerInward_keeps _ _ here

theorem State.dueCheck_keeps (s : State) (f : Rec → Bool) (here : m ∈ s.queue) : m ∈ (s.dueCheck f).queue := by
  have all (rs : List Rec) (a : State) (here : m ∈ a.queue) : m ∈ (rs.foldl (fun t r => t.makeDue r.id) a).queue := by
    induction rs generalizing a with
    | nil => exact here
    | cons r rs ih => exact ih _ (State.reclaimIfUnfit_keeps _ r.id here)
  rcases s.dueCheck_cases f with ⟨_, h⟩ | ⟨r, _, h⟩ | ⟨_, h⟩ <;> rw [h]
  · exact here
  · rw [(State.same_raise _ _ _).queue]
    exact State.reclaimIfUnfit_keeps _ r.id here
  · rw [(State.same_raise _ _ _).queue]
    exact all _ s here

theorem State.nestOccupied_keeps (s : State) (x : Nest) (here : m ∈ s.queue) : m ∈ (s.nestOccupied x).queue := by
  unfold State.nestOccupied
  split
  · split
    · unfold State.enterReturned
      dsimp only
      split
      · split
        · exact State.dueCheck_keeps _ _ (State.offerInward_keeps _ _ here)
        · exact here
      · exact here
    · exact here
  · split
    · rw [(s.same_nestBlocks _ _).queue]
      exact here
    · exact here
  · split
    · unfold State.reshelveArrives
      split
      · exact here
      · exact State.offerInward_keeps _ _ here
    · exact here
  · exact here

theorem State.grows_takeOccupied (s : State) (m : Move) (exec : s.execMove = some m) : s.Grows 7 (s.takeOccupied m) := by
  obtain ⟨here, own⟩ := State.execMove_mem exec
  unfold State.takeOccupied
  split
  · exact (s.grows_storeOccupied m).mono (by omega)
  · next plain =>
    have plain : m.kind.isStore = false := by simpa using plain
    split
    · intro k small form
      have faulted := s.same_faultTarget m
      have form' := faulted.form form
      exact (State.grows_putBack _ m _ (fun _ => State.worksOutward_of_kept form' (faulted.queue ▸ here) plain
        (by rw [faulted.exec]; exact own)) k (by omega) form').mono (by omega)
    · split
      · next y _ =>
        intro k small form
        have form' := s.grows_nestOccupied y k small form
        have outward := State.worksOutward_of_kept form' (s.nestOccupied_keeps y here) plain
          (by rw [State.nestOccupied_handler]; exact own)
        exact State.grows_putBack _ m .occupiedNest (fun _ => outward) (k + 7) (by omega) form'
      · exact s.grows_still 7

theorem State.grows_takeOccupiedReport (s : State) (m : Move) (exec : s.execMove = some m) :
    s.Grows 7 (s.takeOccupiedReport m) := by
  unfold State.takeOccupiedReport
  split
  · exact (s.grows_halt _ _).mono (by omega)
  · exact s.grows_takeOccupied m exec

/-! ## The census unit and a scan's results (R194 to R202) -/

theorem State.same_updCensus (s : State) (f : Census → Census) : s.Same (s.updCensus f) := .of_catalogue rfl rfl rfl rfl

theorem State.same_countTally (s : State) (f : Tally → Tally) : s.Same (s.countTally f) := .of_catalogue rfl rfl rfl rfl

theorem State.grows_offerScan (s : State) (n : Shelf) : s.Grows 1 (s.offerScan n) :=
  ((s.same_updCensus _).grows.trans (State.grows_enter _ _ _ _ (State.entered_scan_shaped ..))).mono (by omega)

theorem State.grows_censusMovesOn (s : State) (n : Shelf) : s.Grows 1 (s.censusMovesOn n) := by
  have ended : s.Same s.censusEnds := .of_catalogue rfl rfl rfl rfl
  unfold State.censusMovesOn
  split
  · split
    · exact s.grows_offerScan _
    · exact (ended.grows.trans (State.same_raise _ _ _).grows).mono (by omega)
  · exact s.grows_still 1
  · exact ended.grows.mono (by omega)

theorem State.same_scanFaults (s : State) (n : Slot) (found : Option Ident) : s.Same (s.scanFaults n found) :=
  .of_catalogue rfl rfl rfl rfl

theorem State.same_relocate (s : State) (n : Slot) (id : Ident) : s.Same (s.relocate n id) :=
  (s.same_setSlot n _).trans (State.same_updRecord _ id (f := fun r => { Rec.putIn n r with suspect := false }) fun _ => rfl)

theorem State.same_createAt (s : State) (n : Slot) (id : Ident) (c : ClassNo) : s.Same (s.createAt n id c) :=
  (s.same_createRecord rfl).trans (State.same_setSlot _ n _)

theorem ScanFold.same_found (f : ScanFold) (n : Slot) (id : Ident) : f.state.Same (f.found n id).state := by
  unfold ScanFold.found
  split
  · split
    · exact f.state.same_scanFaults n _
    · exact (f.state.same_createAt n id 0).trans
        (State.same_countTally _ fun t => { t with created := t.created + 1 })
  · split
    · exact (f.state.same_relocate n id).trans
        (State.same_countTally _ fun t => { t with relocated := t.relocated + 1 })
    · exact (f.state.same_scanFaults n _).trans (State.same_updRecord _ id (f := Rec.doubt) fun _ => rfl)

theorem ScanFold.same_loses (f : ScanFold) (n : Slot) (id : Ident) (x : Option Ident) : f.state.Same (f.loses n id x).state :=
  (f.state.same_scanFaults n x).trans (State.same_updRecord _ id (f := Rec.lose) fun _ => rfl)

theorem ScanFold.same_held (f : ScanFold) (n : Slot) (id : Ident) (r : ScanResult) : f.state.Same (f.held n id r).state := by
  cases r with
  | empty => exact f.same_loses n id _
  | unreadable => exact f.same_loses n id _
  | ident x =>
    unfold ScanFold.held
    dsimp only
    split
    · exact f.state.same_updRecord id (f := fun r => { Rec.putIn n r with suspect := false }) fun _ => rfl
    · exact (f.same_loses n id _).trans (State.same_updRecord _ x (f := Rec.doubt) fun _ => rfl)

theorem ScanFold.same_apply (f : ScanFold) (n : Slot) (r : ScanResult) : f.state.Same (f.apply n r).state := by
  unfold ScanFold.apply
  split
  · exact f.same_held n _ _
  · exact .refl _
  · exact .refl _
  · unfold ScanFold.bare
    split
    · exact f.state.same_setSlot n _
    · exact f.same_found n _
    · exact f.state.same_scanFaults n _

theorem State.same_scanFold (s : State) (n : Shelf) (results : Vector ScanResult 8) : s.Same (s.scanFold n results).state := by
  have fold (ks : List (Fin 8)) (f : ScanFold) :
      f.state.Same (ks.foldl (fun f k => f.apply (shelfSlot n k) (results.get k)) f).state := by
    induction ks generalizing f with
    | nil => exact .refl _
    | cons k ks ih => exact (f.same_apply _ _).trans (ih _)
  exact fold eightPlaces ⟨s, none, none, none, [], []⟩

theorem State.same_raiseIf (s : State) (k : NoticeKind) (d : Option Detail) : s.Same (s.raiseIf k d) := by
  cases d with
  | none => exact .refl s
  | some d => exact s.same_raise k d

theorem State.grows_withdrawLost (s : State) (id : Ident) : s.Grows 0 (s.withdrawLost id) := by
  unfold State.withdrawLost
  split
  · next m bound =>
    split
    · next waits =>
      obtain ⟨r, _, bound⟩ := Option.bind_eq_some_iff.mp bound
      exact s.grows_withdrawWaiting m _ (State.boundMove_mem bound) waits
    · exact .refl s
  · exact .refl s

theorem State.grows_withdrawAll (s : State) (ids : List Ident) : s.Grows 0 (ids.foldl State.withdrawLost s) := by
  induction ids generalizing s with
  | nil => exact .refl s
  | cons id ids ih => exact (s.grows_withdrawLost id).trans (ih _)

theorem State.lapses_reclaimAll (s : State) (ids : List Ident) : s.Lapsing (ids.foldl State.reclaimIfUnfit s) := by
  induction ids generalizing s with
  | nil => exact (State.Same.refl s).lapses rfl
  | cons id ids ih => exact (s.lapses_reclaimIfUnfit id).trans (ih _)

theorem State.grows_told (f : ScanFold) (s : State) : s.Grows 6 (f.told s) := by
  have reclaimed : (f.lost.foldl State.withdrawLost s).Grows 6 (f.told s) :=
    (State.lapses_reclaimAll _ f.doubted).grows.mono (by have := (f.lost.foldl State.withdrawLost s).outWaits_le; omega)
  exact ((s.grows_withdrawAll f.lost).trans reclaimed).mono (by omega)

theorem State.ends_takeScanned (s : State) (m : Move) (results : Vector ScanResult 8) :
    s.Ends 7 m.seq (s.takeScanned m results) := by
  unfold State.takeScanned
  split
  · next n _ =>
    refine State.Same.ends (s.same_scanFold n results) ?_
    have raised (t : State) (c d e : Option Detail) :
        t.Same (((t.raiseIf .catalogueFull c).raiseIf .mismatch d).raiseIf .slotFault e) :=
      ((t.same_raiseIf _ _).trans (State.same_raiseIf _ _ _)).trans (State.same_raiseIf _ _ _)
    exact ((((raised _ _ _ _).trans (State.same_updCensus _ _)).grows.trans (State.grows_censusMovesOn _ n)).trans
      (State.grows_told _ _)).mono (by omega)
  · exact (s.grows_still 7).ends _

theorem State.grows_scanSkipped (s : State) (n : Shelf) : s.Grows 1 (s.scanSkipped n) := by
  have ended : s.Same s.censusEnds := .of_catalogue rfl rfl rfl rfl
  unfold State.scanSkipped
  split
  · exact ((s.same_updCensus _).grows.trans (State.grows_censusMovesOn _ n)).mono (by omega)
  · exact ended.grows.mono (by omega)

theorem State.ends_scanPutBack (s : State) (m : Move) : s.Ends 0 m.seq (s.scanPutBack m) := by
  have waiting : s.Ends 0 m.seq ((s.updMove m.seq (fun x => { x with state := .waiting })).handlerIdle) :=
    fun k _ own form => form.waitIdle own (fun _ => rfl) (fun _ => rfl) fun _ h => h
  unfold State.scanPutBack
  dsimp only
  split
  · exact waiting
  · exact waiting.trans (State.grows_withdrawIdle _ m none rfl)

/-! ## The RESTART (R142, R168) -/

theorem State.same_restartNoticesOn (s : State) (l : NoticeLink) : s.Same (s.restartNoticesOn l) := by
  obtain ⟨⟨mn, sn, tx, e⟩, _⟩ := s.restartNoticesOn_spec l
  rw [e]
  exact .of_catalogue rfl rfl rfl rfl

theorem State.same_restartPort (s : State) (p : Port) : s.Same (s.restartPort p) := by
  unfold State.restartPort
  dsimp only
  split
  · exact .of_catalogue rfl rfl rfl rfl
  · exact .of_catalogue rfl rfl rfl rfl

theorem State.same_restartPorts (s : State) (ps : List Port) : s.Same (ps.foldl State.restartPort s) := by
  induction ps generalizing s with
  | nil => exact .refl s
  | cons p ps ih => exact (s.same_restartPort p).trans (ih _)

theorem State.same_restartCensus (s : State) : s.Same s.restartCensus := by
  unfold State.restartCensus
  split
  · exact .refl s
  · split <;> exact .of_catalogue rfl rfl rfl rfl

theorem State.grows_admitFresh (s : State) (f : FreshMove) : s.Grows 1 (s.admitFresh f) := by
  cases f with
  | reclaim p => exact s.grows_reclaimNest p
  | collect p id => exact s.grows_offerInward _ fun _ _ => State.entered_collect_shaped ..
  | stockIn => exact s.grows_stockInArrives
  | reshelve => exact s.grows_reshelveArrives

theorem State.grows_admitAll (s : State) (fs : List FreshMove) : s.Grows fs.length (fs.foldl State.admitFresh s) := by
  induction fs generalizing s with
  | nil => exact .refl s
  | cons f fs ih => exact ((s.grows_admitFresh f).trans (ih _)).mono (by rw [List.length_cons]; omega)

theorem State.freshMoves_length (s b : State) : (s.freshMoves b).length ≤ 8 := by
  have port (p : Port) : (s.freshOfPort b p).length ≤ 1 := by
    unfold State.freshOfPort
    split
    · exact le_rfl
    · split
      · exact le_rfl
      · exact Nat.zero_le 1
    · exact Nat.zero_le 1
  have ports : (allPorts.flatMap (s.freshOfPort b)).length ≤ 6 := by
    rw [List.length_flatMap]
    refine (List.sum_le_card_nsmul _ 1 fun n hn => ?_).trans (by simp [allPorts])
    obtain ⟨p, _, rfl⟩ := List.mem_map.mp hn
    exact port p
  have one (c : Prop) [Decidable c] (f : FreshMove) : (if c then [f] else []).length ≤ 1 := by split <;> simp
  have bi := one (s.bi = .arrived) .stockIn
  have inn := one (s.inn = .arrived) .reshelve
  unfold State.freshMoves
  rw [List.length_append, List.length_append]
  omega

theorem State.grows_restartEffect (s : State) : s.Grows 8 s.restartEffect := by
  unfold State.restartEffect
  dsimp only
  have tenure (t : State) (x : Tenure) : t.Same { t with tenure := x } := .of_catalogue rfl rfl rfl rfl
  have announced (t : State) : t.Same { t with announcements := [] } := .of_catalogue rfl rfl rfl rfl
  have cleared : s.Grows 0 s.restartQueue :=
    ((s.grows_withdrawWhere _ _).trans (State.grows_withdrawWhere _ _ _)).trans (tenure _ _).grows
  have blocks : s.restartQueue.Same ((({ (allPorts.foldl State.restartPort (s.restartQueue.noSlotStep s noTouch)) with
      announcements := [] } : State).restartCensus).restartNotices) :=
    (State.same_noSlotStep _ s noTouch).trans <| (State.same_restartPorts _ _).trans <| (announced _).trans <|
      (State.same_restartCensus _).trans <| (State.same_restartNoticesOn _ .material).trans (State.same_restartNoticesOn _ .service)
  generalize ((({ (allPorts.foldl State.restartPort (s.restartQueue.noSlotStep s noTouch)) with
      announcements := [] } : State).restartCensus).restartNotices) = c at blocks ⊢
  obtain ⟨n, drawn⟩ := freeOrder_state (s := c) (c.freshMoves s)
  have few := (freeOrder_perm (c.freshMoves s) c).length_eq.trans_le (c.freshMoves_length s)
  rw [drawn]
  refine ((((cleared.trans blocks.grows).trans (State.same_choices c n).grows).trans (State.grows_admitAll _ _)).trans
    (State.grows_updHandler _ (fun h => { h with restartPending := false }) rfl (fun _ _ _ _ _ h => .inl h) fun h => h)).mono ?_
  omega

theorem State.grows_settleHandler (b a : State) : b.Grows 200 (b.settleHandler a) := by
  unfold State.settleHandler
  split
  · exact b.grows_restartEffect.trans (State.grows_settle _ _ _)
  · exact (b.grows_settle _ _).mono (by omega)

/-! ## Reports (R146, R149, R161, R162) -/

/-- A report that carries an order number keeps the form when what it does with the move in execution does. -/
theorem State.grows_takeReport (s : State) (number : Byte) (expects : List HandlerState) (f : State → Move → State)
    (h : ∀ m, s.execMove = some m → s.Ends i m.seq (f s m)) : s.Grows (i + 200) (s.takeReport number expects f) := by
  unfold State.takeReport
  split
  · split
    · split
      · next m exec =>
        intro k small form
        exact ((h m exec).trans (State.grows_settleHandler _ s)) k small (State.execMove_mem exec).2 form
      · exact s.grows_still _
    · exact ((s.grows_halt _ _).trans (State.grows_settleHandler _ s)).mono (by omega)
  · exact s.grows_still _

theorem State.grows_takeRestarted (s : State) (loaded : Bool) : s.Grows 0 (s.takeRestarted loaded) := by
  unfold State.takeRestarted
  split
  · next idle =>
    split
    · intro k small form
      have none_ := form.free idle
      exact ((s.grows_updHandler (fun h => { h with
          exec := some ⟨none, none, none, none, 0⟩, state := .halted, halt := some ⟨.restarted, .loaded⟩, numberCurrent := false
          timer := none }) (by rw [none_]; rfl) (fun _ _ _ _ _ h => nomatch h) fun _ idle => nomatch idle).trans
        (State.same_raise _ .halted _).grows) k small form
    · exact .refl s
  · exact s.grows_updHandler _ rfl (fun _ _ _ _ _ h => .inl h) fun h => h
  · exact s.grows_halt _ _

/-! ## Recovery (R165 to R168) -/

theorem State.grows_clearHalt (s : State) : s.Grows 0 s.clearHalt :=
  s.grows_updHandler _ rfl (fun _ _ _ _ _ h => .inl h) fun h => h

theorem State.grows_resumed (s : State) {ph : Phase} {z : State} (h : s.resumed m ph = some z) : s.Grows 0 z := by
  unfold State.resumed at h
  cases ph with
  | picking => cases h; exact s.grows_sendMove m
  | placing =>
    obtain ⟨x, _, rfl⟩ := Option.map_eq_some_iff.mp h
    exact s.grows_sendPlace x .placing
  | putback => cases h; exact s.grows_sendPlace m.source .putback
  | carrying =>
    obtain ⟨x, _, rfl⟩ := Option.map_eq_some_iff.mp h
    unfold State.resumeCarrying
    split
    · exact s.grows_updHandler (fun h => { h with
        state := .carrying, timer := some h.placeTimeout, exec := h.exec.map (fun e => { e with phase := some .carrying }) })
        (by cases exec : s.handler.exec <;> simp)
        (fun m _ _ _ c hc => .inl (by cases exec : s.handler.exec <;> simp_all)) fun _ idle => nomatch idle
    · exact s.grows_sendPlace x .placing
  | scanning =>
    dsimp only at h
    split at h
    · cases h; exact s.grows_sendScan _
    · cases h

theorem State.ends_resolvedAtTarget (s : State) (m : Move) (ph : Phase) (id : Ident) (here : m ∈ s.queue) :
    s.Ends 3 m.seq (s.resolvedAtTarget m ph id) := by
  unfold State.resolvedAtTarget
  dsimp only
  split
  · exact ((s.grows_acceptPick m id (List.mem_map_of_mem here)).then_ends (by rw [State.acceptPick_handler])
      (State.ends_complete _ m)).mono (by omega)
  · exact s.ends_complete m

theorem State.ends_resolvedAtSource (s : State) (m : Move) (ph : Phase) (c : Option PutbackCause) :
    s.Ends 2 m.seq (s.resolvedAtSource m ph c) := by
  unfold State.resolvedAtSource
  split
  · exact (s.ends_scanPutBack m).mono (by omega)
  · exact s.ends_putbackEnds m _
  · have back := (s.same_backAtSource m).trans (State.same_releaseTarget _ m.target)
    exact (back.grows.then_ends (by rw [back.exec]) (State.ends_backToWaiting _ m)).mono (by omega)

theorem State.same_removedSource (s : State) (x : Position) (b : Bool) (read : Option Ident) :
    s.Same (s.removedSource x b read) := by
  unfold State.removedSource
  split
  · split <;> exact s.same_setSlot _ _
  · split
    · exact .refl s
    · split
      · exact s.same_nestBlocks _ _
      · exact s.same_nestEmptied _
  · exact .refl s

theorem State.grows_removedRecords (s : State) (m : Move) (read : Option Ident) : s.Grows 1 (s.removedRecords m read) := by
  unfold State.removedRecords
  dsimp only
  have lost := (s.same_lose m.reticle).grows
  cases read with
  | none => exact lost.mono (by omega)
  | some id =>
    dsimp only
    split
    · exact lost.mono (by omega)
    · exact (lost.trans (State.grows_doubtRecord _ id)).mono (by omega)

theorem State.ends_resolvedRemoved (s : State) (m : Move) (e : ExecRecord) : s.Ends 2 m.seq (s.resolvedRemoved m e) := by
  unfold State.resolvedRemoved
  split
  · exact ((s.ends_dropIdle m.seq).trans (State.grows_scanSkipped _ _)).mono (by omega)
  · dsimp only
    refine State.Same.ends ((s.same_removedSource m.source e.pickAccepted (identRead e.read)).trans
      (State.same_releaseTarget _ m.target)) ?_
    exact (((State.grows_removedRecords _ m _).trans (State.same_tellEnd _ m _).grows).trans
      (State.grows_deferredAdmission _ _)).mono (by omega)

/-- A halt that holds no move is only cleared. -/
theorem State.grows_handlerIdle (s : State) (free : s.execMove = none) : s.Grows 0 s.handlerIdle := fun k _ form => by
  have none_ : s.handler.exec.bind (·.move) = none := by
    by_contra some_
    obtain ⟨q, own⟩ := Option.ne_none_iff_exists'.mp some_
    obtain ⟨m, hm, e, _⟩ := form.named q own
    rw [State.execMove_of_mem form.distinct hm (by rw [own, e])] at free
    cases free
  exact { form with
    executing := fun m hm run => absurd ((form.executing m hm run).symm.trans none_) nofun
    named := fun _ e => nomatch e
    cause := fun _ _ e => nomatch e
    free := fun _ => rfl }

end Sys2Proof.Machine
end

section
/-! PROOFS. What each request makes of the queue in its form. -/

namespace Sys2Proof.Machine

open Sys2Proof

variable {s t u : State} {m x : Move} {i j k : Nat}

/-- The queue keeps its form in a reply's own change, with at most 8 numbers given out. -/
def Reply.Grows (r : Reply) (a : State) : Prop := a.Grows 8 r.core

theorem Reply.grows_outcome (r : Reply) (a : State) : r.core.Grows 200 (r.outcome a) := by
  cases r with
  | quiet s _ _ => exact s.grows_still 200
  | change s t _ _ => exact (s.grows_settle a t).mono (by omega)
  | handler s _ => exact s.grows_settleHandler a

theorem State.Same.reply {r : Reply} (h : s.Same r.core) : r.Grows s := h.grows.mono (by omega)

theorem refuse_grows (s : State) (c : AnswerCode) : (refuse s c).Grows s := (State.Same.refl s).reply

/-! ## Offers of link requests (R117, R121, R187 to R190) -/

/-- The move an offer sets aside waits in the queue (R121). -/
def State.Claims (s : State) (c : Claim) : Prop := ∀ m, c = .aside m → m ∈ s.queue ∧ m.isWaiting = true

theorem State.claims_claim (s : State) (r : Rec) (f : Move → Bool) : s.Claims (s.claim r f) := fun m e => by
  unfold State.claim at e
  split at e
  · cases e
  · split at e
    · next bound =>
      split at e
      · next test =>
        cases e
        exact ⟨State.boundMove_mem bound, (Bool.and_eq_true_iff.mp test).1⟩
      · cases e
    · cases e

theorem State.Same.claims (same : s.Same t) {c : Claim} (h : s.Claims c) : t.Claims c := fun m e => by
  rw [same.queue]
  exact h m e

theorem State.grows_takeAside (s : State) {c : Claim} (r : Option Reason) (h : s.Claims c) : s.Grows 0 (s.takeAside c r) := by
  unfold State.takeAside
  split
  · next m => exact s.grows_withdrawWaiting m r (h m rfl).1 (h m rfl).2
  · exact .refl s

theorem State.grows_holdOffered (s : State) (o : Offer) : s.Grows 1 (s.holdOffered o) := by
  unfold State.holdOffered
  split
  · exact s.grows_setHeld _
  · exact s.grows_still 1

theorem State.grows_offerLink (s : State) (o : Offer) {c : Claim} (r : Option Reason) (claims : s.Claims c)
    (shaped : ∀ a : State, (a.entered o false false).Shaped) (diverted : ∀ a : State, (a.entered o.divert true false).Shaped) :
    s.Grows 1 (s.offerLink o c r).state := by
  have enters (t : State) (claims : t.Claims c) {o : Offer} {d : Bool} (shaped : ∀ a : State, (a.entered o d false).Shaped) :
      t.Grows 1 ((t.takeAside c r).enter o d false) :=
    ((t.grows_takeAside r claims).trans (State.grows_enter _ o d false (shaped _))).mono (by omega)
  unfold State.offerLink
  split
  · exact enters s claims shaped
  · next n _ =>
    have hit := s.same_countHit n o
    dsimp only
    split
    · exact (hit.grows.trans (enters _ (hit.claims claims) shaped)).mono (by omega)
    · exact (hit.grows.trans (State.grows_holdOffered _ o)).mono (by omega)
    · split
      · exact hit.grows.mono (by omega)
      · exact (hit.grows.trans (enters _ (hit.claims claims) diverted)).mono (by omega)

/-- An outward offer from a slot becomes a move shaped by its kind, also when it is diverted. -/
theorem State.entered_slot_shaped (s : State) (o : Offer) (d : Bool) {n : Slot} (source : o.source = .slot n)
    (store : o.kind.isStore = false) (scan : o.kind ≠ .scan)
    (tool : ∀ p, o.target = .pos (.nest (.t p)) → o.kind = .deliver ∧ o.beneficiary = some p)
    (inn : o.target = .pos (.nest .inn) → o.kind = .inspectOut) : (s.entered o d false).Shaped :=
  ⟨fun h => absurd h (by simp [State.entered, store]), fun _ => ⟨n, source⟩, fun h => absurd h scan, tool, inn⟩

theorem State.entered_divert_shaped (s : State) (o : Offer) {n : Slot} (source : o.source = .slot n) :
    (s.entered o.divert true false).Shaped :=
  s.entered_slot_shaped o.divert true source rfl nofun nofun fun _ => rfl

/-! ## Tool requests (chapters 3 and 4) -/

theorem State.same_goodFrame (s : State) (l : ReqLink) : s.Same (s.goodFrame l) := by
  unfold State.goodFrame
  split
  · split
    · exact s.same_updPort _ _
    · exact .refl s
  · exact .refl s

theorem grows_replyHello (s : State) (p : Port) (b : HelloBody) : (replyHello s p b).Grows s := by
  unfold replyHello
  split
  · split
    · exact refuse_grows s _
    · exact ((s.same_updPort p _).trans (State.same_raise _ _ _)).reply
    · have renewed := s.same_updPort p (PortRec.withLiveness (livenessOf b))
      change State.Grows 8 s (s.rehello p b)
      unfold State.rehello
      dsimp only
      split
      · exact renewed.grows.mono (by omega)
      · have named := (renewed.trans (State.same_updPort _ p (fun r => { r with name := some b.name }))).trans
          (State.same_updAhead _ p CallAhead.emptied)
        exact ((named.grows.trans (State.grows_dropToolWork _ p)).trans (State.same_raise _ _ _).grows).mono (by omega)
  · exact refuse_grows s _

theorem State.same_reportCall (s : State) (p : Port) (id : Ident) (c : AnswerCode) : s.Same (s.reportCall p id c) := by
  unfold State.reportCall
  split
  · exact s.same_updAhead p _
  · exact .refl s

theorem grows_replyCall (s : State) (p : Port) (id : Ident) : (replyCall s p id).Grows s := by
  unfold replyCall
  split
  · exact refuse_grows s _
  · split
    · exact refuse_grows s _
    · split
      · exact refuse_grows s _
      · next r _ =>
        split
        · exact refuse_grows s _
        · next n _ =>
          dsimp only
          split
          · exact refuse_grows s _
          · have offered := s.grows_offerLink (deliverOffer p id n) none (s.claims_claim r (callSetsAside p))
              (fun a => a.entered_slot_shaped _ false rfl rfl nofun
                (fun q e => ⟨rfl, by simp only [deliverOffer, Target.pos.injEq, Position.nest.injEq, Nest.t.injEq] at e ⊢; rw [e]⟩)
                (fun e => by simp [deliverOffer] at e)) (fun a => a.entered_divert_shaped _ rfl)
            exact (offered.trans (State.same_reportCall _ p id _).grows).mono (by omega)

theorem grows_replyCancel (s : State) (p : Port) (id : Ident) : (replyCancel s p id).Grows s := by
  unfold replyCancel
  split
  · exact refuse_grows s _
  · split
    · exact refuse_grows s _
    · split
      · next m found =>
        split
        · next waits => exact (s.grows_withdrawWaiting m none (List.mem_of_find?_eq_some found) waits).mono (by omega)
        · exact (s.grows_updMove m.seq (f := fun x => { x with standDown := true }) (fun _ => rfl) (fun _ => rfl) (fun _ => rfl)
            fun _ h => h).mono (by omega)
      · split
        · split
          · exact refuse_grows s _
          · exact (s.grows_lapseQuietly p).mono (by omega)
        · exact refuse_grows s _

theorem grows_replyAhead (s : State) (p : Port) (b : AheadBody) : (replyAhead s p b).Grows s := by
  unfold replyAhead
  split
  · exact refuse_grows s _
  · split
    · exact refuse_grows s _
    · split
      · exact refuse_grows s _
      · exact State.Same.reply (.of_catalogue rfl rfl rfl rfl)

theorem grows_replyReturn (s : State) (p : Port) (b : ReturnBody) : (replyReturn s p b).Grows s := by
  unfold replyReturn
  split
  · exact refuse_grows s _
  · split
    · exact refuse_grows s _
    · split
      · change State.Grows 8 s (s.lateLots b.id b.lots)
        unfold State.lateLots
        split
        · exact (s.grows_addLots _ _).mono (by omega)
        · exact s.grows_still 8
      · split
        · change State.Grows 8 s (s.acceptReturn p b.id b.lots)
          unfold State.acceptReturn
          split
          · exact (s.grows_completeReturn p b.id b.lots).mono (by omega)
          · exact (s.same_updPort p _).grows.mono (by omega)
        · exact refuse_grows s _

/-! ## Material requests (chapter 5) -/

theorem grows_replyAnnounce (s : State) (b : AnnounceBody) : (replyAnnounce s b).Grows s := by
  unfold replyAnnounce
  split
  · split
    · exact refuse_grows s _
    · split
      · exact State.Same.reply (.of_catalogue rfl rfl rfl rfl)
      · split
        · exact refuse_grows s _
        · exact State.Same.reply (.of_catalogue rfl rfl rfl rfl)
  · exact refuse_grows s _

theorem grows_replyUnannounce (s : State) (id : Ident) : (replyUnannounce s id).Grows s := by
  unfold replyUnannounce
  split
  · exact refuse_grows s _
  · split
    · exact refuse_grows s _
    · exact State.Same.reply (.of_catalogue rfl rfl rfl rfl)

theorem grows_replyExport (s : State) (b : WithdrawBody) : (replyExport s b).Grows s := by
  unfold replyExport
  split
  · exact refuse_grows s _
  · split
    · exact refuse_grows s _
    · next r _ =>
      split
      · exact refuse_grows s _
      · next n _ =>
        dsimp only
        split
        · exact refuse_grows s _
        · split
          · exact refuse_grows s _
          · exact (s.grows_offerLink (stockOutOffer b.id n) (some .preempted) (s.claims_claim r fun _ => b.withdraw)
              (fun a => a.entered_slot_shaped _ false rfl rfl nofun (fun _ e => by simp [stockOutOffer] at e)
                (fun e => by simp [stockOutOffer] at e)) (fun a => a.entered_divert_shaped _ rfl)).mono (by omega)

theorem grows_replyInspect (s : State) (l : NoticeLink) (b : WithdrawBody) : (replyInspect s l b).Grows s := by
  unfold replyInspect
  split
  · exact refuse_grows s _
  · split
    · exact refuse_grows s _
    · next r _ =>
      split
      · exact refuse_grows s _
      · next n _ =>
        dsimp only
        split
        · exact refuse_grows s _
        · split
          · exact refuse_grows s _
          · split
            · exact refuse_grows s _
            · exact (s.grows_offerLink (inspectOutOffer l b.id n) (some .preempted) (s.claims_claim r fun _ => b.withdraw)
                (fun a => a.entered_slot_shaped _ false rfl rfl nofun (fun _ e => by simp [inspectOutOffer] at e)
                  (fun _ => rfl)) (fun a => a.entered_divert_shaped _ rfl)).mono (by omega)

theorem grows_replyHold (s : State) (id : Ident) : (replyHold s id).Grows s := by
  unfold replyHold
  split
  · exact refuse_grows s _
  · split
    · exact (s.grows_setHeld id).mono (by omega)
    · exact refuse_grows s _

theorem grows_replyRelease (s : State) (id : Ident) : (replyRelease s id).Grows s := by
  unfold replyRelease
  split
  · exact refuse_grows s _
  · split
    · exact (s.same_updRecord id (f := fun r => { r with held := false }) fun _ => rfl).reply
    · exact refuse_grows s _

theorem grows_replySetClass (s : State) (b : SetClassBody) : (replySetClass s b).Grows s := by
  unfold replySetClass
  split
  · next c _ _ =>
    split
    · exact ((s.same_updRecord b.id (f := fun r => { r with cls := c }) fun _ => rfl).grows.trans
        (State.grows_dueCheck _ _)).mono (by omega)
    · exact refuse_grows s _
  · exact refuse_grows s _

theorem grows_replyVerdict (s : State) (b : VerdictBody) : (replyVerdict s b).Grows s := by
  unfold replyVerdict
  split
  · exact refuse_grows s _
  · split
    · exact refuse_grows s _
    · split
      · split
        · exact (s.same_updRecord b.id (f := fun r => { r.resetLife with verdictOwed := false }) fun _ => rfl).reply
        · have failed := (s.same_updRecord b.id (f := fun r => { r with condition := .quarantine, verdictOwed := false })
            fun _ => rfl).grows
          exact ((failed.trans (State.grows_setHeld _ b.id)).trans (State.grows_reclaimIfUnfit _ b.id)).mono (by omega)
      · exact refuse_grows s _

/-! ## The census requests (R194 to R199) -/

theorem State.grows_startCensus (s : State) (a b : Shelf) : s.Grows 1 (s.startCensus a b) :=
  ((s.same_updCensus _).grows.trans (State.grows_offerScan _ b)).mono (by omega)

theorem grows_replyCensus (s : State) (b : CensusBody) : (replyCensus s b).Grows s := by
  unfold replyCensus
  dsimp only
  split
  · exact refuse_grows s _
  · split
    · exact refuse_grows s _
    · exact (s.grows_startCensus _ _).mono (by omega)

theorem grows_replyCensusStop (s : State) : (replyCensusStop s).Grows s := by
  unfold replyCensusStop
  split
  · exact (State.Same.refl s).reply
  · exact (State.Same.refl s).reply
  · split
    · exact (s.same_updCensus fun c => { c with state := .stopping }).reply
    · have ended (t : State) : t.Same t.censusEnds := .of_catalogue rfl rfl rfl rfl
      exact ((s.grows_withdrawWhere _ none).trans (ended _).grows).mono (by omega)

/-! ## Settings and notice requests -/

theorem grows_replyInterceptSet (s : State) (b : InterceptBody) : (replyInterceptSet s b).Grows s := by
  unfold replyInterceptSet
  split
  · exact State.Same.reply (.of_catalogue rfl rfl rfl rfl)
  · exact refuse_grows s _

theorem State.same_setNoticeSet (s : State) (l : NoticeLink) (x : NoticeSet) : s.Same (s.setNoticeSet l x) := by
  cases l <;> exact .of_catalogue rfl rfl rfl rfl

theorem State.same_sendNotice (s : State) (l : NoticeLink) : s.Same (s.sendNotice l) :=
  (s.same_send _ _).trans (State.same_setNoticeSet _ l _)

theorem State.same_maskKinds (s : State) (l : NoticeLink) (kinds : BitVec 16) : s.Same (s.maskKinds l kinds) := by
  have written (x : NoticeSet) := s.same_setNoticeSet l x
  unfold State.maskKinds
  dsimp only
  split
  · unfold State.pushNotice
    split
    · exact (written _).trans (State.same_sendNotice _ l)
    · exact written _
  · exact written _

theorem State.same_gapExpires (s : State) (l : NoticeLink) : s.Same (s.gapExpires l) := by
  unfold State.gapExpires
  dsimp only
  split
  · exact s.same_sendNotice l
  · exact s.same_setNoticeSet l _

theorem State.same_writeZone (s : State) (k : Fin 8) (e : ZoneEntry) : s.Same (s.writeZone k e) := by
  have written : s.Same { s with zones := s.zones.set k.val e k.isLt } := .of_catalogue rfl rfl rfl rfl
  refine written.trans (u := State.raiseConflict _) ?_
  unfold State.raiseConflict
  dsimp only
  split
  · exact State.same_raise _ _ _
  · exact .refl _

theorem grows_replyZoneSet (s : State) (b : ZoneBody) : (replyZoneSet s b).Grows s := by
  unfold replyZoneSet
  split
  · exact (s.same_writeZone _ _).reply
  · exact refuse_grows s _

theorem grows_replyClassSet (s : State) (b : ClassBody) : (replyClassSet s b).Grows s := by
  unfold replyClassSet
  split
  · next k _ =>
    split
    · exact (State.Same.refl s).reply
    · have written : s.Same { s with classes := s.classes.set k.val ((s.classes.get k).write b) k.isLt } :=
        .of_catalogue rfl rfl rfl rfl
      exact (written.grows.trans (State.grows_dueCheck _ _)).mono (by omega)
  · exact refuse_grows s _

theorem grows_replyPortSet (s : State) (b : PortSetBody) : (replyPortSet s b).Grows s := by
  unfold replyPortSet
  split
  · exact State.Same.reply (.of_catalogue rfl rfl rfl rfl)
  · exact refuse_grows s _

theorem grows_replyPortOpen (s : State) (x : Nat) : (replyPortOpen s x).Grows s := by
  unfold replyPortOpen
  split
  · exact (s.same_updPort _ _).reply
  · exact refuse_grows s _

theorem grows_replyPortClose (s : State) (x : Nat) : (replyPortClose s x).Grows s := by
  unfold replyPortClose
  split
  · next p _ =>
    split
    · exact (State.Same.refl s).reply
    · exact ((s.same_updPort p _).grows.trans (State.grows_standDown _ p)).mono (by omega)
  · exact refuse_grows s _

/-! ## Recovery requests (R165 to R168) -/

theorem State.haltedAt_execMove {ph : Phase} (h : s.haltedAt = some (m, ph)) : s.execMove = some m := by
  unfold State.haltedAt at h
  split at h
  · split at h
    · next exec _ =>
      cases h
      exact exec
    · cases h
  · cases h

/-- A change that ends the move in execution, made from a state with that move in execution. -/
theorem State.Ends.grows (h : s.Ends i m.seq t) (exec : s.execMove = some m) : s.Grows i t :=
  fun k small form => h k small (State.execMove_mem exec).2 form

theorem grows_replyResume (s : State) : (replyResume s).Grows s := by
  unfold replyResume
  split
  · split
    · next resumed => exact (s.grows_clearHalt.trans (State.grows_resumed _ resumed)).mono (by omega)
    · exact refuse_grows s _
  · exact refuse_grows s _

theorem grows_replyResolveAtTarget (s : State) : (replyResolveAtTarget s).Grows s := by
  unfold replyResolveAtTarget
  split
  · next m ph halted =>
    have exec := State.haltedAt_execMove halted
    split
    · split
      · exact refuse_grows s _
      · exact ((s.ends_resolvedAtTarget m ph _ (State.execMove_mem exec).1).grows exec).mono (by omega)
    · exact refuse_grows s _
  · exact refuse_grows s _

theorem grows_replyResolveAtSource (s : State) : (replyResolveAtSource s).Grows s := by
  unfold replyResolveAtSource
  split
  · next m ph halted =>
    split
    · exact refuse_grows s _
    · exact ((s.ends_resolvedAtSource m ph _).grows (State.haltedAt_execMove halted)).mono (by omega)
  · exact refuse_grows s _

theorem grows_replyResolveRemoved (s : State) : (replyResolveRemoved s).Grows s := by
  unfold replyResolveRemoved
  split
  · split
    · next m e exec _ => exact ((s.ends_resolvedRemoved m e).grows exec).mono (by omega)
    · next absent =>
      refine (s.grows_handlerIdle ?_).mono (by omega)
      cases exec : s.execMove with
      | none => rfl
      | some m =>
        obtain ⟨e, he, _⟩ := Option.bind_eq_some_iff.mp (State.execMove_mem exec).2
        exact (absent m e exec he).elim
  · exact refuse_grows s _

theorem grows_replyRestart (s : State) : (replyRestart s).Grows s :=
  State.Same.reply ⟨rfl, rfl, rfl, id, fun r hr _ e => ⟨r, hr, e⟩⟩

/-! ## Corrections (chapter 1.6) -/

theorem grows_replySetSlotEmpty (s : State) (x : Nat) : (replySetSlotEmpty s x).Grows s := by
  unfold replySetSlotEmpty
  split
  · split
    · exact (s.same_setSlot _ _).reply
    · exact refuse_grows s _
  · exact refuse_grows s _

theorem grows_replySetSlotReticle (s : State) (b : SetSlotBody) : (replySetSlotReticle s b).Grows s := by
  unfold replySetSlotReticle
  split
  · next n c _ _ _ =>
    split
    · unfold State.fillSlot
      split
      · split
        · exact (s.same_raise _ _).reply
        · exact (s.same_createAt _ _ _).reply
      · split
        · exact (s.same_relocate _ _).reply
        · exact refuse_grows s _
    · exact refuse_grows s _
  · exact refuse_grows s _

theorem grows_replyForget (s : State) (id : Ident) : (replyForget s id).Grows s := by
  unfold replyForget
  split
  · exact refuse_grows s _
  · split
    · exact refuse_grows s _
    · split
      · exact refuse_grows s _
      · split
        · exact refuse_grows s _
        · exact (s.same_filterCatalogue _).reply

theorem grows_replySetCondition (s : State) (b : SetConditionBody) : (replySetCondition s b).Grows s := by
  unfold replySetCondition
  split
  · exact refuse_grows s _
  · split
    · exact (s.same_updRecord b.id (f := fun r => { r.resetLife with suspect := false }) fun _ => rfl).reply
    · exact refuse_grows s _

/-! ## Queries -/

theorem grows_replyQSlot (s : State) (x : Nat) : (replyQSlot s x).Grows s := by
  unfold replyQSlot
  split <;> exact (State.Same.refl s).reply

theorem grows_replyQZoneEntry (s : State) (x : Nat) : (replyQZoneEntry s x).Grows s := by
  unfold replyQZoneEntry
  split <;> exact (State.Same.refl s).reply

theorem grows_replyQZoneSlot (s : State) (x : Nat) : (replyQZoneSlot s x).Grows s := by
  unfold replyQZoneSlot
  split <;> exact (State.Same.refl s).reply

theorem grows_replyQPort (s : State) (x : Nat) : (replyQPort s x).Grows s := by
  unfold replyQPort
  split <;> exact (State.Same.refl s).reply

theorem grows_replyQInterceptEntry (s : State) (x : Nat) : (replyQInterceptEntry s x).Grows s := by
  unfold replyQInterceptEntry
  split <;> exact (State.Same.refl s).reply

theorem grows_replyQReticle (s : State) (id : Ident) : (replyQReticle s id).Grows s := by
  unfold replyQReticle
  split
  · split
    · exact (State.Same.refl s).reply
    · exact (State.Same.refl s).reply
  · exact (State.Same.refl s).reply

end Sys2Proof.Machine
end

section
/-! PROOFS. The queue in its form after every command and every step (O9). -/

namespace Sys2Proof.Machine

open Sys2Proof

variable {s t u : State} {m x : Move} {i j k : Nat}

/-! ## Lines and timers -/

theorem State.same_setTbusy (s : State) (p : Port) (b : Bool) : s.Same (s.setTbusy p b) := .of_catalogue rfl rfl rfl rfl

theorem State.same_setPresT (s : State) (p : Port) (b : Bool) : s.Same (s.setPresT p b) := .of_catalogue rfl rfl rfl rfl

theorem State.same_discardFrame (s : State) (l : Link) : s.Same (s.discardFrame l) := .of_catalogue rfl rfl rfl rfl

theorem State.same_busyAsserted (s : State) (p : Port) : s.Same (s.busyAsserted p) := by
  have level := s.same_setTbusy p true
  unfold State.busyAsserted
  dsimp only
  split
  · exact level.trans (State.same_raise _ _ _)
  · exact level

theorem State.grows_releaseAtNest (s : State) (p : Port) : s.Grows 7 (s.releaseAtNest p) := by
  unfold State.releaseAtNest
  split
  · exact s.grows_enterReturned p
  · exact (s.grows_takeCompletes p).mono (by omega)
  · split
    · exact (s.grows_lapse p).mono (by omega)
    · exact s.grows_still 7
  · exact (s.grows_unsanctionedTake p).mono (by omega)
  · exact s.grows_still 7

theorem State.grows_releaseCarried (s : State) (p : Port) : s.Grows 0 (s.releaseCarried p) := by
  unfold State.releaseCarried
  split
  · split
    · split
      · exact s.grows_sendPlace _ _
      · exact .refl s
    · exact .refl s
  · exact .refl s

theorem State.grows_tFull (s : State) (p : Port) : s.Grows 7 (s.tFull p) := by
  have level := (s.same_setPresT p true).grows
  unfold State.tFull
  dsimp only
  split
  · exact level.mono (by omega)
  · split
    · exact ((level.trans (State.grows_enterReturned _ p)).trans (State.same_raise _ _ _).grows).mono (by omega)
    · exact (level.trans (State.same_raise _ _ _).grows).mono (by omega)
    · exact level.mono (by omega)

theorem State.grows_liftedBack (s : State) (p : Port) : s.Grows 0 (s.liftedBack p) :=
  ((s.same_updPort p (fun r => { r with nest := .empty, window := none, lapseDeferred := false })).grows.trans
    (State.grows_withdrawWhere _ _ _)).trans (State.same_raise _ _ _).grows

theorem State.grows_tEmpty (s : State) (p : Port) : s.Grows 0 (s.tEmpty p) := by
  have level := (s.same_setPresT p false).grows
  unfold State.tEmpty
  dsimp only
  split
  · split
    · exact level
    · exact level.trans (State.grows_unsanctionedTake _ p)
  · exact level.trans (State.grows_unsanctionedTake _ p)
  · exact level.trans (State.grows_liftedBack _ p)
  · exact level.trans (State.same_updPort _ p _).grows
  · exact level

/-- A fab-side nest and the lines written. -/
theorem State.same_fabNests (s : State) (x : BiNest) (y : BoNest) (z : InNest) (pins : Pins) :
    s.Same { s with bi := x, bo := y, inn := z, pins := pins } := .of_catalogue rfl rfl rfl rfl

theorem State.grows_biFull (s : State) : s.Grows 1 s.biFull := by
  unfold State.biFull
  dsimp only
  split
  · exact ((s.same_fabNests .arrived s.bo s.inn _).grows.trans (State.grows_stockInArrives _)).mono (by omega)
  · exact (s.same_fabNests s.bi s.bo s.inn _).grows.mono (by omega)

theorem State.grows_biEmpty (s : State) : s.Grows 0 s.biEmpty := by
  unfold State.biEmpty
  dsimp only
  split
  · exact (s.same_fabNests .empty s.bo s.inn _).grows.trans (State.grows_withdrawWhere _ _ _)
  · exact (s.same_fabNests .empty s.bo s.inn _).grows
  · exact (s.same_fabNests s.bi s.bo s.inn _).grows

theorem State.same_boFull (s : State) : s.Same s.boFull := by
  unfold State.boFull
  dsimp only
  split
  · exact (s.same_fabNests s.bi s.bo s.inn _).trans (State.same_nestBlocks _ .bo none)
  · exact s.same_fabNests s.bi s.bo s.inn _

theorem State.same_exported (s : State) : s.Same s.exported :=
  ((s.same_fabNests s.bi .empty s.inn s.pins).trans (State.same_filterCatalogue _ _)).trans (State.same_raise _ _ _)

theorem State.same_boEmpty (s : State) : s.Same s.boEmpty := by
  unfold State.boEmpty
  dsimp only
  split
  · exact (s.same_fabNests s.bi s.bo s.inn _).trans (State.same_exported _)
  · exact s.same_fabNests s.bi .empty s.inn _
  · exact s.same_fabNests s.bi s.bo s.inn _

theorem State.grows_inFull (s : State) : s.Grows 1 s.inFull := by
  unfold State.inFull
  dsimp only
  split
  · exact ((s.same_fabNests s.bi s.bo .arrived _).grows.trans (State.grows_reshelveArrives _)).mono (by omega)
  · exact (s.same_fabNests s.bi s.bo s.inn _).grows.mono (by omega)

theorem State.same_inspectionTake (s : State) : s.Same s.inspectionTake := by
  have emptied := s.same_fabNests s.bi s.bo .empty s.pins
  unfold State.inspectionTake
  dsimp only
  split
  · exact emptied.trans (State.same_updRecord _ _ (f := Rec.moveTo .inspection) fun _ => rfl)
  · exact emptied

theorem State.grows_inEmpty (s : State) : s.Grows 0 s.inEmpty := by
  unfold State.inEmpty
  dsimp only
  split
  · exact ((s.same_fabNests s.bi s.bo s.inn _).trans (State.same_inspectionTake _)).grows
  · exact (s.same_fabNests s.bi s.bo .empty _).grows.trans (State.grows_withdrawWhere _ _ _)
  · exact (s.same_fabNests s.bi s.bo .empty _).grows
  · exact (s.same_fabNests s.bi s.bo s.inn _).grows

theorem State.grows_collectExpires (s : State) (p : Port) : s.Grows 1 (s.collectExpires p) := by
  unfold State.collectExpires
  split
  · exact (s.same_updPort p _).grows.mono (by omega)
  · exact s.grows_lapse p

theorem State.grows_returnWaitExpires (s : State) (p : Port) : s.Grows 1 (s.returnWaitExpires p) :=
  (((s.same_updPort p (fun r => { r with window := none, lateOpen := true })).grows.trans
    (State.grows_offerInward _ _ fun _ _ => State.entered_collect_shaped ..)).trans (State.same_raise _ _ _).grows).mono (by omega)

theorem State.grows_goSilent (s : State) (p : Port) : s.Grows 1 (s.goSilent p) :=
  (((s.same_updPort p (fun r => { r with state := .silent, livenessLeft := none })).trans (State.same_raise _ _ _)).grows.trans
    (State.grows_standDown _ p)).mono (by omega)

theorem State.grows_minute (s : State) : s.Grows 6 s.minute := by
  have counted : s.Same { s with tickPhase := 0 } := .of_catalogue rfl rfl rfl rfl
  exact ((counted.trans (State.same_mapCatalogue _ (f := fun r => { r with air := satAdd r.air (s.airWeight r) })
    fun _ _ e => e)).grows.trans (State.grows_dueCheck _ _)).mono (by omega)

/-! ## Every command but POWER_ON_RESET -/

theorem State.request_grows {α β : Type} (s : State) (l : ReqLink) (tag : Byte) (k : FrameKind) (place : Option β)
    (body : Option α) {owner : State → β → α → Reply} (h : ∀ a b x, (owner a b x).Grows a) :
    s.Grows 208 (s.request l tag k place body owner) := by
  have good := (s.same_goodFrame l).grows
  obtain ⟨u, code, fields, e, grows⟩ := State.request_ends (s := s) (l := l) (tag := tag) (k := k) (place := place)
    (body := body) (owner := owner) (P := fun u => s.Grows 208 u) (good.mono (by omega)) fun b x _ _ =>
    (good.trans ((h _ b x).trans (Reply.grows_outcome _ _))).mono (by omega)
  rw [e]
  exact (grows.trans (State.same_send _ _ _).grows).mono (by omega)

theorem State.Grows.settled (h : s.Grows i t) (le : i ≤ 8) (x : Touch) : s.Grows 208 (t.settle s x) :=
  (h.trans (State.grows_settle t s x)).mono (by omega)

/-- A change of the lines is settled, and nothing happens without an edge. -/
theorem State.grows_edge (s : State) {b : Prop} [Decidable b] {x y : State} (left : s.Grows 208 x) (right : s.Grows 208 y) :
    s.Grows 208 (if b then x else y) := by
  split
  · exact left
  · exact right

theorem State.grows_picked (s : State) (n : Byte) (read : ReadId) :
    s.Grows 208 (if readOk read then s.takeReport n [.picking] (fun a m => a.takePicked m read) else s) := by
  refine s.grows_edge ?_ (s.grows_still 208)
  refine (s.grows_takeReport (i := 0) n _ _ fun m exec => ?_).mono (by omega)
  exact (s.grows_takePicked m read (List.mem_map_of_mem (State.execMove_mem exec).1)).ends m.seq

theorem State.grows_halted (s : State) (c : HaltCode) (g : GripperState) : s.Grows 208 ((s.halt c g).settleHandler s) :=
  ((s.grows_halt c g).trans (State.grows_settleHandler _ s)).mono (by omega)

/-- The state a command leaves, the queue in its form. -/
def Leaves (c : Instr) (s : State) : Prop := ∃ t, exec c s = .next t ∧ s.Grows 208 t

theorem leaves (c : Instr) (s : State) (h : ∀ x, c ≠ .powerOnReset x) : Leaves c s := by
  have still := s.grows_still 208
  cases c with
  | powerOnReset x => exact absurd rfl (h x)
  | hello l tag b => exact ⟨_, rfl, s.request_grows l tag _ _ _ grows_replyHello⟩
  | alive l tag b => exact ⟨_, rfl, s.request_grows l tag _ _ _ fun a _ _ => (State.Same.refl a).reply⟩
  | call l tag b => exact ⟨_, rfl, s.request_grows l tag _ _ _ grows_replyCall⟩
  | cancel l tag b => exact ⟨_, rfl, s.request_grows l tag _ _ _ grows_replyCancel⟩
  | ahead l tag b => exact ⟨_, rfl, s.request_grows l tag _ _ _ grows_replyAhead⟩
  | returnLots l tag b => exact ⟨_, rfl, s.request_grows l tag _ _ _ grows_replyReturn⟩
  | portState l tag b => exact ⟨_, rfl, s.request_grows l tag _ _ _ fun a _ _ => (State.Same.refl a).reply⟩
  | announce l tag b => exact ⟨_, rfl, s.request_grows l tag _ _ _ fun a _ => grows_replyAnnounce a⟩
  | unannounce l tag b => exact ⟨_, rfl, s.request_grows l tag _ _ _ fun a _ => grows_replyUnannounce a⟩
  | exportOut l tag b => exact ⟨_, rfl, s.request_grows l tag _ _ _ fun a _ => grows_replyExport a⟩
  | hold l tag b => exact ⟨_, rfl, s.request_grows l tag _ _ _ fun a _ => grows_replyHold a⟩
  | release l tag b => exact ⟨_, rfl, s.request_grows l tag _ _ _ fun a _ => grows_replyRelease a⟩
  | setClass l tag b => exact ⟨_, rfl, s.request_grows l tag _ _ _ fun a _ => grows_replySetClass a⟩
  | inspect l tag b => exact ⟨_, rfl, s.request_grows l tag _ _ _ grows_replyInspect⟩
  | verdict l tag b => exact ⟨_, rfl, s.request_grows l tag _ _ _ fun a _ => grows_replyVerdict a⟩
  | census l tag b => exact ⟨_, rfl, s.request_grows l tag _ _ _ fun a _ => grows_replyCensus a⟩
  | censusStop l tag b => exact ⟨_, rfl, s.request_grows l tag _ _ _ fun a _ _ => grows_replyCensusStop a⟩
  | interceptSet l tag b => exact ⟨_, rfl, s.request_grows l tag _ _ _ fun a _ => grows_replyInterceptSet a⟩
  | ack l tag b => exact ⟨_, rfl, s.request_grows l tag _ _ _ fun a l _ => (a.same_setNoticeSet l _).reply⟩
  | mask l tag b => exact ⟨_, rfl, s.request_grows l tag _ _ _ fun a l k => (a.same_maskKinds l k).reply⟩
  | qReticle l tag b => exact ⟨_, rfl, s.request_grows l tag _ _ _ fun a _ => grows_replyQReticle a⟩
  | qSlot l tag b => exact ⟨_, rfl, s.request_grows l tag _ _ _ fun a _ => grows_replyQSlot a⟩
  | qZoneEntry l tag b => exact ⟨_, rfl, s.request_grows l tag _ _ _ fun a _ => grows_replyQZoneEntry a⟩
  | qZoneSlot l tag b => exact ⟨_, rfl, s.request_grows l tag _ _ _ fun a _ => grows_replyQZoneSlot a⟩
  | qPort l tag b => exact ⟨_, rfl, s.request_grows l tag _ _ _ fun a _ => grows_replyQPort a⟩
  | qQueue l tag b => exact ⟨_, rfl, s.request_grows l tag _ _ _ fun a _ _ => (State.Same.refl a).reply⟩
  | qInterceptEntry l tag b => exact ⟨_, rfl, s.request_grows l tag _ _ _ fun a _ => grows_replyQInterceptEntry a⟩
  | qInterceptAll l tag b => exact ⟨_, rfl, s.request_grows l tag _ _ _ fun a _ _ => (State.Same.refl a).reply⟩
  | zoneSet l tag b => exact ⟨_, rfl, s.request_grows l tag _ _ _ fun a _ => grows_replyZoneSet a⟩
  | classSet l tag b => exact ⟨_, rfl, s.request_grows l tag _ _ _ fun a _ => grows_replyClassSet a⟩
  | portSet l tag b => exact ⟨_, rfl, s.request_grows l tag _ _ _ fun a _ => grows_replyPortSet a⟩
  | portOpen l tag b => exact ⟨_, rfl, s.request_grows l tag _ _ _ fun a _ => grows_replyPortOpen a⟩
  | portClose l tag b => exact ⟨_, rfl, s.request_grows l tag _ _ _ fun a _ => grows_replyPortClose a⟩
  | timingSet l tag b =>
    exact ⟨_, rfl, s.request_grows l tag _ _ _ fun a _ _ =>
      State.Same.reply ⟨rfl, rfl, rfl, id, fun r hr _ e => ⟨r, hr, e⟩⟩⟩
  | setSlotEmpty l tag b => exact ⟨_, rfl, s.request_grows l tag _ _ _ fun a _ => grows_replySetSlotEmpty a⟩
  | setSlotReticle l tag b => exact ⟨_, rfl, s.request_grows l tag _ _ _ fun a _ => grows_replySetSlotReticle a⟩
  | forget l tag b => exact ⟨_, rfl, s.request_grows l tag _ _ _ fun a _ => grows_replyForget a⟩
  | setCondition l tag b => exact ⟨_, rfl, s.request_grows l tag _ _ _ fun a _ => grows_replySetCondition a⟩
  | resume l tag b => exact ⟨_, rfl, s.request_grows l tag _ _ _ fun a _ _ => grows_replyResume a⟩
  | resolveAtTarget l tag b => exact ⟨_, rfl, s.request_grows l tag _ _ _ fun a _ _ => grows_replyResolveAtTarget a⟩
  | resolveAtSource l tag b => exact ⟨_, rfl, s.request_grows l tag _ _ _ fun a _ _ => grows_replyResolveAtSource a⟩
  | resolveRemoved l tag b => exact ⟨_, rfl, s.request_grows l tag _ _ _ fun a _ _ => grows_replyResolveRemoved a⟩
  | restart l tag b => exact ⟨_, rfl, s.request_grows l tag _ _ _ fun a _ _ => grows_replyRestart a⟩
  | unknownRequestKind l tag k =>
    exact ⟨_, rfl, ((s.same_goodFrame l).trans (State.same_send _ _ _)).grows.mono (by omega)⟩
  | bodyLengthExcess l => exact ⟨_, rfl, (s.same_discardFrame l).grows.mono (by omega)⟩
  | crcFailure l => exact ⟨_, rfl, (s.same_discardFrame l).grows.mono (by omega)⟩
  | byteGapTimeout l => exact ⟨_, rfl, (s.same_discardFrame l).grows.mono (by omega)⟩
  | handlerFrameNotTaken => exact ⟨_, rfl, still⟩
  | picked n read => exact ⟨_, rfl, s.grows_picked n read⟩
  | sourceEmpty n => exact ⟨_, rfl, (s.grows_takeReport n _ _ fun m _ => s.ends_sourceEmptyEnd m).mono (by omega)⟩
  | placed n => exact ⟨_, rfl, (s.grows_takeReport n _ _ fun m _ => s.ends_takePlaced m).mono (by omega)⟩
  | occupied n =>
    exact ⟨_, rfl, (s.grows_takeReport n _ _ fun m exec => (s.grows_takeOccupiedReport m exec).ends m.seq).mono (by omega)⟩
  | scanned n results => exact ⟨_, rfl, (s.grows_takeReport n _ _ fun m _ => s.ends_takeScanned m results).mono (by omega)⟩
  | faultReport n code loaded => exact ⟨_, rfl, s.grows_edge (s.grows_halted _ _) still⟩
  | restarted n loaded =>
    exact ⟨_, rfl, ((s.grows_takeRestarted loaded).trans (State.grows_settleHandler _ s)).mono (by omega)⟩
  | phaseTimeout => exact ⟨_, rfl, s.grows_edge (s.grows_halted _ _) still⟩
  | livenessExpiry p => exact ⟨_, rfl, s.grows_edge ((s.grows_goSilent p).settled (by omega) _) still⟩
  | collectWindowExpiry p => exact ⟨_, rfl, s.grows_edge ((s.grows_collectExpires p).settled (by omega) _) still⟩
  | returnWaitExpiry p => exact ⟨_, rfl, s.grows_edge ((s.grows_returnWaitExpires p).settled (by omega) _) still⟩
  | gapTimerExpiry l => exact ⟨_, rfl, s.grows_edge ((s.same_gapExpires l).grows.mono (by omega)) still⟩
  | minuteTick => exact ⟨_, rfl, s.grows_minute.settled (by omega) _⟩
  | tbusyAsserted p => exact ⟨_, rfl, s.grows_edge still ((s.same_busyAsserted p).grows.settled (by omega) _)⟩
  | tbusyReleased p =>
    have released := ((s.same_setTbusy p false).grows.trans (State.grows_releaseAtNest _ p)).trans
      (State.grows_releaseCarried _ p)
    exact ⟨_, rfl, s.grows_edge (released.settled (by omega) _) still⟩
  | presTFull p => exact ⟨_, rfl, s.grows_edge still ((s.grows_tFull p).settled (by omega) _)⟩
  | presTEmpty p => exact ⟨_, rfl, s.grows_edge ((s.grows_tEmpty p).settled (by omega) _) still⟩
  | presBiFull => exact ⟨_, rfl, s.grows_edge still (s.grows_biFull.settled (by omega) _)⟩
  | presBiEmpty => exact ⟨_, rfl, s.grows_edge (s.grows_biEmpty.settled (by omega) _) still⟩
  | presBoFull => exact ⟨_, rfl, s.grows_edge still (s.same_boFull.grows.settled (by omega) _)⟩
  | presBoEmpty => exact ⟨_, rfl, s.grows_edge (s.same_boEmpty.grows.settled (by omega) _) still⟩
  | presInFull => exact ⟨_, rfl, s.grows_edge still (s.grows_inFull.settled (by omega) _)⟩
  | presInEmpty => exact ⟨_, rfl, s.grows_edge (s.grows_inEmpty.settled (by omega) _) still⟩

/-! ## POWER_ON_RESET and the idle second -/

/-- With an empty queue, no record and the handler interface idle the queue is in its form. -/
theorem State.QueueForm.of_empty (queue : s.queue = []) (catalogue : s.catalogue = []) (exec : s.handler.exec = none) :
    s.QueueForm 0 := by
  refine ⟨by simp [State.SeqsDistinct, queue], by simp [queue], by simp [queue], fun q own => ?_, by simp [catalogue], by simp [queue],
    fun _ => exec, by simp [queue]⟩
  rw [exec] at own
  cases own

theorem State.grows_admitFirst (s : State) (m : FirstMove) : s.Grows 1 (s.admitFirst m) := by
  cases m with
  | nest f => exact s.grows_admitFresh f
  | census => exact s.grows_startCensus 0 47

theorem State.grows_firstAdmissions (s : State) (ms : List FirstMove) :
    s.Grows (193 * ms.length) (ms.foldl State.firstAdmission s) := by
  induction ms generalizing s with
  | nil => exact .refl s
  | cons m ms ih =>
    have first : s.Grows 193 (s.firstAdmission m) :=
      ((s.grows_admitFirst m).trans (State.grows_settle _ s noTouch)).mono (by omega)
    exact (first.trans (ih _)).mono (by simp only [List.length_cons]; omega)

theorem State.powerOn_queueSound (s : State) (x : Straps) : (s.powerOn x).QueueSound := by
  have blocked : (s.powerOnBase x).Same ((s.powerOnBase x).blockBo x) := by
    unfold State.blockBo
    split
    · exact State.same_nestBlocks _ _ _
    · exact .refl _
  obtain ⟨n, drawn⟩ := freeOrder_state (s := (s.powerOnBase x).blockBo x) (firstMoves x)
  have few : (freeOrder (firstMoves x) ((s.powerOnBase x).blockBo x)).1.length ≤ 9 :=
    (freeOrder_perm (firstMoves x) ((s.powerOnBase x).blockBo x)).length_eq ▸ firstMoves_few x
  have form := (blocked.trans (State.same_choices _ n)).form (State.QueueForm.of_empty (s := s.powerOnBase x) rfl rfl rfl)
  rw [← drawn] at form
  exact (State.grows_firstAdmissions _ _ 0 (by omega) form).sound

theorem State.same_idleSecond (s : State) : s.Same s.idleSecond := by
  obtain ⟨n, e⟩ := s.idleSecond_eq
  rw [e]
  exact ⟨rfl, rfl, rfl, id, fun r hr _ b => ⟨r, hr, b⟩⟩

/-! ## Every step -/

theorem exec_queueSound {c : Instr} (handler : s.handler.Sound) (sound : s.QueueSound) (fresh : s.SeqsFresh)
    (h : exec c s = .next t) : t.QueueSound := by
  by_cases reset : ∃ x, c = .powerOnReset x
  · obtain ⟨x, rfl⟩ := reset
    cases h
    exact s.powerOn_queueSound x
  · obtain ⟨u, runs, grows⟩ := leaves c s fun x e => reset ⟨x, e⟩
    rw [h] at runs
    cases runs
    exact (grows 0 (by omega) (.of_sound handler sound fresh)).sound

theorem step_queueSound (handler : s.handler.Sound) (sound : s.QueueSound) (fresh : s.SeqsFresh) (h : step s = .next t) :
    t.QueueSound := by
  unfold step at h
  split at h
  · cases h
    exact (s.same_idleSecond.form (.of_sound handler sound fresh)).sound
  · next c rest _ =>
    have same : s.Same { s with pending := rest } := .of_catalogue rfl rfl rfl rfl
    have form := same.form (.of_sound handler sound fresh)
    exact exec_queueSound (s := { s with pending := rest }) handler form.sound form.old h

/-- Settles O9: the entries of the queue, the execution record and the bindings are followed through every operation, the
numbers given out in one step far fewer than half the counter's range. -/
theorem stepKeepsHandlerQueueAndSettingsForm : Obligations.StepKeepsHandlerQueueAndSettingsForm :=
  ⟨fun _ _ sound h => (step_preserves h).handler sound, fun _ _ sound h => (step_preserves h).settings sound,
    fun _ _ handler sound fresh h => step_queueSound handler sound fresh h⟩

end Sys2Proof.Machine
end

section
/-! PROOFS. What slots, records, moves and nests show of each other (O10): the part of the state that the agreement is about, and
what each operation makes of it. -/

namespace Sys2Proof.Machine

open Sys2Proof

variable {s t : State} {m x : Move}

/-! ## The view -/

/-- The slots, where each record is and what it is bound to, the queue, the execution record with the handler interface's state,
the tool nests with the return waits that run, and IN. -/
structure View where
  slot : Slot → SlotEntry
  record : Ident → Option (Location × Option Seq)
  queue : List Move
  exec : Option ExecRecord
  busy : HandlerState
  nest : Port → ToolNest
  waits : Port → Bool
  inn : InNest

/-- What the view keeps of a record. -/
def Rec.seen (r : Rec) : Location × Option Seq := (r.location, r.binding)

/-- The view of a state. -/
def State.view (s : State) : View where
  slot := s.slot
  record id := (s.record id).map Rec.seen
  queue := s.queue
  exec := s.handler.exec
  busy := s.handler.state
  nest := s.toolNest
  waits p := s.windowRuns p .returnWait
  inn := s.inn

/-- A slot entry written. -/
def View.setSlot (v : View) (n : Slot) (e : SlotEntry) : View := { v with slot := Function.update v.slot n e }

/-- A tool nest in a new state. -/
def View.setNest (v : View) (p : Port) (x : ToolNest) : View := { v with nest := Function.update v.nest p x }

/-- The return wait of a port started or stopped. -/
def View.setWaits (v : View) (p : Port) (b : Bool) : View := { v with waits := Function.update v.waits p b }

/-- What a record shows, changed. -/
def View.onRecord (v : View) (id : Ident) (f : Location × Option Seq → Location × Option Seq) : View :=
  { v with record := Function.update v.record id ((v.record id).map f) }

/-- A record located elsewhere. -/
def View.locate (v : View) (id : Ident) (l : Location) : View := v.onRecord id fun x => (l, x.2)

/-- A record bound to a move. -/
def View.bind (v : View) (id : Ident) (q : Seq) : View := v.onRecord id fun x => (x.1, some q)

/-- The binding to a move released. -/
def unbind (q : Seq) (x : Location × Option Seq) : Location × Option Seq := (x.1, if x.2 = some q then none else x.2)

/-- A move out of the queue, its binding released. -/
def View.drop (v : View) (q : Seq) : View :=
  { v with queue := v.queue.filter (fun m => !decide (m.seq = q)), record := fun id => (v.record id).map (unbind q) }

/-- An entry of the queue changed. -/
def View.updMove (v : View) (q : Seq) (f : Move → Move) : View :=
  { v with queue := v.queue.map fun m => if m.seq = q then f m else m }

/-- A move entered at the end of the queue, the record it names bound to it. -/
def View.enter (v : View) (m : Move) : View :=
  match m.reticle with
  | some id => { v with queue := v.queue ++ [m] }.bind id m.seq
  | none => { v with queue := v.queue ++ [m] }

/-! ## The view of each operation -/

theorem State.view_congr (slots : t.slots = s.slots) (catalogue : t.catalogue = s.catalogue) (queue : t.queue = s.queue)
    (handler : t.handler = s.handler) (ports : t.ports = s.ports) (inn : t.inn = s.inn) : t.view = s.view := by
  have slot : t.slot = s.slot := funext fun n => congrArg (·.get n) slots
  have nest : t.toolNest = s.toolNest := funext fun p => congrArg (fun ports => (ports.get p).nest) ports
  simp only [State.view, slot, nest, State.record, State.windowRuns, State.port, catalogue, queue, handler, ports, inn]

theorem View.onRecord_id (v : View) (id : Ident) : v.onRecord id (fun x => x) = v := by
  simp [View.onRecord]

theorem State.view_setSlot (s : State) (n : Slot) (e : SlotEntry) : (s.setSlot n e).view = s.view.setSlot n e := by
  have slots : (s.setSlot n e).slot = Function.update s.slot n e := by
    funext k
    rw [s.slot_setSlot, Function.update_apply]
  simp only [State.view, View.setSlot, slots]
  rfl

theorem State.view_updRecord (s : State) (id : Ident) {f : Rec → Rec} {g : Location × Option Seq → Location × Option Seq}
    (ids : ∀ r, (f r).id = r.id) (seen : ∀ r, (f r).seen = g r.seen) : (s.updRecord id f).view = s.view.onRecord id g := by
  have record : (fun x => ((s.updRecord id f).record x).map Rec.seen)
      = Function.update (fun x => (s.record x).map Rec.seen) id (((s.record id).map Rec.seen).map g) := by
    funext y
    rw [Function.update_apply]
    split
    · next e =>
      subst e
      rw [s.record_updRecord_same y f ids]
      cases s.record y with
      | none => rfl
      | some r => simp [seen]
    · next other => rw [s.record_updRecord_other f ids other]
  change View.mk _ _ _ _ _ _ _ _ = View.mk _ _ _ _ _ _ _ _
  rw [record]
  rfl

/-- A record changed but for its place and its binding. -/
theorem State.view_updRecord_same (s : State) (id : Ident) {f : Rec → Rec} (ids : ∀ r, (f r).id = r.id)
    (seen : ∀ r, (f r).seen = r.seen) : (s.updRecord id f).view = s.view := by
  rw [s.view_updRecord id (g := fun x => x) ids seen, View.onRecord_id]

theorem State.view_moveTo (s : State) (id : Ident) (l : Location) :
    (s.updRecord id (Rec.moveTo l)).view = s.view.locate id l :=
  s.view_updRecord id (fun _ => rfl) fun _ => rfl

theorem State.view_putIn (s : State) (id : Ident) (n : Slot) :
    (s.updRecord id (Rec.putIn n)).view = s.view.locate id (.slot n) :=
  s.view_updRecord id (fun _ => rfl) fun _ => rfl

theorem State.view_lose (s : State) (id : Ident) : (s.updRecord id Rec.lose).view = s.view.locate id .unlocated :=
  s.view_updRecord id (fun _ => rfl) fun _ => rfl

theorem State.view_doubt (s : State) (id : Ident) : (s.updRecord id Rec.doubt).view = s.view :=
  s.view_updRecord_same id (fun _ => rfl) fun _ => rfl

theorem State.view_bind (s : State) (id : Ident) (q : Seq) : (s.bind id q).view = s.view.bind id q :=
  s.view_updRecord id (fun _ => rfl) fun _ => rfl

/-- Every record changed but for its place and its binding. -/
theorem State.view_mapCatalogue (s : State) {f : Rec → Rec} (ids : ∀ r, (f r).id = r.id) (seen : ∀ r, (f r).seen = r.seen) :
    State.view { s with catalogue := s.catalogue.map f } = s.view := by
  have record : (fun x => (State.record { s with catalogue := s.catalogue.map f } x).map Rec.seen)
      = fun x => (s.record x).map Rec.seen := by
    funext y
    rw [s.record_mapCatalogue ids]
    cases s.record y with
    | none => rfl
    | some r => simp [seen]
  change View.mk _ _ _ _ _ _ _ _ = View.mk _ _ _ _ _ _ _ _
  rw [record]
  rfl

theorem State.view_dropMove (s : State) (q : Seq) : (s.dropMove q).view = s.view.drop q := by
  have record : (fun x => ((s.dropMove q).record x).map Rec.seen) = fun x => ((s.record x).map Rec.seen).map (unbind q) := by
    funext y
    change (State.record { s with
      catalogue := s.catalogue.map fun r => if r.binding = some q then { r with binding := none } else r } y).map Rec.seen = _
    rw [s.record_mapCatalogue (fun r => by split <;> rfl)]
    cases s.record y with
    | none => rfl
    | some r =>
      simp only [Option.map_some, Rec.seen, unbind]
      split <;> rfl
  change View.mk _ _ _ _ _ _ _ _ = View.mk _ _ _ _ _ _ _ _
  rw [record]
  rfl

theorem State.view_updMove (s : State) (q : Seq) (f : Move → Move) : (s.updMove q f).view = s.view.updMove q f := rfl

theorem State.view_updPort (s : State) (p : Port) (f : PortRec → PortRec) : (s.updPort p f).view =
    (s.view.setNest p (f (s.port p)).nest).setWaits p ((f (s.port p)).window.any fun w => w.use = .returnWait) := by
  have nest : (s.updPort p f).toolNest = Function.update s.toolNest p (f (s.port p)).nest := by
    funext q
    rw [Function.update_apply]
    unfold State.toolNest
    rw [s.port_updPort]
    split
    · rfl
    · rfl
  have waits : (fun q => (s.updPort p f).windowRuns q .returnWait) = Function.update (fun q => s.windowRuns q .returnWait) p
      ((f (s.port p)).window.any fun w => w.use = .returnWait) := by
    funext q
    rw [Function.update_apply]
    unfold State.windowRuns
    rw [s.port_updPort]
    split
    · rfl
    · rfl
  change View.mk _ _ _ _ _ _ _ _ = View.mk _ _ _ _ _ _ _ _
  rw [nest, waits]
  rfl

theorem View.setNest_self (v : View) (p : Port) : v.setNest p (v.nest p) = v := by simp [View.setNest]

theorem View.setWaits_self (v : View) (p : Port) : v.setWaits p (v.waits p) = v := by simp [View.setWaits]

/-- A port's record changed but for its nest and its window timer. -/
theorem State.view_updPort_same (s : State) (p : Port) {f : PortRec → PortRec} (nest : (f (s.port p)).nest = (s.port p).nest)
    (window : (f (s.port p)).window = (s.port p).window) : (s.updPort p f).view = s.view := by
  rw [s.view_updPort, nest, window]
  change (s.view.setNest p (s.view.nest p)).setWaits p (s.view.waits p) = s.view
  rw [View.setNest_self, View.setWaits_self]

theorem State.view_enter (s : State) (o : Offer) (d h : Bool) : (s.enter o d h).view = s.view.enter (s.entered o d h) := by
  obtain ⟨_, _, _, reticle, _, _, _, _⟩ := o
  cases reticle with
  | some id => exact State.view_bind { s with queue := s.queue ++ [_], nextSeq := s.nextSeq + 1 } id _
  | none => rfl

theorem State.view_raise (s : State) (k : NoticeKind) (d : Detail) : (s.raise k d).view = s.view :=
  State.view_congr (by simp) (by simp) (by simp) (by simp) (by simp) (by simp)

theorem State.view_sendTool (s : State) (p : Port) (f : OutFrame) : (s.sendTool p f).view = s.view :=
  State.view_congr (by simp) (by simp) (by simp) (by simp) (by simp) (by simp)

theorem State.view_tellWithdrawn (s : State) (m : Move) (r : Reason) : (s.tellWithdrawn m r).view = s.view :=
  State.view_congr (by simp) (by simp) (by simp) (by simp) (by simp) (by simp)

theorem State.view_tellEnd (s : State) (m : Move) (x : MoveOutcome) : (s.tellEnd m x).view = s.view :=
  State.view_congr (by simp) (by simp) (by simp) (by simp) (by simp) (by simp)

theorem State.view_updAhead (s : State) (p : Port) (f : CallAhead → CallAhead) : (s.updAhead p f).view = s.view := rfl

theorem State.view_countHit (s : State) (n : Fin 16) (o : Offer) : (s.countHit n o).view = s.view := State.view_raise _ _ _

theorem State.view_withdraw (s : State) (m : Move) (r : Option Reason) : (s.withdraw m r).view = s.view.drop m.seq := by
  have dropped : (if m.kind = .scan then (s.dropMove m.seq).censusEnds else s.dropMove m.seq).view = s.view.drop m.seq := by
    split
    · exact s.view_dropMove m.seq
    · exact s.view_dropMove m.seq
  unfold State.withdraw
  cases r with
  | none => exact dropped
  | some r => exact (State.view_tellWithdrawn _ m r).trans dropped

/-- A record removed. -/
def View.remove (v : View) (id : Ident) : View := { v with record := Function.update v.record id none }

theorem State.view_filterCatalogue (s : State) (id : Ident) :
    State.view { s with catalogue := s.catalogue.filter fun r => !decide (r.id = id) } = s.view.remove id := by
  have record : (fun x => (State.record { s with catalogue := s.catalogue.filter fun r => !decide (r.id = id) } x).map Rec.seen)
      = Function.update (fun x => (s.record x).map Rec.seen) id none := by
    funext y
    rw [Function.update_apply]
    simp only [State.record, List.find?_filter]
    split
    · next e =>
      subst e
      rw [List.find?_eq_none.mpr (by simp)]
      rfl
    · next other =>
      congr 2
      funext r
      by_cases e : r.id = y <;> simp [e, other]
  change View.mk _ _ _ _ _ _ _ _ = View.mk _ _ _ _ _ _ _ _
  rw [record]
  rfl

/-- A record entered. -/
def View.create (v : View) (id : Ident) (l : Location) : View := { v with record := Function.update v.record id (some (l, none)) }

theorem State.view_createRecord (s : State) {r : Rec} (unknown : s.record r.id = none) (unbound : r.binding = none) :
    (s.createRecord r).view = s.view.create r.id r.location := by
  have entered : State.view { s with
      catalogue := s.catalogue ++ [r], announcements := s.announcements.filter (fun a => !decide (a.id = r.id)) }
      = s.view.create r.id r.location := by
    have record : (fun x => ((s.catalogue ++ [r]).find? fun y => decide (y.id = x)).map Rec.seen)
        = Function.update (fun x => (s.record x).map Rec.seen) r.id (some (r.location, none)) := by
      funext y
      rw [Function.update_apply, List.find?_append]
      split
      · next e =>
        subst e
        change ((s.record r.id).or _).map Rec.seen = _
        rw [unknown]
        simp [Rec.seen, unbound]
      · next other =>
        rw [List.find?_singleton, if_neg (by simpa using Ne.symm other), Option.or_none]
        rfl
    change View.mk _ _ _ _ _ _ _ _ = View.mk _ _ _ _ _ _ _ _
    simp only [State.record]
    rw [record]
    rfl
  unfold State.createRecord
  dsimp only
  split
  · exact (State.view_raise _ _ _).trans entered
  · exact entered

/-- The handler interface changed. -/
theorem State.view_updHandler (s : State) (f : Handler → Handler) :
    (s.updHandler f).view = { s.view with exec := (f s.handler).exec, busy := (f s.handler).state } := rfl

end Sys2Proof.Machine
end

section
/-! PROOFS. The agreement of slots, records, moves and nests (O10), on the view: its statement, and the changes that keep it. -/

namespace Sys2Proof.Machine

open Sys2Proof

variable {v w : View} {m x : Move} {id : Ident} {p : Port} {n : Slot} {q : Seq}

/-! ## The agreement -/

/-- A move in execution, by its number. -/
def View.Runs (v : View) (q : Seq) : Prop := v.exec.bind (·.move) = some q

/-- The source, the target and the reticle that a move's kind calls for (R116). -/
def Move.Routed (m : Move) : Prop :=
  match m.kind with
  | .deliver => ∃ p n, m.beneficiary = some p ∧ m.source = .slot n ∧ m.target = .pos (.nest (.t p)) ∧ m.reticle.isSome = true
  | .stockOut => ∃ n, m.source = .slot n ∧ m.target = .pos (.nest .bo) ∧ m.reticle.isSome = true
  | .inspectOut => ∃ n, m.source = .slot n ∧ m.target = .pos (.nest .inn) ∧ m.reticle.isSome = true
  | .prestage => ∃ a b, m.source = .slot a ∧ m.target = .pos (.slot b) ∧ a ≠ b ∧ m.reticle.isSome = true
  | .destage => ∃ a, m.source = .slot a ∧ toStorage a = none ∧ m.reticle.isSome = true
  | .collect => ∃ p, m.source = .nest (.t p)
  | .reclaim => (∃ p, m.source = .nest (.t p)) ∧ m.reticle.isSome = true
  | .stockIn => m.source = .nest .bi
  | .reshelve => m.source = .nest .inn
  | .scan => (∃ n, m.source = .shelf n) ∧ (∃ n, m.target = .pos (.shelf n)) ∧ m.reticle = none

/-- A move is routed by its kind, and it names a reticle exactly when its pick test is NAMED (R114). -/
def Move.Wired (m : Move) : Prop := (m.reticle.isSome = true ↔ m.pickTest = .named) ∧ m.Routed

/-- Where the record bound to a move may be. -/
def Move.Stands (m : Move) : Location → Prop
  | .slot n => m.source = .slot n
  | .tool p => m.kind = .collect ∧ m.source = .nest (.t p)
  | .nest .bo => False
  | .nest x => m.source = .nest x
  | .gripper => m.state = .executing
  | _ => False

/-- A tool nest from which a move waits: OUT_LAPSED for a RECLAIM, RETURNED with no return wait running for a COLLECT. -/
def View.NestFor (v : View) (m : Move) (p : Port) : Prop :=
  (m.kind = .reclaim ∧ v.nest p = .outLapsed) ∨ (m.kind = .collect ∧ v.nest p = .returned ∧ v.waits p = false)

/-- A source nest as its owner left it at the grant. -/
def View.SourceGranted (v : View) (m : Move) : Prop :=
  (∀ p, m.source = .nest (.t p) → v.nest p = .outbound) ∧ (m.source = .nest .inn → v.inn = .outbound)

/-- A target slot or nest as its owner left it at the grant. -/
def View.TargetGranted (v : View) (m : Move) : Prop :=
  (∀ n, m.target = .pos (.slot n) → ∃ x, v.slot n = .inbound x m.seq)
    ∧ (∀ p, m.target = .pos (.nest (.t p)) → v.nest p = .inbound) ∧ (m.target = .pos (.nest .inn) → v.inn = .inbound)

/-- The record a move names is in the gripper. -/
def View.Carried (v : View) (m : Move) : Prop := ∃ id b, m.reticle = some id ∧ v.record id = some (.gripper, b)

/-- What a phase of the move in execution finds: before the accepted pick and in the putback of a refused one the source and the
target as granted; after it the record in the gripper, the source free and the target as granted; in the putback from an occupied
target the record in the gripper and the target free. -/
def View.Works (v : View) (m : Move) : Phase → Option PutbackCause → Prop
  | .scanning, _ => m.kind = .scan
  | .picking, _ => v.SourceGranted m ∧ v.TargetGranted m ∧ m.kind ≠ .scan ∧ ∃ x, m.target = .pos x
  | .carrying, _ => v.Carried m ∧ v.TargetGranted m ∧ ∀ n, m.source = .slot n → (v.slot n).move = none
  | .placing, _ => v.Carried m ∧ v.TargetGranted m ∧ ∀ n, m.source = .slot n → (v.slot n).move = none
  | .putback, some .mismatch => v.SourceGranted m ∧ v.TargetGranted m
  | .putback, some _ => v.Carried m ∧ ∀ n, m.target = .pos (.slot n) → (v.slot n).move = none
  | .putback, none => False

/-- Slots, records, moves and nests agree. -/
structure View.Agree (v : View) : Prop where
  located : ∀ n id, (v.slot n).reticle = some id ↔ ∃ b, v.record id = some (.slot n, b)
  binds : ∀ m ∈ v.queue, ∀ id, m.reticle = some id → ∃ l, v.record id = some (l, some m.seq)
  bound : ∀ id l q, v.record id = some (l, some q) → ∃ m ∈ v.queue, m.seq = q ∧ m.reticle = some id ∧ m.Stands l
  gripped : ∀ id b, v.record id = some (.gripper, b) → ∃ m ∈ v.queue, v.Runs m.seq ∧ m.reticle = some id
  reserved : ∀ n q, (v.slot n).move = some q →
    v.Runs q ∧ ∃ m ∈ v.queue, m.seq = q ∧ (m.source = .slot n ∨ m.target = .pos (.slot n))
  own : ∀ m ∈ v.queue, v.Runs m.seq → ∀ n id, m.source = .slot n → (v.slot n).reticle = some id → m.reticle = some id
  wired : ∀ m ∈ v.queue, m.Wired
  nests : ∀ m ∈ v.queue, m.isWaiting = true → ∀ p, m.source = .nest (.t p) → v.NestFor m p
  single : ∀ m ∈ v.queue, ∀ x ∈ v.queue, m.isWaiting = true → x.isWaiting = true → ∀ p, m.source = .nest (.t p) →
    x.source = .nest (.t p) → m.seq = x.seq
  reshelves : ∀ m ∈ v.queue, ∀ x ∈ v.queue, m.kind = .reshelve → x.kind = .reshelve → m.seq = x.seq
  arrived : ∀ m ∈ v.queue, m.isWaiting = true → m.kind = .reshelve → v.inn = .arrived
  window : ∀ p, v.waits p = true → v.nest p = .returned
  works : ∀ m ∈ v.queue, v.Runs m.seq → ∃ ph, v.exec.bind (·.phase) = some ph ∧ (v.busy = ph.handlerState ∨ v.busy = .halted)
    ∧ v.Works m ph (v.exec.bind (·.cause))

/-- The queue in its form, as the agreement uses it. -/
structure View.Form (v : View) : Prop where
  distinct : (v.queue.map (·.seq)).Nodup
  shaped : ∀ m ∈ v.queue, m.Shaped
  executing : ∀ m ∈ v.queue, m.state = .executing → v.Runs m.seq
  named : ∀ q, v.Runs q → ∃ m ∈ v.queue, m.seq = q ∧ m.state = .executing
  cause : ∀ m ∈ v.queue, v.Runs m.seq → m.kind.isStore = true → ∀ c, v.exec.bind (·.cause) = some c → c = .mismatch
  idle : v.busy = .idle → v.exec = none

theorem View.Form.eq_of_seq (form : v.Form) (hm : m ∈ v.queue) (hx : x ∈ v.queue) (same : m.seq = x.seq) : m = x :=
  List.inj_on_of_nodup_map form.distinct hm hx same

theorem Move.isWaiting_iff (m : Move) : m.isWaiting = true ↔ m.state = .waiting := by simp [Move.isWaiting]

theorem Move.isWaiting_false (m : Move) : m.isWaiting = false ↔ m.state = .executing := by
  unfold Move.isWaiting
  cases m.state <;> simp

theorem View.Form.runs_iff (form : v.Form) (hm : m ∈ v.queue) : v.Runs m.seq ↔ m.state = .executing := by
  refine ⟨fun runs => ?_, form.executing m hm⟩
  obtain ⟨x, hx, same, run⟩ := form.named _ runs
  rwa [← form.eq_of_seq hx hm same]

theorem View.Form.waiting (form : v.Form) (hm : m ∈ v.queue) : m.isWaiting = true ↔ ¬ v.Runs m.seq := by
  rw [form.runs_iff hm, ← Move.isWaiting_false]
  simp

/-! ## Facts about moves and places -/

theorem Move.Routed.nest_kind (h : m.Routed) (source : m.source = .nest (.t p)) : m.kind = .collect ∨ m.kind = .reclaim := by
  unfold Move.Routed at h
  split at h <;> simp_all

theorem Move.Routed.slot_named (h : m.Routed) (source : m.source = .slot n) : m.reticle.isSome = true := by
  unfold Move.Routed at h
  split at h <;> grind

theorem Move.Routed.inn_kind (h : m.Routed) (source : m.source = .nest .inn) : m.kind = .reshelve := by
  unfold Move.Routed at h
  split at h <;> simp_all

/-- Only a tool nest that is OUT_LAPSED or RETURNED is waited at. -/
theorem View.Agree.unwaited (h : v.Agree) (lapsed : v.nest p ≠ .outLapsed) (returned : v.nest p ≠ .returned) :
    ∀ m ∈ v.queue, m.isWaiting = true → m.source ≠ .nest (.t p) := fun m hm waits source => by
  rcases h.nests m hm waits p source with ⟨_, nest⟩ | ⟨_, nest, _⟩
  · exact lapsed nest
  · exact returned nest

/-- A record bound to a move is bound to the one that names it. -/
theorem View.Agree.bound_to (h : v.Agree) (form : v.Form) {l : Location} (hm : m ∈ v.queue)
    (bound : v.record id = some (l, some m.seq)) : m.reticle = some id ∧ m.Stands l := by
  obtain ⟨x, hx, same, named, stands⟩ := h.bound id l m.seq bound
  rw [form.eq_of_seq hx hm same] at named stands
  exact ⟨named, stands⟩

/-! ## What the phases of the move in execution read -/

/-- From `v` to `w` the grant states of nests and slots and the gripper stand. -/
structure View.Steady (v w : View) : Prop where
  outbound : ∀ p, v.nest p = .outbound → w.nest p = .outbound
  inbound : ∀ p, v.nest p = .inbound → w.nest p = .inbound
  innOutbound : v.inn = .outbound → w.inn = .outbound
  innInbound : v.inn = .inbound → w.inn = .inbound
  reserved : ∀ n x q, v.slot n = .inbound x q → w.slot n = .inbound x q
  free : ∀ n, (v.slot n).move = none → (w.slot n).move = none
  carried : ∀ id b, v.record id = some (.gripper, b) → ∃ b', w.record id = some (.gripper, b')

theorem View.SourceGranted.steady (h : v.SourceGranted m) (g : v.Steady w) : w.SourceGranted m :=
  ⟨fun p e => g.outbound p (h.1 p e), fun e => g.innOutbound (h.2 e)⟩

theorem View.TargetGranted.steady (h : v.TargetGranted m) (g : v.Steady w) : w.TargetGranted m := by
  obtain ⟨slot, tool, inn⟩ := h
  refine ⟨fun n e => ?_, fun p e => g.inbound p (tool p e), fun e => g.innInbound (inn e)⟩
  obtain ⟨x, hx⟩ := slot n e
  exact ⟨x, g.reserved n x _ hx⟩

theorem View.Carried.steady (h : v.Carried m) (g : v.Steady w) : w.Carried m := by
  obtain ⟨id, b, named, here⟩ := h
  obtain ⟨b', there⟩ := g.carried id b here
  exact ⟨id, b', named, there⟩

theorem View.Works.steady {ph : Phase} {c : Option PutbackCause} (h : v.Works m ph c) (g : v.Steady w) : w.Works m ph c := by
  unfold View.Works at h ⊢
  split at h
  · exact h
  · exact ⟨h.1.steady g, h.2.1.steady g, h.2.2⟩
  · exact ⟨h.1.steady g, h.2.1.steady g, fun n e => g.free n (h.2.2 n e)⟩
  · exact ⟨h.1.steady g, h.2.1.steady g, fun n e => g.free n (h.2.2 n e)⟩
  · exact ⟨h.1.steady g, h.2.steady g⟩
  · exact ⟨h.1.steady g, fun n e => g.free n (h.2 n e)⟩
  · exact h

/-- The move in execution goes on as before. -/
theorem View.Agree.works_steady (h : v.Agree) (g : v.Steady w) (exec : w.exec = v.exec) (busy : w.busy = v.busy)
    (hm : m ∈ v.queue) (runs : w.Runs m.seq) : ∃ ph, w.exec.bind (·.phase) = some ph
      ∧ (w.busy = ph.handlerState ∨ w.busy = .halted) ∧ w.Works m ph (w.exec.bind (·.cause)) := by
  rw [exec, busy]
  unfold View.Runs at runs
  rw [exec] at runs
  obtain ⟨ph, phase, state, works⟩ := h.works m hm runs
  exact ⟨ph, phase, state, works.steady g⟩

/-- The pod of the move in execution goes back from an occupied target: no nest is in a grant state for it. -/
def View.Homeward (v : View) : Prop :=
  v.exec.bind (·.phase) = some .putback ∧ ∃ c, v.exec.bind (·.cause) = some c ∧ c ≠ .mismatch

/-- Such a move goes on whatever becomes of the nests. -/
theorem View.Agree.works_homeward (h : v.Agree) (home : v.Homeward) (exec : w.exec = v.exec) (busy : w.busy = v.busy)
    (slot : w.slot = v.slot) (record : w.record = v.record) (hm : m ∈ v.queue) (runs : w.Runs m.seq) :
    ∃ ph, w.exec.bind (·.phase) = some ph ∧ (w.busy = ph.handlerState ∨ w.busy = .halted) ∧ w.Works m ph (w.exec.bind (·.cause)) := by
  obtain ⟨phase, c, cause, occupied⟩ := home
  rw [exec, busy, cause]
  unfold View.Runs at runs
  rw [exec] at runs
  obtain ⟨ph, phase', state, works⟩ := h.works m hm runs
  rw [phase] at phase'
  cases phase'
  refine ⟨.putback, phase, state, ?_⟩
  rw [cause] at works
  have carried : v.Carried m ∧ ∀ n, m.target = .pos (.slot n) → (v.slot n).move = none := by
    cases c with
    | mismatch => exact absurd rfl occupied
    | occupiedNest => exact works
    | occupiedStaging => exact works
  have kept : w.Carried m ∧ ∀ n, m.target = .pos (.slot n) → (w.slot n).move = none := by
    unfold View.Carried
    rw [slot, record]
    exact carried
  cases c with
  | mismatch => exact absurd rfl occupied
  | occupiedNest => exact kept
  | occupiedStaging => exact kept

/-! ## A tool nest changed -/

/-- A tool nest and its return wait written: the nest is not in a grant state and nothing waits at it. -/
theorem View.Agree.setPort (h : v.Agree) {b : Bool} {y : ToolNest}
    (nest : y = v.nest p ∨ ((v.exec = none ∨ v.Homeward ∨ (v.nest p ≠ .outbound ∧ v.nest p ≠ .inbound))
      ∧ ∀ m ∈ v.queue, m.isWaiting = true → m.source ≠ .nest (.t p)))
    (wait : b = true → y = .returned ∧ ∀ m ∈ v.queue, m.isWaiting = true → m.source ≠ .nest (.t p)) :
    ((v.setNest p y).setWaits p b).Agree where
  located := h.located
  binds := h.binds
  bound := h.bound
  gripped := h.gripped
  reserved := h.reserved
  own := h.own
  wired := h.wired
  nests m hm waits r source := by
    have old := h.nests m hm waits r source
    by_cases e : r = p
    · subst e
      have unwaited (free : ∀ m ∈ v.queue, m.isWaiting = true → m.source ≠ .nest (.t r)) : False := free m hm waits source
      have stays : y = v.nest r := nest.resolve_right fun changed => unwaited changed.2
      have stopped : b = false := Bool.eq_false_iff.mpr fun runs => unwaited (wait runs).2
      subst stays stopped
      simpa [View.NestFor, View.setNest, View.setWaits] using old.imp (fun a => a) fun a => ⟨a.1, a.2.1⟩
    · simpa [View.NestFor, View.setNest, View.setWaits, Function.update_of_ne e] using old
  single := h.single
  reshelves := h.reshelves
  arrived := h.arrived
  window r runs := by
    by_cases e : r = p
    · subst e
      simpa [View.setNest, View.setWaits] using (wait (by simpa [View.setWaits] using runs)).1
    · have old := h.window r (by simpa [View.setNest, View.setWaits, Function.update_of_ne e] using runs)
      simpa [View.setNest, View.setWaits, Function.update_of_ne e] using old
  works m hm runs := by
    by_cases idle : v.exec = none
    · unfold View.Runs at runs
      rw [show ((v.setNest p y).setWaits p b).exec = none from idle] at runs
      cases runs
    by_cases home : v.Homeward
    · exact h.works_homeward home rfl rfl rfl rfl hm runs
    have nests (z : ToolNest) (grant : z = .outbound ∨ z = .inbound) (r : Port) (old : v.nest r = z) :
        ((v.setNest p y).setWaits p b).nest r = z := by
      by_cases e : r = p
      · subst e
        rcases nest with same | ⟨still, _⟩
        · simp [View.setNest, View.setWaits, same, old]
        · obtain ⟨out, inb⟩ := (still.resolve_left idle).resolve_left home
          rcases grant with rfl | rfl
          · exact absurd old out
          · exact absurd old inb
      · simpa [View.setNest, View.setWaits, Function.update_of_ne e] using old
    exact h.works_steady ⟨nests _ (.inl rfl), nests _ (.inr rfl), id, id, fun _ _ _ e => e, fun _ e => e, fun _ b e => ⟨b, e⟩⟩
      rfl rfl hm runs

/-- A tool nest written that is OUT_WAIT, EMPTY or BLOCKED, with no return wait left. -/
theorem View.Agree.setNest_free (h : v.Agree) {y : ToolNest} (old : v.nest p = .empty ∨ v.nest p = .outWait ∨ v.nest p = .blocked) :
    ((v.setNest p y).setWaits p false).Agree := by
  refine h.setPort (.inr ⟨.inr (.inr ⟨?_, ?_⟩), h.unwaited ?_ ?_⟩) nofun <;>
    rcases old with e | e | e <;> simp [e]

/-! ## The queue changed -/

/-- What the agreement reads of a move. -/
def Move.SameRoute (m x : Move) : Prop :=
  x.seq = m.seq ∧ x.kind = m.kind ∧ x.beneficiary = m.beneficiary ∧ x.reticle = m.reticle ∧ x.pickTest = m.pickTest
    ∧ x.source = m.source ∧ x.target = m.target ∧ x.state = m.state

/-- Entries of the queue changed in nothing that the agreement reads. -/
theorem View.Agree.mapQueue (h : v.Agree) {f : Move → Move} (same : ∀ m ∈ v.queue, m.SameRoute (f m)) :
    View.Agree { v with queue := v.queue.map f } := by
  have each {P : Move → Prop} (old : ∀ m ∈ v.queue, P (f m)) : ∀ m ∈ v.queue.map f, P m := fun m hm => by
    obtain ⟨x, hx, rfl⟩ := List.mem_map.mp hm
    exact old x hx
  refine ⟨h.located, each fun m hm => ?_, fun id l q e => ?_, fun id b e => ?_, fun n q e => ?_, each fun m hm => ?_, each fun m hm => ?_,
    each fun m hm => ?_, each fun m hm => each fun x hx => ?_, each fun m hm => each fun x hx => ?_, each fun m hm => ?_, h.window,
    each fun m hm => ?_⟩
  · obtain ⟨seq, kind, beneficiary, reticle, pickTest, source, target, state⟩ := same m hm
    rw [reticle, seq]
    exact h.binds m hm
  · obtain ⟨m, hm, number, named, stands⟩ := h.bound id l q e
    obtain ⟨seq, kind, beneficiary, reticle, pickTest, source, target, state⟩ := same m hm
    refine ⟨f m, List.mem_map_of_mem hm, seq.trans number, reticle.trans named, ?_⟩
    unfold Move.Stands at stands ⊢
    rw [source, kind, state]
    exact stands
  · obtain ⟨m, hm, runs, named⟩ := h.gripped id b e
    obtain ⟨seq, kind, beneficiary, reticle, pickTest, source, target, state⟩ := same m hm
    exact ⟨f m, List.mem_map_of_mem hm, by rw [seq]; exact runs, reticle.trans named⟩
  · obtain ⟨runs, m, hm, number, place⟩ := h.reserved n q e
    obtain ⟨seq, kind, beneficiary, reticle, pickTest, source, target, state⟩ := same m hm
    exact ⟨runs, f m, List.mem_map_of_mem hm, seq.trans number, by rw [source, target]; exact place⟩
  · obtain ⟨seq, kind, beneficiary, reticle, pickTest, source, target, state⟩ := same m hm
    rw [seq, source, reticle]
    exact h.own m hm
  · obtain ⟨seq, kind, beneficiary, reticle, pickTest, source, target, state⟩ := same m hm
    have old := h.wired m hm
    unfold Move.Wired Move.Routed at old ⊢
    rw [reticle, pickTest, kind, beneficiary, source, target]
    exact old
  · obtain ⟨seq, kind, beneficiary, reticle, pickTest, source, target, state⟩ := same m hm
    have old := h.nests m hm
    unfold Move.isWaiting View.NestFor at *
    rw [state, source, kind]
    exact old
  · obtain ⟨seq, kind, beneficiary, reticle, pickTest, source, target, state⟩ := same m hm
    obtain ⟨seq', _, _, _, _, source', _, state'⟩ := same x hx
    have old := h.single m hm x hx
    unfold Move.isWaiting at *
    rw [state, state', source, source', seq, seq']
    exact old
  · obtain ⟨seq, kind, beneficiary, reticle, pickTest, source, target, state⟩ := same m hm
    obtain ⟨seq', kind', _⟩ := same x hx
    rw [kind, kind', seq, seq']
    exact h.reshelves m hm x hx
  · obtain ⟨seq, kind, beneficiary, reticle, pickTest, source, target, state⟩ := same m hm
    have old := h.arrived m hm
    unfold Move.isWaiting at *
    rw [state, kind]
    exact old
  · obtain ⟨seq, kind, beneficiary, reticle, pickTest, source, target, state⟩ := same m hm
    intro runs
    rw [seq] at runs
    obtain ⟨ph, phase, busy, works⟩ := h.works m hm runs
    refine ⟨ph, phase, busy, ?_⟩
    unfold View.Works View.SourceGranted View.TargetGranted View.Carried at works ⊢
    rw [source, target, seq, reticle, kind]
    exact works

/-- A move enters the queue: its number new, the record it names where it may be and unbound, nothing waiting at its nest. -/
theorem View.Agree.enter (h : v.Agree) (form : v.Form) (fresh : ∀ x ∈ v.queue, x.seq ≠ m.seq) (waits : m.isWaiting = true)
    (wired : m.Wired) (unbound : ∀ id, m.reticle = some id → ∃ l, v.record id = some (l, none) ∧ m.Stands l)
    (nest : ∀ p, m.source = .nest (.t p) → v.NestFor m p ∧ ∀ x ∈ v.queue, x.isWaiting = true → x.source ≠ .nest (.t p))
    (inn : m.kind = .reshelve → v.inn = .arrived ∧ ∀ x ∈ v.queue, x.kind ≠ .reshelve) : (v.enter m).Agree := by
  have idle : ¬ v.Runs m.seq := fun runs => by
    obtain ⟨x, hx, same, _⟩ := form.named _ runs
    exact fresh x hx same
  -- what the records show afterwards
  have record (id : Ident) : (v.enter m).record id = if m.reticle = some id then (v.record id).map fun y => (y.1, some m.seq)
      else v.record id := by
    unfold View.enter
    cases named : m.reticle with
    | none => simp
    | some i =>
      simp only [View.bind, View.onRecord, Function.update_apply, Option.some.injEq]
      by_cases e : id = i
      · simp [e]
      · simp [e, Ne.symm e]
  have place (id : Ident) (l : Location) : (∃ b, (v.enter m).record id = some (l, b)) ↔ ∃ b, v.record id = some (l, b) := by
    rw [record]
    split
    · cases v.record id with
      | none => simp
      | some y => obtain ⟨a, b⟩ := y; simp
    · rfl
  have queue : (v.enter m).queue = v.queue ++ [m] := by unfold View.enter; split <;> rfl
  have same : (v.enter m).slot = v.slot ∧ (v.enter m).exec = v.exec ∧ (v.enter m).busy = v.busy ∧ (v.enter m).nest = v.nest
      ∧ (v.enter m).waits = v.waits ∧ (v.enter m).inn = v.inn := by
    unfold View.enter
    split <;> exact ⟨rfl, rfl, rfl, rfl, rfl, rfl⟩
  generalize v.enter m = w at record place queue same
  obtain ⟨slot, exec, busy, nests, waiting, innr⟩ := same
  have runs (q : Seq) : w.Runs q ↔ v.Runs q := by unfold View.Runs; rw [exec]
  have steady : v.Steady w := by
    refine ⟨by simp [nests], by simp [nests], by simp [innr], by simp [innr], by simp [slot], by simp [slot], fun id b e => ?_⟩
    exact (place id .gripper).mpr ⟨b, e⟩
  have mem (x : Move) : x ∈ w.queue ↔ x ∈ v.queue ∨ x = m := by simp [queue]
  refine ⟨fun n id => ?_, fun x hx id named => ?_, fun id l q e => ?_, fun id b e => ?_, fun n q e => ?_, fun x hx => ?_,
    fun x hx => ?_, fun x hx wx r source => ?_, fun x hx y hy wx wy r sx sy => ?_, fun x hx y hy kx ky => ?_, fun x hx wx kx => ?_,
    fun r => ?_, fun x hx run => ?_⟩
  · rw [slot, place]
    exact h.located n id
  · rcases (mem x).mp hx with old | rfl
    · obtain ⟨l, bound⟩ := h.binds x old id named
      rw [record]
      split
      · next mine =>
        obtain ⟨l', free, _⟩ := unbound id mine
        rw [bound] at free
        cases free
      · exact ⟨l, bound⟩
    · obtain ⟨l, free, _⟩ := unbound id named
      exact ⟨l, by rw [record, if_pos named, free]; rfl⟩
  · rw [record] at e
    split at e
    · next mine =>
      obtain ⟨l', free, stands⟩ := unbound id mine
      rw [free] at e
      cases e
      exact ⟨m, (mem m).mpr (.inr rfl), rfl, mine, stands⟩
    · obtain ⟨x, hx, rest⟩ := h.bound id l q e
      exact ⟨x, (mem x).mpr (.inl hx), rest⟩
  · obtain ⟨b', old⟩ := (place id .gripper).mp ⟨b, e⟩
    obtain ⟨x, hx, run, named⟩ := h.gripped id b' old
    exact ⟨x, (mem x).mpr (.inl hx), (runs _).mpr run, named⟩
  · rw [slot] at e
    obtain ⟨run, x, hx, rest⟩ := h.reserved n q e
    exact ⟨(runs q).mpr run, x, (mem x).mpr (.inl hx), rest⟩
  · intro run
    rcases (mem x).mp hx with old | rfl
    · rw [slot]
      exact h.own x old ((runs _).mp run)
    · exact absurd ((runs _).mp run) idle
  · rcases (mem x).mp hx with old | rfl
    · exact h.wired x old
    · exact wired
  · unfold View.NestFor
    rw [nests, waiting]
    rcases (mem x).mp hx with old | rfl
    · exact h.nests x old wx r source
    · exact (nest r source).1
  · rcases (mem x).mp hx with oldx | rfl <;> rcases (mem y).mp hy with oldy | rfl
    · exact h.single x oldx y oldy wx wy r sx sy
    · exact absurd sx ((nest r sy).2 x oldx wx)
    · exact absurd sy ((nest r sx).2 y oldy wy)
    · rfl
  · rcases (mem x).mp hx with oldx | rfl <;> rcases (mem y).mp hy with oldy | rfl
    · exact h.reshelves x oldx y oldy kx ky
    · exact absurd kx ((inn ky).2 x oldx)
    · exact absurd ky ((inn kx).2 y oldy)
    · rfl
  · rw [innr]
    rcases (mem x).mp hx with old | rfl
    · exact h.arrived x old wx kx
    · exact (inn kx).1
  · rw [waiting, nests]
    exact h.window r
  · rcases (mem x).mp hx with old | rfl
    · exact h.works_steady steady exec busy old run
    · exact absurd ((runs _).mp run) idle

/-- A WAITING move leaves the queue. -/
theorem View.Agree.drop (h : v.Agree) (free : ¬ v.Runs q) : (v.drop q).Agree := by
  have mem (x : Move) : x ∈ (v.drop q).queue ↔ x ∈ v.queue ∧ x.seq ≠ q := by simp [View.drop]
  have place (id : Ident) (l : Location) : (∃ b, (v.drop q).record id = some (l, b)) ↔ ∃ b, v.record id = some (l, b) := by
    simp only [View.drop]
    cases v.record id with
    | none => simp
    | some y => obtain ⟨a, b⟩ := y; simp [unbind]
  have steady : v.Steady (v.drop q) :=
    ⟨fun _ e => e, fun _ e => e, fun e => e, fun e => e, fun _ _ _ e => e, fun _ e => e, fun id b e => (place id .gripper).mpr ⟨b, e⟩⟩
  refine ⟨fun n id => (h.located n id).trans (place id _).symm, fun x hx id named => ?_, fun id l r e => ?_, fun id b e => ?_,
    fun n r e => ?_, fun x hx => h.own x ((mem x).mp hx).1, fun x hx => h.wired x ((mem x).mp hx).1,
    fun x hx => h.nests x ((mem x).mp hx).1, fun x hx y hy => h.single x ((mem x).mp hx).1 y ((mem y).mp hy).1,
    fun x hx y hy => h.reshelves x ((mem x).mp hx).1 y ((mem y).mp hy).1, fun x hx => h.arrived x ((mem x).mp hx).1, h.window,
    fun x hx run => h.works_steady steady rfl rfl ((mem x).mp hx).1 run⟩
  · obtain ⟨old, other⟩ := (mem x).mp hx
    obtain ⟨l, bound⟩ := h.binds x old id named
    exact ⟨l, by simp [View.drop, bound, unbind, other]⟩
  · obtain ⟨⟨a, b⟩, old, e⟩ := Option.map_eq_some_iff.mp e
    unfold unbind at e
    split at e
    · cases e
    · next other =>
      obtain ⟨rfl, rfl⟩ := Prod.mk.inj e
      obtain ⟨x, hx, same, rest⟩ := h.bound id a r old
      exact ⟨x, (mem x).mpr ⟨hx, fun e => other (by rw [← same, e])⟩, same, rest⟩
  · obtain ⟨b', old⟩ := (place id .gripper).mp ⟨b, e⟩
    obtain ⟨x, hx, run, named⟩ := h.gripped id b' old
    exact ⟨x, (mem x).mpr ⟨hx, fun e => free (e ▸ run)⟩, run, named⟩
  · obtain ⟨run, x, hx, same, rest⟩ := h.reserved n r e
    exact ⟨run, x, (mem x).mpr ⟨hx, fun e => free (by rw [← e, same]; exact run)⟩, same, rest⟩

end Sys2Proof.Machine
end

section
/-! PROOFS. The agreement (O10) under changes of records, slots and phases. -/

namespace Sys2Proof.Machine

open Sys2Proof

variable {v w : View} {m x : Move} {id : Ident} {p : Port} {n : Slot} {q : Seq} {l : Location}

/-! ## Records and slots outside the move in execution -/

/-- A record that no move names is not bound. -/
theorem View.Agree.unbound_of_unnamed (h : v.Agree) (unnamed : ∀ m ∈ v.queue, m.reticle = some id → ¬ m.Stands l)
    {b : Option Seq} (here : v.record id = some (l, b)) : b = none := by
  cases b with
  | none => rfl
  | some q =>
    obtain ⟨m, hm, _, named, stands⟩ := h.bound id l q here
    exact absurd stands (unnamed m hm named)

/-- What a record of no move shows, written: it does not enter a slot or the gripper, and where it was no slot holds it. -/
theorem View.Agree.writeRecord (h : v.Agree) {y : Option (Location × Option Seq)}
    (free : ∀ l b, v.record id = some (l, b) → b = none ∧ ∀ n, l ≠ .slot n)
    (new : ∀ l b, y = some (l, b) → b = none ∧ (∀ n, l ≠ .slot n) ∧ l ≠ .gripper) :
    View.Agree { v with record := Function.update v.record id y } := by
  have unnamed (m : Move) (hm : m ∈ v.queue) : m.reticle ≠ some id := fun named => by
    obtain ⟨l, bound⟩ := h.binds m hm id named
    cases (free l _ bound).1
  refine ⟨fun n i => ?_, fun m hm i named => ?_, fun i l q e => ?_, fun i b e => ?_, h.reserved, h.own, h.wired, h.nests, h.single,
    h.reshelves, h.arrived, h.window, fun m hm runs => ?_⟩
  · rw [h.located]
    dsimp only
    rw [Function.update_apply]
    split
    · next e =>
      subst e
      constructor
      · rintro ⟨b, here⟩
        exact absurd rfl ((free _ b here).2 n)
      · rintro ⟨b, here⟩
        exact absurd rfl ((new _ b here).2.1 n)
    · rfl
  · obtain ⟨l, bound⟩ := h.binds m hm i named
    have other : i ≠ id := fun e => unnamed m hm (e ▸ named)
    exact ⟨l, by dsimp only; rw [Function.update_of_ne other]; exact bound⟩
  · dsimp only at e
    rw [Function.update_apply] at e
    split at e
    · cases (new l _ e).1
    · exact h.bound i l q e
  · dsimp only at e
    rw [Function.update_apply] at e
    split at e
    · exact absurd rfl (new _ b e).2.2
    · exact h.gripped i b e
  · refine h.works_steady (m := m) ⟨fun _ e => e, fun _ e => e, fun e => e, fun e => e, fun _ _ _ e => e, fun _ e => e, fun i b e => ?_⟩
      rfl rfl hm runs
    obtain ⟨x, hx, _, named⟩ := h.gripped i b e
    have other : i ≠ id := fun e => unnamed x hx (e ▸ named)
    exact ⟨b, by dsimp only; rw [Function.update_of_ne other]; exact e⟩

/-- A record of no move located elsewhere. -/
theorem View.Agree.locate (h : v.Agree) {l' : Location} (free : ∀ l b, v.record id = some (l, b) → b = none ∧ ∀ n, l ≠ .slot n)
    (slot : ∀ n, l' ≠ .slot n) (gripper : l' ≠ .gripper) : (v.locate id l').Agree := by
  refine h.writeRecord free fun l b e => ?_
  obtain ⟨y, old, e⟩ := Option.map_eq_some_iff.mp e
  obtain ⟨rfl, rfl⟩ := Prod.mk.inj e
  exact ⟨(free y.1 y.2 old).1, slot, gripper⟩

/-- A record of no move removed. -/
theorem View.Agree.remove (h : v.Agree) (free : ∀ l b, v.record id = some (l, b) → b = none ∧ ∀ n, l ≠ .slot n) :
    (v.remove id).Agree := h.writeRecord free nofun

/-- A slot without a reticle and a reservation written so. -/
theorem View.Agree.setBare (h : v.Agree) {e : SlotEntry} (reticle : (v.slot n).reticle = none) (move : (v.slot n).move = none)
    (reticle' : e.reticle = none) (move' : e.move = none) : (v.setSlot n e).Agree := by
  refine ⟨fun k i => ?_, h.binds, h.bound, h.gripped, fun k q e => ?_, fun m hm runs k i source held => ?_, h.wired, h.nests, h.single,
    h.reshelves, h.arrived, h.window, fun m hm runs => ?_⟩
  · refine Iff.trans ?_ (h.located k i)
    simp only [View.setSlot, Function.update_apply]
    split
    · next e => rw [e, reticle, reticle']
    · rfl
  · simp only [View.setSlot, Function.update_apply] at e
    split at e
    · rw [move'] at e
      cases e
    · exact h.reserved k q e
  · simp only [View.setSlot, Function.update_apply] at held
    split at held
    · rw [reticle'] at held
      cases held
    · exact h.own m hm runs k i source held
  · refine h.works_steady ⟨fun _ e => e, fun _ e => e, fun e => e, fun e => e, fun k x q old => ?_, fun k old => ?_, fun _ b e => ⟨b, e⟩⟩
      rfl rfl hm runs
    · simp only [View.setSlot, Function.update_apply]
      split
      · next e =>
        subst e
        rw [old] at move
        cases move
      · exact old
    · simp only [View.setSlot, Function.update_apply]
      split
      · exact move'
      · exact old

/-- A slot FILLED with a record that is located there. -/
def View.place (v : View) (id : Ident) (n : Slot) : View :=
  { v with slot := Function.update v.slot n (.filled id), record := Function.update v.record id (some (.slot n, none)) }

/-- A record of no move, or a new one, put in a free slot that the move in execution does not come from. -/
theorem View.Agree.place (h : v.Agree) (free : ∀ l b, v.record id = some (l, b) → b = none ∧ ∀ n, l ≠ .slot n)
    (reticle : (v.slot n).reticle = none) (move : (v.slot n).move = none)
    (other : ∀ m ∈ v.queue, v.Runs m.seq → m.source ≠ .slot n) : (v.place id n).Agree := by
  have unnamed (m : Move) (hm : m ∈ v.queue) : m.reticle ≠ some id := fun named => by
    obtain ⟨l, bound⟩ := h.binds m hm id named
    cases (free l _ bound).1
  refine ⟨fun k i => ?_, fun m hm i named => ?_, fun i l q e => ?_, fun i b e => ?_, fun k q e => ?_, fun m hm runs k i source held => ?_,
    h.wired, h.nests, h.single, h.reshelves, h.arrived, h.window, fun m hm runs => ?_⟩
  · simp only [View.place, Function.update_apply]
    by_cases slot : k = n <;> by_cases name : i = id
    · simp [slot, name, SlotEntry.reticle]
    · have empty := (h.located n i).not.mp (by rw [reticle]; exact nofun)
      simpa only [slot, name, if_true, if_false, SlotEntry.reticle, Option.some.injEq, Ne.symm name, false_iff] using empty
    · simp only [slot, name, if_true, if_false]
      constructor
      · intro held
        obtain ⟨b, old⟩ := (h.located k id).mp held
        exact absurd rfl ((free _ b old).2 k)
      · rintro ⟨b, e⟩
        simp [Ne.symm slot] at e
    · simp only [slot, name, if_false]
      exact h.located k i
  · obtain ⟨l, bound⟩ := h.binds m hm i named
    have other : i ≠ id := fun e => unnamed m hm (e ▸ named)
    exact ⟨l, by simp only [View.place]; rw [Function.update_of_ne other]; exact bound⟩
  · simp only [View.place, Function.update_apply] at e
    split at e
    · cases e
    · exact h.bound i l q e
  · simp only [View.place, Function.update_apply] at e
    split at e
    · cases e
    · exact h.gripped i b e
  · simp only [View.place, Function.update_apply] at e
    split at e
    · cases e
    · exact h.reserved k q e
  · simp only [View.place, Function.update_apply] at held
    split at held
    · next e => exact absurd (e ▸ source) (other m hm runs)
    · exact h.own m hm runs k i source held
  · refine h.works_steady ⟨fun _ e => e, fun _ e => e, fun e => e, fun e => e, fun k x q old => ?_, fun k old => ?_, fun i b e => ?_⟩
      rfl rfl hm runs
    · simp only [View.place, Function.update_apply]
      split
      · next e =>
        subst e
        rw [old] at move
        cases move
      · exact old
    · simp only [View.place, Function.update_apply]
      split
      · rfl
      · exact old
    · obtain ⟨x, hx, _, named⟩ := h.gripped i b e
      have other : i ≠ id := fun e => unnamed x hx (e ▸ named)
      exact ⟨b, by simp only [View.place]; rw [Function.update_of_ne other]; exact e⟩

/-! ## IN -/

/-- IN written that is in no grant state, a RESHELVE waiting only if it is ARRIVED afterwards. -/
theorem View.Agree.setInn (h : v.Agree) {y : InNest} (still : v.exec = none ∨ v.Homeward ∨ (v.inn ≠ .outbound ∧ v.inn ≠ .inbound))
    (free : y = .arrived ∨ ∀ m ∈ v.queue, m.isWaiting = true → m.kind ≠ .reshelve) : View.Agree { v with inn := y } :=
  { h with
    arrived := fun m hm waits kind => free.resolve_right fun f => f m hm waits kind
    works := fun m hm runs => by
      rcases still with idle | home | ⟨out, inb⟩
      · unfold View.Runs at runs
        rw [show View.exec { v with inn := y } = none from idle] at runs
        cases runs
      · exact h.works_homeward home rfl rfl rfl rfl hm runs
      · exact h.works_steady ⟨fun _ e => e, fun _ e => e, fun e => absurd e out, fun e => absurd e inb, fun _ _ _ e => e, fun _ e => e,
          fun _ b e => ⟨b, e⟩⟩ rfl rfl hm runs }

/-- No RESHELVE waits while IN is not ARRIVED. -/
theorem View.Agree.no_reshelve (h : v.Agree) (inn : v.inn ≠ .arrived) : ∀ m ∈ v.queue, m.isWaiting = true → m.kind ≠ .reshelve :=
  fun m hm waits kind => inn (h.arrived m hm waits kind)

/-! ## The handler interface -/

/-- The execution record and the handler interface's state written, the move in execution the same and its phase sound. -/
theorem View.Agree.setExec (h : v.Agree) {e : Option ExecRecord} {b : HandlerState} (move : e.bind (·.move) = v.exec.bind (·.move))
    (works : ∀ m ∈ v.queue, v.Runs m.seq → ∃ ph, e.bind (·.phase) = some ph ∧ (b = ph.handlerState ∨ b = .halted)
      ∧ v.Works m ph (e.bind (·.cause))) : View.Agree { v with exec := e, busy := b } := by
  have runs (q : Seq) : View.Runs { v with exec := e, busy := b } q ↔ v.Runs q := by
    unfold View.Runs
    rw [move]
  refine { h with
    gripped := fun i b e => ?_
    reserved := fun n q e => ?_
    own := fun m hm run => h.own m hm ((runs _).mp run)
    works := fun m hm run => works m hm ((runs _).mp run) }
  · obtain ⟨m, hm, run, named⟩ := h.gripped i b e
    exact ⟨m, hm, (runs _).mpr run, named⟩
  · obtain ⟨run, rest⟩ := h.reserved n q e
    exact ⟨(runs _).mpr run, rest⟩

/-- The handler interface halted. -/
theorem View.Agree.halted (h : v.Agree) : View.Agree { v with busy := .halted } :=
  h.setExec (e := v.exec) rfl fun m hm runs => by
    obtain ⟨ph, phase, _, works⟩ := h.works m hm runs
    exact ⟨ph, phase, .inr rfl, works⟩

/-- The execution record written but for its move, its phase and its cause. -/
theorem View.Agree.mapExec (h : v.Agree) {f : ExecRecord → ExecRecord} (move : ∀ e, (f e).move = e.move)
    (phase : ∀ e, (f e).phase = e.phase) (cause : ∀ e, (f e).cause = e.cause) : View.Agree { v with exec := v.exec.map f } := by
  have field {α : Type} {g : ExecRecord → Option α} (same : ∀ e, g (f e) = g e) : (v.exec.map f).bind g = v.exec.bind g := by
    cases v.exec with
    | none => rfl
    | some e => exact same e
  exact h.setExec (e := v.exec.map f) (field move) fun m hm runs => by
    rw [field phase, field cause]
    exact h.works m hm runs

end Sys2Proof.Machine
end

section
/-! PROOFS. The agreement (O10) at the tool nests and at a grant, on the view. -/

namespace Sys2Proof.Machine

open Sys2Proof

variable {v w : View} {m x : Move} {id : Ident} {p : Port} {n : Slot} {q : Seq} {l : Location}

/-- Where a bound record may be depends on the kind and the source of its move, and in the gripper on its state. -/
theorem Move.Stands.of_route (h : m.Stands l) (kind : x.kind = m.kind) (source : x.source = m.source)
    (state : m.state = .executing → x.state = .executing) : x.Stands l := by
  cases l with
  | slot n => exact source.trans h
  | tool p => exact ⟨kind.trans h.1, source.trans h.2⟩
  | nest y =>
    cases y with
    | bo => exact h
    | t p => exact source.trans h
    | bi => exact source.trans h
    | inn => exact source.trans h
  | gripper => exact state h
  | inspection => exact h
  | unlocated => exact h

/-! ## Where the record of the move in execution is -/

/-- While its record is not in the gripper, the move in execution has source and target as granted. -/
theorem View.Agree.granted_of_record (h : v.Agree) (hm : m ∈ v.queue) (runs : v.Runs m.seq) (named : m.reticle = some id)
    (here : v.record id = some (l, some m.seq)) (away : l ≠ .gripper) : v.SourceGranted m ∧ v.TargetGranted m := by
  have uncarried (carried : v.Carried m) : False := by
    obtain ⟨i, b, name, there⟩ := carried
    rw [named] at name
    cases name
    rw [here] at there
    cases there
    exact away rfl
  obtain ⟨ph, _, _, works⟩ := h.works m hm runs
  unfold View.Works at works
  split at works
  · obtain ⟨_, routed⟩ := h.wired m hm
    unfold Move.Routed at routed
    rw [works] at routed
    rw [routed.2.2] at named
    cases named
  · exact ⟨works.1, works.2.1⟩
  · exact (uncarried works.1).elim
  · exact (uncarried works.1).elim
  · exact works
  · exact (uncarried works.1).elim
  · exact works.elim

/-- A record at a tool nest that is OUT_WAIT, EMPTY, INBOUND or BLOCKED is bound to no move. -/
theorem View.Agree.unbound_on_nest (h : v.Agree) (form : v.Form) (lapsed : v.nest p ≠ .outLapsed) (returned : v.nest p ≠ .returned)
    (outbound : v.nest p ≠ .outbound) {b : Option Seq} (here : v.record id = some (.nest (.t p), b)) : b = none := by
  cases b with
  | none => rfl
  | some q =>
    obtain ⟨m, hm, rfl, named, stands⟩ := h.bound id _ q here
    have source : m.source = .nest (.t p) := stands
    by_cases waits : m.isWaiting = true
    · exact absurd source (h.unwaited lapsed returned m hm waits)
    · have runs := not_not.mp fun idle => waits ((form.waiting hm).mpr idle)
      exact absurd ((h.granted_of_record hm runs named here nofun).1.1 p source) outbound

/-- A record at a tool nest from which nothing waits is bound to no move, unless the nest is OUTBOUND. -/
theorem View.Agree.unbound_unwaited (h : v.Agree) (form : v.Form) (outbound : v.nest p ≠ .outbound)
    (free : ∀ m ∈ v.queue, m.isWaiting = true → m.source ≠ .nest (.t p)) {b : Option Seq}
    (here : v.record id = some (.nest (.t p), b) ∨ v.record id = some (.tool p, b)) : b = none := by
  cases b with
  | none => rfl
  | some q =>
    have mover : ∃ l m, v.record id = some (l, some q) ∧ l ≠ .gripper ∧ m ∈ v.queue ∧ m.seq = q ∧ m.reticle = some id
        ∧ m.source = .nest (.t p) := by
      rcases here with here | here
      · obtain ⟨m, hm, same, named, stands⟩ := h.bound id _ q here
        exact ⟨_, m, here, nofun, hm, same, named, stands⟩
      · obtain ⟨m, hm, same, named, stands⟩ := h.bound id _ q here
        exact ⟨_, m, here, nofun, hm, same, named, stands.2⟩
    obtain ⟨l, m, there, away, hm, rfl, named, source⟩ := mover
    by_cases waits : m.isWaiting = true
    · exact absurd source (free m hm waits)
    · have runs := not_not.mp fun idle => waits ((form.waiting hm).mpr idle)
      exact absurd ((h.granted_of_record hm runs named there away).1.1 p source) outbound

/-! ## Lapses and returns -/

/-- A nest OUT_LAPSED with no return wait. -/
def View.lapse (v : View) (p : Port) : View := (v.setNest p .outLapsed).setWaits p false

theorem View.lapse_form (form : v.Form) : (v.lapse p).Form := ⟨form.distinct, form.shaped, form.executing, form.named, form.cause, form.idle⟩

/-- An unbound record on a nest gets a RECLAIM: the nest lapses from a state in which nothing waits at it. -/
theorem View.Agree.reclaim (h : v.Agree) (form : v.Form) (nest : v.nest p = .outLapsed)
    (free : ∀ m ∈ v.queue, m.isWaiting = true → m.source ≠ .nest (.t p)) (here : v.record id = some (.nest (.t p), none))
    (kind : m.kind = .reclaim) (source : m.source = .nest (.t p)) (named : m.reticle = some id) (test : m.pickTest = .named)
    (waits : m.isWaiting = true) (fresh : ∀ x ∈ v.queue, x.seq ≠ m.seq) : (v.enter m).Agree := by
  refine h.enter form fresh waits ⟨by simp [named, test], ?_⟩ (fun i name => ?_) (fun r at_r => ?_) fun k => by simp [kind] at k
  · unfold Move.Routed
    rw [kind]
    exact ⟨⟨p, source⟩, by simp [named]⟩
  · rw [named] at name
    cases name
    exact ⟨_, here, source⟩
  · rw [source] at at_r
    cases at_r
    exact ⟨.inl ⟨kind, nest⟩, free⟩

/-- The lapse of an OUT_WAIT nest with the RECLAIM of an unbound record on it. -/
theorem View.Agree.lapse_reclaim (h : v.Agree) (form : v.Form) (nest : v.nest p = .outWait) {b : Option Seq}
    (here : v.record id = some (.nest (.t p), b)) (kind : m.kind = .reclaim) (source : m.source = .nest (.t p))
    (named : m.reticle = some id) (test : m.pickTest = .named) (waits : m.isWaiting = true)
    (fresh : ∀ x ∈ v.queue, x.seq ≠ m.seq) : ((v.lapse p).enter m).Agree := by
  have unbound : b = none := h.unbound_on_nest form (by simp [nest]) (by simp [nest]) (by simp [nest]) here
  subst unbound
  have lapsed : (v.lapse p).Agree := h.setNest_free (.inr (.inl nest))
  exact lapsed.reclaim (View.lapse_form form) (by simp [View.lapse, View.setNest, View.setWaits])
    (h.unwaited (by simp [nest]) (by simp [nest])) here kind source named test waits fresh

/-- A COLLECT from a RETURNED nest at which nothing waits and no return wait runs. -/
theorem View.Agree.collect (h : v.Agree) (form : v.Form) (nest : v.nest p = .returned) (quiet : v.waits p = false)
    (free : ∀ m ∈ v.queue, m.isWaiting = true → m.source ≠ .nest (.t p))
    (here : ∀ id, m.reticle = some id → v.record id = some (.tool p, none) ∨ v.record id = some (.nest (.t p), none))
    (kind : m.kind = .collect) (source : m.source = .nest (.t p)) (test : m.reticle.isSome = true ↔ m.pickTest = .named)
    (waits : m.isWaiting = true) (fresh : ∀ x ∈ v.queue, x.seq ≠ m.seq) : (v.enter m).Agree := by
  refine h.enter form fresh waits ⟨test, ?_⟩ (fun i name => ?_) (fun r at_r => ?_) fun k => by simp [kind] at k
  · unfold Move.Routed
    rw [kind]
    exact ⟨p, source⟩
  · rcases here i name with here | here
    · exact ⟨_, here, kind, source⟩
    · exact ⟨_, here, source⟩
  · rw [source] at at_r
    cases at_r
    exact ⟨.inr ⟨kind, nest, quiet⟩, free⟩

/-! ## The grant -/

/-- The view after the grant of a move: its slots reserved, its nests in their grant states, the execution record its own. -/
def View.grant (v : View) (g : Move) (e : ExecRecord) (b : HandlerState) : View where
  slot n :=
    if g.source = .slot n then
      match g.reticle with
      | some id => .outbound id g.seq
      | none => v.slot n
    else if g.target = .pos (.slot n) then .inbound g.reticle g.seq
    else v.slot n
  record := v.record
  queue := v.queue.map fun x => if x.seq = g.seq then g else x
  exec := some e
  busy := b
  nest p := if g.source = .nest (.t p) then .outbound else if g.target = .pos (.nest (.t p)) then .inbound else v.nest p
  waits := v.waits
  inn := if g.source = .nest .inn then .outbound else if g.target = .pos (.nest .inn) then .inbound else v.inn

/-- The record of a WAITING move from a slot is at the slot, which holds it. -/
theorem View.Agree.waiting_slot (h : v.Agree) (form : v.Form) (hm : m ∈ v.queue) (waits : m.isWaiting = true) (source : m.source = .slot n)
    (named : m.reticle = some id) : (v.slot n).reticle = some id := by
  obtain ⟨l, bound⟩ := h.binds m hm id named
  obtain ⟨_, stands⟩ := h.bound_to form hm bound
  have routed := (h.wired m hm).2
  cases l with
  | slot k =>
    have at_k : m.source = .slot k := stands
    rw [source] at at_k
    cases at_k
    exact (h.located n id).mpr ⟨_, bound⟩
  | nest y =>
    cases y <;> first | exact absurd (source.symm.trans stands) nofun | exact stands.elim
  | tool r => exact absurd (source.symm.trans stands.2) nofun
  | inspection => exact stands.elim
  | unlocated => exact stands.elim
  | gripper =>
    have run : m.state = .executing := stands
    rw [Move.isWaiting_iff, run] at waits
    cases waits

/-- With no move in execution no slot is reserved. -/
theorem View.Agree.unreserved (h : v.Agree) (idle : v.exec = none) (n : Slot) : (v.slot n).move = none := by
  cases e : (v.slot n).move with
  | none => rfl
  | some q =>
    have runs := (h.reserved n q e).1
    unfold View.Runs at runs
    rw [idle] at runs
    cases runs

/-- With no move in execution every move waits. -/
theorem View.Form.all_wait (form : v.Form) (idle : v.exec = none) (hm : m ∈ v.queue) : m.isWaiting = true := by
  rw [form.waiting hm]
  unfold View.Runs
  rw [idle]
  exact nofun

/-- What a grant `g` of the WAITING move `m` keeps of it, and what it finds at its target: a slot EMPTY, a nest EMPTY and not its
source. -/
structure View.Grants (v : View) (m g : Move) (e : ExecRecord) : Prop where
  seq : g.seq = m.seq
  kind : g.kind = m.kind
  reticle : g.reticle = m.reticle
  source : g.source = m.source
  state : g.state = .executing
  wired : g.Wired
  differ : ∀ n, g.source = .slot n → g.target ≠ .pos (.slot n)
  slot : ∀ n, g.target = .pos (.slot n) → v.slot n = .empty
  tool : ∀ p, g.target = .pos (.nest (.t p)) → v.nest p = .empty ∧ g.source ≠ .nest (.t p)
  inn : g.target = .pos (.nest .inn) → v.inn = .empty ∧ g.source ≠ .nest .inn
  move : e.move = some m.seq

section Granting

variable {g : Move} {e : ExecRecord} {b : HandlerState} (h : v.Agree) (form : v.Form) (idle : v.exec = none) (hm : m ∈ v.queue)
  (grants : v.Grants m g e)
include grants

theorem View.Grants.runs_iff (q : Seq) : (v.grant g e b).Runs q ↔ q = m.seq := by
  unfold View.Runs View.grant
  rw [Option.bind_some, grants.move, Option.some.injEq, eq_comm]

include hm in
/-- The entries of the queue: the granted one, and the others as they were. -/
theorem View.Grants.mem (x : Move) : x ∈ (v.grant g e b).queue ↔ (x = g ∨ (x ∈ v.queue ∧ x.seq ≠ m.seq)) := by
  simp only [View.grant, List.mem_map, grants.seq]
  constructor
  · rintro ⟨y, hy, rfl⟩
    split
    · exact .inl rfl
    · next other => exact .inr ⟨hy, other⟩
  · rintro (rfl | ⟨hx, other⟩)
    · exact ⟨m, hm, by simp⟩
    · exact ⟨x, hx, by simp [other]⟩

include hm in
theorem View.Grants.waiting (hx : x ∈ (v.grant g e b).queue) (waits : x.isWaiting = true) : x ∈ v.queue ∧ x.seq ≠ m.seq := by
  rcases (grants.mem hm x).mp hx with rfl | old
  · rw [Move.isWaiting_iff, grants.state] at waits
    cases waits
  · exact old

include h form idle hm

/-- The source slot holds the record of the move. -/
theorem View.Grants.source_holds (from_n : g.source = .slot n) {i : Ident} (named : g.reticle = some i) :
    (v.slot n).reticle = some i :=
  h.waiting_slot form hm (form.all_wait idle hm) (grants.source ▸ from_n) (grants.reticle ▸ named)

/-- What the slots hold stands. -/
theorem View.Grants.held (n : Slot) : ((v.grant g e b).slot n).reticle = (v.slot n).reticle := by
  simp only [View.grant]
  split
  · next from_n =>
    split
    · next id named =>
      rw [grants.source_holds h form idle hm from_n named]
      rfl
    · rfl
  · split
    · next to_n =>
      rw [grants.slot n to_n]
      rfl
    · rfl

omit form hm grants in
/-- Only the source and the target of the granted move are reserved. -/
theorem View.Agree.reserved_grant {q : Seq} (held : ((v.grant g e b).slot n).move = some q) :
    q = g.seq ∧ (g.source = .slot n ∨ g.target = .pos (.slot n)) := by
  have unreserved := h.unreserved idle n
  simp only [View.grant] at held
  split at held
  · next from_n =>
    split at held
    · cases held
      exact ⟨rfl, .inl from_n⟩
    · rw [unreserved] at held
      cases held
  · split at held
    · next to_n =>
      cases held
      exact ⟨rfl, .inr to_n⟩
    · rw [unreserved] at held
      cases held

omit h form idle hm in
/-- A nest that is neither source nor EMPTY stands. -/
theorem View.Grants.nest_stands (away : g.source ≠ .nest (.t p)) (full : v.nest p ≠ .empty) : (v.grant g e b).nest p = v.nest p := by
  have untargeted : g.target ≠ .pos (.nest (.t p)) := fun to_p => full (grants.tool p to_p).1
  simp [View.grant, away, untargeted]

/-- The nests at which moves go on waiting stand. -/
theorem View.Grants.nestFor (hx : x ∈ (v.grant g e b).queue) (waits : x.isWaiting = true) (at_p : x.source = .nest (.t p)) :
    (v.grant g e b).NestFor x p := by
  obtain ⟨old, other⟩ := grants.waiting hm hx waits
  have here := h.nests x old waits p at_p
  have away : g.source ≠ .nest (.t p) := fun from_p =>
    other (h.single x old m hm waits (form.all_wait idle hm) p at_p (grants.source ▸ from_p))
  have full : v.nest p ≠ .empty := fun empty => by
    rcases here with ⟨_, nest⟩ | ⟨_, nest, _⟩ <;> rw [nest] at empty <;> cases empty
  unfold View.NestFor
  rw [grants.nest_stands away full]
  exact here

omit form idle in
theorem View.Grants.arrived (hx : x ∈ (v.grant g e b).queue) (waits : x.isWaiting = true) (kind : x.kind = .reshelve) :
    (v.grant g e b).inn = .arrived := by
  obtain ⟨old, other⟩ := grants.waiting hm hx waits
  have arrived := h.arrived x old waits kind
  have away : g.source ≠ .nest .inn := fun from_inn =>
    other (h.reshelves x old m hm kind ((h.wired m hm).2.inn_kind (grants.source ▸ from_inn)))
  have untargeted : g.target ≠ .pos (.nest .inn) := fun to_inn => by
    rw [(grants.inn to_inn).1] at arrived
    cases arrived
  simpa [View.grant, away, untargeted] using arrived

theorem View.Grants.window (waits : v.waits p = true) : (v.grant g e b).nest p = .returned := by
  have returned := h.window p waits
  have away : g.source ≠ .nest (.t p) := fun from_p => by
    rcases h.nests m hm (form.all_wait idle hm) p (grants.source ▸ from_p) with ⟨_, lapsed⟩ | ⟨_, _, quiet⟩
    · rw [lapsed] at returned
      cases returned
    · rw [waits] at quiet
      cases quiet
  rw [grants.nest_stands away (by rw [returned]; exact nofun), returned]

omit h form idle hm in
/-- Source and target of a granted move are in their grant states. -/
theorem View.Grants.granted : (v.grant g e b).SourceGranted g ∧ (v.grant g e b).TargetGranted g := by
  refine ⟨⟨fun p from_p => by simp [View.grant, from_p], fun from_inn => by simp [View.grant, from_inn]⟩,
    ⟨fun n to_n => ⟨g.reticle, ?_⟩, fun p to_p => ?_, fun to_inn => ?_⟩⟩
  · have away : g.source ≠ .slot n := fun from_n => grants.differ n from_n to_n
    simp [View.grant, away, to_n]
  · have away := (grants.tool p to_p).2
    simp [View.grant, away, to_p]
  · have away := (grants.inn to_inn).2
    simp [View.grant, away, to_inn]

end Granting

/-- A move granted while none is in execution: a slot it goes to EMPTY, a nest it goes to neither waited at nor ARRIVED. -/
theorem View.Agree.grant (h : v.Agree) (form : v.Form) (idle : v.exec = none) (hm : m ∈ v.queue) {g : Move} {e : ExecRecord}
    {b : HandlerState} {ph : Phase} (grants : v.Grants m g e) (phase : e.phase = some ph) (busy : b = ph.handlerState)
    (first : (ph = .picking ∧ m.kind ≠ .scan ∧ ∃ y, g.target = .pos y) ∨ (ph = .scanning ∧ m.kind = .scan)) : (v.grant g e b).Agree := by
  have mem (x : Move) := grants.mem (b := b) hm x
  have runs_iff (q : Seq) := grants.runs_iff (b := b) q
  have here : g ∈ (v.grant g e b).queue := (mem g).mpr (.inl rfl)
  refine ⟨fun n id => ?_, fun x hx id named => ?_, fun id l q at_l => ?_, fun id c at_g => ?_, fun n q res => ?_,
    fun x hx run n id from_n holds => ?_, fun x hx => ?_, fun x hx waits p at_p => grants.nestFor h form idle hm hx waits at_p,
    fun x hx y hy wx wy => h.single x (grants.waiting hm hx wx).1 y (grants.waiting hm hy wy).1 wx wy, fun x hx y hy kx ky => ?_,
    fun x hx waits k => grants.arrived h hm hx waits k, fun p waits => grants.window h form idle hm waits, fun x hx run => ?_⟩
  · rw [grants.held h form idle hm]
    exact h.located n id
  · rcases (mem x).mp hx with rfl | ⟨old, _⟩
    · rw [grants.reticle] at named
      rw [grants.seq]
      exact h.binds m hm id named
    · exact h.binds x old id named
  · obtain ⟨x, hx, number, named, stands⟩ := h.bound id l q at_l
    by_cases same : x.seq = m.seq
    · obtain rfl := form.eq_of_seq hx hm same
      exact ⟨g, here, grants.seq.trans number, grants.reticle.trans named,
        stands.of_route grants.kind grants.source fun _ => grants.state⟩
    · exact ⟨x, (mem x).mpr (.inr ⟨hx, same⟩), number, named, stands⟩
  · obtain ⟨x, hx, run, _⟩ := h.gripped id c at_g
    unfold View.Runs at run
    rw [idle] at run
    cases run
  · obtain ⟨rfl, place⟩ := h.reserved_grant idle res
    exact ⟨(runs_iff _).mpr grants.seq, g, here, rfl, place⟩
  · rcases (mem x).mp hx with rfl | ⟨_, other⟩
    · obtain ⟨i, name⟩ := Option.isSome_iff_exists.mp (grants.wired.2.slot_named from_n)
      rw [grants.held h form idle hm, grants.source_holds h form idle hm from_n name] at holds
      rw [name, holds]
    · exact absurd ((runs_iff _).mp run) other
  · rcases (mem x).mp hx with rfl | ⟨old, _⟩
    · exact grants.wired
    · exact h.wired x old
  · have number (z : Move) (hz : z ∈ (v.grant g e b).queue) (k : z.kind = .reshelve) :
        ∃ z' ∈ v.queue, z'.kind = .reshelve ∧ z'.seq = z.seq := by
      rcases (mem z).mp hz with rfl | ⟨old, _⟩
      · exact ⟨m, hm, grants.kind.symm.trans k, grants.seq.symm⟩
      · exact ⟨z, old, k, rfl⟩
    obtain ⟨x', hx', kx', ex⟩ := number x hx kx
    obtain ⟨y', hy', ky', ey⟩ := number y hy ky
    rw [← ex, ← ey]
    exact h.reshelves x' hx' y' hy' kx' ky'
  · rcases (mem x).mp hx with rfl | ⟨_, other⟩
    · refine ⟨ph, phase, .inl busy, ?_⟩
      rcases first with ⟨rfl, other, aimed⟩ | ⟨rfl, scan⟩
      · obtain ⟨source, target⟩ := grants.granted (b := b)
        exact ⟨source, target, grants.kind ▸ other, aimed⟩
      · exact grants.kind.trans scan
    · exact absurd ((runs_iff _).mp run) other

end Sys2Proof.Machine
end

section
/-! PROOFS. The agreement (O10) at an accepted pick, at new targets and at the end of the move in execution, on the view. -/

namespace Sys2Proof.Machine

open Sys2Proof

variable {v w : View} {m x : Move} {id : Ident} {p : Port} {n : Slot} {q : Seq} {l : Location}

/-! ## The accepted pick (R151) -/

/-- From `v` to `w` the move `m` in execution has its pick accepted for `id`: the record in the gripper and bound to it, the source
freed, the target still reserved, the record taken from a move that named it before. -/
structure View.Accepts (v w : View) (m : Move) (id : Ident) : Prop where
  source : ∀ n, m.source = .slot n → w.slot n = .empty
  target : ∀ n, m.target = .pos (.slot n) → m.source ≠ .slot n → ∃ y, w.slot n = .inbound y m.seq
  slot : ∀ n, m.source ≠ .slot n → m.target ≠ .pos (.slot n) → w.slot n = v.slot n
  record : w.record = Function.update v.record id (some (.gripper, some m.seq))
  queue : ∃ f, w.queue = v.queue.map f ∧ f m = { m with reticle := some id, pickTest := .named }
    ∧ ∀ x ∈ v.queue, x.seq ≠ m.seq →
        f x = if x.reticle = some id then { x with reticle := none, pickTest := .anyAtTool } else x
  nest : ∀ p, w.nest p = if m.source = .nest (.t p) then .empty else v.nest p
  waits : w.waits = v.waits
  inn : w.inn = if m.source = .nest .inn then .empty else v.inn
  exec : w.exec.bind (·.move) = v.exec.bind (·.move)

theorem Move.Routed.name (h : m.Routed) (scan : m.kind ≠ .scan) (id : Ident) :
    Move.Routed { m with reticle := some id, pickTest := .named } := by
  unfold Move.Routed at h ⊢
  split at h <;> grind

theorem Move.Routed.unname (h : m.Routed) (kind : m.kind = .collect) :
    Move.Routed { m with reticle := none, pickTest := .anyAtTool } := by
  unfold Move.Routed at h ⊢
  simp only [kind] at h ⊢
  exact h

/-- The entries of the queue with the record `id` named by `m` and by no other. -/
structure View.Names (v : View) (m : Move) (id : Ident) (f : Move → Move) : Prop where
  mine : f m = { m with reticle := some id, pickTest := .named }
  others : ∀ x ∈ v.queue, x.seq ≠ m.seq → f x = if x.reticle = some id then { x with reticle := none, pickTest := .anyAtTool } else x

/-- A named entry keeps its number, its kind and its way. -/
theorem View.Names.route {f : Move → Move} (names : v.Names m id f) (form : v.Form) (hm : m ∈ v.queue) (hx : x ∈ v.queue) :
    (f x).seq = x.seq ∧ (f x).kind = x.kind ∧ (f x).source = x.source ∧ (f x).state = x.state ∧ (f x).target = x.target := by
  by_cases same : x.seq = m.seq
  · obtain rfl := form.eq_of_seq hx hm same
    rw [names.mine]
    exact ⟨rfl, rfl, rfl, rfl, rfl⟩
  · rw [names.others x hx same]
    split <;> exact ⟨rfl, rfl, rfl, rfl, rfl⟩

theorem View.Names.waiting {f : Move → Move} (names : v.Names m id f) (form : v.Form) (hm : m ∈ v.queue) (hx : x ∈ v.queue)
    (waits : (f x).isWaiting = true) : x.isWaiting = true := by
  obtain ⟨_, _, _, state, _⟩ := names.route form hm hx
  unfold Move.isWaiting at waits ⊢
  rwa [state] at waits

theorem View.Names.name_iff {f : Move → Move} (names : v.Names m id f) (form : v.Form) (hm : m ∈ v.queue) (hx : x ∈ v.queue) (i : Ident) :
    (f x).reticle = some i ↔ (x.seq = m.seq ∧ i = id) ∨ (x.seq ≠ m.seq ∧ x.reticle = some i ∧ i ≠ id) := by
  by_cases same : x.seq = m.seq
  · obtain rfl := form.eq_of_seq hx hm same
    rw [names.mine]
    simp [eq_comm]
  · rw [names.others x hx same]
    split
    · next e => simp [same, e]; exact fun e => e.symm
    · next e =>
      simp only [same, false_and, false_or, ne_eq, not_false_eq_true, true_and]
      exact ⟨fun e' => ⟨e', fun same => e (same ▸ e')⟩, fun e' => e'.1⟩

/-- Whose the record of an accepted pick is: the move named it, or named none and the record is in no slot. -/
def View.PickOf (v : View) (m : Move) (id : Ident) : Prop :=
  m.reticle = some id ∨ (m.reticle = none ∧ ∀ l b, v.record id = some (l, b) → ∀ n, l ≠ .slot n)

theorem View.PickOf.names_only (who : v.PickOf m id) {i : Ident} (named : m.reticle = some i) : i = id := by
  rcases who with mine | ⟨unnamed, _⟩
  · rw [mine] at named
    exact (Option.some.inj named).symm
  · rw [unnamed] at named
    cases named

/-- The record picked was in no slot but the source. -/
theorem View.PickOf.elsewhere (who : v.PickOf m id) (h : v.Agree) (form : v.Form) (hm : m ∈ v.queue) (away : m.source ≠ .slot n)
    (b : Option Seq) : v.record id ≠ some (.slot n, b) := fun here => by
  rcases who with named | ⟨_, unslotted⟩
  · obtain ⟨l, bound⟩ := h.binds m hm id named
    rw [bound] at here
    cases here
    exact away (h.bound_to form hm bound).2
  · exact unslotted _ b here n rfl

section Accepting

variable (h : v.Agree) (form : v.Form) (hm : m ∈ v.queue) (runs : v.Runs m.seq) (granted : v.SourceGranted m ∧ v.TargetGranted m)
  (accepts : v.Accepts w m id)
include accepts

include runs in
theorem View.Accepts.runs_iff (q : Seq) : w.Runs q ↔ q = m.seq := by
  unfold View.Runs at runs ⊢
  rw [accepts.exec, runs, Option.some.injEq, eq_comm]

include granted in
/-- A slot that is not the source holds what it held. -/
theorem View.Accepts.held (away : m.source ≠ .slot n) : (w.slot n).reticle = (v.slot n).reticle := by
  by_cases to_n : m.target = .pos (.slot n)
  · obtain ⟨y, e⟩ := accepts.target n to_n away
    obtain ⟨z, e'⟩ := granted.2.1 n to_n
    rw [e, e']
    rfl
  · rw [accepts.slot n away to_n]

include h form hm runs granted in
theorem View.Accepts.located (who : v.PickOf m id) (n : Slot) (i : Ident) :
    (w.slot n).reticle = some i ↔ ∃ b, w.record i = some (.slot n, b) := by
  rw [accepts.record, Function.update_apply]
  by_cases away : m.source = .slot n
  · rw [accepts.source n away]
    split
    · simp [SlotEntry.reticle]
    · next other =>
      refine ⟨nofun, fun here => ?_⟩
      exact absurd (who.names_only (h.own m hm runs n i away ((h.located n i).mpr here))) other
  · rw [accepts.held granted away, h.located n i]
    split
    · next e =>
      subst e
      exact ⟨fun ⟨b, here⟩ => absurd here (who.elsewhere h form hm away b), nofun⟩
    · rfl

include h form hm runs in
theorem View.Accepts.reserved {q : Seq} (held : (w.slot n).move = some q) : q = m.seq ∧ m.target = .pos (.slot n) := by
  by_cases away : m.source = .slot n
  · rw [accepts.source n away] at held
    cases held
  · by_cases to_n : m.target = .pos (.slot n)
    · obtain ⟨y, here⟩ := accepts.target n to_n away
      rw [here] at held
      cases held
      exact ⟨rfl, to_n⟩
    · rw [accepts.slot n away to_n] at held
      obtain ⟨run, x, hx, same, place⟩ := h.reserved n q held
      have seq_m : q = m.seq := Option.some.inj (run.symm.trans runs)
      obtain rfl := form.eq_of_seq hx hm (same.trans seq_m)
      exact absurd place (by simp [away, to_n])

include granted in
/-- A nest that is not OUTBOUND stands. -/
theorem View.Accepts.nest_stands (still : v.nest p ≠ .outbound) : w.nest p = v.nest p := by
  rw [accepts.nest, if_neg fun from_p => still (granted.1.1 p from_p)]

include granted in
theorem View.Accepts.inn_stands (still : v.inn ≠ .outbound) : w.inn = v.inn := by
  rw [accepts.inn, if_neg fun from_inn => still (granted.1.2 from_inn)]

include granted in
/-- The move with its record in the gripper finds what CARRYING and PLACING need. -/
theorem View.Accepts.works (differ : ∀ n, m.source = .slot n → m.target ≠ .pos (.slot n)) {y : Move} (reticle : y.reticle = some id)
    (source : y.source = m.source) (target : y.target = m.target) (seq : y.seq = m.seq) :
    w.Carried y ∧ w.TargetGranted y ∧ ∀ n, y.source = .slot n → (w.slot n).move = none := by
  refine ⟨⟨id, _, reticle, by rw [accepts.record, Function.update_self]⟩, ⟨fun n to_n => ?_, fun p to_p => ?_, fun to_inn => ?_⟩, fun n from_n => ?_⟩
  · rw [target] at to_n
    rw [seq]
    exact accepts.target n to_n fun from_n => differ n from_n to_n
  · have inbound := granted.2.2.1 p (target ▸ to_p)
    rw [accepts.nest_stands granted (by rw [inbound]; exact nofun), inbound]
  · have inbound := granted.2.2.2 (target ▸ to_inn)
    rw [accepts.inn_stands granted (by rw [inbound]; exact nofun), inbound]
  · rw [accepts.source n (source ▸ from_n)]
    rfl

end Accepting

/-- The move in execution with an accepted pick is carried to its target. -/
theorem View.Agree.accepts (h : v.Agree) (form : v.Form) (hm : m ∈ v.queue) (runs : v.Runs m.seq)
    (granted : v.SourceGranted m ∧ v.TargetGranted m) (accepts : v.Accepts w m id)
    (scan : m.kind ≠ .scan) (differ : ∀ n, m.source = .slot n → m.target ≠ .pos (.slot n))
    (who : m.reticle = some id ∨ (m.reticle = none ∧ ∀ l b, v.record id = some (l, b) → ∀ n, l ≠ .slot n))
    (robbed : ∀ x ∈ v.queue, x.seq ≠ m.seq → x.reticle = some id → x.kind = .collect)
    {ph : Phase} (phase : w.exec.bind (·.phase) = some ph) (busy : w.busy = ph.handlerState)
    (after : ph = .carrying ∨ ph = .placing) : w.Agree := by
  obtain ⟨f, queue, mine, others⟩ := accepts.queue
  have names : v.Names m id f := ⟨mine, others⟩
  have runs_iff := accepts.runs_iff runs
  have each {P : Move → Prop} (old : ∀ x ∈ v.queue, P (f x)) : ∀ x ∈ w.queue, P x := fun x hx => by
    rw [queue] at hx
    obtain ⟨y, hy, rfl⟩ := List.mem_map.mp hx
    exact old y hy
  have there (x : Move) (hx : x ∈ v.queue) : f x ∈ w.queue := by
    rw [queue]
    exact List.mem_map_of_mem hx
  have route (x : Move) (hx : x ∈ v.queue) := names.route form hm hx
  have waiting (x : Move) (hx : x ∈ v.queue) := names.waiting form hm hx
  have name (x : Move) (hx : x ∈ v.queue) := names.name_iff form hm hx
  have running (x : Move) (hx : x ∈ v.queue) (run : w.Runs (f x).seq) : x = m :=
    form.eq_of_seq hx hm ((route x hx).1.symm.trans ((runs_iff _).mp run))
  refine ⟨accepts.located h form hm runs granted who, each fun x hx i named => ?_, fun i l q e => ?_, fun i b e => ?_, fun n q e => ?_,
    each fun x hx run n i from_n holds => ?_, each fun x hx => ?_, each fun x hx waits p from_p => ?_,
    each fun x hx => each fun y hy wx wy p sx sy => ?_, each fun x hx => each fun y hy kx ky => ?_, each fun x hx waits k => ?_,
    fun p waits => ?_, each fun x hx run => ?_⟩
  · rw [(route x hx).1, accepts.record, Function.update_apply]
    rcases (name x hx i).mp named with ⟨same, rfl⟩ | ⟨_, old, other⟩
    · exact ⟨_, by rw [if_pos rfl, same]⟩
    · rw [if_neg other]
      exact h.binds x hx i old
  · rw [accepts.record, Function.update_apply] at e
    obtain ⟨seq_m, _, _, state_m, _⟩ := route m hm
    split at e
    · next same =>
      cases e
      exact ⟨f m, there m hm, seq_m, (name m hm i).mpr (.inl ⟨rfl, same⟩), state_m.trans ((form.runs_iff hm).mp runs)⟩
    · next other =>
      obtain ⟨x, hx, number, named, stands⟩ := h.bound i l q e
      have away : x.seq ≠ m.seq := fun same => by
        obtain rfl := form.eq_of_seq hx hm same
        exact other (View.PickOf.names_only who named)
      obtain ⟨seq, kind, source, state, _⟩ := route x hx
      exact ⟨f x, there x hx, seq.trans number, (name x hx i).mpr (.inr ⟨away, named, other⟩),
        stands.of_route kind source fun run => state.trans run⟩
  · rw [accepts.record, Function.update_apply] at e
    split at e
    · next same => exact ⟨f m, there m hm, (runs_iff _).mpr (route m hm).1, (name m hm i).mpr (.inl ⟨rfl, same⟩)⟩
    · next other =>
      obtain ⟨x, hx, run, named⟩ := h.gripped i b e
      obtain rfl := form.eq_of_seq hx hm (Option.some.inj (run.symm.trans runs))
      exact absurd (View.PickOf.names_only who named) other
  · obtain ⟨rfl, to_n⟩ := accepts.reserved h form hm runs e
    obtain ⟨seq_m, _, _, _, target_m⟩ := route m hm
    exact ⟨(runs_iff _).mpr rfl, f m, there m hm, seq_m, .inr (target_m.trans to_n)⟩
  · obtain rfl := running x hx run
    obtain ⟨_, _, source, _⟩ := route x hm
    rw [accepts.source n (source ▸ from_n)] at holds
    cases holds
  · by_cases same : x.seq = m.seq
    · obtain rfl := form.eq_of_seq hx hm same
      rw [mine]
      exact ⟨by simp, (h.wired x hx).2.name scan id⟩
    · rw [others x hx same]
      split
      · next named => exact ⟨by simp, (h.wired x hx).2.unname (robbed x hx same named)⟩
      · exact h.wired x hx
  · obtain ⟨_, kind, source, _⟩ := route x hx
    have old := h.nests x hx (waiting x hx waits) p (source ▸ from_p)
    have still : v.nest p ≠ .outbound := fun out => by
      rcases old with ⟨_, nest⟩ | ⟨_, nest, _⟩ <;> rw [nest] at out <;> cases out
    unfold View.NestFor
    rw [kind, accepts.nest_stands granted still, accepts.waits]
    exact old
  · obtain ⟨seq_x, _, source_x, _⟩ := route x hx
    obtain ⟨seq_y, _, source_y, _⟩ := route y hy
    rw [seq_x, seq_y]
    exact h.single x hx y hy (waiting x hx wx) (waiting y hy wy) p (source_x ▸ sx) (source_y ▸ sy)
  · obtain ⟨seq_x, kind_x, _⟩ := route x hx
    obtain ⟨seq_y, kind_y, _⟩ := route y hy
    rw [seq_x, seq_y]
    exact h.reshelves x hx y hy (kind_x ▸ kx) (kind_y ▸ ky)
  · obtain ⟨_, kind, _⟩ := route x hx
    have arrived := h.arrived x hx (waiting x hx waits) (kind ▸ k)
    rw [accepts.inn_stands granted (by rw [arrived]; exact nofun), arrived]
  · rw [accepts.waits] at waits
    have returned := h.window p waits
    rw [accepts.nest_stands granted (by rw [returned]; exact nofun), returned]
  · obtain rfl := running x hx run
    refine ⟨ph, phase, .inl busy, ?_⟩
    have works : w.Carried (f x) ∧ w.TargetGranted (f x) ∧ ∀ n, (f x).source = .slot n → (w.slot n).move = none := by
      rw [mine]
      exact accepts.works granted differ rfl rfl rfl rfl
    rcases after with rfl | rfl
    · exact works
    · exact works

end Sys2Proof.Machine
end

section
/-! PROOFS. The agreement (O10) at a new target, at a putback and at the end of the move in execution, on the view. -/

namespace Sys2Proof.Machine

open Sys2Proof

variable {v w : View} {m x : Move} {id : Ident} {p : Port} {n : Slot} {q : Seq} {l : Location}

/-- A slot entry that holds no reticle and is not reserved. -/
def SlotEntry.Bare (e : SlotEntry) : Prop := e.reticle = none ∧ e.move = none

/-! ## Slots of the move in execution -/

/-- A slot that the move in execution neither comes from nor goes to is not reserved and does not hold its record. -/
theorem View.Agree.elsewhere (h : v.Agree) (form : v.Form) (hm : m ∈ v.queue) (runs : v.Runs m.seq) (source : m.source ≠ .slot n)
    (target : m.target ≠ .pos (.slot n)) : (v.slot n).move = none ∧ ∀ id, m.reticle = some id → (v.slot n).reticle ≠ some id := by
  constructor
  · cases e : (v.slot n).move with
    | none => rfl
    | some q =>
      obtain ⟨run, x, hx, same, place⟩ := h.reserved n q e
      obtain rfl := form.eq_of_seq hx hm (same.trans (Option.some.inj (run.symm.trans runs)))
      exact absurd place (by simp [source, target])
  · intro id named holds
    obtain ⟨l, bound⟩ := h.binds m hm id named
    obtain ⟨b, here⟩ := (h.located n id).mp holds
    rw [bound] at here
    cases here
    exact source (h.bound_to form hm bound).2

/-- A source slot of a record in the gripper holds no reticle. -/
theorem View.Agree.source_empty (h : v.Agree) (hm : m ∈ v.queue) (runs : v.Runs m.seq) (carried : v.Carried m)
    (source : m.source = .slot n) : (v.slot n).reticle = none := by
  cases e : (v.slot n).reticle with
  | none => rfl
  | some i =>
    obtain ⟨id, b, named, here⟩ := carried
    have mine := h.own m hm runs n i source e
    rw [named] at mine
    cases mine
    obtain ⟨b', there⟩ := (h.located n _).mp e
    rw [here] at there
    cases there

/-- A store move is routed whatever its target. -/
theorem Move.Routed.retarget (h : m.Routed) (store : m.kind.isStore = true) (t : Target) : Move.Routed { m with target := t } := by
  obtain ⟨_, kind, _, _, _, _, _, _, _, _, _, _, _, _⟩ := m
  cases kind with
  | collect => exact h
  | reclaim => exact h
  | stockIn => exact h
  | reshelve => exact h
  | destage => exact h
  | deliver => cases store
  | stockOut => cases store
  | inspectOut => cases store
  | prestage => cases store
  | scan => cases store

/-! ## Changes of the move in execution that leave the records where they are -/

/-- From `v` to `w` the slots of the move `m` in execution are written, and it may get another target; nothing else changes but the
execution record, which still names it. -/
structure View.Rewrites (v w : View) (m : Move) (t : Target) : Prop where
  queue : w.queue = v.queue.map fun x => if x.seq = m.seq then { x with target := t } else x
  record : w.record = v.record
  nest : w.nest = v.nest
  waits : w.waits = v.waits
  inn : w.inn = v.inn
  exec : w.exec.bind (·.move) = v.exec.bind (·.move)
  reticle : ∀ n, (w.slot n).reticle = (v.slot n).reticle
  reserved : ∀ n q, (w.slot n).move = some q → q = m.seq ∧ (m.source = .slot n ∨ t = .pos (.slot n))

theorem View.Agree.rewrites (h : v.Agree) (form : v.Form) (hm : m ∈ v.queue) (runs : v.Runs m.seq) {t : Target}
    (writes : v.Rewrites w m t) (routed : t = m.target ∨ (m.kind.isStore = true ∧ ∀ y, t ≠ .pos (.nest y)))
    (works : ∃ ph, w.exec.bind (·.phase) = some ph ∧ (w.busy = ph.handlerState ∨ w.busy = .halted)
      ∧ w.Works { m with target := t } ph (w.exec.bind (·.cause))) : w.Agree := by
  have runs_iff (q : Seq) : w.Runs q ↔ q = m.seq := by
    unfold View.Runs at runs ⊢
    rw [writes.exec, runs, Option.some.injEq, eq_comm]
  have each {P : Move → Prop} (mine : P { m with target := t }) (old : ∀ x ∈ v.queue, x.seq ≠ m.seq → P x) : ∀ x ∈ w.queue, P x :=
    fun x hx => by
    rw [writes.queue] at hx
    obtain ⟨y, hy, rfl⟩ := List.mem_map.mp hx
    split
    · next same =>
      obtain rfl := form.eq_of_seq hy hm same
      exact mine
    · next other => exact old y hy other
  have there (x : Move) (hx : x ∈ v.queue) : ∃ y ∈ w.queue, y.seq = x.seq ∧ y.reticle = x.reticle ∧ y.kind = x.kind
      ∧ y.source = x.source ∧ y.state = x.state ∧ (x.seq = m.seq → y.target = t) := by
    refine ⟨_, by rw [writes.queue]; exact List.mem_map_of_mem hx, ?_⟩
    split
    · exact ⟨rfl, rfl, rfl, rfl, rfl, fun _ => rfl⟩
    · next other => exact ⟨rfl, rfl, rfl, rfl, rfl, fun same => absurd same other⟩
  have old {P : Move → Prop} (all : ∀ x ∈ v.queue, P x) (mine : P m → P { m with target := t }) : ∀ x ∈ w.queue, P x :=
    each (mine (all m hm)) fun x hx _ => all x hx
  refine ⟨fun n i => ?_, ?_, fun i l q e => ?_, fun i b e => ?_, fun n q e => ?_, ?_, ?_, ?_, ?_, ?_, ?_, fun p => ?_, ?_⟩
  · rw [writes.reticle, writes.record]
    exact h.located n i
  · rw [writes.record]
    exact old h.binds id
  · rw [writes.record] at e
    obtain ⟨x, hx, number, named, stands⟩ := h.bound i l q e
    obtain ⟨y, hy, seq, reticle, kind, source, state, _⟩ := there x hx
    exact ⟨y, hy, seq.trans number, reticle.trans named, stands.of_route kind source state.trans⟩
  · rw [writes.record] at e
    obtain ⟨x, hx, run, named⟩ := h.gripped i b e
    obtain ⟨y, hy, seq, reticle, _⟩ := there x hx
    exact ⟨y, hy, (runs_iff _).mpr (seq.trans (Option.some.inj (run.symm.trans runs))), reticle.trans named⟩
  · obtain ⟨same, place⟩ := writes.reserved n q e
    obtain ⟨y, hy, seq, _, _, source, _, target⟩ := there m hm
    exact ⟨(runs_iff q).mpr same, y, hy, seq.trans same.symm, by rw [source, target rfl]; exact place⟩
  · refine old (fun x hx run n i from_n holds => ?_) id
    rw [writes.reticle] at holds
    refine h.own x hx ?_ n i from_n holds
    rw [(runs_iff _).mp run]
    exact runs
  · refine old h.wired fun ⟨test, route⟩ => ⟨test, ?_⟩
    rcases routed with same | ⟨store, _⟩
    · rw [same]
      exact route
    · exact route.retarget store t
  · unfold View.NestFor
    rw [writes.nest, writes.waits]
    exact old h.nests id
  · refine each (each (fun _ _ _ _ _ => rfl) fun y hy _ => h.single m hm y hy) fun x hx _ => ?_
    exact each (h.single x hx m hm) fun y hy _ => h.single x hx y hy
  · refine each (each (fun _ _ => rfl) fun y hy _ => h.reshelves m hm y hy) fun x hx _ => ?_
    exact each (h.reshelves x hx m hm) fun y hy _ => h.reshelves x hx y hy
  · rw [writes.inn]
    exact old h.arrived id
  · rw [writes.waits, writes.nest]
    exact h.window p
  · exact each (fun _ => works) fun x _ other run => absurd ((runs_iff _).mp run) other

/-! ## The end of the move in execution -/

/-- From `v` to `w` the move `m` in execution leaves the queue and the handler interface, its record in the slot `d`, if any, or
somewhere else out of the gripper, its slots released. -/
structure View.Ends (v w : View) (m : Move) (d : Option Slot) : Prop where
  mem : ∀ x, x ∈ w.queue ↔ x ∈ v.queue ∧ x.seq ≠ m.seq
  exec : w.exec = none
  other : ∀ id, m.reticle ≠ some id → w.record id = v.record id
  own : ∀ id, m.reticle = some id → ∃ l, w.record id = some (l, none) ∧ l ≠ .gripper ∧ ∀ n, l = .slot n ↔ d = some n
  held : ∀ n, d = some n → (m.source = .slot n ∨ m.target = .pos (.slot n)) ∧ ∃ id, m.reticle = some id ∧ w.slot n = .filled id
  slots : ∀ n, d ≠ some n → w.slot n = v.slot n ∨ ((m.source = .slot n ∨ m.target = .pos (.slot n)) ∧ (w.slot n).Bare)
  source : ∀ n, m.source = .slot n → d ≠ some n → (w.slot n).Bare
  target : ∀ n, m.target = .pos (.slot n) → d ≠ some n → (w.slot n).move = none
  nest : ∀ p, w.nest p = v.nest p ∨ (v.nest p ≠ .outLapsed ∧ v.nest p ≠ .returned)
  waits : w.waits = v.waits
  inn : w.inn = v.inn ∨ ∀ x ∈ v.queue, x.seq ≠ m.seq → x.kind ≠ .reshelve

/-- A target slot of the move in execution holds no other record, as far as its phase has it. -/
def View.TargetOwn (v : View) (m : Move) : Prop :=
  ∀ n id, m.target = .pos (.slot n) → (v.slot n).reticle = some id → m.reticle = some id

theorem View.TargetGranted.own (h : v.TargetGranted m) : v.TargetOwn m := fun n id to_n holds => by
  obtain ⟨x, e⟩ := h.1 n to_n
  rw [e] at holds
  cases holds

section Ending

variable (h : v.Agree) (form : v.Form) (hm : m ∈ v.queue) (runs : v.Runs m.seq) {d : Option Slot} (ends : v.Ends w m d)

include ends in
/-- A record afterwards: the move's own, bound to nothing at its place, or another as it was. -/
theorem View.Ends.record {i : Ident} {b : Option Seq} (here : w.record i = some (l, b)) :
    (m.reticle = some i ∧ b = none ∧ l ≠ .gripper ∧ ∀ n, l = .slot n ↔ d = some n)
      ∨ (m.reticle ≠ some i ∧ v.record i = some (l, b)) := by
  by_cases mine : m.reticle = some i
  · obtain ⟨l', own, rest⟩ := ends.own i mine
    rw [own] at here
    cases here
    exact .inl ⟨mine, rfl, rest⟩
  · exact .inr ⟨mine, by rw [← ends.other i mine]; exact here⟩

include h hm in
/-- Another move names another record. -/
theorem View.Agree.names_other (hx : x ∈ v.queue) (other : x.seq ≠ m.seq) {i : Ident} (named : x.reticle = some i) :
    m.reticle ≠ some i := fun mine => by
  obtain ⟨_, bound⟩ := h.binds x hx i named
  obtain ⟨_, bound'⟩ := h.binds m hm i mine
  exact other (Option.some.inj (congrArg Prod.snd (Option.some.inj (bound.symm.trans bound'))))

include h ends in
/-- A nest from which a move waits stands. -/
theorem View.Ends.nest_stands (hx : x ∈ v.queue) (waits : x.isWaiting = true) (from_p : x.source = .nest (.t p)) : w.nest p = v.nest p :=
  (ends.nest p).resolve_right fun ⟨lapsed, returned⟩ => h.unwaited lapsed returned x hx waits from_p

include h hm runs in
/-- A slot of the move that is written held no other record. -/
theorem View.Agree.cleared
    (target : ∀ n, m.target = .pos (.slot n) → w.slot n = v.slot n ∨ ∀ id, (v.slot n).reticle = some id → m.reticle = some id)
    (place : m.source = .slot n ∨ m.target = .pos (.slot n)) (changed : w.slot n ≠ v.slot n) {i : Ident} (holds : (v.slot n).reticle = some i) :
    m.reticle = some i := by
  rcases place with from_n | to_n
  · exact h.own m hm runs n i from_n holds
  · exact (target n to_n).resolve_left changed i holds

include ends in
/-- The slot where the move's record is put holds that record alone. -/
theorem View.Ends.located_there (old : v.Agree) (here : d = some n)
    (cleared : (m.source = .slot n ∨ m.target = .pos (.slot n)) → w.slot n ≠ v.slot n → ∀ i, (v.slot n).reticle = some i → m.reticle = some i)
    (i : Ident) : (w.slot n).reticle = some i ↔ ∃ b, w.record i = some (.slot n, b) := by
  obtain ⟨place, id, mine, filled⟩ := ends.held n here
  obtain ⟨l, own, _, at_d⟩ := ends.own id mine
  have at_n : l = .slot n := (at_d n).mpr here
  rw [filled]
  constructor
  · rintro ⟨⟩
    exact ⟨none, by rw [own, at_n]⟩
  · rintro ⟨b, there⟩
    rcases ends.record there with ⟨mine', _⟩ | ⟨others, was⟩
    · rw [mine] at mine'
      cases mine'
      rfl
    · have holds := (old.located n i).mpr ⟨b, was⟩
      by_cases changed : w.slot n = v.slot n
      · rw [← changed, filled] at holds
        exact holds
      · exact absurd (cleared place changed i holds) others

include h form hm ends in
/-- Another slot does not hold the move's record. -/
theorem View.Ends.not_elsewhere (away : d ≠ some n) {i : Ident} (mine : m.reticle = some i) : (w.slot n).reticle ≠ some i := fun holds => by
  rcases ends.slots n away with same | ⟨_, bare⟩
  · rw [same] at holds
    by_cases from_n : m.source = .slot n
    · have bare := (ends.source n from_n away).1
      rw [same, holds] at bare
      cases bare
    · obtain ⟨l', bound⟩ := h.binds m hm i mine
      obtain ⟨b, there⟩ := (h.located n i).mp holds
      rw [bound] at there
      cases there
      exact from_n (h.bound_to form hm bound).2
  · rw [bare.1] at holds
    cases holds

include h form hm ends in
/-- Another slot holds what is located there. -/
theorem View.Ends.located_elsewhere (away : d ≠ some n)
    (cleared : (m.source = .slot n ∨ m.target = .pos (.slot n)) → w.slot n ≠ v.slot n → ∀ i, (v.slot n).reticle = some i → m.reticle = some i)
    (i : Ident) : (w.slot n).reticle = some i ↔ ∃ b, w.record i = some (.slot n, b) := by
  by_cases mine : m.reticle = some i
  · obtain ⟨l, own, _, at_d⟩ := ends.own i mine
    refine iff_of_false (ends.not_elsewhere h form hm away mine) ?_
    rintro ⟨b, there⟩
    rw [own] at there
    cases there
    exact away ((at_d n).mp rfl)
  · rw [ends.other i mine, ← h.located n i]
    rcases ends.slots n away with same | ⟨place, bare⟩
    · rw [same]
    · rw [bare.1]
      refine iff_of_false nofun fun holds => ?_
      by_cases changed : w.slot n = v.slot n
      · rw [← changed, bare.1] at holds
        cases holds
      · exact mine (cleared place changed i holds)

include h form hm runs ends in
/-- No slot is reserved any more. -/
theorem View.Ends.unreserved (n : Slot) : (w.slot n).move = none := by
  by_cases here : d = some n
  · obtain ⟨_, id, _, filled⟩ := ends.held n here
    rw [filled]
    rfl
  · by_cases from_n : m.source = .slot n
    · exact (ends.source n from_n here).2
    · by_cases to_n : m.target = .pos (.slot n)
      · exact ends.target n to_n here
      · have same := (ends.slots n here).resolve_right fun ⟨place, _⟩ => place.elim from_n to_n
        rw [same]
        exact (h.elsewhere form hm runs from_n to_n).1

end Ending

/-- The others of a move's end: the agreement without the move. -/
theorem View.Agree.ends (h : v.Agree) (form : v.Form) (hm : m ∈ v.queue) (runs : v.Runs m.seq) {d : Option Slot}
    (ends : v.Ends w m d) (target : ∀ n, m.target = .pos (.slot n) → w.slot n = v.slot n ∨ ∀ id, (v.slot n).reticle = some id →
      m.reticle = some id) : w.Agree := by
  have idle (q : Seq) : ¬ w.Runs q := by
    unfold View.Runs
    rw [ends.exec]
    exact nofun
  have old (x : Move) (hx : x ∈ w.queue) := (ends.mem x).mp hx
  refine ⟨fun n i => ?_, fun x hx i named => ?_, fun i l q e => ?_, fun i b e => ?_, fun n q e => ?_, fun x hx run => absurd run (idle _),
    fun x hx => h.wired x (old x hx).1, fun x hx waits p from_p => ?_, fun x hx y hy => h.single x (old x hx).1 y (old y hy).1,
    fun x hx y hy => h.reshelves x (old x hx).1 y (old y hy).1, fun x hx waits k => ?_, fun p waits => ?_,
    fun x hx run => absurd run (idle _)⟩
  · have cleared (place : m.source = .slot n ∨ m.target = .pos (.slot n)) (changed : w.slot n ≠ v.slot n) (i : Ident) :=
      h.cleared hm runs target place changed (i := i)
    by_cases here : d = some n
    · exact ends.located_there h here cleared i
    · exact ends.located_elsewhere h form hm here cleared i
  · obtain ⟨hx, other⟩ := old x hx
    obtain ⟨l, bound⟩ := h.binds x hx i named
    exact ⟨l, by rw [ends.other i (h.names_other hm hx other named)]; exact bound⟩
  · rcases ends.record e with ⟨_, none_, _⟩ | ⟨others, was⟩
    · cases none_
    · obtain ⟨x, hx, number, named, stands⟩ := h.bound i l q was
      refine ⟨x, (ends.mem x).mpr ⟨hx, fun same => ?_⟩, number, named, stands⟩
      obtain rfl := form.eq_of_seq hx hm same
      exact others named
  · rcases ends.record e with ⟨_, _, away, _⟩ | ⟨others, was⟩
    · exact absurd rfl away
    · obtain ⟨x, hx, run, named⟩ := h.gripped i b was
      obtain rfl := form.eq_of_seq hx hm (Option.some.inj (run.symm.trans runs))
      exact absurd named others
  · rw [ends.unreserved h form hm runs] at e
    cases e
  · have was := h.nests x (old x hx).1 waits p from_p
    unfold View.NestFor
    rw [ends.nest_stands h (old x hx).1 waits from_p, ends.waits]
    exact was
  · obtain ⟨hx, other⟩ := old x hx
    rw [ends.inn.resolve_right fun free => free x hx other k]
    exact h.arrived x hx waits k
  · rw [ends.waits] at waits
    have returned := h.window p waits
    rw [(ends.nest p).resolve_right fun ⟨_, away⟩ => away returned]
    exact returned

/-- The form of the queue after the end of the move in execution. -/
theorem View.Ends.form (form : v.Form) (runs : v.Runs m.seq) {d : Option Slot} (ends : v.Ends w m d) (sub : (w.queue.map (·.seq)).Nodup) : w.Form where
  distinct := sub
  shaped x hx := form.shaped x ((ends.mem x).mp hx).1
  executing x hx run := by
    obtain ⟨old, other⟩ := (ends.mem x).mp hx
    exact absurd (Option.some.inj ((form.executing x old run).symm.trans runs)) other
  named q run := by
    unfold View.Runs at run
    rw [ends.exec] at run
    cases run
  cause x _ run := by
    unfold View.Runs at run
    rw [ends.exec] at run
    cases run
  idle _ := ends.exec

end Sys2Proof.Machine
end

section
/-! PROOFS. The agreement (O10) of states: admissions and withdrawals, lapses, the grant test and the window re-evaluations. -/

namespace Sys2Proof.Machine

open Sys2Proof

variable {v w : View} {m x : Move} {id : Ident} {p : Port} {n : Slot} {q : Seq} {l : Location} {s t u : State} {i j k : Nat}

/-! ## A move that waits again -/

/-- The agreement reads which entries the queue has, not their order. -/
theorem View.Agree.of_mem (h : v.Agree) (mem : ∀ x, x ∈ w.queue ↔ x ∈ v.queue) (slot : w.slot = v.slot) (record : w.record = v.record)
    (exec : w.exec = v.exec) (busy : w.busy = v.busy) (nest : w.nest = v.nest) (waits : w.waits = v.waits) (inn : w.inn = v.inn) :
    w.Agree := by
  have same : w = { v with queue := w.queue } := by
    cases w
    cases v
    simp_all
  rw [same]
  generalize w.queue = ms at mem
  exact ⟨h.located, fun m hm => h.binds m ((mem m).mp hm),
    fun i l q e => by obtain ⟨m, hm, rest⟩ := h.bound i l q e; exact ⟨m, (mem m).mpr hm, rest⟩,
    fun i b e => by obtain ⟨m, hm, rest⟩ := h.gripped i b e; exact ⟨m, (mem m).mpr hm, rest⟩,
    fun n q e => by obtain ⟨run, m, hm, rest⟩ := h.reserved n q e; exact ⟨run, m, (mem m).mpr hm, rest⟩,
    fun m hm => h.own m ((mem m).mp hm), fun m hm => h.wired m ((mem m).mp hm), fun m hm => h.nests m ((mem m).mp hm),
    fun m hm x hx => h.single m ((mem m).mp hm) x ((mem x).mp hx), fun m hm x hx => h.reshelves m ((mem m).mp hm) x ((mem x).mp hx),
    fun m hm => h.arrived m ((mem m).mp hm), h.window, fun m hm => h.works m ((mem m).mp hm)⟩

/-- With no move in execution: a move that has left the queue is back in it, WAITING, the record it names bound to it as before. -/
theorem View.Agree.waits_again {a : View} (hm : m ∈ a.queue)
    (left : View.Agree { a.drop m.seq with exec := none, busy := .idle })
    (form : View.Form { a.drop m.seq with exec := none, busy := .idle }) {m' : Move} (seq : m'.seq = m.seq)
    (waits : m'.isWaiting = true) (wired : m'.Wired)
    (bound : ∀ id l, a.record id = some (l, some m.seq) → m'.reticle = some id)
    (stands : ∀ id, m'.reticle = some id → ∃ l, a.record id = some (l, some m.seq) ∧ m'.Stands l)
    (nest : ∀ p, m'.source = .nest (.t p) → a.NestFor m' p ∧ ∀ x ∈ a.queue, x.seq ≠ m.seq → x.isWaiting = true → x.source ≠ .nest (.t p))
    (inn : m'.kind = .reshelve → a.inn = .arrived ∧ ∀ x ∈ a.queue, x.seq ≠ m.seq → x.kind ≠ .reshelve) :
    View.Agree { a with queue := a.queue.map fun x => if x.seq = m.seq then m' else x, exec := none, busy := .idle } := by
  have mem (x : Move) : x ∈ (a.drop m.seq).queue ↔ x ∈ a.queue ∧ x.seq ≠ m.seq := by simp [View.drop]
  have unbound (id : Ident) (named : m'.reticle = some id) : ∃ l, (a.drop m.seq).record id = some (l, none) ∧ m'.Stands l := by
    obtain ⟨l, here, st⟩ := stands id named
    exact ⟨l, by simp [View.drop, here, unbind], st⟩
  have entered := left.enter form (m := m') (fun x hx => by rw [seq]; exact ((mem x).mp hx).2) waits wired unbound
    (fun p from_p => ⟨(nest p from_p).1, fun x hx => (nest p from_p).2 x ((mem x).mp hx).1 ((mem x).mp hx).2⟩)
    (fun k => ⟨(inn k).1, fun x hx => (inn k).2 x ((mem x).mp hx).1 ((mem x).mp hx).2⟩)
  have record : (View.enter { a.drop m.seq with exec := none, busy := .idle } m').record = a.record := by
    funext id
    cases named : m'.reticle with
    | none =>
      simp only [View.enter, named, View.drop]
      cases here : a.record id with
      | none => rfl
      | some y =>
        obtain ⟨l, b⟩ := y
        have other : b ≠ some m.seq := fun e => by
          have := bound id l (e ▸ here)
          rw [named] at this
          cases this
        simp [unbind, other]
    | some i =>
      simp only [View.enter, named, View.drop, View.bind, View.onRecord, Function.update_apply, seq]
      split
      · next e =>
        obtain ⟨l, here, _⟩ := stands i named
        simp [e, here, unbind]
      · next other =>
        cases here : a.record id with
        | none => rfl
        | some y =>
          obtain ⟨l, b⟩ := y
          have away : b ≠ some m.seq := fun e => by
            have mine := bound id l (e ▸ here)
            rw [named] at mine
            exact other (Option.some.inj mine).symm
          simp [unbind, away]
  have same : (View.enter { a.drop m.seq with exec := none, busy := .idle } m').queue = (a.drop m.seq).queue ++ [m'] := by
    unfold View.enter
    split <;> rfl
  refine entered.of_mem (fun x => ?_) ?_ record.symm ?_ ?_ ?_ ?_ ?_
  · rw [same]
    simp only [List.mem_append, List.mem_singleton, mem, List.mem_map]
    constructor
    · rintro ⟨y, hy, rfl⟩
      split
      · exact .inr rfl
      · next other => exact .inl ⟨hy, other⟩
    · rintro (⟨hx, other⟩ | rfl)
      · exact ⟨x, hx, by simp [other]⟩
      · exact ⟨m, hm, by simp⟩
  all_goals (unfold View.enter; split <;> rfl)

/-! ## The agreement of states -/

theorem State.QueueForm.view (h : s.QueueForm k) : s.view.Form :=
  ⟨h.distinct, h.shaped, h.executing, h.named, h.cause, h.free⟩

/-- From `s` to `t` the queue keeps its form, with at most `i` numbers given out, and the agreement is kept. -/
def State.Fits (i : Nat) (s t : State) : Prop :=
  ∀ k, k + i < 2147483648 → s.QueueForm k → s.view.Agree → t.QueueForm (k + i) ∧ t.view.Agree

theorem State.Fits.refl (s : State) : s.Fits 0 s := fun _ _ form agree => ⟨form, agree⟩

theorem State.Fits.trans (h : s.Fits i t) (g : t.Fits j u) : s.Fits (i + j) u := fun k small form agree => by
  obtain ⟨form', agree'⟩ := h k (by omega) form agree
  have := g (k + i) (by omega) form' agree'
  rwa [Nat.add_assoc] at this

theorem State.Fits.mono (h : s.Fits i t) (le : i ≤ j) : s.Fits j t := fun k small form agree => by
  obtain ⟨form', agree'⟩ := h k (by omega) form agree
  exact ⟨form'.mono (by omega), agree'⟩

theorem State.fits_still (s : State) (i : Nat) : s.Fits i s := (State.Fits.refl s).mono (Nat.zero_le i)

theorem State.Grows.fits (h : s.Grows i t) (agrees : ∀ k, s.QueueForm k → s.view.Agree → t.view.Agree) : s.Fits i t :=
  fun k small form agree => ⟨h k small form, agrees k form agree⟩

theorem State.Same.fits (same : s.Same t) (view : t.view = s.view) : s.Fits 0 t :=
  same.grows.fits fun _ _ agree => by rw [view]; exact agree

/-- The next number is not in the queue. -/
theorem State.QueueForm.fresh (h : s.QueueForm k) : ∀ x ∈ s.view.queue, x.seq ≠ s.nextSeq := fun x hx same => (h.old x hx).ne same.symm

theorem State.view_offerInward (s : State) (o : Offer) :
    ∃ hold, (s.offerInward o).view = s.view.enter (s.entered o false hold) := by
  rcases s.offerInward_cases o with ⟨_, e⟩ | ⟨n, _, e⟩ <;> rw [e, State.view_enter]
  · exact ⟨_, rfl⟩
  · rw [State.view_countHit]
    refine ⟨(s.intercepts.get n).action = .hold, congrArg s.view.enter ?_⟩
    simp only [State.entered, State.countHit, State.raise_nextSeq, State.raise_clock]

theorem State.fits_withdraw (s : State) (m : Move) (r : Option Reason) (free : s.handler.exec.bind (·.move) ≠ some m.seq) :
    s.Fits 0 (s.withdraw m r) :=
  (s.grows_withdraw m r free).fits fun _ _ agree => by
    rw [State.view_withdraw]
    exact agree.drop free

theorem State.fits_withdrawWaiting (s : State) (m : Move) (r : Option Reason) (here : m ∈ s.queue) (waits : m.isWaiting = true) :
    s.Fits 0 (s.withdraw m r) :=
  fun k small form => s.fits_withdraw m r (form.waiting_free here waits) k small form

/-- Steps along a list that each keep the agreement while the handler interface stands keep it together. -/
theorem State.fits_foldl {α : Type} {step : State → α → State} {xs : List α} (s : State)
    (h : ∀ k, s.QueueForm k → ∀ x ∈ xs, ∀ t : State, t.handler = s.handler →
      State.Fits 0 t (step t x) ∧ (step t x).handler = t.handler) :
    s.Fits 0 (xs.foldl step s) := fun k small form agree => by
  have each := h k form
  clear h
  suffices ∀ t : State, t.handler = s.handler → t.QueueForm k → t.view.Agree → (xs.foldl step t).QueueForm k
      ∧ (xs.foldl step t).view.Agree from this s rfl form agree
  intro t
  induction xs generalizing t with
  | nil => exact fun _ f a => ⟨f, a⟩
  | cons x xs ih =>
    intro same f a
    obtain ⟨fits, handler⟩ := each x (List.mem_cons_self ..) t same
    obtain ⟨f', a'⟩ := fits k small f a
    exact ih (fun y hy => each y (List.mem_cons_of_mem _ hy)) _ (handler.trans same) f' a'

theorem State.fits_withdrawWhere (s : State) (f : Move → Bool) (r : Option Reason) : s.Fits 0 (s.withdrawWhere f r) := by
  refine s.fits_foldl fun k form m hm t same => ⟨t.fits_withdraw m r ?_, t.withdraw_handler m r⟩
  obtain ⟨here, test⟩ := List.mem_filter.mp hm
  rw [same]
  exact form.waiting_free here (Bool.and_eq_true_iff.mp test).1

/-! ## Lapses -/

theorem State.record_view {r : Rec} (h : s.record id = some r) : s.view.record id = some (r.location, r.binding) := by
  simp [State.view, h, Rec.seen]

theorem State.view_lapseNest (s : State) (p : Port) : (s.lapseNest p).view = s.view.lapse p := s.view_updPort p _

theorem State.agree_reclaimIfUnfit (s : State) (id : Ident) (form : s.QueueForm k) (agree : s.view.Agree) :
    (s.reclaimIfUnfit id).view.Agree := by
  rcases s.reclaimIfUnfit_cases id with e | ⟨r, p, known, location, nest, _, e⟩
  · rwa [e]
  · rw [e, State.view_sendTool]
    obtain ⟨hold, view⟩ := (s.lapseNest p).view_offerInward (reclaimOffer p id)
    rw [view, State.view_lapseNest]
    exact agree.lapse_reclaim form.view nest (by rw [State.record_view known, location]) rfl rfl rfl rfl rfl form.fresh

theorem State.fits_reclaimIfUnfit (s : State) (id : Ident) : s.Fits 1 (s.reclaimIfUnfit id) :=
  (s.grows_reclaimIfUnfit id).fits fun _ => s.agree_reclaimIfUnfit id

/-- From `s` to `t` the agreement is kept and every number given out has taken a nest out of OUT_WAIT. -/
structure State.LapsesFit (s t : State) : Prop extends s.Lapsing t where
  agrees : ∀ k, k + (s.outWaits - t.outWaits) < 2147483648 → s.QueueForm k → s.view.Agree → t.view.Agree

theorem State.LapsesFit.trans (h : s.LapsesFit t) (g : t.LapsesFit u) : s.LapsesFit u where
  toLapsing := h.toLapsing.trans g.toLapsing
  agrees k small form agree := by
    have fewer := h.fewer
    have fewer' := g.fewer
    exact g.agrees _ (by omega) (h.grows k (by omega) form) (h.agrees k (by omega) form agree)

theorem State.Lapsing.fit (h : s.Lapsing t) (view : t.view = s.view) : s.LapsesFit t := ⟨h, fun _ _ _ agree => by rwa [view]⟩

theorem State.LapsesFit.fits (h : s.LapsesFit t) : s.Fits 6 t := fun k small form agree => by
  have few := s.outWaits_le
  exact ⟨(h.grows k (by omega) form).mono (by omega), h.agrees k (by omega) form agree⟩

theorem State.lapsesFit_reclaimIfUnfit (s : State) (id : Ident) : s.LapsesFit (s.reclaimIfUnfit id) :=
  ⟨s.lapses_reclaimIfUnfit id, fun _ _ => s.agree_reclaimIfUnfit id⟩

theorem State.lapsesFit_makeDue (s : State) (id : Ident) : s.LapsesFit (s.makeDue id) :=
  (((s.same_updRecord id (f := fun r => { r with condition := .due }) fun _ => rfl).lapses rfl).fit
    (s.view_updRecord_same id (fun _ => rfl) fun _ => rfl)).trans (State.lapsesFit_reclaimIfUnfit _ id)

theorem State.lapsesFit_makeDueAll (s : State) (rs : List Rec) : s.LapsesFit (rs.foldl (fun t r => t.makeDue r.id) s) := by
  induction rs generalizing s with
  | nil => exact ((State.Same.refl s).lapses rfl).fit rfl
  | cons r rs ih => exact (s.lapsesFit_makeDue r.id).trans (ih _)

theorem State.fits_dueCheck (s : State) (f : Rec → Bool) : s.Fits 6 (s.dueCheck f) := by
  have raised (t : State) (d : Detail) : t.LapsesFit (t.raise .due d) :=
    ((t.same_raise .due d).lapses (by simp)).fit (t.view_raise .due d)
  unfold State.dueCheck
  split
  · exact s.fits_still 6
  · exact ((s.lapsesFit_makeDue _).trans (raised _ _)).fits
  · exact ((s.lapsesFit_makeDueAll _).trans (raised _ _)).fits

theorem State.fits_addLots (s : State) (id : Ident) (n : Nat) : s.Fits 6 (s.addLots id n) :=
  (((s.same_updRecord id (f := fun r => { r with lots := satAdd r.lots n }) fun _ => rfl).fits
    (s.view_updRecord_same id (fun _ => rfl) fun _ => rfl)).trans (State.fits_dueCheck _ _)).mono (by omega)

/-! ## Held and doubted records -/

theorem State.fits_withdrawHeldDeliver (s : State) (r : Rec) : s.Fits 0 (s.withdrawHeldDeliver r) := by
  unfold State.withdrawHeldDeliver
  split
  · next m bound =>
    split
    · next test => exact s.fits_withdrawWaiting m _ (State.boundMove_mem bound) (by simpa [Move.isWaiting] using test.2)
    · exact .refl s
  · exact .refl s

theorem State.fits_setHeld (s : State) (id : Ident) : s.Fits 1 (s.setHeld id) := by
  unfold State.setHeld
  split
  · next r _ =>
    split
    · exact s.fits_still 1
    · have held := (s.same_updRecord id (f := fun x => { x with held := true }) fun _ => rfl).fits
        (s.view_updRecord_same id (fun _ => rfl) fun _ => rfl)
      exact ((held.trans (State.fits_withdrawHeldDeliver _ r)).trans (State.fits_reclaimIfUnfit _ id)).mono (by omega)
  · exact s.fits_still 1

theorem State.fits_doubtRecord (s : State) (id : Ident) : s.Fits 1 (s.doubtRecord id) :=
  (((s.same_updRecord id (f := Rec.doubt) fun _ => rfl).fits (s.view_doubt id)).trans (State.fits_reclaimIfUnfit _ id)).mono (by omega)

/-! ## The NO_SLOT test and the sweep -/

theorem State.view_testNoSlot (s : State) : s.testNoSlot.view = s.view := by
  unfold State.testNoSlot
  split
  · rfl
  · split
    · rfl
    · exact State.view_raise _ _ _

theorem State.view_noSlotStep (b a : State) (x : Touch) : (b.noSlotStep a x).view = b.view := by
  unfold State.noSlotStep
  split
  · exact b.view_testNoSlot
  · rfl

theorem State.fits_sweep (s : State) : s.Fits 0 s.sweep := by
  refine s.fits_foldl fun k form m here t same => ?_
  split
  · next r unfit =>
    have waits : m.isWaiting = true := by
      unfold State.sweeps at unfit
      split at unfit
      · next test => exact (Bool.and_eq_true_iff.mp test).1
      · cases unfit
    exact ⟨t.fits_withdraw m _ (by rw [same]; exact form.waiting_free here waits), t.withdraw_handler m _⟩
  · exact ⟨.refl t, rfl⟩

end Sys2Proof.Machine
end

section
/-! PROOFS. The agreement (O10) of states: the grant and everything that follows a change. -/

namespace Sys2Proof.Machine

open Sys2Proof

variable {m x : Move} {id : Ident} {p : Port} {n : Slot} {q : Seq} {l : Location} {s t u : State} {i j k : Nat}

/-! ## The view of a grant -/

theorem State.view_setToolNest (s : State) (p : Port) (x : ToolNest) : (s.setToolNest p x).view = s.view.setNest p x := by
  unfold State.setToolNest
  rw [s.view_updPort]
  exact View.setWaits_self (s.view.setNest p x) p

theorem State.view_nestGranted (s : State) (x : Position) : (s.nestGranted x.nest?).view = { s.view with
    nest := fun p => if x = .nest (.t p) then .outbound else s.view.nest p
    inn := if x = .nest .inn then .outbound else s.view.inn } := by
  cases x with
  | slot n => rfl
  | shelf n => rfl
  | nest y =>
    cases y with
    | t p =>
      refine (s.view_setToolNest p _).trans ?_
      have same : (fun r => if Position.nest (.t p) = .nest (.t r) then ToolNest.outbound else s.view.nest r)
          = Function.update s.view.nest p .outbound := by
        funext r
        simp [Function.update_apply, eq_comm]
      rw [same]
      rfl
    | bi => rfl
    | bo => rfl
    | inn => rfl

theorem State.view_nestTargeted (s : State) (x : Target) : (s.nestTargeted x.nest?).view = { s.view with
    nest := fun p => if x = .pos (.nest (.t p)) then .inbound else s.view.nest p
    inn := if x = .pos (.nest .inn) then .inbound else s.view.inn } := by
  cases x with
  | pos y =>
    cases y with
    | slot n => rfl
    | shelf n => rfl
    | nest z =>
      cases z with
      | t p =>
        refine (s.view_updPort p _).trans ?_
        have same : (fun r => if Target.pos (.nest (.t p)) = .pos (.nest (.t r)) then ToolNest.inbound else s.view.nest r)
            = Function.update s.view.nest p .inbound := by
          funext r
          simp [Function.update_apply, eq_comm]
        rw [same]
        exact View.setWaits_self (s.view.setNest p .inbound) p
      | bi => rfl
      | bo => rfl
      | inn => rfl
  | _ => rfl

theorem State.view_reserve (s : State) (m : Move) : (s.reserve m).view = { s.view with slot := (s.reserve m).slot } := by
  obtain ⟨v, h⟩ := s.reserve_eq m
  rw [h]
  rfl

theorem State.view_order (s : State) (f : Byte → OutFrame) (b : HandlerState) (n : Nat) :
    (s.order f b n).view = { s.view with busy := b } := by
  unfold State.order
  rw [State.view_updHandler]
  rfl

theorem State.view_setPhase (s : State) (ph : Phase) :
    (s.setPhase ph).view = { s.view with exec := s.view.exec.map fun e => { e with phase := some ph } } := s.view_updHandler _

theorem State.view_firstOrder (s : State) (m : Move) (shelf : m.kind = .scan → ∃ n, m.source = .shelf n) :
    ∃ ph, ((ph = .picking ∧ m.kind ≠ .scan) ∨ (ph = .scanning ∧ m.kind = .scan))
    ∧ (s.firstOrder m).view = { s.view with exec := s.view.exec.map fun e => { e with phase := some ph }, busy := ph.handlerState } := by
  unfold State.firstOrder
  split
  · next scan _ =>
    refine ⟨.scanning, .inr ⟨rfl, scan⟩, ?_⟩
    unfold State.sendScan
    rw [State.view_setPhase, State.view_order]
    rfl
  · next other =>
    refine ⟨.picking, .inl ⟨rfl, fun scan => ?_⟩, ?_⟩
    · obtain ⟨n, source⟩ := shelf scan
      exact other n scan source
    unfold State.sendMove
    rw [State.view_setPhase, State.view_order]
    rfl

/-- A grant with its source FILLED with the reticle the move names, its target EMPTY and another nest than its source. -/
theorem State.view_grant (s : State) (m : Move) (b : Bool)
    (source : ∀ n, m.source = .slot n → ∃ id, s.slot n = .filled id ∧ m.reticle = some id)
    (target : ∀ n, s.grantTarget m = .pos (.slot n) → s.slot n = .empty)
    (apart : ∀ y, s.grantTarget m = .pos (.nest y) → m.source ≠ .nest y) (shelf : m.kind = .scan → ∃ n, m.source = .shelf n) :
    ∃ ph, ((ph = .picking ∧ m.kind ≠ .scan) ∨ (ph = .scanning ∧ m.kind = .scan))
      ∧ (s.grant m b).view = s.view.grant (s.granted m) ⟨some m.seq, some ph, none, none, 0⟩ ph.handlerState := by
  have slots (n : Slot) : ((s.updMove m.seq fun _ => s.granted m).reserve (s.granted m)).slot n
      = (s.view.grant (s.granted m) ⟨some m.seq, none, none, none, 0⟩ .idle).slot n := by
    rw [State.slot_reserve]
    change (if m.source = .slot n ∧ (s.slot n).content ≠ .free then (match s.slot n with
          | .filled id => SlotEntry.outbound id m.seq
          | x => x)
        else if s.grantTarget m = .pos (.slot n) ∧ s.slot n = .empty then .inbound m.reticle m.seq else s.slot n)
      = if m.source = .slot n then (match m.reticle with
          | some id => .outbound id m.seq
          | none => s.slot n)
        else if s.grantTarget m = .pos (.slot n) then .inbound m.reticle m.seq else s.slot n
    by_cases from_n : m.source = .slot n
    · obtain ⟨id, filled, named⟩ := source n from_n
      simp [from_n, filled, named, SlotEntry.content]
    · by_cases to_n : s.grantTarget m = .pos (.slot n)
      · simp [from_n, to_n, target n to_n]
      · simp [from_n, to_n]
  have placed : (s.placedFor m).view = { s.view.grant (s.granted m) ⟨some m.seq, none, none, none, 0⟩ .idle with
      exec := s.view.exec, busy := s.view.busy } := by
    unfold State.placedFor
    rw [State.view_nestTargeted, State.view_nestGranted, State.view_reserve]
    change View.mk _ _ _ _ _ _ _ _ = View.mk _ _ _ _ _ _ _ _
    congr 1
    · exact funext slots
    · funext p
      by_cases to_p : s.grantTarget m = .pos (.nest (.t p))
      · have away := apart _ to_p
        simp [State.granted, to_p, away, View.grant]
      · simp [State.granted, to_p, View.grant]
        rfl
    · by_cases to_inn : s.grantTarget m = .pos (.nest .inn)
      · have away := apart _ to_inn
        simp [State.granted, to_inn, away, View.grant]
      · simp [State.granted, to_inn, View.grant]
        rfl
  rw [s.grant_eq]
  generalize s.placedFor m = a at placed
  obtain ⟨ph, first, view⟩ := State.view_firstOrder ({ a with tenure := tenureAfter a.tenure m b }.updHandler
    fun h => { h with exec := some ⟨some m.seq, none, none, none, 0⟩ }) (s.granted m) shelf
  refine ⟨ph, first, view.trans ?_⟩
  have tenured : State.view { a with tenure := tenureAfter a.tenure m b } = a.view := rfl
  rw [State.view_updHandler, tenured, placed]
  rfl

/-! ## What eligibility says of the target (R124) -/

/-- What a grant needs of its target: it is free, and neither it nor its nest is the source. -/
structure State.FreeFor (s : State) (m : Move) (t : Target) : Prop where
  slot : ∀ n, t = .pos (.slot n) → s.slot n = .empty
  differ : ∀ n, m.source = .slot n → t ≠ .pos (.slot n)
  tool : ∀ p, t = .pos (.nest (.t p)) → s.toolNest p = .empty
  inn : t = .pos (.nest .inn) → s.inn = .empty
  apart : ∀ y, t = .pos (.nest y) → m.source ≠ .nest y
  aimed : ∃ x, t = .pos x

/-- A move that a store target selection is made for comes from a nest or from a staging slot. -/
theorem Move.Routed.store_source (h : m.Routed) (store : m.kind.isStore = true) (source : m.source = .slot n) : toStorage n = none := by
  obtain ⟨_, kind, _, _, _, _, _, _, _, _, _, _, _, _⟩ := m
  dsimp only at store source
  subst source
  cases kind with
  | destage =>
    obtain ⟨a, same, staging, _⟩ := h
    cases same
    exact staging
  | collect => obtain ⟨p, e⟩ := h; cases e
  | reclaim => obtain ⟨⟨p, e⟩, _⟩ := h; cases e
  | stockIn => cases h
  | reshelve => cases h
  | deliver => cases store
  | stockOut => cases store
  | inspectOut => cases store
  | prestage => cases store
  | scan => cases store

/-- A storage slot selected for a store move is free for it. -/
theorem State.freeFor_selected {k : Fin 384} (routed : m.Routed) (store : m.kind.isStore = true) (found : s.selectTarget m = some k) :
    s.FreeFor m (.pos (storagePosition k)) where
  slot n e := by
    cases e
    exact State.selectTarget_empty found
  differ n source e := by
    cases e
    have staging := routed.store_source store source
    rw [toStorage_ofStorage] at staging
    cases staging
  tool _ e := by cases e
  inn e := by cases e
  apart _ e := by cases e
  aimed := ⟨_, rfl⟩

/-- An eligible store move has a candidate (R124). -/
theorem State.selectTarget_eligible (routed : m.Routed) (store : m.kind.isStore = true) (test : s.eligible m = true) :
    (s.selectTarget m).isSome = true := by
  unfold State.eligible at test
  obtain ⟨_, fit⟩ := Bool.and_eq_true_iff.mp test
  unfold State.ineligible at fit
  cases kind : m.kind with
  | destage =>
    rw [kind] at fit
    by_contra none_
    simp [none_] at fit
  | reshelve =>
    rw [kind] at fit
    by_contra none_
    simp [none_] at fit
  | stockIn =>
    rw [kind] at fit
    by_contra none_
    simp only [none_] at fit
    split at fit <;> cases fit
  | collect =>
    unfold Move.Routed at routed
    rw [kind] at routed fit
    obtain ⟨p, source⟩ := routed
    by_contra none_
    simp only [none_, source] at fit
    split at fit <;> cases fit
  | reclaim =>
    unfold Move.Routed at routed
    rw [kind] at routed fit
    obtain ⟨⟨p, source⟩, _⟩ := routed
    by_contra none_
    simp only [none_, source] at fit
    split at fit <;> cases fit
  | deliver => simp [kind, MoveKind.isStore] at store
  | stockOut => simp [kind, MoveKind.isStore] at store
  | inspectOut => simp [kind, MoveKind.isStore] at store
  | prestage => simp [kind, MoveKind.isStore] at store
  | scan => simp [kind, MoveKind.isStore] at store

/-- An eligible move has a free target (R124). -/
theorem State.freeFor_eligible (routed : m.Routed) (test : s.eligible m = true) : s.FreeFor m (s.grantTarget m) := by
  have selected (store : m.kind.isStore = true) : s.FreeFor m (s.grantTarget m) := by
    obtain ⟨k, found⟩ := Option.isSome_iff_exists.mp (State.selectTarget_eligible routed store test)
    rw [State.grantTarget, if_pos store, found]
    exact State.freeFor_selected routed store found
  have fixed (store : m.kind.isStore = false) : s.grantTarget m = m.target := by rw [State.grantTarget, if_neg (by simp [store])]
  have fit := test
  unfold State.eligible State.ineligible at fit
  obtain ⟨_, fit⟩ := Bool.and_eq_true_iff.mp fit
  cases kind : m.kind with
  | deliver =>
    unfold Move.Routed at routed
    rw [kind] at routed fit
    obtain ⟨p, n, beneficiary, source, target, _⟩ := routed
    rw [fixed (by rw [kind]; rfl), target]
    have empty : s.toolNest p = .empty := by
      by_contra other
      simp [beneficiary, other] at fit
    refine ⟨nofun, fun _ _ => nofun, fun r e => ?_, nofun, fun _ _ => ?_, ⟨_, rfl⟩⟩
    · cases e
      exact empty
    rw [source]
    exact nofun
  | stockOut =>
    unfold Move.Routed at routed
    rw [kind] at routed
    obtain ⟨n, source, target, _⟩ := routed
    rw [fixed (by rw [kind]; rfl), target]
    refine ⟨nofun, fun _ _ => nofun, nofun, nofun, fun _ _ => ?_, ⟨_, rfl⟩⟩
    rw [source]
    exact nofun
  | inspectOut =>
    unfold Move.Routed at routed
    rw [kind] at routed fit
    obtain ⟨n, source, target, _⟩ := routed
    rw [fixed (by rw [kind]; rfl), target]
    have empty : s.inn = .empty := by
      by_contra other
      simp [other] at fit
    refine ⟨nofun, fun _ _ => nofun, nofun, fun _ => empty, fun _ _ => ?_, ⟨_, rfl⟩⟩
    rw [source]
    exact nofun
  | prestage =>
    unfold Move.Routed at routed
    rw [kind] at routed fit
    obtain ⟨a, b, source, target, other, _⟩ := routed
    rw [fixed (by rw [kind]; rfl), target]
    have empty : s.slot b = .empty := by
      by_contra other
      simp [target, Target.slot?, Target.pos?, Position.slot?, other] at fit
    refine ⟨fun n e => ?_, fun n e e' => ?_, nofun, nofun, nofun, ⟨_, rfl⟩⟩
    · cases e
      exact empty
    rw [source] at e
    cases e
    cases e'
    exact other rfl
  | scan =>
    unfold Move.Routed at routed
    rw [kind] at routed
    obtain ⟨_, ⟨n, target⟩, _⟩ := routed
    rw [fixed (by rw [kind]; rfl), target]
    exact ⟨nofun, fun _ _ => nofun, nofun, nofun, nofun, ⟨_, rfl⟩⟩
  | destage => exact selected (by rw [kind]; rfl)
  | reshelve => exact selected (by rw [kind]; rfl)
  | stockIn => exact selected (by rw [kind]; rfl)
  | collect => exact selected (by rw [kind]; rfl)
  | reclaim => exact selected (by rw [kind]; rfl)

/-- The granted move is routed as the one that waited. -/
theorem State.granted_wired (wired : m.Wired) : (s.granted m).Wired := by
  refine ⟨wired.1, ?_⟩
  have routed := wired.2
  unfold State.granted State.grantTarget
  by_cases store : m.kind.isStore = true
  · rw [if_pos store]
    exact routed.retarget store _
  · rw [if_neg store]
    exact routed

theorem State.agree_grant (m : Move) (b : Bool) (form : s.QueueForm k) (agree : s.view.Agree) (here : m ∈ s.queue)
    (idle : s.handler.state = .idle) (test : s.eligible m = true) : (s.grant m b).view.Agree := by
  have routed := (agree.wired m here).2
  have free := State.freeFor_eligible routed test
  have none_ : s.view.exec = none := form.view.idle idle
  have waits : m.isWaiting = true := form.view.all_wait none_ here
  have filled (n : Slot) (source : m.source = .slot n) : ∃ id, s.slot n = .filled id ∧ m.reticle = some id := by
    obtain ⟨id, named⟩ := Option.isSome_iff_exists.mp (routed.slot_named source)
    have holds : (s.slot n).reticle = some id := agree.waiting_slot form.view here waits source named
    have bare : (s.slot n).move = none := agree.unreserved none_ n
    refine ⟨id, ?_, named⟩
    generalize s.slot n = e at holds bare
    cases e with
    | filled i => cases holds; rfl
    | outbound i q => cases bare
    | empty => cases holds
    | inbound i q => cases bare
    | unknown => cases holds
    | fault i => cases holds
  have shelf : m.kind = .scan → ∃ n, m.source = .shelf n := fun scan => by
    unfold Move.Routed at routed
    rw [scan] at routed
    exact routed.1
  obtain ⟨ph, first, view⟩ := s.view_grant m b filled free.slot free.apart shelf
  rw [view]
  have grants : s.view.Grants m (s.granted m) ⟨some m.seq, some ph, none, none, 0⟩ :=
    { seq := rfl, kind := rfl, reticle := rfl, source := rfl, state := rfl, wired := State.granted_wired (agree.wired m here)
      differ := free.differ, slot := free.slot, tool := fun p e => ⟨free.tool p e, free.apart _ e⟩
      inn := fun e => ⟨free.inn e, free.apart _ e⟩, move := rfl }
  exact agree.grant form.view none_ here grants rfl rfl (first.imp (fun ⟨picks, other⟩ => ⟨picks, other, free.aimed⟩) id)

theorem State.fits_grantTest (s : State) : s.Fits 0 s.grantTest := by
  rcases s.grantTest_cases with ⟨_, h⟩ | ⟨_, _, _, h⟩ | ⟨idle, _, m, b, chosen, h⟩ <;> rw [h]
  · exact .refl s
  · exact s.fits_sweep
  · obtain ⟨here, test⟩ := State.choose_mem chosen
    have resting : s.sweep.handler.state = .idle := by rw [State.sweep_handler]; exact idle
    exact s.fits_sweep.trans ((s.sweep.grows_grant m b here resting).fits fun _ form agree =>
      State.agree_grant m b form agree here resting test)

theorem State.fits_noSlotStep (b a : State) (x : Touch) : b.Fits 0 (b.noSlotStep a x) :=
  (b.same_noSlotStep a x).fits (b.view_noSlotStep a x)

theorem State.fits_serve (b a : State) (x : Touch) : b.Fits 0 (b.serve a x) := by
  have tested := b.fits_noSlotStep a x
  unfold State.serve
  dsimp only
  split
  · exact (tested.trans (State.fits_grantTest _)).trans (State.fits_noSlotStep _ _ _)
  · exact tested

theorem State.fits_served (s : State) (f : State → State) (h : s.Fits i (f s)) : s.Fits i (s.served f) :=
  h.trans (State.fits_serve _ _ _)

end Sys2Proof.Machine
end

section
/-! PROOFS. The agreement (O10) of states: admissions from slots, the window re-evaluations, and everything that follows a change. -/

namespace Sys2Proof.Machine

open Sys2Proof

variable {m x : Move} {id : Ident} {p : Port} {n : Slot} {q : Seq} {l : Location} {s t u : State} {i j k : Nat} {o : Offer}

/-! ## Admissions from slots -/

/-- An unbound record at a slot gets a move from there. -/
theorem View.Agree.enterSlot {v : View} (h : v.Agree) (form : v.Form) (fresh : ∀ x ∈ v.queue, x.seq ≠ m.seq)
    (waits : m.isWaiting = true) (routed : m.Routed) (source : m.source = .slot n) (named : m.reticle = some id)
    (test : m.pickTest = .named) (here : v.record id = some (.slot n, none)) : (v.enter m).Agree := by
  refine h.enter form fresh waits ⟨by simp [named, test], routed⟩ (fun i name => ?_) (fun r from_r => ?_) fun kind => ?_
  · rw [named] at name
    cases name
    exact ⟨_, here, source⟩
  · rw [source] at from_r
    cases from_r
  · unfold Move.Routed at routed
    rw [kind] at routed
    exact absurd (source.symm.trans routed) nofun

/-- What an offer from a slot names: an unbound record there, to a target of its kind. -/
structure State.OffersFrom (s : State) (o : Offer) : Prop where
  routed : ∀ (t : State) d h, (t.entered o d h).Routed
  test : o.pickTest = .named
  place : ∃ n id, o.source = .slot n ∧ o.reticle = some id ∧ s.view.record id = some (.slot n, none)

theorem State.agree_enterSlot (d h : Bool) (form : s.QueueForm k) (agree : s.view.Agree) (offers : t.OffersFrom o)
    (view : t.view = s.view) (next : t.nextSeq = s.nextSeq) : (t.enter o d h).view.Agree := by
  obtain ⟨n, id, source, named, here⟩ := offers.place
  rw [State.view_enter]
  rw [view] at here ⊢
  exact agree.enterSlot form.view (fun x hx => by rw [show (t.entered o d h).seq = s.nextSeq from next]; exact form.fresh x hx)
    rfl (offers.routed t d h) source named offers.test here

theorem State.fits_offerPrestage (s : State) (o : Offer) (shaped : ∀ (a : State), (a.entered o false false).Shaped)
    (offers : s.OffersFrom o) : s.Fits 1 (s.offerPrestage o) := by
  have grows := s.grows_offerPrestage o shaped
  have hit (n : Fin 16) : (s.countHit n o).OffersFrom o := ⟨offers.routed, offers.test, by rw [State.view_countHit]; exact offers.place⟩
  unfold State.offerPrestage at grows ⊢
  split
  · next none_ =>
    rw [none_] at grows
    exact grows.fits fun _ form agree => State.agree_enterSlot false false form agree offers rfl rfl
  · next n deciding =>
    rw [deciding] at grows
    have counted : s.Fits 0 (s.countHit n o) := (s.same_countHit n o).fits (s.view_countHit n o)
    dsimp only at grows ⊢
    split
    · split
      · next id _ => exact (counted.trans (State.fits_setHeld _ id)).mono (by omega)
      · exact counted.mono (by omega)
    · next other =>
      rw [if_neg other] at grows
      exact grows.fits fun _ form agree =>
        State.agree_enterSlot false false form agree (hit n) (s.view_countHit n o) (State.raise_nextSeq ..)

theorem State.fits_offerInwardSlot (s : State) (o : Offer) (shaped : ∀ (a : State) (h : Bool), (a.entered o false h).Shaped)
    (offers : s.OffersFrom o) : s.Fits 1 (s.offerInward o) :=
  (s.grows_offerInward o shaped).fits fun _ form agree => by
    obtain ⟨hold, view⟩ := s.view_offerInward o
    have entered := State.agree_enterSlot false hold form agree offers rfl rfl
    rw [view, ← State.view_enter]
    exact entered

/-! ## The window re-evaluations (R85 to R89) -/

theorem State.fits_updMove (s : State) {f : Move → Move} (q : Seq) (seq : ∀ m, (f m).seq = m.seq)
    (state : ∀ m, (f m).state = m.state) (kind : ∀ m, (f m).kind = m.kind) (shaped : ∀ m, m.Shaped → (f m).Shaped)
    (same : ∀ m : Move, m.SameRoute (f m)) : s.Fits 0 (s.updMove q f) :=
  (s.grows_updMove q seq state kind shaped).fits fun _ _ agree => by
    refine agree.mapQueue (f := fun m => if m.seq = q then f m else m) fun m _ => ?_
    split
    · exact same m
    · exact ⟨rfl, rfl, rfl, rfl, rfl, rfl, rfl, rfl⟩

theorem State.fits_review (s : State) (p : Port) : s.Fits 0 (s.review p) := by
  refine s.fits_foldl fun k form m hm t same => ?_
  have gone (waits : m.isWaiting = true) : State.Fits 0 t (t.withdraw m none) ∧ (t.withdraw m none).handler = t.handler :=
    ⟨t.fits_withdraw m none (by rw [same]; exact form.waiting_free hm waits), State.withdraw_handler ..⟩
  have still : State.Fits 0 t t ∧ t.handler = t.handler := ⟨.refl t, rfl⟩
  unfold State.reviewMove
  split
  · next test =>
    have waits := (Bool.and_eq_true_iff.mp test).1
    split
    · split
      · exact gone waits
      · dsimp only
        split
        · exact still
        · exact ⟨t.fits_updMove m.seq (fun _ => rfl) (fun _ => rfl) (fun _ => rfl) (fun _ h => h)
            fun _ => ⟨rfl, rfl, rfl, rfl, rfl, rfl, rfl, rfl⟩, rfl⟩
    · split
      · exact gone waits
      · exact still
    · exact still
  · exact still

theorem toStorage_stagingSlot (p : Port) (k : Fin 2) : toStorage (stagingSlot p k) = none := by
  unfold toStorage stagingSlot
  exact dif_neg (by simp; omega)

theorem State.fits_askPrestage (s : State) (p : Port) (id : Ident) (c : Fin 2) : s.Fits 1 (s.askPrestage p id c) := by
  unfold State.askPrestage
  split
  · next n free source staging =>
    obtain ⟨k, place, _, ⟨r, known, here, _⟩, ⟨r', known', unbound⟩, _⟩ := State.wants_of_prestageSource source
    rw [known] at known'
    cases known'
    have target : toStorage free = none := by
      have := List.mem_of_find?_eq_some staging
      simp only [List.mem_cons, List.not_mem_nil, or_false] at this
      rcases this with rfl | rfl
      · exact toStorage_stagingSlot p 0
      · exact toStorage_stagingSlot p 1
    have other : n ≠ free := by
      rintro rfl
      rw [place, toStorage_ofStorage] at target
      cases target
    refine s.fits_offerPrestage _ (fun _ => State.entered_prestage_shaped ..) ⟨fun _ _ _ => ⟨n, free, rfl, rfl, other, rfl⟩, rfl, n, id, rfl, rfl, ?_⟩
    rw [State.record_view known, here, unbound, place]
  · exact s.fits_still 1

theorem State.fits_askDestage (s : State) (p : Port) (c : Nat) (n : Slot) (staging : toStorage n = none) :
    s.Fits 1 (s.askDestage p c n) := by
  unfold State.askDestage
  split
  · next id may =>
    split
    · unfold State.destageable at may
      split at may
      · next i filled =>
        split at may
        · next free =>
          cases may
          intro k small form agree
          obtain ⟨b, here⟩ := (agree.located n id).mp (show (s.slot n).reticle = some id by rw [filled]; rfl)
          have unbound : s.view.record id = some (.slot n, none) := by
            obtain ⟨r, known, seen⟩ := Option.map_eq_some_iff.mp (show (s.record id).map Rec.seen = _ from here)
            simp only [known, Option.any_some, Bool.and_eq_true, Option.isNone_iff_eq_none] at free
            rw [State.record_view known, free.2]
            exact congrArg (fun y : Location × Option Seq => some (y.1, none)) seen
          exact s.fits_offerInwardSlot _ (fun _ _ => State.entered_destage_shaped ..)
            ⟨fun _ _ _ => ⟨n, rfl, staging, rfl⟩, rfl, n, id, rfl, rfl, unbound⟩ k small form agree
        · cases may
      · cases may
    · exact s.fits_still 1
  · exact s.fits_still 1

theorem State.fits_askPrestages (s : State) (p : Port) : s.Fits 2 (s.askPrestages p) := by
  unfold State.askPrestages
  split
  · exact s.fits_still 2
  · next a _ => exact (s.fits_served (fun t => t.askPrestage p a 0) (s.fits_askPrestage p a 0)).mono (by omega)
  · next a b _ _ =>
    exact (s.fits_served (fun t => t.askPrestage p a 0) (s.fits_askPrestage p a 0)).trans
      (State.fits_served _ (fun t => t.askPrestage p b 1) (State.fits_askPrestage _ p b 1))

theorem State.fits_reevaluate (s : State) (p : Port) : s.Fits 4 (s.reevaluate p) := by
  unfold State.reevaluate
  split
  · have reviewed := s.fits_served (fun t => t.review p) (s.fits_review p)
    have destaged (t : State) (c : Nat) (j : Fin 2) : t.Fits 1 (t.served (fun t => t.askDestage p c (stagingSlot p j))) :=
      t.fits_served _ (t.fits_askDestage p c _ (toStorage_stagingSlot p j))
    exact ((reviewed.trans (State.fits_askPrestages _ p)).trans (destaged _ _ _)).trans (destaged _ _ _)
  · exact s.fits_still 4

theorem State.fits_choices (s : State) (n : Nat) : s.Fits 0 { s with choices := n } := (s.same_choices n).fits rfl

theorem State.fits_reevaluateAll (fuel : Nat) (ps : List Port) (s : State) : s.Fits (4 * fuel) (reevaluateAll fuel ps s) := by
  induction fuel generalizing ps s with
  | zero => exact .refl s
  | succ n ih =>
    cases ps with
    | nil => exact s.fits_still _
    | cons p ps =>
      have first := s.fits_reevaluate p
      unfold reevaluateAll
      dsimp only
      split
      · exact (first.trans (ih _ _)).mono (by omega)
      · obtain ⟨k, e⟩ := freeOrder_state (s := s.reevaluate p) (ps ++ allPorts.filter (fun q =>
          !ps.contains q && windowFollows s (s.reevaluate p) p q))
        rw [e]
        exact ((first.trans (State.fits_choices _ k)).trans (ih _ _)).mono (by omega)

theorem State.fits_settle (b a : State) (x : Touch) : b.Fits 192 (b.settle a x) := by
  unfold State.settle State.forecastStep
  obtain ⟨n, e⟩ := freeOrder_state (s := b.serve a x) (allPorts.filter (windowEvent a (b.serve a x) x))
  dsimp only
  rw [e]
  exact (((b.fits_serve a x).trans (State.fits_choices _ n)).trans
    (State.fits_reevaluateAll reevaluationBound _ _)).mono (by decide)

end Sys2Proof.Machine
end

section
/-! PROOFS. The agreement (O10) of states: takes, lapses, returns and placements at the tool nests. -/

namespace Sys2Proof.Machine

open Sys2Proof

variable {v w : View} {m x : Move} {id : Ident} {p : Port} {n : Slot} {q : Seq} {l : Location} {s t u : State} {i j k : Nat}

/-! ## Withdrawals on the view -/

/-- Moves out of the queue one after the other. -/
def View.drops (v : View) (ms : List Move) : View := ms.foldl (fun v m => v.drop m.seq) v

theorem State.view_withdrawWhere (s : State) (f : Move → Bool) (r : Option Reason) :
    (s.withdrawWhere f r).view = s.view.drops (s.queue.filter fun m => m.isWaiting && f m) := by
  unfold State.withdrawWhere
  generalize s.queue.filter _ = ms
  induction ms generalizing s with
  | nil => rfl
  | cons m ms ih => rw [List.foldl_cons, ih, s.view_withdraw]; rfl

theorem View.drops_setPort (v : View) (p : Port) (y : ToolNest) (b : Bool) (ms : List Move) :
    ((v.setNest p y).setWaits p b).drops ms = ((v.drops ms).setNest p y).setWaits p b := by
  induction ms generalizing v with
  | nil => rfl
  | cons m ms ih => exact ih (v.drop m.seq)

theorem View.drops_still (v : View) (ms : List Move) : (v.drops ms).slot = v.slot ∧ (v.drops ms).exec = v.exec
    ∧ (v.drops ms).busy = v.busy ∧ (v.drops ms).nest = v.nest ∧ (v.drops ms).waits = v.waits ∧ (v.drops ms).inn = v.inn := by
  induction ms generalizing v with
  | nil => exact ⟨rfl, rfl, rfl, rfl, rfl, rfl⟩
  | cons m ms ih => exact ih (v.drop m.seq)

theorem View.drops_place {b : Option Seq} (h : v.record id = some (l, b)) (ms : List Move) :
    ∃ b', (v.drops ms).record id = some (l, b') := by
  induction ms generalizing v b with
  | nil => exact ⟨b, h⟩
  | cons m ms ih => exact ih (v := v.drop m.seq) (b := if b = some m.seq then none else b) (by simp [View.drop, h, unbind])

/-! ## Records on nests -/

theorem State.recordAt_mem {r : Rec} (h : s.recordAt l = some r) : r ∈ s.catalogue ∧ r.location = l :=
  ⟨List.mem_of_find?_eq_some h, of_decide_eq_true (List.find?_some (p := fun r : Rec => decide (r.location = l)) h)⟩

theorem State.recordAt_view (sound : s.CatalogueSound) {r : Rec} (h : s.recordAt l = some r) :
    s.view.record r.id = some (l, r.binding) := by
  obtain ⟨here, location⟩ := State.recordAt_mem h
  rw [State.record_view (sound.record_of_mem here), location]

theorem State.locatedAt_view (h : s.locatedAt id l = true) : ∃ b, s.view.record id = some (l, b) := by
  unfold State.locatedAt at h
  cases known : s.record id with
  | none => simp [known] at h
  | some r => exact ⟨r.binding, by rw [State.record_view known]; simp_all⟩

theorem State.view_clearNest (s : State) (p : Port) : (s.clearNest p).view = (s.view.setNest p .empty).setWaits p false :=
  s.view_updPort p _

/-! ## Lapses (R63, R64) -/

theorem State.agree_lapseReclaim (sound : s.CatalogueSound) (form : s.QueueForm k) (agree : s.view.Agree)
    (nest : s.toolNest p = .outWait) : ((s.lapseNest p).reclaimNest p).view.Agree := by
  unfold State.reclaimNest
  cases here : (s.lapseNest p).onNest p with
  | none =>
    dsimp only
    rw [State.view_lapseNest]
    exact agree.setNest_free (.inr (.inl nest))
  | some r =>
    obtain ⟨hold, view⟩ := (s.lapseNest p).view_offerInward (reclaimOffer p r.id)
    dsimp only
    rw [view, State.view_lapseNest]
    exact agree.lapse_reclaim form.view nest (State.recordAt_view (s := s) sound here) rfl rfl rfl rfl rfl form.fresh

theorem State.grows_lapseReclaim (s : State) (p : Port) : s.Grows 1 ((s.lapseNest p).reclaimNest p) :=
  ((s.same_updPort p _).grows.trans (State.grows_reclaimNest _ p)).mono (by omega)

theorem State.fits_lapseReclaim (sound : s.CatalogueSound) (nest : s.toolNest p = .outWait) :
    s.Fits 1 ((s.lapseNest p).reclaimNest p) :=
  (s.grows_lapseReclaim p).fits fun _ form agree => State.agree_lapseReclaim sound form agree nest

theorem State.fits_lapse (sound : s.CatalogueSound) (nest : s.toolNest p = .outWait) : s.Fits 1 (s.lapse p) := by
  have raised (t : State) (k : NoticeKind) (d : Detail) : t.Fits 0 (t.raise k d) := (t.same_raise k d).fits (t.view_raise k d)
  have told (t : State) (f : OutFrame) : t.Fits 0 (t.sendTool p f) := (t.same_sendTool p f).fits (t.view_sendTool p f)
  have lapsed := State.fits_lapseReclaim sound nest
  unfold State.lapse
  dsimp only
  split
  · exact (lapsed.trans (told _ _)).trans (raised _ _ _)
  · exact lapsed.trans (raised _ _ _)

theorem State.fits_lapseQuietly (sound : s.CatalogueSound) (p : Port) : s.Fits 1 (s.lapseQuietly p) := by
  unfold State.lapseQuietly
  split
  · next nest => exact State.fits_lapseReclaim sound nest
  · exact s.fits_still 1

/-! ## The stand-down of a port (R51, R53, R54) -/

theorem State.fits_emptyLists (s : State) (p : Port) : s.Fits 0 (s.emptyLists p) :=
  (s.same_updAhead p CallAhead.emptied).fits rfl

theorem State.fits_dropToolWork (s : State) (p : Port) : s.Fits 0 (s.dropToolWork p) := s.fits_withdrawWhere _ _

theorem State.fits_markStandDown (s : State) (p : Port) : s.Fits 0 (s.markStandDown p) :=
  (s.grows_markStandDown p).fits fun _ _ agree => agree.mapQueue (f := fun m =>
      if m.kind = .deliver ∧ m.beneficiary = some p ∧ m.state = .executing then { m with standDown := true } else m) fun m _ => by
    split
    · exact ⟨rfl, rfl, rfl, rfl, rfl, rfl, rfl, rfl⟩
    · exact ⟨rfl, rfl, rfl, rfl, rfl, rfl, rfl, rfl⟩

theorem State.CatalogueSound.of_ids (sound : s.CatalogueSound) (ids : t.catalogue.map (·.id) = s.catalogue.map (·.id)) :
    t.CatalogueSound := by
  have length : t.catalogue.length = s.catalogue.length := by simpa using congrArg List.length ids
  simp only [State.CatalogueSound, ids, length]
  exact sound

theorem State.dropMove_ids (s : State) (q : Seq) : (s.dropMove q).catalogue.map (·.id) = s.catalogue.map (·.id) := by
  change (s.catalogue.map fun r : Rec => if r.binding = some q then { r with binding := none } else r).map (·.id) = _
  rw [List.map_map]
  exact List.map_congr_left fun r _ => by dsimp only [Function.comp]; split <;> rfl

theorem State.withdraw_ids (s : State) (m : Move) (r : Option Reason) : (s.withdraw m r).catalogue.map (·.id) = s.catalogue.map (·.id) := by
  obtain ⟨tx, e⟩ := State.withdraw_eq s m r
  rw [e]
  split
  · exact s.dropMove_ids m.seq
  · exact s.dropMove_ids m.seq

theorem State.withdrawWhere_ids (s : State) (f : Move → Bool) (r : Option Reason) :
    (s.withdrawWhere f r).catalogue.map (·.id) = s.catalogue.map (·.id) :=
  s.withdrawWhere_ind (fun t => t.catalogue.map (·.id) = s.catalogue.map (·.id)) f r
    (fun t m _ _ _ h => (t.withdraw_ids m r).trans h) rfl

theorem State.fits_standDown (sound : s.CatalogueSound) (p : Port) : s.Fits 1 (s.standDown p) := by
  have quiet : (((s.dropToolWork p).emptyLists p).markStandDown p).CatalogueSound :=
    sound.of_ids (s.withdrawWhere_ids (fun m => (m.kind = .deliver || m.kind = .prestage) && m.beneficiary = some p) none)
  exact (((s.fits_dropToolWork p).trans (State.fits_emptyLists _ p)).trans (State.fits_markStandDown _ p)).trans
    (State.fits_lapseQuietly quiet p) |>.mono (by omega)

/-! ## Takes (R59, R61, R62) -/

theorem State.fits_takeCompletes (sound : s.CatalogueSound) (nest : s.toolNest p = .outWait) : s.Fits 6 (s.takeCompletes p) := by
  unfold State.takeCompletes
  split
  · next r here =>
    have cleared := (s.same_updPort p (fun r => { r with nest := .empty, window := none, lapseDeferred := false })).grows
    have taken : s.Grows 0 ((s.clearNest p).updRecord r.id
        (fun x => { x with location := .tool p, deliveries := satAdd x.deliveries 1 })) :=
      cleared.trans (State.same_updRecord (s.clearNest p) r.id (f := fun x => { x with
        location := .tool p, deliveries := satAdd x.deliveries 1 }) fun _ => rfl).grows
    refine ((taken.fits fun _ form agree => ?_).trans (State.fits_dueCheck _ _)).mono (by omega)
    rw [State.view_updRecord (s.clearNest p) r.id (f := fun x => { x with location := .tool p, deliveries := satAdd x.deliveries 1 })
      (g := fun x => (.tool p, x.2)) (fun _ => rfl) (fun _ => rfl), State.view_clearNest]
    have seen := State.recordAt_view sound here
    have unbound : r.binding = none := agree.unbound_on_nest form.view (p := p) (by simp [State.view, nest]) (by simp [State.view, nest])
      (by simp [State.view, nest]) seen
    refine (agree.setNest_free (.inr (.inl nest))).locate (fun l b at_l => ?_) nofun nofun
    rw [show (((s.view.setNest p .empty).setWaits p false).record r.id) = s.view.record r.id from rfl, seen] at at_l
    cases at_l
    exact ⟨unbound, nofun⟩
  · refine ((s.same_updPort p _).grows.fits fun _ form agree => ?_).mono (j := 6) (by omega)
    rw [show (s.updPort p (fun r => { r with nest := .empty, window := none, lapseDeferred := false })).view
      = (s.view.setNest p .empty).setWaits p false from s.view_clearNest p]
    exact agree.setNest_free (.inr (.inl nest))

/-- With its RECLAIMs withdrawn nothing waits at an OUT_WAIT or OUT_LAPSED nest. -/
theorem State.unclaimed (agree : s.view.Agree) (nest : s.toolNest p = .outWait ∨ s.toolNest p = .outLapsed) :
    ∀ m ∈ (s.withdrawWhere (fun m => m.kind = .reclaim && m.source = .nest (.t p)) none).view.queue, m.isWaiting = true →
      m.source ≠ .nest (.t p) := fun m hm waits source => by
  have spared := State.withdrawWhere_waiting hm (m.isWaiting_iff.mp waits)
  have here := ((s.mem_withdrawWhere _ _ m).mp hm).1
  rcases agree.nests m here waits p source with ⟨kind, _⟩ | ⟨_, returned, _⟩
  · simp [kind, source] at spared
  · rcases nest with e | e <;> exact absurd (e.symm.trans returned) nofun

theorem State.fits_unsanctionedTake (sound : s.CatalogueSound) (nest : s.toolNest p = .outWait ∨ s.toolNest p = .outLapsed) :
    s.Fits 0 (s.unsanctionedTake p) := by
  refine fun k small form agree => ⟨s.grows_unsanctionedTake p k small form, ?_⟩
  obtain ⟨form', agree'⟩ := s.fits_withdrawWhere (fun m => m.kind = .reclaim && m.source = .nest (.t p)) none k small form agree
  have form' := form'.view
  have unclaimed := State.unclaimed agree nest
  obtain ⟨_, _, _, nests, _⟩ := s.view.drops_still (s.queue.filter fun m => m.isWaiting && (m.kind = .reclaim && m.source = .nest (.t p)))
  have cleared : ((s.clearNest p).withdrawWhere (fun m => m.kind = .reclaim && m.source = .nest (.t p)) none).view
      = (((s.withdrawWhere (fun m => m.kind = .reclaim && m.source = .nest (.t p)) none).view).setNest p .empty).setWaits p false := by
    rw [State.view_withdrawWhere, State.view_clearNest, s.view_withdrawWhere]
    exact View.drops_setPort ..
  have place (r : Rec) (here : s.onNest p = some r) : ∃ b,
      (s.withdrawWhere (fun m => m.kind = .reclaim && m.source = .nest (.t p)) none).view.record r.id = some (.nest (.t p), b) := by
    rw [s.view_withdrawWhere]
    exact View.drops_place (State.recordAt_view sound here) _
  rw [← s.view_withdrawWhere _ none] at nests
  generalize (s.withdrawWhere (fun m => m.kind = .reclaim && m.source = .nest (.t p)) none).view = v at *
  have still : v.nest p ≠ .outbound ∧ v.nest p ≠ .inbound := by
    rw [nests]
    rcases nest with e | e <;> exact ⟨by simp [State.view, e], by simp [State.view, e]⟩
  have free : ((v.setNest p .empty).setWaits p false).Agree := agree'.setPort (.inr ⟨.inr (.inr still), unclaimed⟩) nofun
  unfold State.unsanctionedTake
  dsimp only
  split
  · next r here =>
    obtain ⟨b, seen⟩ := place r here
    have unbound : b = none := agree'.unbound_unwaited form' still.1 unclaimed (.inl seen)
    refine (congrArg View.Agree (State.view_raise _ _ _)).mpr ?_
    rw [State.view_updRecord _ r.id (f := fun x => { x with location := .tool p, condition := .quarantine })
      (g := fun x => (.tool p, x.2)) (fun _ => rfl) (fun _ => rfl), cleared]
    refine free.locate (fun l b' at_l => ?_) nofun nofun
    rw [show (((v.setNest p .empty).setWaits p false).record r.id) = v.record r.id from rfl, seen] at at_l
    cases at_l
    exact ⟨unbound, nofun⟩
  · refine (congrArg View.Agree (State.view_raise _ _ _)).mpr ?_
    rw [cleared]
    exact free

end Sys2Proof.Machine
end

section
/-! PROOFS. The agreement (O10) of states: returns, arrivals and occupied nests. -/

namespace Sys2Proof.Machine

open Sys2Proof

variable {v w : View} {m x : Move} {id : Ident} {p : Port} {n : Slot} {q : Seq} {l : Location} {s t u : State} {i j k : Nat}

/-! ## Arrivals at BI and IN -/

/-- An admission inwards of a move that names no record and comes from no tool nest. -/
theorem State.agree_offerInward (s : State) (o : Offer) (form : s.QueueForm k) (agree : s.view.Agree) (unnamed : o.reticle = none)
    (test : o.pickTest ≠ .named) (routed : ∀ h, (s.entered o false h).Routed) (source : ∀ p, o.source ≠ .nest (.t p))
    (inn : o.kind = .reshelve → s.inn = .arrived ∧ ∀ x ∈ s.queue, x.kind ≠ .reshelve) : (s.offerInward o).view.Agree := by
  obtain ⟨hold, view⟩ := s.view_offerInward o
  rw [view]
  refine agree.enter form.view form.fresh rfl ⟨?_, routed hold⟩ (fun id named => ?_) (fun p from_p => absurd from_p (source p)) inn
  · rw [show (s.entered o false hold).reticle = none from unnamed]
    exact ⟨nofun, fun named => absurd named test⟩
  · rw [show (s.entered o false hold).reticle = none from unnamed] at named
    cases named

theorem State.fits_stockInArrives (s : State) : s.Fits 1 s.stockInArrives := by
  unfold State.stockInArrives
  split
  · exact s.fits_still 1
  · exact (s.grows_offerInward _ fun _ _ => State.entered_stockIn_shaped ..).fits fun _ form agree =>
      s.agree_offerInward stockInOffer form agree rfl nofun (fun _ => rfl) nofun nofun

/-- No RESHELVE is in the queue when none waits and none is EXECUTING. -/
theorem State.reshelve_free (waiting : ∀ m ∈ s.queue, m.isWaiting = true → m.kind ≠ .reshelve) (test : ¬ s.executing .reshelve = true) :
    ∀ m ∈ s.queue, m.kind ≠ .reshelve := fun m hm kind => by
  by_cases waits : m.isWaiting = true
  · exact waiting m hm waits kind
  · have run := m.isWaiting_false.mp (Bool.eq_false_iff.mpr waits)
    refine test (List.any_eq_true.mpr ⟨m, hm, ?_⟩)
    simp [kind, run]

theorem State.fits_reshelveArrives (arrived : s.inn = .arrived) (waiting : ∀ m ∈ s.queue, m.isWaiting = true → m.kind ≠ .reshelve) :
    s.Fits 1 s.reshelveArrives := by
  unfold State.reshelveArrives
  split
  · exact s.fits_still 1
  · next idle =>
    exact (s.grows_offerInward _ fun _ _ => State.entered_reshelve_shaped ..).fits fun _ form agree =>
      s.agree_offerInward reshelveOffer form agree rfl nofun (fun _ => rfl) nofun fun _ => ⟨arrived, State.reshelve_free waiting idle⟩

/-- The admission deferred by the end of a move of its kind, of which none is left (R98, R110). -/
theorem State.fits_deferredAdmission (s : State) (k : MoveKind) (free : k = .reshelve → ∀ m ∈ s.queue, m.kind ≠ .reshelve) :
    s.Fits 1 (s.deferredAdmission k) := by
  unfold State.deferredAdmission
  split
  · split
    · exact s.fits_stockInArrives
    · exact s.fits_still 1
  · split
    · next arrived => exact State.fits_reshelveArrives arrived fun m hm _ => free rfl m hm
    · exact s.fits_still 1
  · exact s.fits_still 1

/-! ## Returns (R66 to R68) -/

theorem State.view_stopWait (s : State) (p : Port) {f : PortRec → PortRec} (nest : (f (s.port p)).nest = (s.port p).nest)
    (window : (f (s.port p)).window = none) : (s.updPort p f).view = s.view.setWaits p false := by
  rw [s.view_updPort, nest, window]
  exact congrArg (fun v => View.setWaits v p false) (s.view.setNest_self p)

/-- At a RETURNED nest at which nothing waits a return is completed for a record at the tool. -/
theorem State.fits_completeReturn (id : Ident) (c : Nat) (nest : s.toolNest p = .returned)
    (free : ∀ m ∈ s.queue, m.isWaiting = true → m.source ≠ .nest (.t p)) (here : s.locatedAt id (.tool p) = true) :
    s.Fits 7 (s.completeReturn p id c) := by
  have offered : s.Grows 1 ((s.updPort p fun r => { r with pendingReturn := none, window := none }).offerInward (collectOffer p (some id))) :=
    ((s.same_updPort p _).grows.trans (State.grows_offerInward _ _ fun _ _ => State.entered_collect_shaped ..)).mono (by omega)
  refine ((offered.fits fun _ form agree => ?_).trans (State.fits_addLots _ id c)).mono (by omega)
  obtain ⟨hold, view⟩ := (s.updPort p fun r => { r with pendingReturn := none, window := none }).view_offerInward (collectOffer p (some id))
  rw [view, s.view_stopWait p rfl rfl]
  obtain ⟨b, seen⟩ := State.locatedAt_view here
  have unbound : b = none := agree.unbound_unwaited form.view (p := p) (by simp [State.view, nest]) free (.inr seen)
  subst unbound
  have quiet : (s.view.setWaits p false).Agree := by
    have := agree.setPort (p := p) (b := false) (y := s.view.nest p) (.inl rfl) nofun
    rwa [View.setNest_self] at this
  have form' : (s.view.setWaits p false).Form :=
    ⟨form.distinct, form.shaped, form.executing, form.named, form.cause, form.free⟩
  refine quiet.collect (p := p) form' nest (by simp [View.setWaits]) free (fun i named => ?_) rfl rfl ⟨fun _ => rfl, fun _ => rfl⟩ rfl
    form.fresh
  cases named
  exact .inl seen

theorem State.view_startWait (s : State) (p : Port) : (s.startWindow p .returnWait).view = s.view.setWaits p true := by
  unfold State.startWindow
  rw [s.view_updPort]
  exact congrArg (fun v => View.setWaits v p true) (s.view.setNest_self p)

/-- What a tool nest needs to be written: no move in execution is at it, and nothing waits there. -/
structure State.Vacant (s : State) (p : Port) : Prop where
  still : s.view.exec = none ∨ s.view.Homeward ∨ (s.view.nest p ≠ .outbound ∧ s.view.nest p ≠ .inbound)
  free : ∀ m ∈ s.queue, m.isWaiting = true → m.source ≠ .nest (.t p)
  quiet : s.view.waits p = false

theorem State.fits_enterReturned (vacant : s.Vacant p) : s.Fits 7 (s.enterReturned p) := by
  obtain ⟨still, free, quiet⟩ := vacant
  have view : (s.updPort p fun r => { r with nest := .returned, lateOpen := false }).view = (s.view.setNest p .returned).setWaits p false := by
    rw [s.view_updPort]
    exact congrArg (View.setWaits _ p) quiet
  have entered : s.Fits 0 (s.updPort p fun r => { r with nest := .returned, lateOpen := false }) :=
    (s.same_updPort p _).grows.fits fun _ _ agree => by
      rw [view]
      exact agree.setPort (.inr ⟨still, free⟩) nofun
  have waits {a : State} (same : a.view = (s.updPort p fun r => { r with nest := .returned, lateOpen := false }).view) :
      a.Fits 0 (a.startWindow p .returnWait) := by
    have started : a.Grows 0 (a.startWindow p .returnWait) := (a.same_updPort p _).grows
    exact started.fits fun _ _ agree => by
      rw [a.view_startWait p]
      have := agree.setPort (p := p) (b := true) (y := a.view.nest p) (.inl rfl) fun _ => ⟨?_, ?_⟩
      · rwa [View.setNest_self] at this
      · rw [same, view]
        simp [View.setNest, View.setWaits]
      · rw [same]
        exact free
  unfold State.enterReturned
  dsimp only
  split
  · next y _ =>
    split
    · next here =>
      refine (entered.trans (State.fits_completeReturn y.id y.lots ?_ free here)).mono (by omega)
      unfold State.toolNest
      rw [State.port_updPort_same]
    · have cleared : State.Fits 0 (s.updPort p fun r => { r with nest := .returned, lateOpen := false })
          ((s.updPort p fun r => { r with nest := .returned, lateOpen := false }).updPort p fun r => { r with pendingReturn := none }) :=
        (State.same_updPort _ p _).fits (State.view_updPort_same _ p rfl rfl)
      exact ((entered.trans cleared).trans (waits (State.view_updPort_same _ p rfl rfl))).mono (by omega)
  · exact (entered.trans (waits rfl)).mono (by omega)

end Sys2Proof.Machine
end

section
/-! PROOFS. The agreement (O10) of states: a nest found occupied, whose pod goes back to its slot. The nest is decided before the
putback begins; on the view it comes to the same after it. -/

namespace Sys2Proof.Machine

open Sys2Proof

variable {v w : View} {m x : Move} {id : Ident} {p : Port} {n : Slot} {q : Seq} {l : Location} {s t u : State} {i j k : Nat}

/-! ## States that differ in slots, handler interface and what is sent -/

/-- `t` is `s` but for the slots, the handler interface, the notices and what the transmitters hold. -/
def State.Twin (s t : State) : Prop :=
  ∃ c h m v tx, t = { s with slots := c, handler := h, materialNotices := m, serviceNotices := v, tx := tx }

theorem State.Twin.refl (s : State) : s.Twin s := ⟨_, _, _, _, _, rfl⟩

theorem State.Twin.updPort (h : s.Twin t) (p : Port) (f : PortRec → PortRec) : (s.updPort p f).Twin (t.updPort p f) := by
  obtain ⟨c, h, m, v, tx, rfl⟩ := h
  exact ⟨c, h, m, v, tx, rfl⟩

theorem State.Twin.raise (h : s.Twin t) (a : NoticeKind) (d e : Detail) : (s.raise a d).Twin (t.raise a e) := by
  obtain ⟨c, h, m, v, tx, rfl⟩ := h
  obtain ⟨m', v', tx', left⟩ := s.raise_eq a d
  obtain ⟨m'', v'', tx'', right⟩ := State.raise_eq
    (s := { s with slots := c, handler := h, materialNotices := m, serviceNotices := v, tx := tx }) a e
  rw [left, right]
  exact ⟨c, h, m'', v'', tx'', rfl⟩

theorem State.Twin.sendTool (h : s.Twin t) (p : Port) (f : OutFrame) : (s.sendTool p f).Twin (t.sendTool p f) := by
  obtain ⟨c, h, m, v, tx, rfl⟩ := h
  obtain ⟨tx', left⟩ := State.sendTool_eq (s := s) p f
  obtain ⟨tx'', right⟩ := State.sendTool_eq
    (s := { s with slots := c, handler := h, materialNotices := m, serviceNotices := v, tx := tx }) p f
  rw [left, right]
  exact ⟨c, h, m, v, tx'', rfl⟩

theorem State.Twin.updRecord (h : s.Twin t) (id : Ident) (f : Rec → Rec) : (s.updRecord id f).Twin (t.updRecord id f) := by
  obtain ⟨c, h, m, v, tx, rfl⟩ := h
  exact ⟨c, h, m, v, tx, rfl⟩

theorem State.Twin.enter (h : s.Twin t) (o : Offer) (d e : Bool) : (s.enter o d e).Twin (t.enter o d e) := by
  obtain ⟨c, h, m, v, tx, rfl⟩ := h
  unfold State.enter
  cases o.reticle with
  | some id => exact ⟨c, h, m, v, tx, rfl⟩
  | none => exact ⟨c, h, m, v, tx, rfl⟩

theorem State.Twin.offerInward (h : s.Twin t) (o : Offer) : (s.offerInward o).Twin (t.offerInward o) := by
  have same : t.deciding o = s.deciding o ∧ t.intercepts = s.intercepts := by
    obtain ⟨c, h, m, v, tx, rfl⟩ := h
    exact ⟨rfl, rfl⟩
  unfold State.offerInward
  rw [same.1, same.2]
  cases s.deciding o with
  | none => exact h.enter o _ _
  | some n =>
    refine State.Twin.enter ?_ o _ _
    unfold State.countHit
    dsimp only
    rw [same.2]
    refine State.Twin.raise ?_ _ _ _
    obtain ⟨c, h, m, v, tx, rfl⟩ := h
    exact ⟨c, h, m, v, tx, rfl⟩

theorem State.Twin.reclaimIfUnfit (h : s.Twin t) (id : Ident) : (s.reclaimIfUnfit id).Twin (t.reclaimIfUnfit id) := by
  have same : t.record id = s.record id ∧ t.toolNest = s.toolNest := by
    obtain ⟨c, h, m, v, tx, rfl⟩ := h
    exact ⟨rfl, rfl⟩
  unfold State.reclaimIfUnfit
  rw [same.1, same.2]
  split
  · split
    · split
      · exact ((h.updPort _ _).offerInward _).sendTool _ _
      · exact h
    · exact h
  · exact h

theorem State.Twin.makeDue (h : s.Twin t) (id : Ident) : (s.makeDue id).Twin (t.makeDue id) := (h.updRecord id _).reclaimIfUnfit id

theorem State.Twin.makeDueAll (h : s.Twin t) (rs : List Rec) :
    (rs.foldl (fun t r => t.makeDue r.id) s).Twin (rs.foldl (fun t r => t.makeDue r.id) t) := by
  induction rs generalizing s t with
  | nil => exact h
  | cons r rs ih => exact ih (h.makeDue r.id)

theorem State.Twin.dueCheck (h : s.Twin t) (f : Rec → Bool) : (s.dueCheck f).Twin (t.dueCheck f) := by
  have same : t.newlyDue f = s.newlyDue f := by
    obtain ⟨c, h, m, v, tx, rfl⟩ := h
    rfl
  unfold State.dueCheck
  rw [same]
  split
  · exact h
  · exact (h.makeDue _).raise _ _ _
  · exact (h.makeDueAll _).raise _ _ _

theorem State.Twin.addLots (h : s.Twin t) (id : Ident) (n : Nat) : (s.addLots id n).Twin (t.addLots id n) :=
  (h.updRecord id _).dueCheck _

theorem State.Twin.completeReturn (h : s.Twin t) (p : Port) (id : Ident) (n : Nat) :
    (s.completeReturn p id n).Twin (t.completeReturn p id n) := ((h.updPort p _).offerInward _).addLots id n

theorem State.Twin.enterReturned (h : s.Twin t) (p : Port) : (s.enterReturned p).Twin (t.enterReturned p) := by
  have same : t.port p = s.port p ∧ ∀ id l, t.locatedAt id l = s.locatedAt id l := by
    obtain ⟨c, h, m, v, tx, rfl⟩ := h
    exact ⟨rfl, fun _ _ => rfl⟩
  unfold State.enterReturned
  dsimp only
  rw [same.1]
  split
  · rw [same.2]
    split
    · exact (h.updPort p _).completeReturn p _ _
    · exact ((h.updPort p _).updPort p _).updPort p _
  · exact (h.updPort p _).updPort p _

theorem State.Twin.reshelveArrives (h : s.Twin t) : s.reshelveArrives.Twin t.reshelveArrives := by
  have same : t.executing .reshelve = s.executing .reshelve := by
    obtain ⟨c, h, m, v, tx, rfl⟩ := h
    rfl
  unfold State.reshelveArrives
  rw [same]
  split
  · exact h
  · exact h.offerInward _

theorem State.Twin.nestOccupied (h : s.Twin t) (y : Nest) : (s.nestOccupied y).Twin (t.nestOccupied y) := by
  have same : (t.pins.presBo = s.pins.presBo ∧ t.pins.presIn = s.pins.presIn) ∧ ∀ p, t.presT p = s.presT p ∧ t.tbusy p = s.tbusy p := by
    obtain ⟨c, h, m, v, tx, rfl⟩ := h
    exact ⟨⟨rfl, rfl⟩, fun _ => ⟨rfl, rfl⟩⟩
  have bo (b : BoNest) : State.Twin { s with bo := b } { t with bo := b } := by
    obtain ⟨c, h, m, v, tx, rfl⟩ := h
    exact ⟨c, h, m, v, tx, rfl⟩
  have inn (b : InNest) : State.Twin { s with inn := b } { t with inn := b } := by
    obtain ⟨c, h, m, v, tx, rfl⟩ := h
    exact ⟨c, h, m, v, tx, rfl⟩
  cases y with
  | t p =>
    unfold State.nestOccupied
    dsimp only
    rw [(same.2 p).1, (same.2 p).2]
    split
    · exact h.enterReturned p
    · exact h.updPort p _
  | bo =>
    unfold State.nestOccupied
    dsimp only
    rw [same.1.1]
    split
    · exact (bo .blocked).raise _ _ _
    · exact bo .empty
  | inn =>
    unfold State.nestOccupied
    dsimp only
    rw [same.1.2]
    split
    · exact (inn .arrived).reshelveArrives
    · exact inn .empty
  | bi => exact h

theorem State.Twin.view (h : s.Twin t) :
    t.view = { s.view with slot := t.slot, exec := t.handler.exec, busy := t.handler.state } := by
  obtain ⟨c, h, m, v, tx, rfl⟩ := h
  rfl

/-! ## The nest of an occupied target -/

/-- The nest is decided with the pod on its way back (R157). -/
theorem State.fits_nestOccupied (y : Nest) (home : s.view.Homeward) (tool : ∀ p, y = .t p → s.toolNest p = .inbound)
    (inn : y = .inn → s.inn = .inbound) : s.Fits 7 (s.nestOccupied y) := by
  intro k small form agree
  have vacant (p : Port) (at_p : y = .t p) : s.Vacant p := by
    have inbound := tool p at_p
    refine ⟨.inr (.inl home), agree.unwaited (p := p) (by simp [State.view, inbound]) (by simp [State.view, inbound]), ?_⟩
    refine Bool.eq_false_iff.mpr fun runs => ?_
    exact absurd ((agree.window p runs).symm.trans inbound) nofun
  have still (z : InNest) (at_inn : y = .inn) : s.Fits 0 { s with inn := z } := by
    have same : s.Same { s with inn := z } := .of_catalogue rfl rfl rfl rfl
    refine same.grows.fits fun _ _ agree => ?_
    exact agree.setInn (.inr (.inl home)) (.inr (agree.no_reshelve (by simp [State.view, inn at_inn])))
  refine State.Fits.mono (i := 7) ?_ (by omega) k small form agree
  cases y with
  | t p =>
    obtain ⟨still, free, quiet⟩ := vacant p rfl
    unfold State.nestOccupied
    dsimp only
    split
    · exact State.fits_enterReturned ⟨still, free, quiet⟩
    · have emptied : s.Grows 0 (s.setToolNest p .empty) := (s.same_updPort p _).grows
      refine (emptied.fits fun _ _ agree => ?_).mono (by omega)
      rw [s.view_setToolNest]
      have := agree.setPort (p := p) (y := .empty) (b := false) (.inr ⟨still, free⟩) nofun
      rw [← quiet] at this
      rwa [show (s.view.setNest p .empty).setWaits p (s.view.waits p) = s.view.setNest p .empty from
        (s.view.setNest p .empty).setWaits_self p] at this
  | bo =>
    unfold State.nestOccupied
    dsimp only
    split
    · refine ((s.same_nestBlocks .bo none).fits ?_).mono (by omega)
      exact State.view_raise _ _ _
    · have same : s.Same { s with bo := .empty } := .of_catalogue rfl rfl rfl rfl
      exact (same.fits rfl).mono (by omega)
  | inn =>
    unfold State.nestOccupied
    dsimp only
    split
    · exact ((still .arrived rfl).trans (State.fits_reshelveArrives rfl
        (agree.no_reshelve (by simp [State.view, inn rfl])))).mono (by omega)
    · exact (still .empty rfl).mono (by omega)
  | bi => exact s.fits_still 7

/-! ## The putback -/

/-- The pod of a move goes back to its source for a cause. -/
def View.putBack (v : View) (m : Move) (c : PutbackCause) : View where
  slot n := if m.source = .slot n then .inbound m.reticle m.seq else v.slot n
  record := v.record
  queue := v.queue
  exec := v.exec.map fun e => { e with phase := some .putback, cause := some c }
  busy := Phase.putback.handlerState
  nest := v.nest
  waits := v.waits
  inn := v.inn

theorem State.view_sendPlace (s : State) (x : Position) (ph : Phase) : (s.sendPlace x ph).view
    = { s.view with exec := s.view.exec.map fun e => { e with phase := some ph }, busy := ph.handlerState } := by
  unfold State.sendPlace
  rw [State.view_setPhase, State.view_order]

theorem State.view_setCause (s : State) (c : PutbackCause) :
    (s.setCause c).view = { s.view with exec := s.view.exec.map fun e => { e with cause := some c } } := s.view_updHandler _

theorem State.view_putBack (s : State) (m : Move) (c : PutbackCause) : (s.putBack m c).view = s.view.putBack m c := by
  have exec (e : Option ExecRecord) : (e.map fun e => { e with phase := some Phase.putback }).map (fun e => { e with cause := some c })
      = e.map fun e => { e with phase := some Phase.putback, cause := some c } := by cases e <;> rfl
  unfold State.putBack
  rw [State.view_setCause, State.view_sendPlace]
  dsimp only
  rw [exec]
  cases source : m.source with
  | slot k =>
    change View.mk _ _ _ _ _ _ _ _ = View.mk _ _ _ _ _ _ _ _
    congr 1
    · funext n
      change (s.setSlot k _).slot n = _
      rw [s.slot_setSlot]
      simp [source, eq_comm]
      rfl
  | nest y =>
    change View.mk _ _ _ _ _ _ _ _ = View.mk _ _ _ _ _ _ _ _
    congr 1
    · funext n
      simp [source]
      rfl
  | shelf y =>
    change View.mk _ _ _ _ _ _ _ _ = View.mk _ _ _ _ _ _ _ _
    congr 1
    · funext n
      simp [source]
      rfl

end Sys2Proof.Machine
end

section
/-! PROOFS. The agreement (O10) of states: the putback from an occupied target, the re-target, the halts. -/

namespace Sys2Proof.Machine

open Sys2Proof

variable {v w : View} {m x : Move} {id : Ident} {p : Port} {n : Slot} {q : Seq} {l : Location} {s t u : State} {i j k : Nat}

/-! ## The phase of the move in execution -/

theorem Phase.handlerState_inj {a b : Phase} (h : a.handlerState = b.handlerState) : a = b := by
  cases a <;> cases b <;> first | rfl | cases h

/-- What the phase of the move in execution finds. -/
theorem View.Agree.working (h : v.Agree) (hm : m ∈ v.queue) (runs : v.Runs m.seq) {ph : Phase}
    (phase : v.exec.bind (·.phase) = some ph) : v.Works m ph (v.exec.bind (·.cause)) := by
  obtain ⟨ph', phase', _, works⟩ := h.works m hm runs
  rw [phase] at phase'
  cases phase'
  exact works

/-- The handler interface in the state of a phase works in that phase. -/
theorem View.Agree.phase_of_busy (h : v.Agree) (hm : m ∈ v.queue) (runs : v.Runs m.seq) {ph : Phase}
    (busy : v.busy = ph.handlerState) : v.exec.bind (·.phase) = some ph := by
  obtain ⟨ph', phase, state, _⟩ := h.works m hm runs
  have same : ph = ph' := Phase.handlerState_inj (busy.symm.trans (state.resolve_right fun halted =>
    Phase.handlerState_ne_halted _ (busy.symm.trans halted)))
  rw [same]
  exact phase

theorem View.Form.map_self (form : v.Form) (hm : m ∈ v.queue) :
    (v.queue.map fun x => if x.seq = m.seq then { x with target := m.target } else x) = v.queue := by
  refine (List.map_congr_left fun x hx => ?_).trans v.queue.map_id
  split
  · next same => rw [form.eq_of_seq hx hm same]; rfl
  · rfl

/-! ## The putback from an occupied target (R157 to R159) -/

/-- A target slot found occupied is in FAULT. -/
def View.faultTarget (v : View) (m : Move) : View :=
  { v with slot := fun n => if m.target = .pos (.slot n) then .fault none else v.slot n }

/-- The move in execution, with its record in the gripper, goes back to its source. -/
theorem View.Agree.putBack (h : v.Agree) (form : v.Form) (hm : m ∈ v.queue) (runs : v.Runs m.seq)
    (phase : v.exec.bind (·.phase) = some .placing) {c : PutbackCause} (occupied : c ≠ .mismatch)
    (differ : ∀ n, m.source = .slot n → m.target ≠ .pos (.slot n)) : ((v.faultTarget m).putBack m c).Agree := by
  have works : v.Carried m ∧ v.TargetGranted m ∧ ∀ n, m.source = .slot n → (v.slot n).move = none := h.working hm runs phase
  obtain ⟨carried, granted, _⟩ := works
  have exec {α : Type} (f : ExecRecord → Option α) (g : ExecRecord → ExecRecord) :
      (v.exec.map g).bind f = v.exec.bind fun e => f (g e) := by cases v.exec <;> rfl
  have some_ : ∃ e, v.exec = some e := by
    obtain ⟨e, here, _⟩ := Option.bind_eq_some_iff.mp phase
    exact ⟨e, here⟩
  obtain ⟨e, here⟩ := some_
  have slot (n : Slot) : ((v.faultTarget m).putBack m c).slot n = if m.source = .slot n then .inbound m.reticle m.seq
      else if m.target = .pos (.slot n) then .fault none else v.slot n := rfl
  refine h.rewrites form hm runs (t := m.target)
    ⟨(form.map_self hm).symm, rfl, rfl, rfl, rfl, exec _ _, fun n => ?_, fun n q reserved => ?_⟩ (.inl rfl)
    ⟨.putback, ?_, .inl rfl, ?_⟩
  · rw [slot]
    split
    · next from_n => exact (h.source_empty hm runs carried from_n).symm
    · split
      · next to_n =>
        obtain ⟨y, at_n⟩ := granted.1 n to_n
        rw [at_n]
        rfl
      · rfl
  · rw [slot] at reserved
    split at reserved
    · next from_n =>
      cases reserved
      exact ⟨rfl, .inl from_n⟩
    · split at reserved
      · cases reserved
      · next from_n to_n =>
        rw [(h.elsewhere form hm runs from_n to_n).1] at reserved
        cases reserved
  · change (v.exec.map _).bind _ = _
    rw [here]
    rfl
  · change View.Works _ m _ ((v.exec.map _).bind _)
    rw [here]
    have free : View.Carried ((v.faultTarget m).putBack m c) m
        ∧ ∀ n, m.target = .pos (.slot n) → (((v.faultTarget m).putBack m c).slot n).move = none := by
      refine ⟨carried, fun n to_n => ?_⟩
      rw [slot, if_neg fun from_n => differ n from_n to_n, if_pos to_n]
      rfl
    cases c with
    | mismatch => exact absurd rfl occupied
    | occupiedNest => exact free
    | occupiedStaging => exact free

theorem View.homeward_putBack (v : View) (m : Move) {c : PutbackCause} (occupied : c ≠ .mismatch) (some_ : v.exec ≠ none) :
    (v.putBack m c).Homeward := by
  obtain ⟨e, here⟩ := Option.ne_none_iff_exists'.mp some_
  refine ⟨?_, c, ?_, occupied⟩ <;>
  · change (v.exec.map _).bind _ = _
    rw [here]
    rfl

theorem State.view_faultTarget (s : State) (m : Move) : (s.faultTarget m).view = s.view.faultTarget m := by
  unfold State.faultTarget View.faultTarget
  split
  · next k target =>
    rw [State.view_raise, State.view_setSlot]
    have there (n : Slot) : m.target = .pos (.slot n) ↔ n = k := by
      unfold Target.slot? Target.pos? at target
      split at target
      · next y _ =>
        cases y <;> simp_all [Position.slot?, eq_comm]
      · cases target
    change View.mk _ _ _ _ _ _ _ _ = View.mk _ _ _ _ _ _ _ _
    congr 1
    funext n
    rw [Function.update_apply]
    by_cases e : n = k
    · rw [if_pos e, if_pos ((there n).mpr e)]
    · rw [if_neg e, if_neg fun h => e ((there n).mp h)]
  · next none_ =>
    have away (n : Slot) : m.target ≠ .pos (.slot n) := fun e => by simp [e, Target.slot?, Target.pos?, Position.slot?] at none_
    simp [away]

end Sys2Proof.Machine
end

section
/-! PROOFS. The agreement (O10) of states: occupied targets and halts. -/

namespace Sys2Proof.Machine

open Sys2Proof

variable {v w : View} {m x : Move} {id : Ident} {p : Port} {n : Slot} {q : Seq} {l : Location} {s t u : State} {i j k : Nat}

/-! ## Halts (R161) -/

theorem State.view_haltAt (s : State) (c : HaltCode) (g : GripperState) (x : Option Position) :
    (s.haltAt c g x).view = { s.view with busy := .halted } := by
  unfold State.haltAt
  dsimp only
  rw [State.view_raise, State.view_updHandler]
  rfl

theorem State.fits_haltAt (s : State) (c : HaltCode) (g : GripperState) (x : Option Position) : s.Fits 0 (s.haltAt c g x) :=
  (s.grows_haltAt c g x).fits fun _ _ agree => by
    rw [State.view_haltAt]
    exact agree.halted

theorem State.fits_halt (s : State) (c : HaltCode) (g : GripperState) : s.Fits 0 (s.halt c g) := s.fits_haltAt c g _

/-! ## A store move's target found occupied (R157) -/

/-- The view of a store move that has lost its target. -/
def View.targetless (v : View) (m : Move) : View := (v.faultTarget m).updMove m.seq fun x => { x with target := .noTarget }

theorem State.view_targetless (s : State) (m : Move) : (s.targetless m).view = s.view.targetless m := by
  unfold State.targetless
  rw [State.view_updMove, State.view_faultTarget]
  rfl

theorem View.updMove_updMove (v : View) (q : Seq) (a b : Target) :
    (v.updMove q fun x => { x with target := a }).updMove q (fun x => { x with target := b }) = v.updMove q fun x => { x with target := b } := by
  unfold View.updMove
  rw [List.map_map]
  congr 1
  refine List.map_congr_left fun x _ => ?_
  dsimp only [Function.comp]
  by_cases e : x.seq = q <;> simp [e]

/-- The view of a store move with another target, on its way there. -/
def View.retargeted (v : View) (m : Move) (k : Fin 384) : View where
  slot n := if n = ofStorage k then .inbound m.reticle m.seq else (v.targetless m).slot n
  record := v.record
  queue := (v.updMove m.seq fun x => { x with target := .pos (storagePosition k) }).queue
  exec := v.exec.map fun e => { e with phase := some .placing, retargets := 1 }
  busy := Phase.placing.handlerState
  nest := v.nest
  waits := v.waits
  inn := v.inn

theorem State.view_retargeted (s : State) (m : Move) (k : Fin 384) : (s.retargeted m k).view = s.view.retargeted m k := by
  have aimed : (((s.targetless m).setSlot (ofStorage k) (.inbound m.reticle m.seq)).updMove m.seq
      (fun x => { x with target := .pos (storagePosition k) })).view = (((s.view.targetless m).setSlot (ofStorage k)
        (.inbound m.reticle m.seq)).updMove m.seq fun x => { x with target := .pos (storagePosition k) }) := by
    rw [State.view_updMove, State.view_setSlot, State.view_targetless]
  unfold State.retargeted
  rw [State.view_sendPlace]
  generalize ((s.targetless m).setSlot (ofStorage k) (.inbound m.reticle m.seq)).updMove m.seq
    (fun x => { x with target := .pos (storagePosition k) }) = a at aimed ⊢
  have exec : a.handler.exec = s.handler.exec := congrArg View.exec aimed
  have queue := congrArg View.queue <| ((s.view.faultTarget m).setSlot (ofStorage k) (.inbound m.reticle m.seq)).updMove_updMove m.seq
    .noTarget (.pos (storagePosition k))
  rw [State.view_updHandler, aimed]
  unfold View.retargeted
  change View.mk _ _ _ _ _ _ _ _ = View.mk _ _ _ _ _ _ _ _
  congr 1
  · funext n
    exact Function.update_apply ..
  · change (a.handler.exec.map _).map _ = _
    rw [exec]
    change _ = s.handler.exec.map _
    cases s.handler.exec <;> rfl

/-- The slots of a store move whose target is found occupied, or given up for another: the source stands. -/
theorem View.Agree.retarget (h : v.Agree) (form : v.Form) (hm : m ∈ v.queue) (runs : v.Runs m.seq) (store : m.kind.isStore = true)
    {t : Target} (tool : ∀ y, t ≠ .pos (.nest y)) (queue : w.queue = (v.updMove m.seq fun x => { x with target := t }).queue)
    (record : w.record = v.record) (nest : w.nest = v.nest) (waits : w.waits = v.waits) (inn : w.inn = v.inn)
    (move : w.exec.bind (·.move) = v.exec.bind (·.move)) (carried : v.Carried m)
    (new : ∀ n, t = .pos (.slot n) → (v.slot n).reticle = none ∧ m.source ≠ .slot n ∧ ∃ y, w.slot n = .inbound y m.seq)
    (old : ∀ n, m.target = .pos (.slot n) → t ≠ .pos (.slot n) → (v.slot n).reticle = none ∧ (w.slot n).Bare)
    (rest : ∀ n, m.target ≠ .pos (.slot n) → t ≠ .pos (.slot n) → w.slot n = v.slot n)
    (free : ∀ n, m.source = .slot n → m.target ≠ .pos (.slot n) ∧ (v.slot n).move = none)
    {ph : Phase} (phase : w.exec.bind (·.phase) = some ph) (busy : w.busy = ph.handlerState ∨ w.busy = .halted)
    (after : ph = .carrying ∨ ph = .placing) : w.Agree := by
  refine h.rewrites form hm runs (t := t) ⟨queue, record, nest, waits, inn, move, fun n => ?_, fun n q reserved => ?_⟩
    (.inr ⟨store, tool⟩) ⟨ph, phase, busy, ?_⟩
  · by_cases to_n : t = .pos (.slot n)
    · obtain ⟨bare, _, y, at_n⟩ := new n to_n
      rw [bare, at_n]
      rfl
    · by_cases from_n : m.target = .pos (.slot n)
      · obtain ⟨bare, free⟩ := old n from_n to_n
        rw [bare, free.1]
      · rw [rest n from_n to_n]
  · by_cases to_n : t = .pos (.slot n)
    · obtain ⟨_, _, y, at_n⟩ := new n to_n
      rw [at_n] at reserved
      cases reserved
      exact ⟨rfl, .inr to_n⟩
    · by_cases at_old : m.target = .pos (.slot n)
      · rw [(old n at_old to_n).2.2] at reserved
        cases reserved
      · rw [rest n at_old to_n] at reserved
        by_cases from_n : m.source = .slot n
        · rw [(free n from_n).2] at reserved
          cases reserved
        · rw [(h.elsewhere form hm runs from_n at_old).1] at reserved
          cases reserved
  · have works : w.Carried { m with target := t } ∧ w.TargetGranted { m with target := t }
        ∧ ∀ n, m.source = .slot n → (w.slot n).move = none := by
      refine ⟨?_, ⟨fun n to_n => (new n to_n).2.2, fun p to_p => absurd to_p (tool _), fun to_inn => absurd to_inn (tool _)⟩, fun n from_n => ?_⟩
      · unfold View.Carried
        rw [record]
        exact carried
      · obtain ⟨other, quiet⟩ := free n from_n
        have away : t ≠ .pos (.slot n) := fun to_n => (new n to_n).2.1 from_n
        rw [rest n other away]
        exact quiet
    rcases after with rfl | rfl
    · exact works
    · exact works

/-- The record of a store move is in the gripper, and its target is to be replaced (R157). -/
theorem State.agree_storeOccupied (form : s.QueueForm k) (agree : s.view.Agree) (here : m ∈ s.queue)
    (runs : s.view.Runs m.seq) (phase : s.view.exec.bind (·.phase) = some .placing) (store : m.kind.isStore = true)
    (differ : ∀ n, m.source = .slot n → m.target ≠ .pos (.slot n)) : (s.storeOccupied m).view.Agree := by
  have works : s.view.Carried m ∧ s.view.TargetGranted m ∧ ∀ n, m.source = .slot n → (s.view.slot n).move = none :=
    agree.working here runs phase
  obtain ⟨carried, granted, quiet⟩ := works
  have bare (n : Slot) (to_n : m.target = .pos (.slot n)) : (s.view.slot n).reticle = none := by
    obtain ⟨y, at_n⟩ := granted.1 n to_n
    rw [at_n]
    rfl
  have free (n : Slot) (from_n : m.source = .slot n) : m.target ≠ .pos (.slot n) ∧ (s.view.slot n).move = none :=
    ⟨differ n from_n, quiet n from_n⟩
  have busy : s.view.busy = Phase.placing.handlerState ∨ s.view.busy = .halted := by
    obtain ⟨ph, phase', state, _⟩ := agree.works m here runs
    rw [phase] at phase'
    cases phase'
    exact state
  have fault (n : Slot) : (s.view.targetless m).slot n = if m.target = .pos (.slot n) then .fault none else s.view.slot n := rfl
  have halts (c : HaltCode) (g : GripperState) (y : Option Position) : ((s.targetless m).haltAt c g y).view.Agree := by
    rw [State.view_haltAt, State.view_targetless]
    refine agree.retarget form.view here runs store (t := .noTarget) nofun rfl rfl rfl rfl rfl rfl carried nofun
      (fun n to_n _ => ⟨bare n to_n, ?_⟩) (fun n away _ => ?_) free phase (.inr rfl) (.inr rfl)
    · dsimp only
      rw [fault, if_pos to_n]
      exact ⟨rfl, rfl⟩
    · dsimp only
      rw [fault, if_neg away]
  rw [s.storeOccupied_cases m]
  split
  · split
    · next k found =>
      have empty : (s.view.targetless m).slot (ofStorage k) = .empty := by
        rw [← State.view_targetless]
        exact State.selectTarget_empty found
      have other : m.target ≠ .pos (.slot (ofStorage k)) := fun to_k => by
        rw [fault, if_pos to_k] at empty
        cases empty
      have was : s.view.slot (ofStorage k) = .empty := by rwa [fault, if_neg other] at empty
      have slot (n : Slot) : (s.view.retargeted m k).slot n
          = if n = ofStorage k then .inbound m.reticle m.seq else (s.view.targetless m).slot n := rfl
      rw [State.view_retargeted]
      refine agree.retarget form.view here runs store (t := .pos (storagePosition k)) nofun rfl rfl rfl rfl rfl ?_ carried
        (fun n to_n => ?_) (fun n to_n away => ⟨bare n to_n, ?_⟩) (fun n away away' => ?_) free (ph := .placing) ?_ (.inl rfl) (.inr rfl)
      · change (s.handler.exec.map _).bind _ = s.handler.exec.bind _
        cases s.handler.exec <;> rfl
      · cases to_n
        refine ⟨by rw [was]; rfl, fun from_k => ?_, m.reticle, ?_⟩
        · have staging := (agree.wired m here).2.store_source store from_k
          rw [toStorage_ofStorage] at staging
          cases staging
        · rw [slot, if_pos rfl]
      · have ne : n ≠ ofStorage k := fun e => away (by rw [e]; rfl)
        rw [slot, if_neg ne, fault, if_pos to_n]
        exact ⟨rfl, rfl⟩
      · have ne : n ≠ ofStorage k := fun e => away' (by rw [e]; rfl)
        rw [slot, if_neg ne, fault, if_neg away]
      · obtain ⟨e, exec, _⟩ := Option.bind_eq_some_iff.mp phase
        change (s.view.exec.map _).bind _ = _
        rw [exec]
        rfl
    · exact halts _ _ _
  · exact halts _ _ _

end Sys2Proof.Machine
end

section
/-! PROOFS. The agreement (O10) of states: an occupied target, and the pick. -/

namespace Sys2Proof.Machine

open Sys2Proof

variable {v w : View} {m x : Move} {id : Ident} {p : Port} {n : Slot} {q : Seq} {l : Location} {s t u : State} {i j k : Nat}

/-- A move goes to another slot than it comes from. -/
theorem Move.source_ne_target (shaped : m.Shaped) (routed : m.Routed) : ∀ n, m.source = .slot n → m.target ≠ .pos (.slot n) := by
  intro n from_n to_n
  by_cases store : m.kind.isStore = true
  · have staging := routed.store_source store from_n
    obtain ⟨targets, _⟩ := shaped
    rcases targets store with e | e | ⟨k, e⟩
    · rw [to_n] at e; cases e
    · rw [to_n] at e; cases e
    · rw [to_n] at e
      cases e
      rw [toStorage_ofStorage] at staging
      cases staging
  · obtain ⟨_, kind, _, _, _, _, _, _, _, _, _, _, _, _⟩ := m
    dsimp only at from_n to_n store
    subst from_n to_n
    cases kind with
    | deliver => obtain ⟨_, _, _, _, e, _⟩ := routed; cases e
    | stockOut => obtain ⟨_, _, e, _⟩ := routed; cases e
    | inspectOut => obtain ⟨_, _, e, _⟩ := routed; cases e
    | prestage =>
      obtain ⟨a, b, e, e', other, _⟩ := routed
      cases e
      cases e'
      exact other rfl
    | scan => obtain ⟨⟨_, e⟩, _⟩ := routed; cases e
    | collect => exact store rfl
    | reclaim => exact store rfl
    | stockIn => exact store rfl
    | reshelve => exact store rfl
    | destage => exact store rfl

/-! ## OCCUPIED (R157 to R159) -/

theorem State.agree_takeOccupied (sound : s.execMove = some m) (form : s.QueueForm k) (small : k + 7 < 2147483648) (agree : s.view.Agree)
    (phase : s.view.exec.bind (·.phase) = some .placing) : (s.takeOccupied m).view.Agree := by
  obtain ⟨here, runs⟩ := State.execMove_mem sound
  have routed := (agree.wired m here).2
  have differ := Move.source_ne_target (form.shaped m here) routed
  have works : s.view.Carried m ∧ s.view.TargetGranted m ∧ ∀ n, m.source = .slot n → (s.view.slot n).move = none :=
    agree.working here runs phase
  unfold State.takeOccupied
  split
  · next store => exact State.agree_storeOccupied form agree here runs phase store differ
  · next plain =>
    have plain : m.kind.isStore = false := by simpa using plain
    have some_ : s.view.exec ≠ none := fun none_ => by rw [none_] at phase; cases phase
    split
    · rw [State.view_putBack, State.view_faultTarget]
      exact agree.putBack form.view here runs phase nofun differ
    · next other =>
      split
      · next y target =>
        have to_y : m.target = .pos (.nest y) := by
          unfold Target.nest? Target.pos? at target
          split at target
          · next z e => cases z <;> simp_all [Position.nest?]
          · cases target
        have free : s.view.faultTarget m = s.view := by
          unfold View.faultTarget
          have away (n : Slot) : m.target ≠ .pos (.slot n) := by rw [to_y]; exact nofun
          simp [away]
        have outward := State.worksOutward_of_exec form sound plain
        have back := s.view_putBack m .occupiedNest
        have agree' : (s.putBack m .occupiedNest).view.Agree := by
          rw [back]
          have := agree.putBack form.view here runs phase (c := .occupiedNest) nofun differ
          rwa [free] at this
        have form' := s.grows_putBack m .occupiedNest (fun _ => outward) k (by omega) form
        have home : (s.putBack m .occupiedNest).view.Homeward := by
          rw [back]
          exact s.view.homeward_putBack m nofun some_
        have decided : ((s.putBack m .occupiedNest).nestOccupied y).view.Agree := by
          refine (State.fits_nestOccupied y home (fun p at_p => ?_) (fun at_inn => ?_) k small form' agree').2
          · exact (congrFun (congrArg View.nest back) p).trans (works.2.1.2.1 p (at_p ▸ to_y))
          · exact (congrArg View.inn back).trans (works.2.1.2.2 (at_inn ▸ to_y))
        have twin : s.Twin (s.putBack m .occupiedNest) := by
          unfold State.putBack
          dsimp only
          split <;> exact ⟨_, _, _, _, _, rfl⟩
        have same := (twin.nestOccupied y).view
        have kept := (s.putBack m .occupiedNest).ungranted_nestOccupied y
        have kept' := s.ungranted_nestOccupied y
        rw [same] at decided
        rw [State.view_putBack]
        have slots : ((s.putBack m .occupiedNest).nestOccupied y).slot = (s.putBack m .occupiedNest).slot :=
          funext fun n => congrArg (·.get n) kept.slots
        have slots' : (s.nestOccupied y).slot = s.slot := funext fun n => congrArg (·.get n) kept'.slots
        rw [slots, kept.handler] at decided
        have final : (s.nestOccupied y).view.putBack m .occupiedNest = { (s.nestOccupied y).view with
            slot := (s.putBack m .occupiedNest).slot, exec := (s.putBack m .occupiedNest).handler.exec
            busy := (s.putBack m .occupiedNest).handler.state } := by
          have slot := congrArg View.slot back
          have exec := congrArg View.exec back
          have busy := congrArg View.busy back
          change (s.putBack m .occupiedNest).slot = _ at slot
          change (s.putBack m .occupiedNest).handler.exec = _ at exec
          change (s.putBack m .occupiedNest).handler.state = _ at busy
          rw [slot, exec, busy]
          unfold View.putBack
          change View.mk _ _ _ _ _ _ _ _ = View.mk _ _ _ _ _ _ _ _
          congr 1
          · funext n
            exact congrArg (fun e => if m.source = .slot n then SlotEntry.inbound m.reticle m.seq else e) (congrFun slots' n)
          · change (s.nestOccupied y).handler.exec.map _ = s.handler.exec.map _
            rw [kept'.handler]
        rw [final]
        exact decided
      · exact agree

theorem State.fits_takeOccupiedReport (sound : s.execMove = some m) (busy : s.handler.state = .placing ∨ s.handler.state = .putback) :
    s.Fits 7 (s.takeOccupiedReport m) := fun k small form agree => by
  obtain ⟨here, runs⟩ := State.execMove_mem sound
  refine ⟨s.grows_takeOccupiedReport m sound k small form, ?_⟩
  unfold State.takeOccupiedReport
  split
  · exact (s.fits_halt _ _ k (by omega) form agree).2
  · next other =>
    exact State.agree_takeOccupied sound form small agree (agree.phase_of_busy here runs (busy.resolve_right other))

end Sys2Proof.Machine
end

section
/-! PROOFS. The agreement (O10) of states: the accepted pick. -/

namespace Sys2Proof.Machine

open Sys2Proof

variable {v w : View} {m x : Move} {id : Ident} {p : Port} {n : Slot} {q : Seq} {l : Location} {s t u z : State} {i j k : Nat}

/-! ## The parts of an accepted pick on the view (R151) -/

theorem State.view_nestEmptied (s : State) (y : Nest) : (s.nestEmptied y).view = { s.view with
    nest := fun p => if y = .t p then .empty else s.view.nest p
    inn := if y = .inn then .empty else s.view.inn } := by
  cases y with
  | t p =>
    refine (s.view_setToolNest p .empty).trans ?_
    have same : (fun r => if Nest.t p = .t r then ToolNest.empty else s.view.nest r) = Function.update s.view.nest p .empty := by
      funext r
      simp [Function.update_apply, eq_comm]
    rw [same]
    rfl
  | bi => rfl
  | bo => rfl
  | inn => rfl

theorem State.view_freeSource (s : State) (y : Position) : (s.freeSource y).view = { s.view with
    slot := fun n => if y = .slot n then .empty else s.view.slot n
    nest := fun p => if y = .nest (.t p) then .empty else s.view.nest p
    inn := if y = .nest .inn then .empty else s.view.inn } := by
  cases y with
  | slot a =>
    change (s.setSlot a .empty).view = _
    rw [State.view_setSlot]
    have same : (fun n => if Position.slot a = .slot n then SlotEntry.empty else s.view.slot n) = Function.update s.view.slot a .empty := by
      funext n
      simp [Function.update_apply, eq_comm]
    rw [same]
    rfl
  | nest y =>
    change (s.nestEmptied y).view = _
    rw [State.view_nestEmptied]
    simp
  | shelf _ => rfl

/-- A reservation that expects no identifier takes one. -/
def SlotEntry.expect (e : SlotEntry) (id : Ident) : SlotEntry :=
  match e with
  | .inbound none q => .inbound (some id) q
  | e => e

theorem State.view_expectAt (s : State) (y : Target) (id : Ident) : (s.expectAt y.slot? id).view = { s.view with
    slot := fun n => if y = .pos (.slot n) then (s.view.slot n).expect id else s.view.slot n } := by
  have none_ (away : ∀ n, y ≠ .pos (.slot n)) : s.view = { s.view with
      slot := fun n => if y = .pos (.slot n) then (s.view.slot n).expect id else s.view.slot n } := by simp [away]
  cases y with
  | pos y =>
    cases y with
    | slot a =>
      have same (e : SlotEntry) (here : e = (s.slot a).expect id) : (fun n => if Target.pos (.slot a) = .pos (.slot n) then
          (s.view.slot n).expect id else s.view.slot n) = Function.update s.view.slot a e := by
        funext n
        rw [Function.update_apply]
        by_cases at_a : n = a
        · subst at_a
          simp [here]
          rfl
        · simp [at_a, Ne.symm at_a]
      change (match s.slot a with
        | .inbound none q => s.setSlot a (.inbound (some id) q)
        | _ => s).view = _
      split
      · next q here =>
        rw [State.view_setSlot, same (.inbound (some id) q) (by rw [here]; rfl)]
        rfl
      · next other =>
        rw [same (s.view.slot a) ?_, Function.update_eq_self]
        unfold SlotEntry.expect
        split
        · next q here => exact absurd here (other q)
        · rfl
    | nest _ => exact none_ nofun
    | shelf _ => exact none_ nofun
  | toSelect => exact none_ nofun
  | noTarget => exact none_ nofun

/-- A WAITING COLLECT loses the identifier it expected. -/
def Move.rob (id : Ident) (x : Move) : Move := if x.reticle = some id then { x with reticle := none, pickTest := .anyAtTool } else x

/-- An identifier is bound to at most one move, a WAITING COLLECT, which names it. -/
structure State.Robs (z : State) (id : Ident) : Prop where
  distinct : z.SeqsDistinct
  binds : ∀ x ∈ z.queue, x.reticle = some id → ∃ r, z.record id = some r ∧ r.binding = some x.seq ∧ x.kind = .collect ∧ x.state = .waiting
  bound : ∀ r q, z.record id = some r → r.binding = some q → ∃ x ∈ z.queue, x.seq = q ∧ x.reticle = some id

theorem State.view_robCollect (robs : z.Robs id) : (z.robCollect id).view = { z.view with queue := z.queue.map (Move.rob id) } := by
  have unnamed (free : ∀ x ∈ z.queue, x.reticle ≠ some id) : z.queue.map (Move.rob id) = z.queue :=
    (List.map_congr_left fun x hx => if_neg (free x hx)).trans z.queue.map_id
  unfold State.robCollect
  split
  · next c bound =>
    obtain ⟨r, known, at_c⟩ := Option.bind_eq_some_iff.mp bound
    obtain ⟨q, binding, found⟩ := Option.bind_eq_some_iff.mp at_c
    obtain ⟨x, hx, seq, named⟩ := robs.bound r q known binding
    have same : z.move? q = some x := by rw [← seq]; exact State.move?_of_mem robs.distinct hx
    rw [same] at found
    cases found
    obtain ⟨_, _, _, kind, waits⟩ := robs.binds c hx named
    rw [if_pos ⟨kind, waits⟩, State.view_updMove]
    have queue : (z.queue.map fun y => if y.seq = c.seq then { y with reticle := none, pickTest := .anyAtTool } else y)
        = z.queue.map (Move.rob id) := List.map_congr_left fun y hy => by
      unfold Move.rob
      by_cases mine : y.seq = c.seq
      · rw [if_pos mine, State.eq_of_seq robs.distinct hy hx mine, if_pos named]
      · rw [if_neg mine, if_neg fun named' => ?_]
        obtain ⟨r', known', binding', _⟩ := robs.binds y hy named'
        rw [known] at known'
        cases known'
        rw [binding] at binding'
        exact mine ((Option.some.inj binding').symm.trans seq.symm)
    change View.mk _ _ _ _ _ _ _ _ = View.mk _ _ _ _ _ _ _ _
    congr 1
  · next none_ =>
    rw [unnamed fun x hx named => ?_]
    · rfl
    · obtain ⟨r, known, binding, _⟩ := robs.binds x hx named
      rw [known, Option.bind_some] at none_
      unfold State.boundMove at none_
      rw [binding, Option.bind_some, State.move?_of_mem robs.distinct hx] at none_
      cases none_

end Sys2Proof.Machine
end

section
/-! PROOFS. The agreement (O10) of states: the pick accepted, carried on, or refused. -/

namespace Sys2Proof.Machine

open Sys2Proof

variable {v w : View} {m x : Move} {id : Ident} {p : Port} {n : Slot} {q : Seq} {l : Location} {s t u z : State} {i j k : Nat}

/-! ## The view of an accepted pick -/

/-- The view after the accepted pick of a move. -/
def View.accept (v : View) (m : Move) (id : Ident) : View where
  slot n := if m.target = .pos (.slot n) then (if m.source = .slot n then SlotEntry.empty else v.slot n).expect id
    else if m.source = .slot n then .empty else v.slot n
  record := Function.update v.record id (some (.gripper, some m.seq))
  queue := v.queue.map fun x => if x.seq = m.seq then { x with reticle := some id, pickTest := .named } else x.rob id
  exec := v.exec
  busy := v.busy
  nest p := if m.source = .nest (.t p) then .empty else v.nest p
  waits := v.waits
  inn := if m.source = .nest .inn then .empty else v.inn

/-- The record of the identifier read, in the catalogue that the pick is taken in: its binding is the move's, if the move names it, and
else that of a WAITING COLLECT, if any. -/
structure View.Picks (v : View) (m : Move) (id : Ident) (b : Option Seq) : Prop where
  named : m.pickTest = .named → m.reticle = some id ∧ b = some m.seq
  unnamed : m.pickTest ≠ .named → m.reticle = none
  robbed : ∀ x ∈ v.queue, x.seq ≠ m.seq → x.reticle = some id → b = some x.seq ∧ x.kind = .collect ∧ x.state = .waiting
  bound : m.pickTest ≠ .named → ∀ q, b = some q → ∃ x ∈ v.queue, x.seq = q ∧ x.reticle = some id

theorem View.onRecord_update (v : View) (id : Ident) (y : Location × Option Seq) (g : Location × Option Seq → Location × Option Seq) :
    View.onRecord { v with record := Function.update v.record id (some y) } id g
      = { v with record := Function.update v.record id (some (g y)) } := by
  simp [View.onRecord]

theorem State.view_acceptPick (form : s.view.Form) (here : m ∈ s.view.queue) {b : Option Seq}
    (view : z.view = { s.view with record := Function.update s.view.record id (some (l, b)) }) (picks : s.view.Picks m id b) :
    (z.acceptPick m id).view = s.view.accept m id := by
  have eq_m {x : Move} (hx : x ∈ s.view.queue) (same : x.seq = m.seq) : x = m := form.eq_of_seq hx here same
  -- the record in the gripper, the source free
  have freed : ((z.updRecord id (Rec.moveTo .gripper)).freeSource m.source).view = { s.view with
      slot := fun n => if m.source = .slot n then .empty else s.view.slot n
      record := Function.update s.view.record id (some (.gripper, b))
      nest := fun p => if m.source = .nest (.t p) then .empty else s.view.nest p
      inn := if m.source = .nest .inn then .empty else s.view.inn } := by
    rw [State.view_freeSource, State.view_moveTo, view]
    unfold View.locate
    rw [View.onRecord_update]
  unfold State.acceptPick
  rw [State.view_expectAt]
  generalize (z.updRecord id (Rec.moveTo .gripper)).freeSource m.source = a at freed ⊢
  have queue : a.queue = s.view.queue := congrArg View.queue freed
  have known : ∃ r, a.record id = some r ∧ r.binding = b := by
    have seen : (a.record id).map Rec.seen = some (.gripper, b) :=
      (congrFun (congrArg View.record freed) id).trans (Function.update_self ..)
    obtain ⟨r, known, e⟩ := Option.map_eq_some_iff.mp seen
    exact ⟨r, known, congrArg Prod.snd e⟩
  obtain ⟨r, known, binding⟩ := known
  have named_queue (test : m.pickTest = .named) : s.view.queue = (s.view.accept m id).queue := by
    obtain ⟨mine, at_m⟩ := picks.named test
    refine (s.view.queue.map_id).symm.trans (List.map_congr_left fun x hx => ?_)
    dsimp only [id_eq]
    split
    · next same =>
      obtain rfl := eq_m hx same
      rw [← mine, ← test]
    · next other =>
      unfold Move.rob
      split
      · next named =>
        have := (picks.robbed x hx other named).1
        rw [at_m] at this
        exact absurd (Option.some.inj this).symm other
      · rfl
  have nameMove : (a.nameMove m id).view = { s.view.accept m id with
      slot := fun n => if m.source = .slot n then .empty else s.view.slot n } := by
    unfold State.nameMove
    split
    · next test =>
      rw [freed]
      have queue := named_queue test
      obtain ⟨_, at_m⟩ := picks.named test
      subst at_m
      change View.mk _ _ _ _ _ _ _ _ = View.mk _ _ _ _ _ _ _ _
      congr 1
    · next test =>
      have robs : a.Robs id := by
        refine ⟨?_, fun x hx named => ?_, fun r' q known' bound => ?_⟩
        · unfold State.SeqsDistinct
          rw [queue]
          exact form.distinct
        · rw [queue] at hx
          have other : x.seq ≠ m.seq := fun same => by
            rw [eq_m hx same, picks.unnamed test] at named
            cases named
          obtain ⟨at_x, kind, waits⟩ := picks.robbed x hx other named
          exact ⟨r, known, binding.trans at_x, kind, waits⟩
        · rw [known] at known'
          cases known'
          rw [queue]
          exact picks.bound test q (binding.symm.trans bound)
      rw [State.view_bind, State.view_updMove, State.view_robCollect robs, freed]
      change View.mk _ _ _ _ _ _ _ _ = View.mk _ _ _ _ _ _ _ _
      congr 1
      · exact congrArg View.record (s.view.onRecord_update id (.gripper, b) fun x => (x.1, some m.seq))
      · change (a.queue.map (Move.rob id)).map _ = s.view.queue.map _
        rw [List.map_map, queue]
        refine List.map_congr_left fun x hx => ?_
        have seq : (x.rob id).seq = x.seq := by unfold Move.rob; split <;> rfl
        dsimp only [Function.comp]
        rw [seq]
        by_cases same : x.seq = m.seq
        · have free : x.rob id = x := if_neg (by rw [eq_m hx same, picks.unnamed test]; exact nofun)
          rw [if_pos same, if_pos same, free]
        · rw [if_neg same, if_neg same]
  rw [nameMove]
  rfl

theorem View.accepts_accept (granted : v.SourceGranted m ∧ v.TargetGranted m) {e : Option ExecRecord}
    {b : HandlerState} (move : e.bind (·.move) = v.exec.bind (·.move)) (differ : ∀ n, m.source = .slot n → m.target ≠ .pos (.slot n)) :
    v.Accepts { v.accept m id with exec := e, busy := b } m id where
  source n from_n := by simp [View.accept, from_n, differ n from_n]
  target n to_n away := by
    obtain ⟨y, at_n⟩ := granted.2.1 n to_n
    cases y with
    | none => exact ⟨some id, by simp [View.accept, to_n, away, at_n, SlotEntry.expect]⟩
    | some i => exact ⟨some i, by simp [View.accept, to_n, away, at_n, SlotEntry.expect]⟩
  slot n away away' := by simp [View.accept, away, away']
  record := rfl
  queue := ⟨_, rfl, if_pos rfl, fun x _ other => if_neg other⟩
  nest _ := rfl
  waits := rfl
  inn := rfl
  exec := move

end Sys2Proof.Machine
end

section
/-! PROOFS. The agreement (O10) of states: PICKED. -/

namespace Sys2Proof.Machine

open Sys2Proof

variable {v w : View} {m x : Move} {id : Ident} {p : Port} {n : Slot} {q : Seq} {l : Location} {s t u z : State} {i j k : Nat}

/-! ## The way to the target (R151, R153) -/

/-- The move in execution enters a phase. -/
def View.enterPhase (v : View) (ph : Phase) : View :=
  { v with exec := v.exec.map fun e => { e with phase := some ph }, busy := ph.handlerState }

theorem View.enterPhase_runs (v : View) (ph : Phase) (q : Seq) : (v.enterPhase ph).Runs q ↔ v.Runs q := by
  unfold View.Runs View.enterPhase
  cases v.exec <;> rfl

theorem View.Form.enterPhase (form : v.Form) (ph : Phase) : (v.enterPhase ph).Form := by
  refine ⟨form.distinct, form.shaped, fun x hx run => (v.enterPhase_runs ph _).mpr (form.executing x hx run),
    fun q run => form.named q ((v.enterPhase_runs ph q).mp run), fun x hx run store c cause => ?_, fun idle => ?_⟩
  · refine form.cause x hx ((v.enterPhase_runs ph _).mp run) store c ?_
    change (v.exec.map _).bind _ = _ at cause
    cases exec : v.exec with
    | none => rw [exec] at cause; cases cause
    | some e => rw [exec] at cause; exact cause
  · exact absurd idle ph.handlerState_ne_idle

theorem State.view_sendPlace_phase (s : State) (y : Position) (ph : Phase) : (s.sendPlace y ph).view = s.view.enterPhase ph :=
  s.view_sendPlace y ph

/-- A move with a target goes on to it, or waits for the tool. -/
theorem State.view_carryOn {y : Position} (aimed : (s.move? m.seq).bind (fun x => x.target.pos?) = some y) :
    ∃ ph, (ph = .carrying ∨ ph = .placing) ∧ (s.carryOn m).view = s.view.enterPhase ph := by
  unfold State.carryOn
  extract_lets waits
  cases waits with
  | true =>
    refine ⟨.carrying, .inl rfl, ?_⟩
    rw [if_pos rfl, State.view_setPhase, State.view_updHandler]
    rfl
  | false =>
    refine ⟨.placing, .inr rfl, ?_⟩
    rw [if_neg nofun, aimed]
    exact s.view_sendPlace y .placing

/-! ## The accepted pick (R42, R151) -/

/-- What PICKING finds of the move in execution. -/
structure State.Picking (s : State) (m : Move) : Prop where
  here : m ∈ s.view.queue
  runs : s.view.Runs m.seq
  granted : s.view.SourceGranted m ∧ s.view.TargetGranted m
  scan : m.kind ≠ .scan
  aimed : ∃ y, m.target = .pos y

theorem View.accept_named (hm : m ∈ v.queue) : Move.named id m ∈ (v.accept m id).queue :=
  List.mem_map.mpr ⟨m, hm, if_pos rfl⟩

/-- The pick of the move in execution accepted, and the move on its way. -/
theorem State.agree_accept (form : s.view.Form) (agree : s.view.Agree) (picking : s.Picking m) {b : Option Seq}
    (picks : s.view.Picks m id b) (place : m.pickTest ≠ .named → ∀ l b, s.view.record id = some (l, b) → ∀ n, l ≠ .slot n)
    {ph : Phase} (after : ph = .carrying ∨ ph = .placing) : ((s.view.accept m id).enterPhase ph).Agree := by
  obtain ⟨here, runs, granted, scan, _⟩ := picking
  have differ := Move.source_ne_target (form.shaped m here) (agree.wired m here).2
  have some_ : ∃ e, s.view.exec = some e := by
    unfold View.Runs at runs
    obtain ⟨e, exec, _⟩ := Option.bind_eq_some_iff.mp runs
    exact ⟨e, exec⟩
  obtain ⟨e, exec⟩ := some_
  have moved : (s.view.exec.map fun e => { e with phase := some ph }).bind (·.move) = s.view.exec.bind (·.move) := by
    rw [exec]
    rfl
  have accepts : s.view.Accepts ((s.view.accept m id).enterPhase ph) m id := View.accepts_accept granted moved differ
  refine agree.accepts form here runs granted accepts
    scan differ ?_ (fun x hx other named => (picks.robbed x hx other named).2.1) (ph := ph) ?_ rfl after
  · by_cases test : m.pickTest = .named
    · exact .inl (picks.named test).1
    · exact .inr ⟨picks.unnamed test, place test⟩
  · change (s.view.exec.map _).bind _ = _
    rw [exec]
    rfl

/-- An unnamed store move whose target is given up for another at the pick check (R42). -/
theorem State.agree_pickCheck (form : s.view.Form) (agree : s.view.Agree) (picking : s.Picking m) {b : Option Seq}
    (picks : s.view.Picks m id b) (place : m.pickTest ≠ .named → ∀ l b, s.view.record id = some (l, b) → ∀ n, l ≠ .slot n)
    (form' : (s.view.accept m id).Form) (store : m.kind.isStore = true) (unnamed : m.pickTest ≠ .named)
    (target : m.target = .pos (.slot n)) {j : Fin 384} (empty : (s.view.accept m id).slot (ofStorage j) = .empty)
    {ph : Phase} (after : ph = .carrying ∨ ph = .placing) :
    View.Agree (((((s.view.accept m id).setSlot n .empty).setSlot (ofStorage j) (.inbound (some id) m.seq)).updMove m.seq
      fun x => { x with target := .pos (storagePosition j) }).enterPhase ph) := by
  have first := State.agree_accept form agree picking picks place after
  obtain ⟨here, runs, granted, _, _⟩ := picking
  have away (a : Slot) : m.source ≠ .slot a := fun from_a => by
    have named := (agree.wired m here).2.slot_named from_a
    rw [picks.unnamed unnamed] at named
    cases named
  obtain ⟨y, at_n⟩ := granted.2.1 n target
  have inbound : ∃ z, (s.view.accept m id).slot n = .inbound z m.seq := by
    cases y with
    | none => exact ⟨some id, by simp [View.accept, target, away, at_n, SlotEntry.expect]⟩
    | some i => exact ⟨some i, by simp [View.accept, target, away, at_n, SlotEntry.expect]⟩
  obtain ⟨z, inbound⟩ := inbound
  have ne : n ≠ ofStorage j := fun e => by
    rw [← e, inbound] at empty
    cases empty
  have slot (a : Slot) : (((((s.view.accept m id).setSlot n .empty).setSlot (ofStorage j) (.inbound (some id) m.seq)).updMove m.seq
      fun x => { x with target := .pos (storagePosition j) }).enterPhase ph).slot a
        = if a = ofStorage j then .inbound (some id) m.seq else if a = n then .empty else (s.view.accept m id).slot a := by
    change Function.update (Function.update _ _ _) _ _ _ = _
    rw [Function.update_apply, Function.update_apply]
  have seq : (Move.named id m).seq = m.seq := rfl
  refine first.retarget (form'.enterPhase ph) (View.accept_named here) (((s.view.accept m id).enterPhase_runs ph _).mpr runs) store
    (t := .pos (storagePosition j)) nofun rfl rfl rfl rfl rfl rfl ⟨id, _, rfl, Function.update_self ..⟩ (fun a to_a => ?_)
    (fun a to_a other => ?_) (fun a other other' => ?_) (fun a from_a => absurd from_a (away a)) (ph := ph) ?_ (.inl rfl) after
  · cases to_a
    exact ⟨congrArg SlotEntry.reticle empty, away _, some id, (slot _).trans (if_pos rfl)⟩
  · have same : a = n := by
      have := target.symm.trans to_a
      cases this
      rfl
    subst same
    refine ⟨congrArg SlotEntry.reticle inbound, ?_⟩
    rw [slot, if_neg ne, if_pos rfl]
    exact ⟨rfl, rfl⟩
  · rw [slot, if_neg fun e => other' (by rw [e]; rfl), if_neg fun e => other (by rw [e]; exact target)]
    rfl
  · obtain ⟨e, exec, _⟩ := Option.bind_eq_some_iff.mp runs
    change (s.view.exec.map _).bind _ = _
    rw [exec]
    rfl

theorem State.agree_picks (form : s.QueueForm k) (agree : s.view.Agree) (picking : s.Picking m) (grows : s.Grows 0 z) {b : Option Seq}
    (small : k < 2147483648) (view : z.view = { s.view with record := Function.update s.view.record id (some (l, b)) })
    (picks : s.view.Picks m id b)
    (place : m.pickTest ≠ .named → ∀ l b, s.view.record id = some (l, b) → ∀ n, l ≠ .slot n) : (z.picks m id).view.Agree := by
  have zform := grows k small form
  have queue : z.queue = s.queue := congrArg View.queue view
  have here := picking.here
  have aform := z.grows_acceptPick m id (by rw [queue]; exact List.mem_map_of_mem here) k small zform
  have accepted := State.view_acceptPick form.view here view picks
  have form' : (s.view.accept m id).Form := by rw [← accepted]; exact aform.view
  obtain ⟨y, aimed⟩ := picking.aimed
  have plain : ∃ ph, (ph = .carrying ∨ ph = .placing) ∧ ((z.acceptPick m id).carryOn m).view = (s.view.accept m id).enterPhase ph := by
    have there : Move.named id m ∈ (z.acceptPick m id).queue := by
      rw [show (z.acceptPick m id).queue = _ from congrArg View.queue accepted]
      exact View.accept_named here
    have found : ((z.acceptPick m id).move? m.seq).bind (fun x => x.target.pos?) = some y := by
      rw [show m.seq = (Move.named id m).seq from rfl, State.move?_of_mem aform.distinct there, Option.bind_some]
      exact congrArg Target.pos? aimed
    obtain ⟨ph, after, view⟩ := State.view_carryOn found
    exact ⟨ph, after, by rw [view, accepted]⟩
  obtain ⟨ph, after, plain⟩ := plain
  have first := State.agree_accept form.view agree picking picks place after
  unfold State.picks
  dsimp only
  split
  · next test =>
    obtain ⟨store, unnamed⟩ := test
    unfold State.pickCheck
    split
    · next n r target known =>
      split
      · split
        · rw [plain]
          exact first
        · split
          · next j found =>
            have to_n : m.target = .pos (.slot n) := by
              rw [aimed] at target ⊢
              cases y <;> simp_all [Target.slot?, Target.pos?, Position.slot?]
            have empty : (s.view.accept m id).slot (ofStorage j) = .empty := by
              rw [← accepted]
              exact State.selectBy_candidate found
            generalize z.acceptPick m id = a at accepted aform
            have moved : (((a.setSlot n .empty).setSlot (ofStorage j) (.inbound (some id) m.seq)).updMove m.seq
                (fun x => { x with target := .pos (storagePosition j) })).view = ((((s.view.accept m id).setSlot n .empty).setSlot
                  (ofStorage j) (.inbound (some id) m.seq)).updMove m.seq fun x => { x with target := .pos (storagePosition j) }) := by
              rw [State.view_updMove, State.view_setSlot, State.view_setSlot, accepted]
            have found' : ((((a.setSlot n .empty).setSlot (ofStorage j) (.inbound (some id) m.seq)).updMove m.seq
                (fun x => { x with target := .pos (storagePosition j) })).move? m.seq).bind (fun x => x.target.pos?)
                  = some (storagePosition j) := by
              have there : ({ Move.named id m with target := .pos (storagePosition j) } : Move) ∈ (((a.setSlot n .empty).setSlot (ofStorage j)
                  (.inbound (some id) m.seq)).updMove m.seq (fun x => { x with target := .pos (storagePosition j) })).queue := by
                refine List.mem_map.mpr ⟨Move.named id m, ?_, if_pos rfl⟩
                rw [show ((a.setSlot n .empty).setSlot (ofStorage j) (.inbound (some id) m.seq)).queue = _ from congrArg View.queue accepted]
                exact View.accept_named here
              have distinct : (((a.setSlot n .empty).setSlot (ofStorage j) (.inbound (some id) m.seq)).updMove m.seq
                  (fun x => { x with target := .pos (storagePosition j) })).SeqsDistinct := by
                unfold State.SeqsDistinct
                rw [State.updMove_seqs]
                · exact aform.distinct
                · exact fun _ => rfl
              have found' := State.move?_of_mem distinct there
              exact congrArg (fun y => Option.bind y fun x => x.target.pos?) found'
            obtain ⟨ph', after', view⟩ := State.view_carryOn found'
            rw [view, moved]
            exact State.agree_pickCheck form.view agree picking picks place form' store unnamed to_n empty after'
          · rw [plain]
            exact first
      · rw [plain]
        exact first
    · rw [plain]
      exact first
  · rw [plain]
    exact first

end Sys2Proof.Machine
end

section
/-! PROOFS. The agreement (O10) of states: PICKED and PLACE. -/

namespace Sys2Proof.Machine

open Sys2Proof

variable {v w : View} {m x : Move} {id : Ident} {p : Port} {n : Slot} {q : Seq} {l : Location} {s t u z : State} {i j k : Nat}

/-! ## What the judgement of a pick says (R150) -/

theorem State.judgePick_accept {read : ReadId} (h : s.judgePick m read = .accept id) : (m.pickTest = .named ∧ m.reticle = some id)
    ∨ (m.pickTest ≠ .named ∧ ∃ r, s.record id = some r ∧ ((∃ p, r.location = .tool p) ∨ r.location = .inspection)) := by
  have created {i : Ident} {c : ClassNo} {y : Condition} {held : Bool} (h : s.createAtPick i c y held = .accept id) : False := by
    unfold State.createAtPick at h
    split at h <;> cases h
  unfold State.judgePick at h
  split at h
  · cases h
  · split at h
    · next test =>
      split at h
      · next named => cases h; exact .inl ⟨test, named⟩
      · cases h
    · next test =>
      refine .inr ⟨by rw [test]; exact nofun, ?_⟩
      unfold State.judgeAnyAtTool at h
      split at h
      · next r known =>
        split at h
        · next p tool => cases h; exact ⟨r, known, .inl ⟨p, tool⟩⟩
        · cases h
      · exact (created h).elim
    · next test =>
      refine .inr ⟨by rw [test]; exact nofun, ?_⟩
      split at h
      · next here =>
        cases h
        unfold State.locatedAt at here
        split at here
        · next r known => exact ⟨r, known, .inr (of_decide_eq_true here)⟩
        · cases here
      · cases h
    · unfold State.judgeStockIn at h
      split at h
      · cases h
      · split at h
        · exact (created h).elim
        · split at h
          · exact (created h).elim
          · cases h
    · cases h

theorem State.judgePick_unnamed {read : ReadId} {r : Rec} (h : s.judgePick m read = .create r) : m.pickTest ≠ .named := fun test => by
  unfold State.judgePick at h
  split at h
  · cases h
  · rw [test] at h
    dsimp only at h
    split at h <;> cases h

/-! ## PICKED (R150, R151, R155) -/

/-- The picks of a record of the catalogue. -/
theorem State.picks_accept (form : s.QueueForm k) (agree : s.view.Agree) (here : m ∈ s.queue) (runs : s.view.Runs m.seq)
    (judged : (m.pickTest = .named ∧ m.reticle = some id)
      ∨ (m.pickTest ≠ .named ∧ ∃ r, s.record id = some r ∧ ((∃ p, r.location = .tool p) ∨ r.location = .inspection))) :
    ∃ l b, s.view.record id = some (l, b) ∧ s.view.Picks m id b ∧ (m.pickTest ≠ .named → ∀ n, l ≠ .slot n) := by
  have waits {x : Move} (hx : x ∈ s.queue) (other : x.seq ≠ m.seq) : x.state = .waiting := by
    refine x.isWaiting_iff.mp ((form.view.waiting hx).mpr fun run => other ?_)
    exact Option.some.inj (run.symm.trans runs)
  rcases judged with ⟨test, named⟩ | ⟨test, r, known, place⟩
  · obtain ⟨l, bound⟩ := agree.binds m here id named
    refine ⟨l, _, bound, ⟨fun _ => ⟨named, rfl⟩, fun unnamed => absurd test unnamed, fun x hx other named' => ?_,
      fun unnamed => absurd test unnamed⟩, fun unnamed => absurd test unnamed⟩
    obtain ⟨l', bound'⟩ := agree.binds x hx id named'
    rw [bound] at bound'
    exact absurd (Option.some.inj (congrArg Prod.snd (Option.some.inj bound'))).symm other
  · have seen := State.record_view known
    have away : ∀ n, r.location ≠ .slot n := by rcases place with ⟨p, e⟩ | e <;> rw [e] <;> exact nofun
    refine ⟨_, _, seen, ⟨fun named => absurd named test, fun _ => ?_, fun x hx other named => ?_, fun _ q binding => ?_⟩, fun _ => away⟩
    · have wired := (agree.wired m here).1
      cases reticle : m.reticle with
      | none => rfl
      | some i => exact absurd (wired.mp (by rw [reticle]; rfl)) test
    · obtain ⟨l, bound⟩ := agree.binds x hx id named
      have same := seen.symm.trans bound
      have location : r.location = l := congrArg Prod.fst (Option.some.inj same)
      obtain ⟨_, stands⟩ := agree.bound_to form.view hx bound
      refine ⟨congrArg Prod.snd (Option.some.inj same), ?_, waits hx other⟩
      rcases place with ⟨p, tool⟩ | inspection
      · rw [← location, tool] at stands
        exact stands.1
      · rw [← location, inspection] at stands
        exact stands.elim
    · obtain ⟨x, hx, seq, named, _⟩ := agree.bound id r.location q (by rw [seen, binding])
      exact ⟨x, hx, seq, named⟩

/-- The picks of a record created at the pick. -/
theorem State.picks_create (agree : s.view.Agree) (here : m ∈ s.queue) (test : m.pickTest ≠ .named) (unknown : s.record id = none) :
    s.view.Picks m id none := by
  have none_ : s.view.record id = none := by simp [State.view, unknown]
  refine ⟨fun named => absurd named test, fun _ => ?_, fun x hx _ named => ?_, fun _ _ => nofun⟩
  · have wired := (agree.wired m here).1
    cases reticle : m.reticle with
    | none => rfl
    | some i => exact absurd (wired.mp (by rw [reticle]; rfl)) test
  · obtain ⟨l, bound⟩ := agree.binds x hx id named
    rw [none_] at bound
    cases bound

/-- A pick refused: the pod goes back to its source (R155). -/
theorem State.agree_mismatch (form : s.view.Form) (agree : s.view.Agree) (picking : s.Picking m) : (s.mismatch m).view.Agree := by
  obtain ⟨here, runs, granted, _⟩ := picking
  obtain ⟨e, exec, move⟩ := Option.bind_eq_some_iff.mp runs
  unfold State.mismatch
  rw [State.view_setCause, State.view_sendPlace]
  refine agree.setExec ?_ fun x _ run => ⟨.putback, ?_, .inl rfl, ?_⟩
  · dsimp only
    rw [exec]
    rfl
  · dsimp only
    rw [exec]
    rfl
  · obtain rfl := form.eq_of_seq ‹_› here (Option.some.inj (run.symm.trans runs))
    dsimp only
    rw [exec]
    exact granted

theorem State.keepRead_picking (read : ReadId) (picking : s.Picking m) : (s.keepRead read).Picking m := by
  obtain ⟨here, runs, granted, scan, aimed⟩ := picking
  refine ⟨here, ?_, granted, scan, aimed⟩
  obtain ⟨e, exec, move⟩ := Option.bind_eq_some_iff.mp runs
  change (s.handler.exec.map _).bind _ = _
  rw [show s.handler.exec = some e from exec]
  exact move

theorem State.agree_keepRead (read : ReadId) (agree : s.view.Agree) : (s.keepRead read).view.Agree :=
  agree.mapExec (f := fun e => { e with read := some read }) (fun _ => rfl) (fun _ => rfl) fun _ => rfl

theorem State.agree_takePicked (read : ReadId) (form : s.QueueForm k) (small : k < 2147483648) (agree : s.view.Agree)
    (picking : s.Picking m) : (s.takePicked m read).view.Agree := by
  have kept := s.grows_updExec (fun e => { e with read := some read }) (fun _ => rfl) (fun _ => rfl) k small form
  have agree' := State.agree_keepRead read agree
  have picking' := State.keepRead_picking read picking
  change (s.keepRead read).QueueForm (k + 0) at kept
  unfold State.takePicked
  change (match (s.keepRead read).judgePick m read with
    | .accept id => (s.keepRead read).picks m id
    | .create r => ((s.keepRead read).createRecord r).picks m r.id
    | .refuse => (s.keepRead read).mismatch m
    | .full id => ((s.keepRead read).refuseCreation id m.source).mismatch m).view.Agree
  generalize s.keepRead read = a at kept agree' picking'
  split
  · next id judged =>
    obtain ⟨l, b, seen, picks, place⟩ := State.picks_accept kept agree' picking'.here picking'.runs (State.judgePick_accept judged)
    refine State.agree_picks (l := l) kept agree' picking' (.refl a) small ?_ picks fun unnamed l' b' here => ?_
    · rw [← seen, Function.update_eq_self]
    · rw [seen] at here
      cases here
      exact place unnamed
  · next r judged =>
    have unbound := State.judgePick_unbound judged
    have unknown : a.record r.id = none := by simpa [State.known] using (State.judgePick_create judged).1
    have picks := State.picks_create agree' picking'.here (State.judgePick_unnamed judged) unknown
    refine State.agree_picks (l := r.location) kept agree' picking' (State.same_createRecord a unbound).grows small
      (a.view_createRecord unknown unbound) picks fun _ l b here => ?_
    simp [State.view, unknown] at here
  · exact State.agree_mismatch kept.view agree' picking'
  · next id _ =>
    have raised : (a.refuseCreation id m.source).view = a.view := State.view_raise _ _ _
    have form' : (a.refuseCreation id m.source).view.Form := by rw [raised]; exact kept.view
    have agree'' : (a.refuseCreation id m.source).view.Agree := by rw [raised]; exact agree'
    refine State.agree_mismatch form' agree'' ?_
    obtain ⟨here, runs, granted, scan, aimed⟩ := picking'
    exact ⟨by rw [raised]; exact here, by rw [raised]; exact runs, by rw [raised]; exact granted, scan, aimed⟩

end Sys2Proof.Machine
end

section
/-! PROOFS. The agreement (O10) of states: the ends of the move in execution. -/

namespace Sys2Proof.Machine

open Sys2Proof

variable {v w : View} {m x : Move} {id : Ident} {p : Port} {n : Slot} {q : Seq} {l : Location} {s t u z : State} {i j k : Nat}

/-! ## A move quits its slots and nests, and then the queue -/

/-- From `v` to `w` the record of the move `m` in execution is put in the slot `d`, if any, or somewhere else out of the gripper, and its
slots and nests are given up; the queue stands. -/
structure View.Quits (v w : View) (m : Move) (d : Option Slot) : Prop where
  queue : w.queue = v.queue
  other : ∀ id, m.reticle ≠ some id → w.record id = v.record id
  own : ∀ id, m.reticle = some id → ∃ l, w.record id = some (l, some m.seq) ∧ l ≠ .gripper ∧ ∀ n, l = .slot n ↔ d = some n
  held : ∀ n, d = some n → (m.source = .slot n ∨ m.target = .pos (.slot n)) ∧ ∃ id, m.reticle = some id ∧ w.slot n = .filled id
  slots : ∀ n, d ≠ some n → w.slot n = v.slot n ∨ ((m.source = .slot n ∨ m.target = .pos (.slot n)) ∧ (w.slot n).Bare)
  source : ∀ n, m.source = .slot n → d ≠ some n → (w.slot n).Bare
  target : ∀ n, m.target = .pos (.slot n) → d ≠ some n → (w.slot n).move = none
  nest : ∀ p, w.nest p = v.nest p ∨ (v.nest p ≠ .outLapsed ∧ v.nest p ≠ .returned)
  waits : w.waits = v.waits
  inn : w.inn = v.inn ∨ ∀ x ∈ v.queue, x.seq ≠ m.seq → x.kind ≠ .reshelve

/-- A move out of the queue and the handler interface. -/
def View.dropIdle (v : View) (q : Seq) : View := { v.drop q with exec := none, busy := .idle }

theorem State.view_dropIdle (s : State) (q : Seq) : ((s.dropMove q).handlerIdle).view = s.view.dropIdle q := by
  unfold State.handlerIdle
  rw [State.view_updHandler, State.view_dropMove]
  rfl

/-- A move's end as the agreement sees it: its target slot stands, or held no other record. -/
theorem View.Agree.quits_still (h : v.Agree) (form : v.Form) (hm : m ∈ v.queue) (runs : v.Runs m.seq) {d : Option Slot}
    (quits : v.Quits w m d) (target : ∀ n, m.target = .pos (.slot n) → w.slot n = v.slot n
      ∨ ∀ id, (v.slot n).reticle = some id → m.reticle = some id) : (w.dropIdle m.seq).Agree := by
  refine h.ends form hm runs (d := d) ⟨fun x => ?_, rfl, fun id other => ?_, fun id named => ?_, quits.held, quits.slots, quits.source,
    quits.target, quits.nest, quits.waits, quits.inn⟩ target
  · simp [View.dropIdle, View.drop, quits.queue]
  · change (w.record id).map (unbind m.seq) = _
    rw [quits.other id other]
    cases here : v.record id with
    | none => rfl
    | some y =>
      obtain ⟨l, b⟩ := y
      have away : b ≠ some m.seq := fun e => by
        rw [e] at here
        exact other (h.bound_to form hm here).1
      simp [unbind, away]
  · obtain ⟨l, here, rest⟩ := quits.own id named
    refine ⟨l, ?_, rest⟩
    change (w.record id).map (unbind m.seq) = _
    rw [here]
    simp [unbind]

theorem View.Agree.quits (h : v.Agree) (form : v.Form) (hm : m ∈ v.queue) (runs : v.Runs m.seq) {d : Option Slot} (quits : v.Quits w m d)
    (own : v.TargetOwn m) : (w.dropIdle m.seq).Agree :=
  h.quits_still form hm runs quits fun n to_n => .inr fun id holds => own n id to_n holds

theorem View.Form.dropIdle (form : v.Form) (runs : v.Runs m.seq) : (v.dropIdle m.seq).Form := by
  have mem (x : Move) (hx : x ∈ (v.dropIdle m.seq).queue) : x ∈ v.queue ∧ x.seq ≠ m.seq := by
    simpa [View.dropIdle, View.drop] using hx
  have idle (q : Seq) : ¬ (v.dropIdle m.seq).Runs q := nofun
  refine ⟨?_, fun x hx => form.shaped x (mem x hx).1, fun x hx run => ?_, fun q run => absurd run (idle q), fun x _ run => absurd run (idle _),
    fun _ => rfl⟩
  · exact form.distinct.sublist (List.Sublist.map _ List.filter_sublist)
  · obtain ⟨old, other⟩ := mem x hx
    exact absurd (Option.some.inj ((form.executing x old run).symm.trans runs)).symm (Ne.symm other)

/-- The RESHELVE in execution is the only one. -/
theorem View.Agree.only_reshelve (h : v.Agree) (hm : m ∈ v.queue) (kind : m.kind = .reshelve) :
    ∀ x ∈ v.queue, x.seq ≠ m.seq → x.kind ≠ .reshelve := fun x hx other kx => other (h.reshelves x hx m hm kx kind)

/-- While IN is not ARRIVED no RESHELVE is in the queue but the one in execution. -/
theorem View.Agree.no_other_reshelve (h : v.Agree) (form : v.Form) (runs : v.Runs m.seq) (inn : v.inn ≠ .arrived) :
    ∀ x ∈ v.queue, x.seq ≠ m.seq → x.kind ≠ .reshelve := fun x hx other kx =>
  inn (h.arrived x hx ((form.waiting hx).mpr fun run => other (Option.some.inj (run.symm.trans runs))) kx)

/-! ## Slots and nests given up -/

/-- A reservation released. -/
def SlotEntry.release (e : SlotEntry) : SlotEntry :=
  match e with
  | .inbound _ _ => .empty
  | e => e

/-- The target of a move released. -/
def View.releaseTarget (v : View) (t : Target) : View :=
  { v with
    slot := fun n => if t = .pos (.slot n) then (v.slot n).release else v.slot n
    nest := fun p => if t = .pos (.nest (.t p)) ∧ v.nest p = .inbound then .empty else v.nest p
    inn := if t = .pos (.nest .inn) ∧ v.inn = .inbound then .empty else v.inn }

theorem State.view_releaseTarget (s : State) (y : Target) : (s.releaseTarget y).view = s.view.releaseTarget y := by
  have other (slot : ∀ n, y ≠ .pos (.slot n)) (tool : ∀ p, y = .pos (.nest (.t p)) → s.toolNest p ≠ .inbound)
      (inn : y = .pos (.nest .inn) → s.inn ≠ .inbound) : s.view = s.view.releaseTarget y := by
    have nest (p : Port) : ¬ (y = .pos (.nest (.t p)) ∧ s.view.nest p = .inbound) := fun h => tool p h.1 h.2
    have innest : ¬ (y = .pos (.nest .inn) ∧ s.view.inn = .inbound) := fun h => inn h.1 h.2
    unfold View.releaseTarget
    simp only [slot, nest, innest, if_false]
  cases y with
  | pos y =>
    cases y with
    | slot a =>
      have written (e : SlotEntry) (here : e = (s.slot a).release) : s.view.setSlot a e = s.view.releaseTarget (.pos (.slot a)) := by
        unfold View.releaseTarget View.setSlot
        congr 1
        · funext n
          rw [Function.update_apply]
          by_cases at_a : n = a
          · subst at_a
            rw [if_pos rfl, if_pos rfl, here]
            rfl
          · rw [if_neg at_a, if_neg]
            intro e
            cases e
            exact at_a rfl
      change (match s.slot a with
        | .inbound _ _ => s.setSlot a .empty
        | _ => s).view = _
      split
      · next here => rw [State.view_setSlot, written .empty (by rw [here]; rfl)]
      · next away =>
        have same : s.view.setSlot a (s.slot a) = s.view := by
          unfold View.setSlot
          rw [show s.slot a = s.view.slot a from rfl, Function.update_eq_self]
        refine same.symm.trans (written (s.slot a) ?_)
        unfold SlotEntry.release
        split
        · next here => exact absurd here (away _ _)
        · rfl
    | nest y =>
      change (if s.nestIsInbound y then s.nestEmptied y else s).view = _
      split
      · next inbound =>
        rw [State.view_nestEmptied]
        unfold View.releaseTarget
        change View.mk _ _ _ _ _ _ _ _ = View.mk _ _ _ _ _ _ _ _
        congr 1
        · funext p
          by_cases e : y = .t p
          · subst e
            have here : s.toolNest p = .inbound := of_decide_eq_true inbound
            simp [State.view, here]
          · simp [e]
        · by_cases e : y = .inn
          · subst e
            have here : s.inn = .inbound := of_decide_eq_true inbound
            simp [State.view, here]
          · simp [e]
      · next still =>
        refine other nofun (fun p e here => still ?_) fun e here => still ?_
        · cases e
          exact decide_eq_true here
        · cases e
          exact decide_eq_true here
    | shelf _ => exact other nofun nofun nofun
  | toSelect => exact other nofun nofun nofun
  | noTarget => exact other nofun nofun nofun

/-- The source of a move given up: a slot, a tool nest or IN with a new entry. -/
def View.quitSource (v : View) (y : Position) (e : SlotEntry) (a : ToolNest) (b : InNest) : View :=
  { v with
    slot := fun n => if y = .slot n then e else v.slot n
    nest := fun p => if y = .nest (.t p) then a else v.nest p
    inn := if y = .nest .inn then b else v.inn }

theorem State.view_quitSlot (s : State) (n : Slot) (e : SlotEntry) (a : ToolNest) (b : InNest) :
    (s.setSlot n e).view = s.view.quitSource (.slot n) e a b := by
  rw [State.view_setSlot]
  unfold View.setSlot View.quitSource
  congr 1
  · funext k
    rw [Function.update_apply]
    by_cases at_n : k = n
    · rw [if_pos at_n, if_pos (by rw [at_n])]
    · rw [if_neg at_n, if_neg]
      intro e
      cases e
      exact at_n rfl

theorem State.view_nestEmptied_quit (s : State) (y : Nest) (e : SlotEntry) :
    (s.nestEmptied y).view = s.view.quitSource (.nest y) e .empty .empty := by
  rw [State.view_nestEmptied]
  unfold View.quitSource
  simp

theorem State.view_nestBlocks_quit (s : State) (y : Nest) (id : Option Ident) (e : SlotEntry) :
    (s.nestBlocks y id).view = s.view.quitSource (.nest y) e .blocked .blocked := by
  unfold State.nestBlocks
  dsimp only
  rw [State.view_raise]
  cases y with
  | t p =>
    refine (s.view_setToolNest p .blocked).trans ?_
    unfold View.setNest View.quitSource
    congr 1
    · funext r
      simp [Function.update_apply, eq_comm]
  | bi =>
    unfold View.quitSource
    simp
    rfl
  | bo =>
    unfold View.quitSource
    simp
    rfl
  | inn =>
    unfold View.quitSource
    simp
    rfl

theorem View.quitSource_shelf (v : View) (y : Shelf) (e : SlotEntry) (a : ToolNest) (b : InNest) : v.quitSource (.shelf y) e a b = v := by
  unfold View.quitSource
  simp

theorem State.view_faultSource (s : State) (m : Move) (read : Option Ident) :
    (s.faultSource m read).view = s.view.quitSource m.source (.fault read) .blocked .blocked := by
  unfold State.faultSource
  split
  · next n source => rw [source]; exact s.view_quitSlot n _ _ _
  · next y source => rw [source]; exact s.view_nestBlocks_quit y read _
  · next y source => rw [source, View.quitSource_shelf]

theorem State.view_emptySource (s : State) (y : Position) :
    (s.emptySource y).view = s.view.quitSource y (.fault none) .empty .empty := by
  cases y with
  | slot n => exact s.view_quitSlot n _ _ _
  | nest y => exact s.view_nestEmptied_quit y _
  | shelf y => rw [View.quitSource_shelf]; rfl

end Sys2Proof.Machine
end

section
/-! PROOFS. The agreement (O10) of states: picks that fail. -/

namespace Sys2Proof.Machine

open Sys2Proof

variable {v w : View} {m x : Move} {id : Ident} {p : Port} {n : Slot} {q : Seq} {l : Location} {s t u z : State} {i j k : Nat}

/-! ## The record of a failed pick lost -/

/-- The record of an identifier, if there is one, is lost. -/
def View.lose (v : View) (r : Option Ident) : View :=
  match r with
  | some id => v.locate id .unlocated
  | none => v

theorem View.lose_dropIdle (v : View) (r : Option Ident) (q : Seq) : (v.dropIdle q).lose r = (v.lose r).dropIdle q := by
  cases r with
  | none => rfl
  | some id =>
    change View.mk _ _ _ _ _ _ _ _ = View.mk _ _ _ _ _ _ _ _
    congr 1
    funext i
    dsimp only [View.dropIdle, View.drop, View.lose, View.locate, View.onRecord]
    rw [Function.update_apply, Function.update_apply]
    split
    · next e =>
      subst e
      cases v.record i with
      | none => rfl
      | some y => rfl
    · rfl

/-- The record of an identifier, if there is one, lost. -/
def State.loseNamed (s : State) (r : Option Ident) : State :=
  match r with
  | some id => s.updRecord id Rec.lose
  | none => s

theorem State.view_loseNamed (s : State) (r : Option Ident) : (s.loseNamed r).view = s.view.lose r := by
  cases r with
  | none => rfl
  | some id => exact s.view_lose id

theorem State.same_loseNamed (s : State) (r : Option Ident) : s.Same (s.loseNamed r) := by
  cases r with
  | none => exact .refl s
  | some id => exact s.same_updRecord id (f := Rec.lose) fun _ => rfl

/-- The record that a read names, if it is another, doubted. -/
def State.doubtRead (s : State) (expected read : Option Ident) : State :=
  match read with
  | some id => if expected = some id then s else s.doubtRecord id
  | none => s

theorem State.lostAndDoubted_eq (s : State) (lost read : Option Ident) :
    s.lostAndDoubted lost read = (s.loseNamed lost).doubtRead lost read := by
  unfold State.lostAndDoubted State.loseNamed State.doubtRead
  rfl

theorem State.fits_doubtRead (s : State) (expected read : Option Ident) : s.Fits 1 (s.doubtRead expected read) := by
  unfold State.doubtRead
  split
  · split
    · exact s.fits_still 1
    · exact s.fits_doubtRecord _
  · exact s.fits_still 1

theorem View.lose_still (v : View) (r : Option Ident) : (v.lose r).slot = v.slot ∧ (v.lose r).queue = v.queue ∧ (v.lose r).nest = v.nest
    ∧ (v.lose r).waits = v.waits ∧ (v.lose r).inn = v.inn := by
  cases r <;> exact ⟨rfl, rfl, rfl, rfl, rfl⟩

theorem View.lose_other (v : View) {r : Option Ident} (other : r ≠ some id) : (v.lose r).record id = v.record id := by
  cases r with
  | none => rfl
  | some i => exact Function.update_of_ne (fun e => other (by rw [e])) _ _

theorem View.lose_own (v : View) {y : Location × Option Seq} (here : v.record id = some y) :
    (v.lose (some id)).record id = some (.unlocated, y.2) := by
  simp [View.lose, View.locate, View.onRecord, here]

/-! ## The slots and nests of a failed pick -/

theorem SlotEntry.Bare.release {e : SlotEntry} (h : e.Bare) : e.release.Bare := by
  cases e with
  | inbound a b => exact ⟨rfl, rfl⟩
  | _ => exact h

/-- A move before its accepted pick gives up its source and its target. -/
theorem View.Agree.quits_granted (h : v.Agree) (form : v.Form) (hm : m ∈ v.queue) (runs : v.Runs m.seq)
    (granted : v.SourceGranted m ∧ v.TargetGranted m) {e : SlotEntry} (bare : e.Bare) (a : ToolNest) (b : InNest) :
    v.Quits (((v.quitSource m.source e a b).releaseTarget m.target).lose m.reticle) m none := by
  obtain ⟨sources, targets⟩ := granted
  obtain ⟨slot, queue, nest, waits, inn⟩ := ((v.quitSource m.source e a b).releaseTarget m.target).lose_still m.reticle
  have slots (n : Slot) : (((v.quitSource m.source e a b).releaseTarget m.target).lose m.reticle).slot n
      = if m.target = .pos (.slot n) then (if m.source = .slot n then e else v.slot n).release
        else if m.source = .slot n then e else v.slot n := congrFun slot n
  have at_source (n : Slot) (from_n : m.source = .slot n) :
      ((((v.quitSource m.source e a b).releaseTarget m.target).lose m.reticle).slot n).Bare := by
    rw [slots, if_pos from_n]
    split
    · exact bare.release
    · exact bare
  have at_target (n : Slot) (to_n : m.target = .pos (.slot n)) :
      ((((v.quitSource m.source e a b).releaseTarget m.target).lose m.reticle).slot n).Bare := by
    by_cases from_n : m.source = .slot n
    · exact at_source n from_n
    · obtain ⟨y, here⟩ := targets.1 n to_n
      rw [slots, if_pos to_n, if_neg from_n, here]
      exact ⟨rfl, rfl⟩
  refine ⟨queue, fun id other => View.lose_other _ other, fun id named => ?_, nofun, fun n _ => ?_, fun n from_n _ => at_source n from_n,
    fun n to_n _ => (at_target n to_n).2, fun p => ?_, waits, ?_⟩
  · obtain ⟨l, bound⟩ := h.binds m hm id named
    refine ⟨.unlocated, ?_, nofun, fun n => ⟨nofun, nofun⟩⟩
    rw [named]
    exact View.lose_own _ (y := (l, some m.seq)) bound
  · by_cases from_n : m.source = .slot n
    · exact .inr ⟨.inl from_n, at_source n from_n⟩
    · by_cases to_n : m.target = .pos (.slot n)
      · exact .inr ⟨.inr to_n, at_target n to_n⟩
      · exact .inl (by rw [slots, if_neg to_n, if_neg from_n])
  · rw [nest]
    by_cases from_p : m.source = .nest (.t p)
    · exact .inr (by rw [sources.1 p from_p]; exact ⟨nofun, nofun⟩)
    · by_cases to_p : m.target = .pos (.nest (.t p))
      · exact .inr (by rw [targets.2.1 p to_p]; exact ⟨nofun, nofun⟩)
      · left
        simp [View.releaseTarget, View.quitSource, from_p, to_p]
  · rw [inn]
    by_cases from_inn : m.source = .nest .inn
    · exact .inr (h.only_reshelve hm ((h.wired m hm).2.inn_kind from_inn))
    · by_cases to_inn : m.target = .pos (.nest .inn)
      · exact .inr (h.no_other_reshelve form runs (by rw [targets.2.2 to_inn]; exact nofun))
      · left
        simp [View.releaseTarget, View.quitSource, from_inn, to_inn]

/-! ## What the ends of a move add to the queue -/

/-- From `s` to `t` only RECLAIMs enter the queue. -/
def State.AddsReclaims (s t : State) : Prop := ∀ m ∈ t.queue, m ∈ s.queue ∨ m.kind = .reclaim

theorem State.AddsReclaims.of_queue (h : t.queue = s.queue) : s.AddsReclaims t := fun _ hm => .inl (h ▸ hm)

theorem State.AddsReclaims.trans (h : s.AddsReclaims t) (g : t.AddsReclaims u) : s.AddsReclaims u := fun m hm =>
  (g m hm).elim (h m) .inr

theorem State.AddsReclaims.no_reshelve (h : s.AddsReclaims t) (free : ∀ m ∈ s.queue, m.kind ≠ .reshelve) :
    ∀ m ∈ t.queue, m.kind ≠ .reshelve := fun m hm => (h m hm).elim (free m) fun e => by rw [e]; exact nofun

theorem State.addsReclaims_offer (s : State) (p : Port) (id : Ident) : s.AddsReclaims (s.offerInward (reclaimOffer p id)) := fun m hm => by
  obtain ⟨hold, view⟩ := s.view_offerInward (reclaimOffer p id)
  have queue : (s.offerInward (reclaimOffer p id)).queue = s.queue ++ [s.entered (reclaimOffer p id) false hold] := congrArg View.queue view
  rw [queue] at hm
  rcases List.mem_append.mp hm with old | new
  · exact .inl old
  · rw [List.mem_singleton.mp new]
    exact .inr rfl

theorem State.addsReclaims_reclaimIfUnfit (s : State) (id : Ident) : s.AddsReclaims (s.reclaimIfUnfit id) := by
  rcases s.reclaimIfUnfit_cases id with h | ⟨r, p, _, _, _, _, h⟩ <;> rw [h]
  · exact .of_queue rfl
  · exact ((State.AddsReclaims.of_queue (s := s) rfl).trans (State.addsReclaims_offer (s.lapseNest p) p id)).trans
      (.of_queue (State.same_sendTool _ p _).queue)

theorem State.addsReclaims_doubtRecord (s : State) (id : Ident) : s.AddsReclaims (s.doubtRecord id) :=
  (State.AddsReclaims.of_queue (t := s.updRecord id Rec.doubt) rfl).trans (State.addsReclaims_reclaimIfUnfit _ id)

theorem State.addsReclaims_doubtRead (s : State) (expected read : Option Ident) : s.AddsReclaims (s.doubtRead expected read) := by
  unfold State.doubtRead
  split
  · split
    · exact .of_queue rfl
    · exact s.addsReclaims_doubtRecord _
  · exact .of_queue rfl

/-! ## The ends of failed picks (R155, R156) -/

/-- The end of a move whose record is lost, and the record read, if another, doubted. -/
theorem State.agree_lostEnd (form : s.QueueForm k) (small : k + 2 < 2147483648) (agree : s.view.Agree) (here : m ∈ s.queue)
    (runs : s.view.Runs m.seq) {d : Option Slot} (quits : s.view.Quits (z.view.lose m.reticle) m d)
    (target : ∀ n, m.target = .pos (.slot n) → (z.view.lose m.reticle).slot n = s.view.slot n
      ∨ ∀ id, (s.view.slot n).reticle = some id → m.reticle = some id)
    (same : s.Same z) (read : Option Ident) {f : State → State} (still : ∀ c, (f c).view = c.view) (sameEnd : ∀ c, State.Same c (f c)) :
    ((f (((z.dropMove m.seq).handlerIdle).lostAndDoubted m.reticle read)).deferredAdmission m.kind).view.Agree := by
  rw [State.lostAndDoubted_eq]
  have zform := (z.ends_dropIdle m.seq) k (by omega) (by rw [same.exec]; exact runs) (same.form form)
  have lostForm := (((z.dropMove m.seq).handlerIdle).same_loseNamed m.reticle).form zform
  have lostAgree : (((z.dropMove m.seq).handlerIdle).loseNamed m.reticle).view.Agree := by
    rw [State.view_loseNamed, State.view_dropIdle, View.lose_dropIdle]
    exact agree.quits_still form.view here runs quits target
  have queue : (((z.dropMove m.seq).handlerIdle).loseNamed m.reticle).queue = s.queue.filter fun x => !decide (x.seq = m.seq) := by
    rw [(((z.dropMove m.seq).handlerIdle).same_loseNamed m.reticle).queue]
    change z.queue.filter _ = _
    rw [same.queue]
  have free (kind : m.kind = .reshelve) : ∀ x ∈ (((z.dropMove m.seq).handlerIdle).loseNamed m.reticle).queue, x.kind ≠ .reshelve := by
    intro x hx
    rw [queue] at hx
    obtain ⟨old, other⟩ := List.mem_filter.mp hx
    exact agree.only_reshelve here kind x old (by simpa using other)
  generalize ((z.dropMove m.seq).handlerIdle).loseNamed m.reticle = c at lostForm lostAgree free
  obtain ⟨form', agree'⟩ := c.fits_doubtRead m.reticle read (k + 0) (by omega) lostForm lostAgree
  have adds := c.addsReclaims_doubtRead m.reticle read
  generalize c.doubtRead m.reticle read = e at form' agree' adds
  refine (State.fits_deferredAdmission _ m.kind (fun kind => ?_) _ (by omega) ((sameEnd e).form form') (by rw [still]; exact agree')).2
  rw [(sameEnd e).queue]
  exact adds.no_reshelve (free kind)

theorem Move.Wired.expected (h : m.Wired) : m.expected = m.reticle := by
  unfold Move.expected
  split
  · rfl
  · next test =>
    cases reticle : m.reticle with
    | none => rfl
    | some i => exact absurd (h.1.mp (by rw [reticle]; rfl)) test

/-- A failed pick, with its slots and nests given up. -/
theorem State.agree_failedPick (form : s.QueueForm k) (small : k + 2 < 2147483648) (agree : s.view.Agree) (here : m ∈ s.queue)
    (runs : s.view.Runs m.seq) (granted : s.view.SourceGranted m ∧ s.view.TargetGranted m) {e : SlotEntry} (bare : e.Bare) {a : ToolNest}
    {b : InNest} (same : s.Same z) (view : z.view = (s.view.quitSource m.source e a b).releaseTarget m.target) (read : Option Ident)
    (outcome : MoveOutcome) (kind : NoticeKind) (d : Detail) :
    ((((((z.dropMove m.seq).handlerIdle).loseExpected m read).tellEnd m outcome).raise kind d).deferredAdmission m.kind).view.Agree := by
  rw [State.loseExpected_eq, (agree.wired m here).expected]
  exact State.agree_lostEnd (f := fun c => (c.tellEnd m outcome).raise kind d) form small agree here runs
    (by rw [view]; exact agree.quits_granted form.view here runs granted bare a b)
    (fun n to_n => .inr fun id holds => granted.2.own n id to_n holds) same read
    (fun _ => (State.view_raise _ _ _).trans (State.view_tellEnd _ _ _)) fun c => (c.same_tellEnd m outcome).trans (State.same_raise _ kind d)

theorem State.agree_mismatchEnd (form : s.QueueForm k) (small : k + 2 < 2147483648) (agree : s.view.Agree) (here : m ∈ s.queue)
    (runs : s.view.Runs m.seq) (granted : s.view.SourceGranted m ∧ s.view.TargetGranted m) : (s.mismatchEnd m).view.Agree := by
  unfold State.mismatchEnd
  dsimp only
  generalize identRead (s.handler.exec.bind fun x => x.read) = read
  refine State.agree_failedPick form small agree here runs granted (e := .fault read) (a := .blocked) (b := .blocked) ⟨rfl, rfl⟩
    ((s.same_faultSource m read).trans (State.same_releaseTarget _ m.target)) ?_ read _ _ _
  rw [State.view_releaseTarget, State.view_faultSource]

theorem State.agree_sourceEmptyEnd (form : s.QueueForm k) (small : k + 2 < 2147483648) (agree : s.view.Agree) (here : m ∈ s.queue)
    (runs : s.view.Runs m.seq) (granted : s.view.SourceGranted m ∧ s.view.TargetGranted m) : (s.sourceEmptyEnd m).view.Agree := by
  unfold State.sourceEmptyEnd
  dsimp only
  refine State.agree_failedPick form small agree here runs granted (e := .fault none) (a := .empty) (b := .empty) ⟨rfl, rfl⟩
    ((s.same_emptySource m.source).trans (State.same_releaseTarget _ m.target)) ?_ none _ _ _
  rw [State.view_releaseTarget, State.view_emptySource]

end Sys2Proof.Machine
end

section
/-! PROOFS. The agreement (O10) of states: completion. -/

namespace Sys2Proof.Machine

open Sys2Proof

variable {v w : View} {m x : Move} {id : Ident} {p : Port} {n : Slot} {q : Seq} {l : Location} {s t u z : State} {i j k : Nat}

/-! ## The placement (R60, R154) -/

theorem State.view_placeAt (s : State) (y : Position) (id : Ident) : (s.placeAt y id).view = match y with
    | .slot n => (s.view.setSlot n (.filled id)).locate id (.slot n)
    | .nest .inn => { s.view.locate id (.nest .inn) with inn := .awayWait }
    | .nest y => s.view.locate id (.nest y)
    | .shelf _ => s.view := by
  cases y with
  | slot n => exact ((s.setSlot n (.filled id)).view_putIn id n).trans (by rw [s.view_setSlot])
  | nest y =>
    cases y with
    | bo => exact s.view_moveTo id _
    | inn =>
      have moved : (s.updRecord id fun r => { r with location := .nest .inn, verdictOwed := true }).view = s.view.locate id (.nest .inn) :=
        s.view_updRecord id (fun _ => rfl) fun _ => rfl
      rw [← moved]
      rfl
    | t p => exact s.view_moveTo id _
    | bi => exact s.view_moveTo id _
  | shelf _ => rfl

theorem View.locate_own (v : View) {y : Location × Option Seq} (here : v.record id = some y) :
    (v.locate id l).record id = some (l, y.2) := by
  simp [View.locate, View.onRecord, here]

theorem View.locate_other (v : View) {a : Ident} (other : a ≠ id) : (v.locate id l).record a = v.record a := Function.update_of_ne other _ _

/-- The move in execution quits its slots and nests for the place where its record goes. -/
theorem View.Agree.quits_to (h : v.Agree) (form : v.Form) (hm : m ∈ v.queue) (runs : v.Runs m.seq)
    (works : v.Carried m ∧ v.TargetGranted m ∧ ∀ n, m.source = .slot n → (v.slot n).move = none) (named : m.reticle = some id)
    (queue : w.queue = v.queue) (record : w.record = (v.locate id l).record) (gripper : l ≠ .gripper)
    (slots : ∀ n, w.slot n = if l = .slot n then .filled id else v.slot n) (target : ∀ n, m.target = .pos (.slot n) ↔ l = .slot n)
    (nest : w.nest = v.nest) (waits : w.waits = v.waits) (inn : w.inn = v.inn ∨ m.target = .pos (.nest .inn)) {d : Option Slot}
    (at_d : ∀ n, l = .slot n ↔ d = some n) : v.Quits w m d := by
  obtain ⟨carried, granted, quiet⟩ := works
  obtain ⟨l', bound⟩ := h.binds m hm id named
  have stands (n : Slot) (other : d ≠ some n) : w.slot n = v.slot n := by rw [slots, if_neg fun e => other ((at_d n).mp e)]
  refine ⟨queue, fun i other => ?_, fun i mine => ?_, fun n at_n => ?_, fun n other => .inl (stands n other), fun n from_n other => ?_,
    fun n to_n other => absurd ((at_d n).mp ((target n).mp to_n)) other, fun p => .inl (congrFun nest p), waits, inn.imp (fun e => e) fun to_inn => ?_⟩
  · rw [record, View.locate_other _ fun e => other (by rw [named, e])]
  · rw [named] at mine
    cases mine
    exact ⟨l, by rw [record]; exact View.locate_own _ bound, gripper, at_d⟩
  · have at_l := (at_d n).mpr at_n
    exact ⟨.inr ((target n).mpr at_l), id, named, by rw [slots, if_pos at_l]⟩
  · rw [stands n other]
    exact ⟨h.source_empty hm runs carried from_n, quiet n from_n⟩
  · exact h.no_other_reshelve form runs (by rw [granted.2.2 to_inn]; exact nofun)

/-- What the agreement reads of a state but for its handler interface. -/
structure State.Shows (s : State) (v : View) : Prop where
  slot : s.view.slot = v.slot
  record : s.view.record = v.record
  queue : s.view.queue = v.queue
  nest : s.view.nest = v.nest
  waits : s.view.waits = v.waits
  inn : s.view.inn = v.inn

theorem State.shows_self (s : State) : s.Shows s.view := ⟨rfl, rfl, rfl, rfl, rfl, rfl⟩

theorem State.Shows.enterPhase (h : s.Shows v) (ph : Phase) : s.Shows (v.enterPhase ph) :=
  ⟨h.slot, h.record, h.queue, h.nest, h.waits, h.inn⟩

/-- A move that names a record goes to no shelf. -/
theorem Move.target_ne_shelf (shaped : m.Shaped) (routed : m.Routed) (named : m.reticle = some id) (n : Shelf) :
    m.target ≠ .pos (.shelf n) := fun target => by
  by_cases store : m.kind.isStore = true
  · obtain ⟨targets, _⟩ := shaped
    rcases targets store with e | e | ⟨k, e⟩ <;> rw [target] at e <;> cases e
  · obtain ⟨_, kind, _, _, _, _, _, _, _, _, _, _, _, _⟩ := m
    dsimp only at target store named
    subst target named
    cases kind with
    | deliver => obtain ⟨_, _, _, _, e, _⟩ := routed; cases e
    | stockOut => obtain ⟨_, _, e, _⟩ := routed; cases e
    | inspectOut => obtain ⟨_, _, e, _⟩ := routed; cases e
    | prestage => obtain ⟨_, _, _, e, _⟩ := routed; cases e
    | scan => obtain ⟨_, _, e⟩ := routed; cases e
    | collect => exact store rfl
    | reclaim => exact store rfl
    | stockIn => exact store rfl
    | reshelve => exact store rfl
    | destage => exact store rfl

/-- The move in execution placed at its target (R154). -/
theorem View.Agree.quits_placed (h : v.Agree) (form : v.Form) (hm : m ∈ v.queue) (runs : v.Runs m.seq)
    (works : v.Carried m ∧ v.TargetGranted m ∧ ∀ n, m.source = .slot n → (v.slot n).move = none) (named : m.reticle = some id) {y : Position}
    (target : m.target = .pos y) (shows : s.Shows v) : v.Quits (s.placeAt y id).view m y.slot? := by
  have located (l : Location) : (s.view.locate id l).record = (v.locate id l).record := by
    unfold View.locate View.onRecord
    rw [shows.record]
  rw [State.view_placeAt]
  cases y with
  | slot n =>
    refine h.quits_to form hm runs works named (w := (s.view.setSlot n (.filled id)).locate id (.slot n)) (l := .slot n) shows.queue
      (located (.slot n)) nofun (fun a => ?_) (fun a => ?_) shows.nest shows.waits
      (.inl shows.inn) fun a => ?_
    · change Function.update s.view.slot n _ a = _
      rw [Function.update_apply, shows.slot]
      simp [eq_comm]
    · rw [target]
      simp
    · simp [Position.slot?]
  | nest y =>
    have fixed {w : View} {y : Nest} (to_y : m.target = .pos (.nest y)) (queue : w.queue = v.queue)
        (record : w.record = (v.locate id (.nest y)).record) (slot : w.slot = v.slot) (nest : w.nest = v.nest) (waits : w.waits = v.waits)
        (inn : w.inn = v.inn ∨ m.target = .pos (.nest .inn)) : v.Quits w m none :=
      h.quits_to form hm runs works named (l := .nest y) queue record nofun (fun a => by simp [slot]) (fun a => by simp [to_y]) nest waits
        inn fun a => by simp
    cases y with
    | inn => exact fixed target shows.queue (located _) shows.slot shows.nest shows.waits (.inr target)
    | bo => exact fixed target shows.queue (located _) shows.slot shows.nest shows.waits (.inl shows.inn)
    | bi => exact fixed target shows.queue (located _) shows.slot shows.nest shows.waits (.inl shows.inn)
    | t p => exact fixed target shows.queue (located _) shows.slot shows.nest shows.waits (.inl shows.inn)
  | shelf n => exact absurd target (Move.target_ne_shelf (form.shaped m hm) (h.wired m hm).2 named n)

/-- A record put on a tool nest at a completion, with no move in execution: the nest was INBOUND, and nothing waits at it (R60). -/
theorem State.agree_placementTest (b : Bool) (form : s.QueueForm k) (agree : s.view.Agree) (idle : s.view.exec = none)
    (nest : s.view.nest p = .inbound) (here : s.view.record id = some (.nest (.t p), none)) : (s.placementTest p id b).view.Agree := by
  have free := agree.unwaited (p := p) (by rw [nest]; exact nofun) (by rw [nest]; exact nofun)
  have lapsed : ((s.lapseNest p).offerInward (reclaimOffer p id)).view.Agree := by
    obtain ⟨hold, view⟩ := (s.lapseNest p).view_offerInward (reclaimOffer p id)
    rw [view, State.view_lapseNest]
    have agree' : (s.view.lapse p).Agree := agree.setPort (.inr ⟨.inl idle, free⟩) nofun
    exact agree'.reclaim (View.lapse_form form.view) (by simp [View.lapse, View.setNest, View.setWaits]) free here rfl rfl rfl rfl rfl form.fresh
  unfold State.placementTest
  split
  · split
    · have view : (((s.setToolNest p .outWait).sendTool p (.ready id)).startWindow p .collect).view
          = (s.view.setNest p .outWait).setWaits p false := by
        unfold State.startWindow
        rw [State.view_updPort, State.view_sendTool, State.view_setToolNest]
        have same : ((s.setToolNest p .outWait).sendTool p (.ready id)).port p = { s.port p with nest := .outWait } := by
          unfold State.port
          rw [State.sendTool_ports]
          exact s.port_updPort_same ..
        rw [same]
        exact congrArg (fun v => View.setWaits v p false) ((s.view.setNest p .outWait).setNest_self p |>.symm ▸ by simp [View.setNest])
      rw [view]
      exact agree.setPort (.inr ⟨.inl idle, free⟩) nofun
    · dsimp only
      split
      · rw [State.view_sendTool]
        exact lapsed
      · exact lapsed
  · exact agree

end Sys2Proof.Machine
end

section
/-! PROOFS. The agreement (O10) of states: completion, and PLACED. -/

namespace Sys2Proof.Machine

open Sys2Proof

variable {v w : View} {m x : Move} {id : Ident} {p : Port} {n : Slot} {q : Seq} {l : Location} {s t u z : State} {i j k : Nat}

/-- A hold of a record bound to a move in execution, and not on an OUT_WAIT nest, only sets its flag. -/
theorem State.view_setHeld_executing (bound : ∀ r, s.record id = some r → ∀ x, s.boundMove r = some x → x.state ≠ .waiting)
    (nest : ∀ r p, s.record id = some r → r.location = .nest (.t p) → s.toolNest p ≠ .outWait) : (s.setHeld id).view = s.view := by
  unfold State.setHeld
  split
  · next r known =>
    split
    · rfl
    · have held : (s.updRecord id fun x => { x with held := true }).view = s.view := s.view_updRecord_same id (fun _ => rfl) fun _ => rfl
      have still : (s.updRecord id fun x => { x with held := true }).withdrawHeldDeliver r = s.updRecord id fun x => { x with held := true } := by
        unfold State.withdrawHeldDeliver
        split
        · next x at_x =>
          rw [if_neg]
          rintro ⟨_, waits⟩
          exact bound r known x at_x waits
        · rfl
      rw [still]
      rcases (s.updRecord id fun x => { x with held := true }).reclaimIfUnfit_cases id with h | ⟨r', p, known', location, waits, _⟩
      · rw [h]
        exact held
      · rw [s.record_updRecord_same id (f := fun x => { x with held := true }) fun _ => rfl, known] at known'
        cases known'
        exact absurd waits (nest r p known location)
  · rfl

theorem State.addsReclaims_placementTest (s : State) (p : Port) (id : Ident) (b : Bool) : s.AddsReclaims (s.placementTest p id b) := by
  have lapsed : s.AddsReclaims ((s.lapseNest p).offerInward (reclaimOffer p id)) :=
    (State.AddsReclaims.of_queue (s := s) rfl).trans (State.addsReclaims_offer (s.lapseNest p) p id)
  unfold State.placementTest
  split
  · split
    · refine .of_queue ?_
      change ((s.setToolNest p .outWait).sendTool p (.ready id)).queue = _
      rw [(State.same_sendTool _ p _).queue]
      rfl
    · dsimp only
      split
      · exact lapsed.trans (.of_queue (State.same_sendTool _ p _).queue)
      · exact lapsed
  · exact .of_queue rfl

theorem State.addsReclaims_delivered (s : State) (m : Move) (id : Ident) : s.AddsReclaims (s.delivered m id) := by
  unfold State.delivered
  split
  · exact (State.AddsReclaims.of_queue (s := s) rfl).trans (State.addsReclaims_placementTest _ _ id _)
  · exact .of_queue rfl

section Completing

variable (h : v.Agree) (form : v.Form) (hm : m ∈ v.queue) (named : m.reticle = some id) {y : Position} (shows : s.Shows v)
include h hm named shows

/-- The record placed on a nest. -/
theorem State.record_placeAt_nest (y : Nest) : (s.placeAt (.nest y) id).view.record id = some (.nest y, some m.seq) := by
  obtain ⟨l, bound⟩ := h.binds m hm id named
  have now : s.view.record id = some (l, some m.seq) := by rw [shows.record]; exact bound
  rw [State.view_placeAt]
  cases y <;> exact View.locate_own _ now

include form in
/-- The record of a move to a nest is on that nest or in a slot, its move in execution: a hold on completion only sets its flag. -/
theorem State.view_arrivedAt (sform : s.QueueForm k) (runs : v.Runs m.seq) (granted : v.TargetGranted m) (target : m.target = .pos y)
    (there : ∃ l, (s.placeAt y id).view.record id = some (l, some m.seq) ∧ ∀ n, l = .slot n ↔ y.slot? = some n) :
    (s.arrivedAt m y id).view = (s.placeAt y id).view := by
  obtain ⟨l, at_l, at_d⟩ := there
  have placed := s.same_placeAt y id
  have here : m ∈ (s.placeAt y id).queue := by
    rw [placed.queue, show s.queue = v.queue from shows.queue]
    exact hm
  unfold State.arrivedAt
  split
  · refine State.view_setHeld_executing (fun r known x at_x => ?_) (fun r p known location waits => ?_)
    · have bound := (State.record_view known).symm.trans at_l
      obtain ⟨q, binding, found⟩ := Option.bind_eq_some_iff.mp at_x
      rw [binding] at bound
      have same : q = m.seq := Option.some.inj (congrArg Prod.snd (Option.some.inj bound))
      rw [same, State.move?_of_mem (placed.form sform).distinct here] at found
      cases found
      rw [(form.runs_iff hm).mp runs]
      exact nofun
    · have bound := (State.record_view known).symm.trans at_l
      have same : l = .nest (.t p) := (congrArg Prod.fst (Option.some.inj bound)).symm.trans location
      have to_p : y = .nest (.t p) := by
        cases y with
        | slot n => exact absurd ((at_d n).mpr rfl) (by rw [same]; exact nofun)
        | shelf n => exact absurd target (Move.target_ne_shelf (form.shaped m hm) (h.wired m hm).2 named n)
        | nest y =>
          rw [State.record_placeAt_nest h hm named shows y] at at_l
          have place : Location.nest y = l := congrArg Prod.fst (Option.some.inj at_l)
          rw [same] at place
          cases place
          rfl
      subst to_p
      have nests : (s.placeAt (.nest (.t p)) id).toolNest p = v.nest p := congrFun shows.nest p
      rw [nests, granted.2.1 p target] at waits
      cases waits
  · rfl

end Completing

theorem State.grows_arrivedAt (s : State) (m : Move) (y : Position) (id : Ident) : (s.placeAt y id).Grows 1 (s.arrivedAt m y id)
    ∧ (s.arrivedAt m y id).handler = (s.placeAt y id).handler := by
  unfold State.arrivedAt
  split
  · exact ⟨State.grows_setHeld _ id, State.setHeld_handler _ id⟩
  · exact ⟨State.grows_still _ 1, rfl⟩

theorem State.same_told (s : State) (m : Move) (x : MoveOutcome) : s.handlerIdle.Same (s.tellEnd m x).handlerIdle
    ∧ (s.tellEnd m x).handlerIdle.view = s.handlerIdle.view := by
  obtain ⟨tx, e⟩ := s.tellEnd_eq m x
  rw [e]
  exact ⟨.of_catalogue rfl rfl rfl rfl, rfl⟩

/-- What a completion tells the port of a DELIVER: its record is on the nest, which was INBOUND. -/
theorem State.agree_delivered (form : s.QueueForm k) (agree : s.view.Agree) (idle : s.view.exec = none) (routed : m.Routed)
    (onNest : ∀ p, m.target = .pos (.nest (.t p)) → s.view.nest p = .inbound ∧ s.view.record id = some (.nest (.t p), none)) :
    (s.delivered m id).view.Agree := by
  unfold State.delivered
  split
  · next p kind beneficiary =>
    unfold Move.Routed at routed
    rw [kind] at routed
    obtain ⟨p', _, mine, _, to_p, _⟩ := routed
    rw [beneficiary] at mine
    cases mine
    obtain ⟨nest, there⟩ := onNest p to_p
    have ahead := s.same_updAhead p fun a => a.placed id
    exact State.agree_placementTest m.standDown (ahead.form form) agree idle nest there
  · exact agree

/-- The move in execution, its record in the gripper, completes at its target (R154). -/
theorem State.agree_complete (h : v.Agree) (form : v.Form) (sform : s.QueueForm k) (small : k + 3 < 2147483648) (hm : m ∈ v.queue)
    (runs : v.Runs m.seq) (own : s.view.Runs m.seq)
    (works : v.Carried m ∧ v.TargetGranted m ∧ ∀ n, m.source = .slot n → (v.slot n).move = none) (named : m.reticle = some id) {y : Position}
    (target : m.target = .pos y) (shows : s.Shows v) : (s.complete m).view.Agree := by
  have quits := h.quits_placed form hm runs works named target shows
  obtain ⟨l, at_l, _, at_d⟩ := quits.own id named
  have placed := s.same_placeAt y id
  have view := State.view_arrivedAt h form hm named shows sform runs works.2.1 target ⟨l, at_l, at_d⟩
  obtain ⟨grows, handler⟩ := s.grows_arrivedAt m y id
  have executing : (s.arrivedAt m y id).handler.exec.bind (·.move) = some m.seq := by
    rw [handler, placed.exec]
    exact own
  have dropped := ((s.arrivedAt m y id).ends_dropIdle m.seq) (k + 1) (by omega) executing (grows k (by omega) (placed.form sform))
  obtain ⟨same, told⟩ := ((s.arrivedAt m y id).dropMove m.seq).same_told m .placed
  have cform := same.form dropped
  have cview : (((s.arrivedAt m y id).dropMove m.seq).tellEnd m .placed).handlerIdle.view = (s.placeAt y id).view.dropIdle m.seq := by
    rw [told, State.view_dropIdle, view]
  rw [State.complete_eq named target]
  unfold State.completed
  generalize (((s.arrivedAt m y id).dropMove m.seq).tellEnd m .placed).handlerIdle = c at cform cview
  have free (kind : m.kind = .reshelve) : ∀ x ∈ c.queue, x.kind ≠ .reshelve := fun x hx => by
    rw [show c.queue = (s.placeAt y id).queue.filter _ from congrArg View.queue cview, placed.queue] at hx
    obtain ⟨old, other⟩ := List.mem_filter.mp hx
    exact h.only_reshelve hm kind x ((show s.queue = v.queue from shows.queue) ▸ old) (by simpa using other)
  have onNest (p : Port) (to_p : m.target = .pos (.nest (.t p))) :
      c.view.nest p = .inbound ∧ c.view.record id = some (.nest (.t p), none) := by
    rw [target] at to_p
    cases to_p
    rw [cview]
    refine ⟨(congrFun shows.nest p).trans (works.2.1.2.1 p target), ?_⟩
    change ((s.placeAt (.nest (.t p)) id).view.record id).map (unbind m.seq) = _
    rw [State.record_placeAt_nest h hm named shows (.t p)]
    simp [unbind]
  have agree : c.view.Agree := by
    rw [cview]
    exact h.quits form hm runs quits works.2.1.own
  have idle : c.view.exec = none := by
    rw [cview]
    rfl
  have delivered := State.agree_delivered cform agree idle (h.wired m hm).2 onNest
  exact (State.fits_deferredAdmission _ m.kind (fun kind => (c.addsReclaims_delivered m id).no_reshelve (free kind)) _ (by omega)
    (c.grows_delivered m id (k + 1 + 0) (by omega) cform) delivered).2

end Sys2Proof.Machine
end

section
/-! PROOFS. The agreement (O10) of states: a move back at its source (R158, R159, R166). -/

namespace Sys2Proof.Machine

open Sys2Proof

variable {v w : View} {m x : Move} {id : Ident} {p : Port} {n : Slot} {q : Seq} {l : Location} {s t u z : State} {i j k : Nat}

/-! ## The pod back at its source -/

/-- Where a record is with its pod back at the source of its move: in the slot, or on the nest it was lifted from. -/
def Location.backAt (y : Position) (l : Location) : Location :=
  match y with
  | .slot n => .slot n
  | .nest y => if l = .gripper then .nest y else l
  | .shelf _ => l

/-- A slot entry with the record of a move back in it. -/
def SlotEntry.backWith (e : SlotEntry) (r : Option Ident) : SlotEntry :=
  match r with
  | some id => .filled id
  | none => e

/-- The record of a move, if it names one, with its pod back at the source. -/
def View.recordBack (v : View) (m : Move) : Ident → Option (Location × Option Seq) :=
  match m.reticle with
  | some id => (v.onRecord id fun y => (y.1.backAt m.source, y.2)).record
  | none => v.record

/-- The pod of a move back at its source. -/
def View.backAtSource (v : View) (m : Move) : View :=
  { v with
    slot := fun n => if m.source = .slot n then (v.slot n).backWith m.reticle else v.slot n
    record := v.recordBack m
    nest := fun p => if m.source = .nest (.t p) then (if m.kind = .reclaim then .outLapsed else .returned) else v.nest p
    inn := if m.source = .nest .inn then .arrived else v.inn }

theorem State.view_nestRestored (s : State) (y : Nest) (k : MoveKind) : (s.nestRestored y k).view = { s.view with
    nest := fun p => if y = .t p then (if k = .reclaim then .outLapsed else .returned) else s.view.nest p
    inn := if y = .inn then .arrived else s.view.inn } := by
  cases y with
  | t p =>
    refine (s.view_setToolNest p _).trans ?_
    change View.mk _ _ _ _ _ _ _ _ = View.mk _ _ _ _ _ _ _ _
    congr 1
    funext r
    simp [Function.update_apply, eq_comm]
  | bi => simp; rfl
  | bo => simp; rfl
  | inn => simp; rfl

theorem View.onRecord_same {f : Location × Option Seq → Location × Option Seq} (same : ∀ y, v.record id = some y → f y = y) :
    v.onRecord id f = v := by
  have kept : (v.record id).map f = v.record id := by
    cases here : v.record id with
    | none => rfl
    | some y => simp [same y here]
  simp [View.onRecord, kept]

theorem View.onRecord_congr {f g : Location × Option Seq → Location × Option Seq} (same : ∀ y, v.record id = some y → f y = g y) :
    v.onRecord id f = v.onRecord id g := by
  have kept : (v.record id).map f = (v.record id).map g := by
    cases here : v.record id with
    | none => rfl
    | some y => simp [same y here]
  simp [View.onRecord, kept]

theorem State.locatedAt_of_view {b : Option Seq} (h : s.view.record id = some (l, b)) : s.locatedAt id l = true := by
  obtain ⟨r, known, seen⟩ := Option.map_eq_some_iff.mp h
  rw [s.locatedAt_any, known]
  simp [show r.location = l from congrArg Prod.fst seen]

/-- The nests of a move back at its source nest. -/
theorem View.backAtSource_nest {y : Nest} (source : m.source = .nest y) : v.backAtSource m = { v with
    record := v.recordBack m
    nest := fun p => if y = .t p then (if m.kind = .reclaim then .outLapsed else .returned) else v.nest p
    inn := if y = .inn then .arrived else v.inn } := by
  simp [View.backAtSource, source]

theorem State.view_backAtSource (s : State) (m : Move) : (s.backAtSource m).view = s.view.backAtSource m := by
  unfold State.backAtSource
  split
  · next n id source names =>
    rw [State.view_putIn, State.view_setSlot]
    change View.mk _ _ _ _ _ _ _ _ = View.mk _ _ _ _ _ _ _ _
    simp only [source, names, View.recordBack]
    congr 1
    funext a
    simp [View.setSlot, Function.update_apply, SlotEntry.backWith, eq_comm]
  · next y id source names =>
    rw [View.backAtSource_nest source]
    have record : s.view.recordBack m = (s.view.onRecord id fun z => (z.1.backAt (.nest y), z.2)).record := by
      simp only [View.recordBack, names, source]
    rw [record]
    dsimp only
    split
    · next gripped =>
      obtain ⟨b, at_g⟩ := State.locatedAt_view gripped
      have there : (s.view.onRecord id fun z => (z.1.backAt (.nest y), z.2)) = s.view.locate id (.nest y) :=
        View.onRecord_congr fun z hz => by
          rw [hz] at at_g
          cases at_g
          rfl
      rw [there, State.view_moveTo, State.view_nestRestored]
      rfl
    · next away =>
      have there : (s.view.onRecord id fun z => (z.1.backAt (.nest y), z.2)) = s.view :=
        View.onRecord_same fun z hz => by
          obtain ⟨a, b⟩ := z
          have elsewhere : a ≠ .gripper := fun e =>
            away (State.locatedAt_of_view (b := b) (by rw [hz, e]))
          simp [Location.backAt, elsewhere]
      rw [there, State.view_nestRestored]
  · next y source names =>
    rw [State.view_nestRestored, View.backAtSource_nest source]
    simp only [View.recordBack, names]
  · next slot nest unnamed =>
    cases source : m.source with
    | slot n =>
      have names : m.reticle = none := Option.eq_none_iff_forall_not_mem.mpr fun id named => slot n id source named
      unfold View.backAtSource
      simp [View.recordBack, names, SlotEntry.backWith, source]
    | nest y =>
      cases names : m.reticle with
      | some id => exact (nest y id source names).elim
      | none => exact (unnamed y source names).elim
    | shelf y =>
      have record : s.view.recordBack m = s.view.record := by
        unfold View.recordBack
        split
        · rw [View.onRecord_same fun z _ => by simp [Location.backAt, source]]
        · rfl
      unfold View.backAtSource
      simp [record, source]

/-! ## The move put back quits its slots and nests -/

theorem Move.Routed.not_from_bo (h : m.Routed) : m.source ≠ .nest .bo := fun source => by
  unfold Move.Routed at h
  split at h <;> simp_all

theorem Move.Routed.shelf_scan (h : m.Routed) {y : Shelf} (source : m.source = .shelf y) : m.kind = .scan := by
  unfold Move.Routed at h
  split at h <;> simp_all

/-- Out of the gripper a bound record is where the kind and the source of its move have it. -/
theorem Move.Stands.of_place (h : m.Stands l) (away : l ≠ .gripper) (kind : x.kind = m.kind) (source : x.source = m.source) :
    x.Stands l := by
  cases l with
  | gripper => exact absurd rfl away
  | slot n => exact source.trans h
  | tool p => exact ⟨kind.trans h.1, source.trans h.2⟩
  | nest y =>
    cases y with
    | bo => exact h
    | t p => exact source.trans h
    | bi => exact source.trans h
    | inn => exact source.trans h
  | inspection => exact h
  | unlocated => exact h

/-- Back at its source a bound record is out of the gripper, in a slot exactly when that is the source, and where a WAITING move has it. -/
theorem Move.Stands.backAt (h : m.Stands l) (bo : m.source ≠ .nest .bo) (shelf : ∀ y, m.source ≠ .shelf y) :
    l.backAt m.source ≠ .gripper ∧ (∀ n, l.backAt m.source = .slot n ↔ m.source.slot? = some n)
      ∧ ∀ x : Move, x.kind = m.kind → x.source = m.source → x.Stands (l.backAt m.source) := by
  cases source : m.source with
  | slot n => exact ⟨nofun, fun k => by simp [Location.backAt, Position.slot?], fun x _ same => same⟩
  | shelf y => exact absurd source (shelf y)
  | nest y =>
    by_cases gripped : l = .gripper
    · have back : l.backAt (.nest y) = .nest y := if_pos gripped
      rw [back]
      refine ⟨nofun, fun k => by simp [Position.slot?], fun x _ same => ?_⟩
      cases y with
      | bo => exact absurd source bo
      | t p => exact same
      | bi => exact same
      | inn => exact same
    · have back : l.backAt (.nest y) = l := if_neg gripped
      rw [back]
      refine ⟨gripped, fun k => ?_, fun x kind same => ?_⟩
      · have away : l ≠ .slot k := fun e => by
          subst e
          exact absurd (source.symm.trans h) nofun
        simp [away, Position.slot?]
      · exact h.of_place gripped kind (same.trans source.symm)

/-- A move that can be put back: its source nest is in no state that is waited at, and its target slot is reserved for it, to be
released, or not at all. -/
structure View.Returns (v : View) (m : Move) (t : Target) : Prop where
  plain : m.kind ≠ .scan
  nest : ∀ p, m.source = .nest (.t p) → v.nest p ≠ .outLapsed ∧ v.nest p ≠ .returned
  release : t = m.target ∨ t = .noTarget
  target : ∀ n, m.target = .pos (.slot n) → (v.slot n).move = none ∨ (t = m.target ∧ ∃ y, v.slot n = .inbound y m.seq)

/-- The view of a move back at its source with its target released. -/
def View.returned (v : View) (m : Move) (t : Target) : View := (v.backAtSource m).releaseTarget t

theorem View.releaseTarget_noTarget (v : View) : v.releaseTarget .noTarget = v := by simp [View.releaseTarget]

theorem SlotEntry.release_move (e : SlotEntry) {y : Option Ident} (h : e.move = none ∨ e = .inbound y q) : e.release.move = none := by
  rcases h with h | h
  · cases e with
    | inbound a b => rfl
    | _ => exact h
  · rw [h]
    rfl

/-- The record of a move back at its source. -/
theorem View.Agree.record_returned (h : v.Agree) (form : v.Form) (hm : m ∈ v.queue) (plain : m.kind ≠ .scan) (t : Target)
    (named : m.reticle = some id) : ∃ l, (v.returned m t).record id = some (l, some m.seq) ∧ l ≠ .gripper
      ∧ (∀ n, l = .slot n ↔ m.source.slot? = some n) ∧ ∀ x : Move, x.kind = m.kind → x.source = m.source → x.Stands l := by
  obtain ⟨l, bound⟩ := h.binds m hm id named
  have routed := (h.wired m hm).2
  obtain ⟨away, slot, stands⟩ := (h.bound_to form hm bound).2.backAt routed.not_from_bo
    fun y source => plain (routed.shelf_scan source)
  refine ⟨l.backAt m.source, ?_, away, slot, stands⟩
  change v.recordBack m id = _
  simp [View.recordBack, named, View.onRecord, bound]

theorem View.record_returned_other (v : View) (t : Target) (other : m.reticle ≠ some id) :
    (v.returned m t).record id = v.record id := by
  change v.recordBack m id = _
  cases named : m.reticle with
  | none => simp only [View.recordBack, named]
  | some i =>
    simp only [View.recordBack, named]
    exact Function.update_of_ne (fun e => other (by rw [named, e])) _ _

theorem View.slot_returned (v : View) (m : Move) (t : Target) (n : Slot) : (v.returned m t).slot n
    = if t = .pos (.slot n) then (if m.source = .slot n then (v.slot n).backWith m.reticle else v.slot n).release
      else if m.source = .slot n then (v.slot n).backWith m.reticle else v.slot n := rfl

theorem View.Agree.quits_returned (h : v.Agree) (form : v.Form) (hm : m ∈ v.queue) (runs : v.Runs m.seq) {t : Target}
    (returns : v.Returns m t) : v.Quits (v.returned m t) m m.source.slot? := by
  have routed := (h.wired m hm).2
  have differ := Move.source_ne_target (form.shaped m hm) routed
  have to_target (y : Position) (e : t = .pos y) : m.target = .pos y := returns.release.elim (fun same => same.symm.trans e)
    fun none_ => by rw [none_] at e; cases e
  have source_slot (n : Slot) : m.source.slot? = some n ↔ m.source = .slot n := by
    cases m.source <;> simp [Position.slot?]
  refine ⟨rfl, fun id other => View.record_returned_other v t other, fun id named => ?_, fun n from_n => ?_, fun n other => ?_,
    fun n from_n other => absurd ((source_slot n).mpr from_n) other, fun n to_n other => ?_, fun p => ?_, rfl, ?_⟩
  · obtain ⟨l, here, away, slot, _⟩ := h.record_returned form hm returns.plain t named
    exact ⟨l, here, away, slot⟩
  · have source := (source_slot n).mp from_n
    obtain ⟨id, named⟩ := Option.isSome_iff_exists.mp (routed.slot_named source)
    refine ⟨.inl source, id, named, ?_⟩
    rw [View.slot_returned, if_neg fun e => differ n source (to_target _ e), if_pos source, named]
    rfl
  · have source : m.source ≠ .slot n := fun e => other ((source_slot n).mpr e)
    rw [View.slot_returned, if_neg source]
    split
    · next to_n =>
      rcases returns.target n (to_target _ to_n) with free | ⟨_, y, here⟩
      · left
        cases e : v.slot n with
        | inbound a b => rw [e] at free; cases free
        | _ => rfl
      · right
        rw [here]
        exact ⟨.inr (to_target _ to_n), rfl, rfl⟩
    · exact .inl rfl
  · have source : m.source ≠ .slot n := fun e => other ((source_slot n).mpr e)
    rw [View.slot_returned, if_neg source]
    rcases returns.target n to_n with free | ⟨same, y, here⟩
    · split
      · exact SlotEntry.release_move _ (y := none) (q := m.seq) (.inl free)
      · exact free
    · rw [if_pos (same.trans to_n), here]
      rfl
  · by_cases from_p : m.source = .nest (.t p)
    · exact .inr (returns.nest p from_p)
    · by_cases inbound : t = .pos (.nest (.t p)) ∧ v.nest p = .inbound
      · exact .inr (by rw [inbound.2]; exact ⟨nofun, nofun⟩)
      · left
        simp [View.returned, View.releaseTarget, View.backAtSource, from_p, inbound]
  · by_cases from_inn : m.source = .nest .inn
    · exact .inr (h.only_reshelve hm (routed.inn_kind from_inn))
    · by_cases inbound : t = .pos (.nest .inn) ∧ v.inn = .inbound
      · exact .inr (h.no_other_reshelve form runs (by rw [inbound.2]; exact nofun))
      · left
        simp [View.returned, View.releaseTarget, View.backAtSource, from_inn, inbound]

end Sys2Proof.Machine
end

section
/-! PROOFS. The agreement (O10) of states: a move put back waits again (R115, R159, R166). -/

namespace Sys2Proof.Machine

open Sys2Proof

variable {v w : View} {m x : Move} {id : Ident} {p : Port} {n : Slot} {q : Seq} {l : Location} {s t u z : State} {i j k : Nat}

/-- A move of the queue as it waits again. -/
structure Move.Again (m x : Move) : Prop where
  seq : x.seq = m.seq
  kind : x.kind = m.kind
  source : x.source = m.source
  reticle : x.reticle = m.reticle
  waits : x.isWaiting = true
  wired : x.Wired

/-- The view with a move WAITING again and no move in execution. -/
def View.waitAgain (v : View) (x : Move) : View :=
  { v with queue := v.queue.map fun y => if y.seq = x.seq then x else y, exec := none, busy := .idle }

theorem View.Agree.again (h : v.Agree) (form : v.Form) (hm : m ∈ v.queue) (runs : v.Runs m.seq) {d : Option Slot} (quits : v.Quits w m d)
    (again : m.Again x) (target : ∀ n, m.target = .pos (.slot n) → w.slot n = v.slot n
      ∨ ∀ id, (v.slot n).reticle = some id → m.reticle = some id)
    (stands : ∀ id, m.reticle = some id → ∃ l, w.record id = some (l, some m.seq) ∧ x.Stands l)
    (nest : ∀ p, m.source = .nest (.t p) → w.NestFor m p ∧ v.nest p ≠ .outLapsed ∧ v.nest p ≠ .returned)
    (inn : m.kind = .reshelve → w.inn = .arrived) : (w.waitAgain x).Agree := by
  have left := h.quits_still form hm runs quits target
  have formLeft : (w.dropIdle m.seq).Form := by
    have old : (v.dropIdle m.seq).Form := form.dropIdle runs
    have queue : (w.dropIdle m.seq).queue = (v.dropIdle m.seq).queue := congrArg (fun ms : List Move => ms.filter _) quits.queue
    exact ⟨by rw [queue]; exact old.distinct, by rw [queue]; exact old.shaped, by rw [queue]; exact old.executing,
      by rw [queue]; exact old.named, by rw [queue]; exact old.cause, fun _ => rfl⟩
  unfold View.waitAgain
  rw [again.seq]
  refine View.Agree.waits_again (quits.queue ▸ hm) left formLeft again.seq again.waits again.wired (fun id l bound => ?_) (fun id named => ?_)
    (fun p from_p => ?_) fun kind => ?_
  · rw [again.reticle]
    by_contra other
    rw [quits.other id other] at bound
    exact other (h.bound_to form hm bound).1
  · exact stands id (again.reticle ▸ named)
  · rw [again.source] at from_p
    obtain ⟨for_m, lapsed, returned⟩ := nest p from_p
    refine ⟨?_, fun y hy _ waits => ?_⟩
    · unfold View.NestFor at for_m ⊢
      rw [again.kind]
      exact for_m
    · exact h.unwaited lapsed returned y (quits.queue ▸ hy) waits
  · rw [again.kind] at kind
    refine ⟨inn kind, fun y hy other => ?_⟩
    rw [quits.queue] at hy
    exact h.only_reshelve hm kind y hy other

/-! ## The move back at its source waits -/

theorem Move.again_again (h : m.Wired) : m.Again m.again := by
  refine ⟨rfl, rfl, rfl, rfl, rfl, h.1, ?_⟩
  unfold Move.again
  have routed := h.2
  split
  · next store => exact (routed.retarget store .toSelect)
  · exact routed

theorem View.nestFor_returned (routed : m.Routed) (source : m.source = .nest (.t p)) (quiet : v.waits p = false) (t : Target) :
    (v.returned m t).NestFor m p := by
  have back : (v.backAtSource m).nest p = if m.kind = .reclaim then .outLapsed else .returned := by simp [View.backAtSource, source]
  have nest : (v.returned m t).nest p = if m.kind = .reclaim then .outLapsed else .returned := by
    have outward : (v.backAtSource m).nest p ≠ .inbound := by
      rw [back]
      split <;> exact nofun
    rw [← back]
    exact if_neg fun h => outward h.2
  unfold View.NestFor
  rw [nest]
  rcases routed.nest_kind source with kind | kind
  · exact .inr ⟨kind, by rw [kind]; rfl, quiet⟩
  · exact .inl ⟨kind, by rw [kind]; rfl⟩

theorem View.Agree.waits_returned (h : v.Agree) (form : v.Form) (hm : m ∈ v.queue) (runs : v.Runs m.seq) {t : Target}
    (returns : v.Returns m t) : ((v.returned m t).waitAgain m.again).Agree := by
  have routed := (h.wired m hm).2
  have differ := Move.source_ne_target (form.shaped m hm) routed
  refine h.again form hm runs (h.quits_returned form hm runs returns) (Move.again_again (h.wired m hm)) (fun n to_n => ?_) (fun id named => ?_)
    (fun p from_p => ?_) fun kind => ?_
  · rcases returns.target n to_n with free | ⟨_, y, here⟩
    · left
      have source : m.source ≠ .slot n := fun e => differ n e to_n
      rw [View.slot_returned, if_neg source]
      split
      · cases e : v.slot n with
        | inbound a b => rw [e] at free; cases free
        | _ => rfl
      · rfl
    · right
      rw [here]
      exact nofun
  · obtain ⟨l, here, _, _, stands⟩ := h.record_returned form hm returns.plain t named
    exact ⟨l, here, stands m.again rfl rfl⟩
  · refine ⟨View.nestFor_returned routed from_p ?_ t, returns.nest p from_p⟩
    exact Bool.eq_false_iff.mpr fun waits => (returns.nest p from_p).2 (h.window p waits)
  · have source : m.source = .nest .inn := by
      unfold Move.Routed at routed
      rw [kind] at routed
      exact routed
    simp [View.returned, View.releaseTarget, View.backAtSource, source]

/-- A move with its pod back at the source goes back to WAITING, or is withdrawn when it is marked for stand-down. -/
theorem State.agree_backToWaiting (form : s.QueueForm k) (here : m ∈ s.queue) (runs : s.view.Runs m.seq) (same : s.Same z)
    (agree : (z.view.waitAgain m.again).Agree) : (z.backToWaiting m).view.Agree := by
  have again : ((z.updMove m.seq Move.again).handlerIdle).view = z.view.waitAgain m.again := by
    unfold View.waitAgain State.handlerIdle
    rw [State.view_updHandler, State.view_updMove]
    change View.mk _ _ _ _ _ _ _ _ = View.mk _ _ _ _ _ _ _ _
    congr 1
    refine List.map_congr_left fun y hy => ?_
    by_cases e : y.seq = m.seq
    · have old : y ∈ s.view.queue := (show s.view.queue = z.view.queue from same.queue.symm) ▸ hy
      have mine : y = m := form.view.eq_of_seq old here e
      subst mine
      rfl
    · rw [if_neg e, if_neg]
      exact e
  by_cases h : m.kind = .deliver ∧ m.standDown = true
  · rw [State.backToWaiting_withdraws h, State.view_withdraw, again]
    exact agree.drop nofun
  · rw [State.backToWaiting_waits h, again]
    exact agree

theorem State.agree_sourceReturned (form : s.QueueForm k) (agree : s.view.Agree) (here : m ∈ s.queue) (runs : s.view.Runs m.seq)
    (returns : s.view.Returns m m.target) : (((s.backAtSource m).releaseTarget m.target).backToWaiting m).view.Agree := by
  refine State.agree_backToWaiting form here runs ((s.same_backAtSource m).trans (State.same_releaseTarget _ m.target)) ?_
  rw [State.view_releaseTarget, State.view_backAtSource]
  exact agree.waits_returned form.view here runs returns

/-! ## The ends of a putback (R155, R158, R159) -/

/-- In the putback from an occupied target the move comes from a slot. -/
theorem View.Agree.returns_putback (h : v.Agree) (form : v.Form) (hm : m ∈ v.queue) (runs : v.Runs m.seq) {c : PutbackCause}
    (phase : v.exec.bind (·.phase) = some .putback) (cause : v.exec.bind (·.cause) = some c) (occupied : c ≠ .mismatch) :
    v.Returns m .noTarget := by
  have works := h.working hm runs phase
  rw [cause] at works
  have carried : v.Carried m ∧ ∀ n, m.target = .pos (.slot n) → (v.slot n).move = none := by
    cases c with
    | mismatch => exact absurd rfl occupied
    | occupiedNest => exact works
    | occupiedStaging => exact works
  obtain ⟨⟨id, _, named, _⟩, free⟩ := carried
  have plain : m.kind.isStore = false := Bool.eq_false_iff.mpr fun store => occupied (form.cause m hm runs store c cause)
  have routed := (h.wired m hm).2
  refine ⟨fun scan => ?_, fun p from_p => ?_, .inr rfl, fun n to_n => .inl (free n to_n)⟩
  · unfold Move.Routed at routed
    rw [scan] at routed
    rw [routed.2.2] at named
    cases named
  · rcases routed.nest_kind from_p with kind | kind <;> rw [kind] at plain <;> cases plain

theorem State.agree_putbackEnds (form : s.QueueForm k) (small : k + 2 < 2147483648) (agree : s.view.Agree) (here : m ∈ s.queue)
    (runs : s.view.Runs m.seq) {c : PutbackCause} (phase : s.view.exec.bind (·.phase) = some .putback)
    (cause : s.view.exec.bind (·.cause) = some c) : (s.putbackEnds m c).view.Agree := by
  have returns := agree.returns_putback form.view here runs phase cause
  have same := s.same_backAtSource m
  have back : (s.backAtSource m).view = s.view.returned m .noTarget := by
    rw [State.view_backAtSource, View.returned, View.releaseTarget_noTarget]
  cases c with
  | mismatch =>
    have works := agree.working here runs phase
    rw [cause] at works
    exact State.agree_mismatchEnd form small agree here runs works
  | occupiedNest =>
    refine State.agree_backToWaiting form here runs same ?_
    rw [back]
    exact agree.waits_returned form.view here runs (returns nofun)
  | occupiedStaging =>
    have quits := agree.quits_returned form.view here runs (returns nofun)
    have differ := Move.source_ne_target (form.view.shaped m here) (agree.wired m here).2
    have dropped : ((s.backAtSource m).dropMove m.seq).handlerIdle.view.Agree := by
      rw [State.view_dropIdle, back]
      refine agree.quits_still form.view here runs quits fun n to_n => .inl ?_
      rw [View.slot_returned, if_neg (fun e => by cases e), if_neg fun e => differ n e to_n]
    have dform := ((s.backAtSource m).ends_dropIdle m.seq) k (by omega) (by rw [same.exec]; exact runs) (same.form form)
    refine (State.fits_deferredAdmission _ m.kind (fun kind x hx => ?_) _ (by omega) dform dropped).2
    have queue : x ∈ (s.backAtSource m).queue.filter fun x => !decide (x.seq = m.seq) := hx
    rw [same.queue] at queue
    obtain ⟨old, other⟩ := List.mem_filter.mp queue
    exact agree.only_reshelve here kind x old (by simpa using other)

/-! ## PLACED (R154, R155, R158, R159) -/

theorem State.agree_takePlaced (form : s.QueueForm k) (small : k + 3 < 2147483648) (agree : s.view.Agree) (exec : s.execMove = some m)
    (busy : s.handler.state ∈ [HandlerState.placing, .putback]) : (s.takePlaced m).view.Agree := by
  obtain ⟨here, runs⟩ := State.execMove_mem exec
  simp only [List.mem_cons, List.not_mem_nil, or_false] at busy
  unfold State.takePlaced
  split
  · next c state cause =>
    exact State.agree_putbackEnds form (by omega) agree here runs (agree.phase_of_busy here runs (ph := .putback) state) cause
  · exact agree
  · next away unset =>
    have placing : s.handler.state = .placing := by
      rcases busy with e | e
      · exact e
      · cases cause : s.handler.exec.bind (·.cause) with
        | none => exact (unset e cause).elim
        | some c => exact (away c e cause).elim
    have works := agree.working here runs (agree.phase_of_busy here runs (ph := .placing) placing)
    obtain ⟨id, _, named, _⟩ := works.1
    cases target : m.target with
    | pos y => exact State.agree_complete agree form.view form small here runs runs works named target s.shows_self
    | toSelect => simpa [State.complete, target, Target.pos?] using agree
    | noTarget => simpa [State.complete, target, Target.pos?] using agree

end Sys2Proof.Machine
end

section
/-! PROOFS. The agreement (O10) of states: RESOLVE (R166, R167). -/

namespace Sys2Proof.Machine

open Sys2Proof

variable {v w : View} {m x : Move} {id : Ident} {p : Port} {n : Slot} {q : Seq} {l : Location} {s t u z : State} {i j k : Nat}
  {ph : Phase} {e : ExecRecord}

theorem State.haltedAt_some (h : s.haltedAt = some (m, ph)) : s.handler.state = .halted ∧ s.execMove = some m
    ∧ s.handler.exec.bind (·.phase) = some ph := by
  unfold State.haltedAt at h
  split at h
  · next halted =>
    split at h
    · next exec phase =>
      cases h
      exact ⟨halted, exec, phase⟩
    · cases h
  · cases h

/-! ## At the target -/

theorem State.agree_resolvedAtTarget (form : s.QueueForm k) (small : k + 3 < 2147483648) (agree : s.view.Agree)
    (halted : s.haltedAt = some (m, ph)) (named : m.reticle = some id) {y : Position} (target : m.target = .pos y)
    (plain : ¬ (m.kind = .scan ∨ ph = .putback)) : (s.resolvedAtTarget m ph id).view.Agree := by
  obtain ⟨_, exec, phase⟩ := State.haltedAt_some halted
  obtain ⟨here, runs⟩ := State.execMove_mem exec
  have works := agree.working here runs phase
  obtain ⟨noScan, noPutback⟩ := not_or.mp plain
  unfold State.resolvedAtTarget
  dsimp only
  cases ph with
  | scanning => exact absurd works noScan
  | putback => exact absurd rfl noPutback
  | carrying => exact State.agree_complete agree form.view form small here runs runs works named target s.shows_self
  | placing => exact State.agree_complete agree form.view form small here runs runs works named target s.shows_self
  | picking =>
    rw [if_pos rfl]
    obtain ⟨sources, targets, scan, aimed⟩ := works
    have test : m.pickTest = .named := (agree.wired m here).1.mp (by rw [named]; rfl)
    obtain ⟨l, b, known, picks, _⟩ := State.picks_accept form agree here runs (.inl ⟨test, named⟩)
    have view : s.view = { s.view with record := Function.update s.view.record id (some (l, b)) } := by
      rw [← known, Function.update_eq_self]
    have accepted := State.view_acceptPick form.view here view picks
    have aform := s.grows_acceptPick m id (List.mem_map_of_mem here) k (by omega) form
    have agree' := State.agree_accept form.view agree ⟨here, runs, ⟨sources, targets⟩, scan, aimed⟩ picks (fun other => absurd test other)
      (.inr rfl : Phase.placing = .carrying ∨ Phase.placing = .placing)
    have form' : ((s.view.accept m id).enterPhase .placing).Form := by
      rw [← accepted]
      exact aform.view.enterPhase .placing
    have mine : Move.named id m = m := by
      unfold Move.named
      rw [← named, ← test]
    have there : m ∈ ((s.view.accept m id).enterPhase .placing).queue := by
      have := View.accept_named (v := s.view) (id := id) here
      rw [mine] at this
      exact this
    have runs' : ((s.view.accept m id).enterPhase .placing).Runs m.seq := (View.enterPhase_runs _ _ _).mpr runs
    have phase' : ((s.view.accept m id).enterPhase .placing).exec.bind (·.phase) = some .placing :=
      agree'.phase_of_busy there runs' rfl
    have shows : (s.acceptPick m id).Shows ((s.view.accept m id).enterPhase .placing) := by
      have self := (s.acceptPick m id).shows_self
      rw [accepted] at self
      exact self.enterPhase .placing
    have own : (s.acceptPick m id).view.Runs m.seq := by
      rw [accepted]
      exact runs
    exact State.agree_complete agree' form' aform small there runs' own (agree'.working there runs' phase') named target shows

/-! ## At the source -/

theorem View.Carried.plain (h : v.Carried m) (wired : m.Wired) : m.kind ≠ .scan := fun scan => by
  obtain ⟨id, _, named, _⟩ := h
  have routed := wired.2
  unfold Move.Routed at routed
  rw [scan] at routed
  rw [routed.2.2] at named
  cases named

/-- A source nest that refuses nothing is as granted or EMPTY. -/
theorem State.nest_unrefused (h : ¬ s.sourceRefuses m.source = true) (source : m.source = .nest (.t p)) :
    s.toolNest p ≠ .outLapsed ∧ s.toolNest p ≠ .returned := by
  rw [source] at h
  simp only [State.sourceRefuses, State.nestRefuses, State.nestAsGranted, State.nestIsEmpty] at h
  constructor <;> intro e <;> simp [e] at h

/-- A SCAN gives up no slot and no nest. -/
theorem View.quits_scan (wired : m.Wired) (scan : m.kind = .scan) : v.Quits v m none := by
  have routed := wired.2
  unfold Move.Routed at routed
  rw [scan] at routed
  obtain ⟨⟨a, source⟩, ⟨b, target⟩, unnamed⟩ := routed
  refine ⟨rfl, fun _ _ => rfl, fun id named => ?_, nofun, fun n _ => .inl rfl, fun n from_n => ?_, fun n to_n => ?_, fun p => .inl rfl, rfl, .inl rfl⟩
  · rw [unnamed] at named
    cases named
  · rw [source] at from_n
    cases from_n
  · rw [target] at to_n
    cases to_n

theorem State.agree_scanPutBack (form : s.QueueForm k) (agree : s.view.Agree) (here : m ∈ s.queue) (runs : s.view.Runs m.seq)
    (scan : m.kind = .scan) : (s.scanPutBack m).view.Agree := by
  have wired := agree.wired m here
  have routed := wired.2
  unfold Move.Routed at routed
  rw [scan] at routed
  obtain ⟨⟨a, source⟩, ⟨b, target⟩, unnamed⟩ := routed
  have again : ((s.updMove m.seq (fun x => { x with state := .waiting })).handlerIdle).view = s.view.waitAgain { m with state := .waiting } := by
    unfold View.waitAgain State.handlerIdle
    rw [State.view_updHandler, State.view_updMove]
    change View.mk _ _ _ _ _ _ _ _ = View.mk _ _ _ _ _ _ _ _
    congr 1
    refine List.map_congr_left fun y hy => ?_
    dsimp only
    split
    · next e => rw [form.view.eq_of_seq hy here e]
    · rfl
  have waits : ((s.updMove m.seq (fun x => { x with state := .waiting })).handlerIdle).view.Agree := by
    rw [again]
    refine agree.again form.view here runs (View.quits_scan wired scan) ⟨rfl, rfl, rfl, rfl, rfl, wired⟩ (fun n _ => .inl rfl) (fun id named => ?_)
      (fun p from_p => ?_) fun kind => ?_
    · rw [unnamed] at named
      cases named
    · rw [source] at from_p
      cases from_p
    · rw [scan] at kind
      cases kind
  unfold State.scanPutBack
  dsimp only
  split
  · exact waits
  · rw [State.view_withdraw]
    exact waits.drop nofun

theorem State.agree_resolvedAtSource (form : s.QueueForm k) (small : k + 2 < 2147483648) (agree : s.view.Agree)
    (halted : s.haltedAt = some (m, ph)) (accepted : ¬ s.sourceRefuses m.source = true) :
    (s.resolvedAtSource m ph (s.handler.exec.bind (·.cause))).view.Agree := by
  obtain ⟨_, exec, phase⟩ := State.haltedAt_some halted
  obtain ⟨here, runs⟩ := State.execMove_mem exec
  have works := agree.working here runs phase
  have wired := agree.wired m here
  have returned (plain : m.kind ≠ .scan) (granted : s.view.TargetGranted m) :
      (((s.backAtSource m).releaseTarget m.target).backToWaiting m).view.Agree :=
    State.agree_sourceReturned form agree here runs ⟨plain, fun p from_p => State.nest_unrefused accepted from_p, .inl rfl,
      fun n to_n => .inr ⟨rfl, granted.1 n to_n⟩⟩
  cases ph with
  | scanning => exact State.agree_scanPutBack form agree here runs works
  | picking => exact returned works.2.2.1 works.2.1
  | carrying => exact returned (works.1.plain wired) works.2.1
  | placing => exact returned (works.1.plain wired) works.2.1
  | putback =>
    cases cause : s.handler.exec.bind (·.cause) with
    | some c => exact State.agree_putbackEnds form small agree here runs phase cause
    | none =>
      change s.view.Works m .putback (s.handler.exec.bind (·.cause)) at works
      rw [cause] at works
      exact works.elim

/-! ## Removed -/

/-- A move whose record is lost gives up its source slot and its target. -/
theorem View.Agree.quits_lost (h : v.Agree) (form : v.Form) (hm : m ∈ v.queue) (runs : v.Runs m.seq) {e : SlotEntry} (bare : e.Bare)
    (queue : w.queue = v.queue) (record : w.record = (v.lose m.reticle).record) (waits : w.waits = v.waits)
    (slot : ∀ n, w.slot n = if m.target = .pos (.slot n) then (if m.source = .slot n then e else v.slot n).release
      else if m.source = .slot n then e else v.slot n)
    (targets : ∀ n, m.target = .pos (.slot n) → (v.slot n).move = none ∨ ∃ y, v.slot n = .inbound y m.seq)
    (nest : ∀ p, w.nest p = v.nest p ∨ (v.nest p ≠ .outLapsed ∧ v.nest p ≠ .returned))
    (inn : w.inn = v.inn ∨ m.source = .nest .inn ∨ v.inn = .inbound) : v.Quits w m none := by
  have at_source (n : Slot) (from_n : m.source = .slot n) : (w.slot n).Bare := by
    rw [slot, if_pos from_n]
    split
    · exact bare.release
    · exact bare
  have at_target (n : Slot) (to_n : m.target = .pos (.slot n)) (away : m.source ≠ .slot n) :
      (w.slot n = v.slot n ∧ (v.slot n).move = none) ∨ (w.slot n).Bare := by
    rw [slot, if_pos to_n, if_neg away]
    rcases targets n to_n with free | ⟨y, here⟩
    · left
      refine ⟨?_, free⟩
      cases e : v.slot n with
      | inbound a b => rw [e] at free; cases free
      | _ => rfl
    · right
      rw [here]
      exact ⟨rfl, rfl⟩
  refine ⟨queue, fun id other => ?_, fun id named => ?_, nofun, fun n _ => ?_, fun n from_n _ => at_source n from_n, fun n to_n _ => ?_,
    nest, waits, ?_⟩
  · rw [record]
    exact View.lose_other _ other
  · obtain ⟨l, bound⟩ := h.binds m hm id named
    refine ⟨.unlocated, ?_, nofun, fun n => ⟨nofun, nofun⟩⟩
    rw [record, named]
    exact View.lose_own _ (y := (l, some m.seq)) bound
  · by_cases from_n : m.source = .slot n
    · exact .inr ⟨.inl from_n, at_source n from_n⟩
    · by_cases to_n : m.target = .pos (.slot n)
      · exact (at_target n to_n from_n).imp (fun stands => stands.1) fun bare => ⟨.inr to_n, bare⟩
      · exact .inl (by rw [slot, if_neg to_n, if_neg from_n])
  · by_cases from_n : m.source = .slot n
    · exact (at_source n from_n).2
    · rcases at_target n to_n from_n with ⟨stands, free⟩ | bare
      · rw [stands]
        exact free
      · exact bare.2
  · rcases inn with stands | from_inn | inbound
    · exact .inl stands
    · exact .inr (h.only_reshelve hm ((h.wired m hm).2.inn_kind from_inn))
    · exact .inr (h.no_other_reshelve form runs (by rw [inbound]; exact nofun))

/-- The source of a removed move: its slot is given up, and before an accepted pick its nest is. -/
theorem State.view_removedSource (s : State) (y : Position) (b : Bool) (read : Option Ident) :
    ∃ e : SlotEntry, e.Bare ∧ ∃ a c, ((b = false ∨ ∀ z, y ≠ .nest z) ∧ (s.removedSource y b read).view = s.view.quitSource y e a c)
      ∨ (b = true ∧ (∃ z, y = .nest z) ∧ (s.removedSource y b read).view = s.view) := by
  cases y with
  | slot n =>
    unfold State.removedSource
    dsimp only
    split
    · exact ⟨.fault none, ⟨rfl, rfl⟩, .empty, .empty, .inl ⟨.inr nofun, s.view_quitSlot n _ _ _⟩⟩
    · exact ⟨.empty, ⟨rfl, rfl⟩, .empty, .empty, .inl ⟨.inr nofun, s.view_quitSlot n _ _ _⟩⟩
  | nest z =>
    unfold State.removedSource
    dsimp only
    split
    · next accepted => exact ⟨.empty, ⟨rfl, rfl⟩, .empty, .empty, .inr ⟨accepted, ⟨z, rfl⟩, rfl⟩⟩
    · next refused =>
      have early : b = false := by simpa using refused
      split
      · exact ⟨.empty, ⟨rfl, rfl⟩, .blocked, .blocked, .inl ⟨.inl early, s.view_nestBlocks_quit z read _⟩⟩
      · exact ⟨.empty, ⟨rfl, rfl⟩, .empty, .empty, .inl ⟨.inl early, s.view_nestEmptied_quit z _⟩⟩
  | shelf z => exact ⟨.empty, ⟨rfl, rfl⟩, .empty, .empty, .inl ⟨.inr nofun, (View.quitSource_shelf _ _ _ _ _).symm⟩⟩

/-- What the phase of a removed move finds: a target slot reserved for it, if at all, and, unless its pick was accepted, its source nest as
granted. -/
theorem View.Works.removed {ph : Phase} {c : Option PutbackCause} (h : v.Works m ph c) (plain : m.kind ≠ .scan) (phase : e.phase = some ph)
    (cause : e.cause = c) : (∀ n, m.target = .pos (.slot n) → (v.slot n).move = none ∨ ∃ y, v.slot n = .inbound y m.seq)
      ∧ (e.pickAccepted = false → ∀ p, m.source = .nest (.t p) → v.nest p = .outbound) := by
  have reserved (granted : v.TargetGranted m) (n : Slot) (to_n : m.target = .pos (.slot n)) :
      (v.slot n).move = none ∨ ∃ y, v.slot n = .inbound y m.seq := .inr (granted.1 n to_n)
  unfold ExecRecord.pickAccepted
  rw [phase, cause]
  cases ph with
  | scanning => exact absurd h plain
  | picking => exact ⟨reserved h.2.1, fun _ => h.1.1⟩
  | carrying => exact ⟨reserved h.2.1, nofun⟩
  | placing => exact ⟨reserved h.2.1, nofun⟩
  | putback =>
    cases c with
    | none => exact h.elim
    | some c =>
      cases c with
      | mismatch => exact ⟨reserved h.2, fun _ => h.1.1⟩
      | occupiedNest => exact ⟨fun n to_n => .inl (h.2 n to_n), nofun⟩
      | occupiedStaging => exact ⟨fun n to_n => .inl (h.2 n to_n), nofun⟩

theorem SlotEntry.release_free {e : SlotEntry} (free : e.move = none) : e.release = e := by
  cases e with
  | inbound a b => cases free
  | _ => rfl

/-- A target slot that is not reserved stands. -/
theorem State.slot_removed (s : State) (b : Bool) (read : Option Ident) (to_n : m.target = .pos (.slot n)) (away : m.source ≠ .slot n)
    (free : (s.view.slot n).move = none) :
    (((s.removedSource m.source b read).releaseTarget m.target).view.lose m.reticle).slot n = s.view.slot n := by
  rw [(View.lose_still _ _).1, State.view_releaseTarget]
  have kept : (s.removedSource m.source b read).view.slot n = s.view.slot n := by
    obtain ⟨e, _, a, c, ⟨_, view⟩ | ⟨_, _, view⟩⟩ := s.view_removedSource m.source b read <;> rw [view]
    exact if_neg away
  simp only [View.releaseTarget, to_n, if_true, kept]
  exact SlotEntry.release_free free

theorem State.quits_removed (form : s.view.Form) (agree : s.view.Agree) (here : m ∈ s.queue) (runs : s.view.Runs m.seq) (b : Bool)
    (read : Option Ident) (targets : ∀ n, m.target = .pos (.slot n) → (s.view.slot n).move = none ∨ ∃ y, s.view.slot n = .inbound y m.seq)
    (sources : b = false → ∀ p, m.source = .nest (.t p) → s.view.nest p = .outbound) :
    s.view.Quits (((s.removedSource m.source b read).releaseTarget m.target).view.lose m.reticle) m none := by
  rw [State.view_releaseTarget]
  obtain ⟨e, bare, a, c, ⟨early, view⟩ | ⟨_, ⟨z, source⟩, view⟩⟩ := s.view_removedSource m.source b read
  · rw [view]
    obtain ⟨slot, queue, nest, waits, inn⟩ := ((s.view.quitSource m.source e a c).releaseTarget m.target).lose_still m.reticle
    refine agree.quits_lost form here runs bare queue ?_ waits (fun n => congrFun slot n) targets (fun p => ?_) ?_
    · cases m.reticle <;> rfl
    · rw [nest]
      by_cases from_p : m.source = .nest (.t p)
      · have outbound := sources (early.resolve_right fun away => away _ from_p) p from_p
        exact .inr (by rw [outbound]; exact ⟨nofun, nofun⟩)
      · by_cases inbound : m.target = .pos (.nest (.t p)) ∧ s.view.nest p = .inbound
        · exact .inr (by rw [inbound.2]; exact ⟨nofun, nofun⟩)
        · left
          simp [View.releaseTarget, View.quitSource, from_p, inbound]
    · rw [inn]
      by_cases from_inn : m.source = .nest .inn
      · exact .inr (.inl from_inn)
      · by_cases inbound : m.target = .pos (.nest .inn) ∧ s.view.inn = .inbound
        · exact .inr (.inr inbound.2)
        · left
          simp [View.releaseTarget, View.quitSource, from_inn, inbound]
  · rw [view]
    obtain ⟨slot, queue, nest, waits, inn⟩ := (s.view.releaseTarget m.target).lose_still m.reticle
    refine agree.quits_lost form here runs bare queue ?_ waits (fun n => ?_) targets (fun p => ?_) ?_
    · cases m.reticle <;> rfl
    · rw [slot, source]
      simp [View.releaseTarget]
    · rw [nest]
      by_cases inbound : m.target = .pos (.nest (.t p)) ∧ s.view.nest p = .inbound
      · exact .inr (by rw [inbound.2]; exact ⟨nofun, nofun⟩)
      · left
        simp [View.releaseTarget, inbound]
    · rw [inn]
      by_cases inbound : m.target = .pos (.nest .inn) ∧ s.view.inn = .inbound
      · exact .inr (.inr inbound.2)
      · left
        simp [View.releaseTarget, inbound]

/-! ## A SCAN goes on -/

theorem State.view_offerScan (s : State) (a : Shelf) : (s.offerScan a).view = s.view.enter ((s.updCensus
    fun c => { c with nextShelf := some a, scan := some s.nextSeq }).entered (scanOffer a) false false) := State.view_enter _ _ _ _

theorem State.fits_offerScan (s : State) (a : Shelf) : s.Fits 1 (s.offerScan a) :=
  (s.grows_offerScan a).fits fun k form agree => by
    rw [State.view_offerScan]
    refine agree.enter form.view form.fresh rfl ⟨by simp [State.entered, scanOffer], ?_⟩ nofun nofun nofun
    unfold Move.Routed
    exact ⟨⟨a, rfl⟩, ⟨a, rfl⟩, rfl⟩

theorem State.fits_censusMovesOn (s : State) (a : Shelf) : s.Fits 1 (s.censusMovesOn a) := by
  have ended : s.Same s.censusEnds := .of_catalogue rfl rfl rfl rfl
  unfold State.censusMovesOn
  split
  · split
    · exact s.fits_offerScan _
    · exact ((ended.trans (State.same_raise _ _ _)).fits (State.view_raise _ _ _)).mono (by omega)
  · exact s.fits_still 1
  · exact (ended.fits rfl).mono (by omega)

theorem State.fits_scanSkipped (s : State) (a : Shelf) : s.Fits 1 (s.scanSkipped a) := by
  have ended : s.Same s.censusEnds := .of_catalogue rfl rfl rfl rfl
  unfold State.scanSkipped
  split
  · exact (((s.same_countTally _).fits rfl).trans (State.fits_censusMovesOn _ a)).mono (by omega)
  · exact (ended.fits rfl).mono (by omega)

theorem State.agree_resolvedRemoved (form : s.QueueForm k) (small : k + 2 < 2147483648) (agree : s.view.Agree)
    (exec : s.execMove = some m) (record : s.handler.exec = some e) : (s.resolvedRemoved m e).view.Agree := by
  obtain ⟨here, runs⟩ := State.execMove_mem exec
  have wired := agree.wired m here
  have removed (plain : m.kind ≠ .scan) : (((((s.removedSource m.source e.pickAccepted (identRead e.read)).releaseTarget m.target).dropMove
      m.seq).handlerIdle.removedRecords m (identRead e.read)).tellEnd m .removed |>.deferredAdmission m.kind).view.Agree := by
    obtain ⟨ph, phase, _, works⟩ := agree.works m here runs
    have isPhase : e.phase = some ph := by
      have at_e := phase
      change s.handler.exec.bind (·.phase) = _ at at_e
      rwa [record] at at_e
    have isCause : e.cause = s.view.exec.bind (·.cause) := by
      change _ = s.handler.exec.bind (·.cause)
      rw [record]
      rfl
    obtain ⟨targets, sources⟩ := works.removed plain isPhase isCause
    have quits := State.quits_removed form.view agree here runs e.pickAccepted (identRead e.read) targets sources
    refine State.agree_lostEnd (f := fun c => c.tellEnd m .removed) form small agree here runs quits (fun n to_n => ?_)
      ((s.same_removedSource m.source e.pickAccepted (identRead e.read)).trans (State.same_releaseTarget _ m.target)) (identRead e.read)
      (fun c => c.view_tellEnd m .removed) fun c => c.same_tellEnd m .removed
    rcases targets n to_n with free | ⟨y, at_n⟩
    · exact .inl (s.slot_removed _ _ to_n (fun from_n => Move.source_ne_target (form.view.shaped m here) wired.2 n from_n to_n) free)
    · right
      rw [at_n]
      exact nofun
  unfold State.resolvedRemoved
  split
  · next a source =>
    have scan := wired.2.shelf_scan source
    have dform := s.ends_dropIdle m.seq k (by omega) runs form
    have dropped : ((s.dropMove m.seq).handlerIdle).view.Agree := by
      rw [State.view_dropIdle]
      exact agree.quits_still form.view here runs (View.quits_scan wired scan) fun n _ => .inl rfl
    exact (State.fits_scanSkipped _ a _ (by omega) dform dropped).2
  · next away =>
    refine removed fun scan => ?_
    have routed := wired.2
    unfold Move.Routed at routed
    rw [scan] at routed
    obtain ⟨a, source⟩ := routed.1
    exact away a source

end Sys2Proof.Machine
end

section
/-! PROOFS. The agreement (O10) of states: phases taken up again, and halts without a move (R153, R162, R165, R167). -/

namespace Sys2Proof.Machine

open Sys2Proof

variable {v w : View} {m x : Move} {id : Ident} {p : Port} {n : Slot} {q : Seq} {l : Location} {s t u z : State} {i j k : Nat}
  {ph : Phase} {e : ExecRecord}

/-- The move in execution enters a phase that finds what it needs. -/
theorem View.Agree.enterPhase (h : v.Agree) (form : v.Form) (hm : m ∈ v.queue) (runs : v.Runs m.seq)
    (works : v.Works m ph (v.exec.bind (·.cause))) : (v.enterPhase ph).Agree := by
  obtain ⟨e, exec, _⟩ := Option.bind_eq_some_iff.mp runs
  refine h.setExec (e := v.exec.map fun e => { e with phase := some ph }) (b := ph.handlerState) (by rw [exec]; rfl) fun x hx run => ?_
  obtain rfl := form.eq_of_seq hx hm (Option.some.inj (run.symm.trans runs))
  rw [exec] at works ⊢
  exact ⟨ph, rfl, .inl rfl, works⟩

/-! ## RESUME (R165) -/

/-- A phase taken up again is that phase, or PLACING after CARRYING. -/
theorem State.view_resumed (h : s.resumed m ph = some z) : ∃ ph', (ph' = ph ∨ (ph = .carrying ∧ ph' = .placing))
    ∧ z.view = s.view.enterPhase ph' := by
  unfold State.resumed at h
  cases ph with
  | picking =>
    cases h
    refine ⟨.picking, .inl rfl, ?_⟩
    unfold State.sendMove
    rw [State.view_setPhase, State.view_order]
    rfl
  | placing =>
    obtain ⟨y, _, rfl⟩ := Option.map_eq_some_iff.mp h
    exact ⟨.placing, .inl rfl, s.view_sendPlace_phase y .placing⟩
  | putback =>
    cases h
    exact ⟨.putback, .inl rfl, s.view_sendPlace_phase m.source .putback⟩
  | carrying =>
    obtain ⟨y, _, rfl⟩ := Option.map_eq_some_iff.mp h
    unfold State.resumeCarrying
    split
    · refine ⟨.carrying, .inl rfl, ?_⟩
      rw [State.view_setPhase, State.view_updHandler]
      rfl
    · exact ⟨.placing, .inr ⟨rfl, rfl⟩, s.view_sendPlace_phase y .placing⟩
  | scanning =>
    dsimp only at h
    split at h
    · cases h
      refine ⟨.scanning, .inl rfl, ?_⟩
      unfold State.sendScan
      rw [State.view_setPhase, State.view_order]
      rfl
    · cases h

theorem State.fits_resumed (halted : s.haltedAt = some (m, ph)) (resumed : s.clearHalt.resumed m ph = some z) : s.Fits 0 z :=
  (s.grows_clearHalt.trans (State.grows_resumed _ resumed)).fits fun k form agree => by
    obtain ⟨_, exec, phase⟩ := State.haltedAt_some halted
    obtain ⟨here, runs⟩ := State.execMove_mem exec
    have works := agree.working here runs phase
    obtain ⟨ph', after, view⟩ := State.view_resumed resumed
    rw [view]
    refine agree.enterPhase form.view here runs ?_
    rcases after with rfl | ⟨rfl, rfl⟩
    · exact works
    · exact works

/-! ## The end of CARRYING (R153) -/

theorem State.fits_sendCarried (exec : s.execMove = some m) (carrying : s.handler.state = .carrying) (y : Position) :
    s.Fits 0 (s.sendPlace y .placing) :=
  (s.grows_sendPlace y .placing).fits fun k form agree => by
    obtain ⟨here, runs⟩ := State.execMove_mem exec
    have works := agree.working here runs (agree.phase_of_busy here runs (ph := .carrying) carrying)
    rw [State.view_sendPlace_phase]
    exact agree.enterPhase form.view here runs works

/-! ## RESTARTED, and a halt without a move (R162, R167) -/

theorem State.fits_takeRestarted (s : State) (loaded : Bool) : s.Fits 0 (s.takeRestarted loaded) :=
  (s.grows_takeRestarted loaded).fits fun k form agree => by
    unfold State.takeRestarted
    split
    · next idle =>
      split
      · have none_ : s.view.exec = none := form.view.idle idle
        have view : s.haltWithoutMove.view = { s.view with exec := some ⟨none, none, none, none, 0⟩, busy := .halted } := by
          unfold State.haltWithoutMove
          rw [State.view_haltAt, State.view_updHandler]
        rw [view]
        refine agree.setExec (e := some ⟨none, none, none, none, 0⟩) (by rw [none_]; rfl) fun x _ run => ?_
        unfold View.Runs at run
        rw [none_] at run
        cases run
      · exact agree
    · exact agree
    · unfold State.halt
      rw [State.view_haltAt]
      exact agree.halted

theorem State.fits_clearedHalt (free : s.execMove = none) : s.Fits 0 s.handlerIdle :=
  (s.grows_handlerIdle free).fits fun k form agree => by
    have none_ : s.view.exec.bind (·.move) = none := by
      by_contra some_
      obtain ⟨q, own⟩ := Option.ne_none_iff_exists'.mp some_
      obtain ⟨m, hm, e, _⟩ := form.named q own
      rw [State.execMove_of_mem form.distinct hm (show s.handler.exec.bind (·.move) = some m.seq from own.trans (congrArg some e.symm))] at free
      cases free
    refine agree.setExec (e := none) (b := .idle) none_.symm fun x _ run => ?_
    unfold View.Runs at run
    rw [none_] at run
    cases run

end Sys2Proof.Machine
end

section
/-! PROOFS. The agreement (O10) under a scan's results (R200 to R202): the moves of records lost are taken out of the view first. -/

namespace Sys2Proof.Machine

open Sys2Proof

variable {v w : View} {m x : Move} {id : Ident} {p : Port} {n : Slot} {q r : Seq} {l : Location} {s t u z : State} {i j k : Nat}
  {ids : List Ident}

/-! ## The moves of lost records taken out -/

/-- The move that a record is bound to, taken out of the queue. -/
def View.withdrawLost (v : View) (id : Ident) : View :=
  match (v.record id).bind (·.2) with
  | some q => v.drop q
  | none => v

/-- The moves that several records are bound to, taken out one after the other. -/
def View.withdrawAll (v : View) (ids : List Ident) : View := ids.foldl View.withdrawLost v

theorem View.withdrawLost_bound (h : (v.record id).bind (·.2) = some q) : v.withdrawLost id = v.drop q := by
  simp only [View.withdrawLost, h]

theorem View.withdrawLost_free (h : (v.record id).bind (·.2) = none) : v.withdrawLost id = v := by
  simp only [View.withdrawLost, h]

theorem View.withdrawAll_append (v : View) (ids : List Ident) (id : Ident) :
    v.withdrawAll (ids ++ [id]) = (v.withdrawAll ids).withdrawLost id := List.foldl_append ..

/-- A property of views that withdrawals keep. -/
theorem View.withdrawAll_keeps {P : View → Prop} (drop : ∀ v, P v → ∀ id q, (v.record id).bind (·.2) = some q → P (v.drop q)) (h : P v)
    (ids : List Ident) : P (v.withdrawAll ids) := by
  induction ids generalizing v with
  | nil => exact h
  | cons id ids ih =>
    refine ih (v := v.withdrawLost id) ?_
    cases bound : (v.record id).bind (·.2) with
    | none => rwa [View.withdrawLost_free bound]
    | some q => rw [View.withdrawLost_bound bound]; exact drop v h id q bound

/-- A change that keeps every binding goes before or after the withdrawals. -/
theorem View.withdrawAll_commutes {g : View → View} {P : View → Prop}
    (bindings : ∀ v, P v → ∀ id, ((g v).record id).bind (·.2) = (v.record id).bind (·.2))
    (drop : ∀ v, P v → ∀ id q, (v.record id).bind (·.2) = some q → (g v).drop q = g (v.drop q))
    (keeps : ∀ v q, P v → P (v.drop q)) (h : P v) (ids : List Ident) : (g v).withdrawAll ids = g (v.withdrawAll ids) := by
  induction ids generalizing v with
  | nil => rfl
  | cons id ids ih =>
    change ((g v).withdrawLost id).withdrawAll ids = g ((v.withdrawLost id).withdrawAll ids)
    cases bound : (v.record id).bind (·.2) with
    | none => rw [View.withdrawLost_free ((bindings v h id).trans bound), View.withdrawLost_free bound, ih h]
    | some q =>
      rw [View.withdrawLost_bound ((bindings v h id).trans bound), View.withdrawLost_bound bound, drop v h id q bound, ih (keeps v q h)]

theorem View.withdrawAll_still (v : View) (ids : List Ident) : (v.withdrawAll ids).slot = v.slot ∧ (v.withdrawAll ids).exec = v.exec
    ∧ (v.withdrawAll ids).busy = v.busy ∧ (v.withdrawAll ids).nest = v.nest ∧ (v.withdrawAll ids).waits = v.waits
    ∧ (v.withdrawAll ids).inn = v.inn :=
  View.withdrawAll_keeps (P := fun w => w.slot = v.slot ∧ w.exec = v.exec ∧ w.busy = v.busy ∧ w.nest = v.nest ∧ w.waits = v.waits
    ∧ w.inn = v.inn) (fun _ h _ _ _ => h) ⟨rfl, rfl, rfl, rfl, rfl, rfl⟩ ids

/-- Where a record is stands. -/
theorem View.withdrawAll_place (v : View) (ids : List Ident) (id : Ident) :
    ((v.withdrawAll ids).record id).map (·.1) = (v.record id).map (·.1) :=
  View.withdrawAll_keeps (P := fun w => (w.record id).map (·.1) = (v.record id).map (·.1)) (fun w h _ q _ => by
    rw [← h]
    change ((w.record id).map (unbind q)).map (·.1) = _
    cases w.record id <;> rfl) rfl ids

theorem View.withdrawAll_setSlot (v : View) (n : Slot) (e : SlotEntry) (ids : List Ident) :
    (v.setSlot n e).withdrawAll ids = (v.withdrawAll ids).setSlot n e :=
  View.withdrawAll_commutes (g := fun v => v.setSlot n e) (P := fun _ => True) (fun _ _ _ => rfl) (fun _ _ _ _ _ => rfl) (fun _ _ _ => trivial)
    trivial ids

theorem View.drop_locate (v : View) (id : Ident) (l : Location) (q : Seq) : (v.locate id l).drop q = (v.drop q).locate id l := by
  change View.mk _ _ _ _ _ _ _ _ = View.mk _ _ _ _ _ _ _ _
  congr 1
  funext i
  dsimp only [View.drop, View.locate, View.onRecord]
  rw [Function.update_apply, Function.update_apply]
  split
  · next e =>
    subst e
    cases v.record i <;> rfl
  · rfl

theorem View.withdrawAll_locate (v : View) (id : Ident) (l : Location) (ids : List Ident) :
    (v.locate id l).withdrawAll ids = (v.withdrawAll ids).locate id l :=
  View.withdrawAll_commutes (g := fun v => v.locate id l) (P := fun _ => True) (fun v _ i => by
    dsimp only [View.locate, View.onRecord]
    rw [Function.update_apply]
    split
    · next e =>
      subst e
      cases v.record i <;> rfl
    · rfl) (fun v _ _ q _ => v.drop_locate id l q) (fun _ _ _ => trivial) trivial ids

theorem View.withdrawAll_create (unknown : v.record id = none) (l : Location) (ids : List Ident) :
    (v.create id l).withdrawAll ids = (v.withdrawAll ids).create id l :=
  View.withdrawAll_commutes (g := fun v => v.create id l) (P := fun v => v.record id = none) (fun v free i => by
    dsimp only [View.create]
    rw [Function.update_apply]
    split
    · next e =>
      subst e
      rw [free]
      rfl
    · rfl) (fun v _ _ q _ => by
    change View.mk _ _ _ _ _ _ _ _ = View.mk _ _ _ _ _ _ _ _
    congr 1
    funext i
    dsimp only [View.drop, View.create]
    rw [Function.update_apply, Function.update_apply]
    split <;> rfl) (fun v q free => by
    change (v.record id).map _ = none
    rw [free]
    rfl) unknown ids

theorem View.drop_drop (v : View) (q r : Seq) : (v.drop q).drop r = (v.drop r).drop q := by
  change View.mk _ _ _ _ _ _ _ _ = View.mk _ _ _ _ _ _ _ _
  congr 1
  · funext i
    dsimp only [View.drop]
    cases v.record i with
    | none => rfl
    | some y =>
      obtain ⟨l, b⟩ := y
      simp only [Option.map_some, unbind]
      split <;> split <;> simp_all
  · simp only [View.drop, List.filter_filter, Bool.and_comm]

theorem View.drop_dropIdle (v : View) (q : Seq) : (v.drop q).dropIdle q = v.dropIdle q := by
  change View.mk _ _ _ _ _ _ _ _ = View.mk _ _ _ _ _ _ _ _
  congr 1
  · funext i
    dsimp only [View.drop]
    cases v.record i with
    | none => rfl
    | some y =>
      obtain ⟨l, b⟩ := y
      simp only [Option.map_some, unbind]
      split <;> simp_all
  · simp only [View.drop, List.filter_filter, Bool.and_self]

theorem View.withdrawAll_dropIdle (v : View) (q : Seq) (ids : List Ident) :
    (v.dropIdle q).withdrawAll ids = (v.withdrawAll ids).dropIdle q := by
  induction ids generalizing v with
  | nil => rfl
  | cons id ids ih =>
    change ((v.dropIdle q).withdrawLost id).withdrawAll ids = ((v.withdrawLost id).withdrawAll ids).dropIdle q
    rw [← ih]
    congr 1
    have after : ((v.dropIdle q).record id).bind (·.2) = ((v.record id).bind (·.2)).bind fun r => if r = q then none else some r := by
      change ((v.record id).map (unbind q)).bind _ = _
      cases v.record id with
      | none => rfl
      | some y =>
        obtain ⟨l, b⟩ := y
        cases b with
        | none => rfl
        | some r => by_cases e : r = q <;> simp [unbind, e]
    cases bound : (v.record id).bind (·.2) with
    | none => rw [View.withdrawLost_free bound, View.withdrawLost_free (after.trans (by rw [bound]; rfl))]
    | some r =>
      rw [View.withdrawLost_bound bound]
      by_cases e : r = q
      · subst e
        rw [View.drop_dropIdle, View.withdrawLost_free (after.trans (by rw [bound]; simp))]
      · rw [View.withdrawLost_bound (q := r) (after.trans (by rw [bound]; simp [e]))]
        exact congrArg (fun v : View => { v with exec := none, busy := .idle }) (v.drop_drop q r)

/-! ## A record lost from its slot -/

/-- An unbound record lost from its slot, which keeps no reticle. -/
theorem View.Agree.unplace (h : v.Agree) {e : SlotEntry} (bare : e.Bare) (here : v.slot n = .filled id)
    (free : v.record id = some (.slot n, none)) : ((v.setSlot n e).locate id .unlocated).Agree := by
  have unnamed (m : Move) (hm : m ∈ v.queue) : m.reticle ≠ some id := fun named => by
    obtain ⟨l, bound⟩ := h.binds m hm id named
    rw [free] at bound
    cases bound
  have slots (a : Slot) : ((v.setSlot n e).locate id .unlocated).slot a = if a = n then e else v.slot a := Function.update_apply ..
  have record (i : Ident) : ((v.setSlot n e).locate id .unlocated).record i = if i = id then some (.unlocated, none) else v.record i := by
    change Function.update v.record id _ i = _
    rw [Function.update_apply, show (v.setSlot n e).record id = v.record id from rfl, free]
    rfl
  refine ⟨fun a i => ?_, fun m hm i named => ?_, fun i l q at_i => ?_, fun i b at_i => ?_, fun a q res => ?_, fun m hm runs a i source held => ?_,
    h.wired, h.nests, h.single, h.reshelves, h.arrived, h.window, fun m hm runs => ?_⟩
  · rw [slots, record]
    by_cases slot : a = n <;> by_cases name : i = id
    · simp [slot, name, bare.1]
    · have other := (h.located n i).not.mp (by rw [here]; simpa [SlotEntry.reticle] using Ne.symm name)
      simpa [slot, name, bare.1] using other
    · have other : (v.slot a).reticle ≠ some id := fun held => by
        obtain ⟨b, at_a⟩ := (h.located a id).mp held
        rw [free] at at_a
        cases at_a
        exact slot rfl
      simp [slot, name, other]
    · simpa [slot, name] using h.located a i
  · obtain ⟨l, bound⟩ := h.binds m hm i named
    have other : i ≠ id := fun e => unnamed m hm (e ▸ named)
    exact ⟨l, by rw [record, if_neg other]; exact bound⟩
  · rw [record] at at_i
    split at at_i
    · cases at_i
    · exact h.bound i l q at_i
  · rw [record] at at_i
    split at at_i
    · cases at_i
    · exact h.gripped i b at_i
  · rw [slots] at res
    split at res
    · rw [bare.2] at res
      cases res
    · exact h.reserved a q res
  · rw [slots] at held
    split at held
    · rw [bare.1] at held
      cases held
    · exact h.own m hm runs a i source held
  · refine h.works_steady ⟨fun _ e => e, fun _ e => e, fun e => e, fun e => e, fun a y q old => ?_, fun a old => ?_, fun i b at_i => ?_⟩
      rfl rfl hm runs
    · rw [slots, if_neg]
      · exact old
      · rintro rfl
        rw [here] at old
        cases old
    · rw [slots]
      split
      · exact bare.2
      · exact old
    · refine ⟨b, ?_⟩
      rw [record, if_neg]
      · exact at_i
      · rintro rfl
        rw [free] at at_i
        cases at_i

end Sys2Proof.Machine
end

section
/-! PROOFS. The agreement (O10) under a scan's results: the slots of the shelf (R200 to R202). -/

namespace Sys2Proof.Machine

open Sys2Proof

variable {v w : View} {m x : Move} {id : Ident} {p : Port} {n : Slot} {q r : Seq} {l : Location} {s t u z : State} {i j k : Nat}
  {ids : List Ident} {f : ScanFold}

/-- A SCAN is in execution, and the agreement holds. -/
structure View.Scanning (v : View) : Prop where
  agree : v.Agree
  phase : v.exec.bind (·.phase) = some .scanning

theorem View.Scanning.scan (h : v.Scanning) (hm : m ∈ v.queue) (runs : v.Runs m.seq) : m.kind = .scan ∧ m.reticle = none
    ∧ ∀ n, m.source ≠ .slot n := by
  have scan : m.kind = .scan := h.agree.working hm runs h.phase
  have routed := (h.agree.wired m hm).2
  unfold Move.Routed at routed
  rw [scan] at routed
  obtain ⟨⟨a, source⟩, _, unnamed⟩ := routed
  exact ⟨scan, unnamed, fun n from_n => by rw [source] at from_n; cases from_n⟩

/-- A slot set with no reticle and no reservation, from one. -/
theorem View.Scanning.setBare (h : v.Scanning) {e : SlotEntry} (old : (v.slot n).Bare) (new : e.Bare) : (v.setSlot n e).Scanning :=
  ⟨h.agree.setBare old.1 old.2 new.1 new.2, h.phase⟩

/-- An unlocated record found in a slot. -/
theorem View.Scanning.relocate (h : v.Scanning) (old : (v.slot n).Bare) {b : Option Seq} (lost : v.record id = some (.unlocated, b)) :
    ((v.setSlot n (.filled id)).locate id (.slot n)).Scanning := by
  have free : b = none := h.agree.unbound_of_unnamed (l := .unlocated) (fun _ _ _ stands => stands) lost
  subst free
  have placed : (v.setSlot n (.filled id)).locate id (.slot n) = v.place id n := by
    change View.mk _ _ _ _ _ _ _ _ = View.mk _ _ _ _ _ _ _ _
    congr 1
    change Function.update v.record id ((v.record id).map _) = _
    rw [lost]
    rfl
  rw [placed]
  refine ⟨h.agree.place (fun l b here => ?_) old.1 old.2 fun m hm runs => (h.scan hm runs).2.2 n, h.phase⟩
  rw [lost] at here
  cases here
  exact ⟨rfl, nofun⟩

/-- A record created in a slot. -/
theorem View.Scanning.create (h : v.Scanning) (old : (v.slot n).Bare) (unknown : v.record id = none) :
    ((v.create id (.slot n)).setSlot n (.filled id)).Scanning := by
  refine ⟨h.agree.place (fun l b here => ?_) old.1 old.2 fun m hm runs => (h.scan hm runs).2.2 n, h.phase⟩
  rw [unknown] at here
  cases here

/-- A record lost from its slot, its move taken out. -/
theorem View.Scanning.lose (h : v.Scanning) {e : SlotEntry} (bare : e.Bare) (here : v.slot n = .filled id) :
    (((v.setSlot n e).locate id .unlocated).withdrawLost id).Scanning := by
  have commutes : ((v.setSlot n e).locate id .unlocated).withdrawLost id = ((v.withdrawLost id).setSlot n e).locate id .unlocated :=
    ((v.setSlot n e).withdrawAll_locate id .unlocated [id]).trans
      (congrArg (fun v : View => v.locate id .unlocated) (v.withdrawAll_setSlot n e [id]))
  obtain ⟨b, at_n⟩ := (h.agree.located n id).mp (by rw [here]; rfl)
  rw [commutes]
  cases b with
  | none =>
    rw [View.withdrawLost_free (by rw [at_n]; rfl)]
    exact ⟨h.agree.unplace bare here at_n, h.phase⟩
  | some q =>
    rw [View.withdrawLost_bound (q := q) (by rw [at_n]; rfl)]
    have idle : ¬ v.Runs q := fun runs => by
      obtain ⟨m, hm, rfl, named, _⟩ := h.agree.bound id _ q at_n
      rw [(h.scan hm runs).2.1] at named
      cases named
    refine ⟨(h.agree.drop idle).unplace bare here ?_, h.phase⟩
    change (v.record id).map (unbind q) = _
    rw [at_n]
    simp [unbind]

/-! ## The fold -/

/-- With the moves of the lost records taken out, the agreement holds. -/
def ScanFold.Fit (f : ScanFold) : Prop := (f.state.view.withdrawAll f.lost).Scanning

theorem ScanFold.slot_view (f : ScanFold) (n : Slot) : (f.state.view.withdrawAll f.lost).slot n = f.state.slot n :=
  congrFun (View.withdrawAll_still _ _).1 n

theorem ScanFold.Fit.bare (h : f.Fit) (old : (f.state.slot n).Bare) {e : SlotEntry} (new : e.Bare) {z : State}
    (view : z.view = f.state.view.setSlot n e) : (z.view.withdrawAll f.lost).Scanning := by
  rw [view, View.withdrawAll_setSlot]
  exact h.setBare (by rw [f.slot_view]; exact old) new

theorem State.view_scanFaults (s : State) (n : Slot) (found : Option Ident) :
    (s.scanFaults n found).view = s.view.setSlot n (.fault found) := s.view_setSlot n _

theorem State.view_relocate (s : State) (n : Slot) (id : Ident) :
    (s.relocate n id).view = (s.view.setSlot n (.filled id)).locate id (.slot n) := by
  rw [← s.view_setSlot]
  exact State.view_updRecord _ id (fun _ => rfl) fun _ => rfl

theorem State.view_createAt (s : State) (n : Slot) {id : Ident} (c : ClassNo) (unknown : s.record id = none) :
    (s.createAt n id c).view = (s.view.create id (.slot n)).setSlot n (.filled id) := by
  unfold State.createAt
  rw [State.view_setSlot, State.view_createRecord (r := newRecord id (.slot n) c .ready true none (toStorage n)) s unknown rfl]
  rfl

theorem ScanFold.Fit.found (h : f.Fit) (old : (f.state.slot n).Bare) (id : Ident) : (f.found n id).Fit := by
  have faulted (found : Option Ident) : ((f.state.scanFaults n found).view.withdrawAll f.lost).Scanning :=
    h.bare old ⟨rfl, rfl⟩ (f.state.view_scanFaults n found)
  have old' : ((f.state.view.withdrawAll f.lost).slot n).Bare := by rw [f.slot_view]; exact old
  unfold ScanFold.found ScanFold.Fit
  split
  · next unknown =>
    split
    · exact faulted _
    · have none_ : f.state.view.record id = none := by
        change (f.state.record id).map _ = none
        rw [unknown]
        rfl
      change ((f.state.createAt n id 0).view.withdrawAll f.lost).Scanning
      rw [f.state.view_createAt n 0 unknown, View.withdrawAll_setSlot, View.withdrawAll_create none_]
      refine View.Scanning.create h old' ?_
      have place := f.state.view.withdrawAll_place f.lost id
      rw [none_] at place
      exact Option.map_eq_none_iff.mp place
  · next r known =>
    split
    · next lost =>
      change ((f.state.relocate n id).view.withdrawAll f.lost).Scanning
      rw [State.view_relocate, View.withdrawAll_locate, View.withdrawAll_setSlot]
      have place := f.state.view.withdrawAll_place f.lost id
      rw [State.record_view known, lost] at place
      obtain ⟨⟨l, b⟩, here, e⟩ := Option.map_eq_some_iff.mp place
      dsimp only at e
      subst e
      exact View.Scanning.relocate h old' here
    · change (((f.state.scanFaults n (some id)).updRecord id Rec.doubt).view.withdrawAll f.lost).Scanning
      rw [State.view_doubt]
      exact faulted _

theorem ScanFold.Fit.loses (h : f.Fit) (here : f.state.slot n = .filled id) (found : Option Ident) : (f.loses n id found).Fit := by
  unfold ScanFold.loses ScanFold.Fit
  dsimp only
  rw [View.withdrawAll_append, State.view_lose, State.view_scanFaults, View.withdrawAll_locate, View.withdrawAll_setSlot]
  exact View.Scanning.lose h ⟨rfl, rfl⟩ (by rw [f.slot_view]; exact here)

theorem ScanFold.Fit.held (h : f.Fit) (here : f.state.slot n = .filled id) (r : ScanResult) : (f.held n id r).Fit := by
  cases r with
  | empty => exact h.loses here none
  | unreadable => exact h.loses here none
  | ident x =>
    unfold ScanFold.held
    dsimp only
    split
    · unfold ScanFold.Fit
      have stands : (f.state.updRecord id fun r => { Rec.putIn n r with suspect := false }).view = f.state.view := by
        rw [State.view_updRecord (f := fun r => { Rec.putIn n r with suspect := false }) (g := fun y => (.slot n, y.2)) _ id
          (fun _ => rfl) fun _ => rfl]
        refine View.onRecord_same fun y known => ?_
        obtain ⟨b, at_n⟩ := (h.agree.located n id).mp (by rw [f.slot_view, here]; rfl)
        have place := f.state.view.withdrawAll_place f.lost id
        rw [at_n, known] at place
        exact Prod.ext (Option.some.inj place) rfl
      rw [stands]
      exact h
    · have lost := h.loses here (some x)
      unfold ScanFold.Fit at lost ⊢
      change (((f.loses n id (some x)).state.updRecord x Rec.doubt).view.withdrawAll (f.loses n id (some x)).lost).Scanning
      rw [State.view_doubt]
      exact lost

theorem ScanFold.Fit.apply (h : f.Fit) (n : Slot) (r : ScanResult) : (f.apply n r).Fit := by
  unfold ScanFold.apply
  split
  · next id here => exact h.held here _
  · exact h
  · exact h
  · next filled inbound outbound =>
    have old : (f.state.slot n).Bare := by
      cases e : f.state.slot n with
      | filled a => exact (filled a e).elim
      | inbound a b => exact (inbound a b e).elim
      | outbound a b => exact (outbound a b e).elim
      | empty => exact ⟨rfl, rfl⟩
      | unknown => exact ⟨rfl, rfl⟩
      | fault a => exact ⟨rfl, rfl⟩
    unfold ScanFold.bare
    split
    · exact h.bare old ⟨rfl, rfl⟩ (f.state.view_setSlot n _)
    · exact h.found old _
    · exact h.bare old ⟨rfl, rfl⟩ (f.state.view_scanFaults n _)

theorem State.fit_scanFold (scanning : s.view.Scanning) (n : Shelf) (results : Vector ScanResult 8) : (s.scanFold n results).Fit := by
  have fold (ks : List (Fin 8)) (f : ScanFold) (h : f.Fit) :
      (ks.foldl (fun f k => f.apply (shelfSlot n k) (results.get k)) f).Fit := by
    induction ks generalizing f with
    | nil => exact h
    | cons k ks ih => exact ih _ (h.apply _ _)
  exact fold eightPlaces ⟨s, none, none, none, [], []⟩ scanning

end Sys2Proof.Machine
end

section
/-! PROOFS. The agreement (O10) after SCANNED (R163, R197, R202). -/

namespace Sys2Proof.Machine

open Sys2Proof

variable {v w : View} {m x : Move} {id : Ident} {p : Port} {n : Slot} {q r : Seq} {l : Location} {s t u z : State} {i j k : Nat}
  {ids : List Ident} {f : ScanFold}

/-! ## The queue with the moves of lost records taken out -/

/-- A move in execution that no record is bound to, in a queue in its form. -/
structure View.Alone (v : View) (m : Move) : Prop where
  form : v.Form
  here : m ∈ v.queue
  runs : v.Runs m.seq
  unbound : ∀ id, (v.record id).bind (·.2) ≠ some m.seq

theorem View.drop_binding (v : View) (q : Seq) (id : Ident) (h : ((v.drop q).record id).bind (·.2) = some r) :
    (v.record id).bind (·.2) = some r := by
  change ((v.record id).map (unbind q)).bind _ = _ at h
  cases here : v.record id with
  | none => rw [here] at h; cases h
  | some y =>
    rw [here] at h
    obtain ⟨l, b⟩ := y
    simp only [Option.map_some, Option.bind_some, unbind] at h ⊢
    split at h
    · cases h
    · exact h

theorem View.Alone.drop (h : v.Alone m) (other : q ≠ m.seq) : (v.drop q).Alone m := by
  have here : m ∈ (v.drop q).queue := List.mem_filter.mpr ⟨h.here, by simpa using Ne.symm other⟩
  have sub (x : Move) (hx : x ∈ (v.drop q).queue) : x ∈ v.queue := (List.mem_filter.mp hx).1
  refine ⟨⟨h.form.distinct.sublist (List.Sublist.map _ List.filter_sublist), fun x hx => h.form.shaped x (sub x hx),
    fun x hx => h.form.executing x (sub x hx), fun r runs => ?_, fun x hx => h.form.cause x (sub x hx), h.form.idle⟩, here, h.runs,
    fun id bound => h.unbound id (v.drop_binding q id bound)⟩
  have same : r = m.seq := Option.some.inj (runs.symm.trans h.runs)
  exact ⟨m, here, same.symm, (h.form.runs_iff h.here).mp h.runs⟩

theorem View.Alone.withdrawAll (h : v.Alone m) (ids : List Ident) : (v.withdrawAll ids).Alone m :=
  View.withdrawAll_keeps (P := fun v => v.Alone m)
    (fun _ h id _ bound => h.drop fun same => h.unbound id (same ▸ bound)) h ids

theorem View.withdrawAll_queue (v : View) (ids : List Ident) : ∀ x ∈ (v.withdrawAll ids).queue, x ∈ v.queue :=
  View.withdrawAll_keeps (P := fun w => ∀ x ∈ w.queue, x ∈ v.queue) (fun _ h _ _ _ x hx => h x (List.mem_filter.mp hx).1) (fun _ hx => hx) ids

/-- A binding that a view shows stands in the catalogue. -/
theorem State.binding_of_view (h : (s.view.record id).bind (·.2) = some q) : ∃ r ∈ s.catalogue, r.binding = some q := by
  obtain ⟨y, at_y, binding⟩ := Option.bind_eq_some_iff.mp h
  obtain ⟨r, known, rfl⟩ := Option.map_eq_some_iff.mp at_y
  exact ⟨r, List.mem_of_find?_eq_some known, binding⟩

/-- A move that names no record enters before or after the withdrawals. -/
theorem View.withdrawAll_enter (unnamed : x.reticle = none) (unbound : ∀ id, (v.record id).bind (·.2) ≠ some x.seq) (ids : List Ident) :
    (v.enter x).withdrawAll ids = (v.withdrawAll ids).enter x := by
  have enters (w : View) : w.enter x = { w with queue := w.queue ++ [x] } := by
    unfold View.enter
    rw [unnamed]
  refine View.withdrawAll_commutes (g := fun v => v.enter x) (P := fun v => ∀ id, (v.record id).bind (·.2) ≠ some x.seq)
    (fun v _ id => by rw [enters]) (fun v free id q bound => ?_) (fun v q free id bound => free id (v.drop_binding q id bound)) unbound ids
  have other : x.seq ≠ q := fun e => free id (bound.trans (congrArg some e.symm))
  rw [enters, enters]
  change View.mk _ _ _ _ _ _ _ _ = View.mk _ _ _ _ _ _ _ _
  congr 1
  simp [View.drop, other]

/-! ## The withdrawals -/

/-- With no move in execution a lost record's move is withdrawn. -/
theorem State.view_withdrawLost (form : s.QueueForm k) (idle : s.handler.exec = none) (id : Ident) :
    (s.withdrawLost id).view = s.view.withdrawLost id := by
  cases known : s.record id with
  | none =>
    have free : (s.view.record id).bind (·.2) = none := by
      change ((s.record id).map _).bind _ = _
      rw [known]
      rfl
    rw [View.withdrawLost_free free]
    simp [State.withdrawLost, known]
  | some r =>
    have seen := State.record_view known
    cases binding : r.binding with
    | none =>
      rw [View.withdrawLost_free (by rw [seen, binding]; rfl)]
      simp [State.withdrawLost, known, State.boundMove, binding]
    | some q =>
      rw [View.withdrawLost_bound (q := q) (by rw [seen, binding]; rfl)]
      obtain ⟨m, hm, rfl⟩ := form.bound r (List.mem_of_find?_eq_some known) q binding
      have found : s.boundMove r = some m := by
        rw [State.boundMove, binding]
        exact State.move?_of_mem form.distinct hm
      have waits : m.isWaiting = true := form.view.all_wait idle hm
      simp only [State.withdrawLost, known, Option.bind_some, found, waits, if_true]
      exact s.view_withdraw m _

theorem State.withdrawLost_handler (s : State) (id : Ident) : (s.withdrawLost id).handler = s.handler := by
  rcases s.withdrawLost_cases id with h | ⟨r, m, _, _, _, h⟩ <;> rw [h]
  exact State.withdraw_handler s m _

theorem State.view_withdrawAll (form : s.QueueForm k) (small : k < 2147483648) (idle : s.handler.exec = none) (ids : List Ident) :
    (ids.foldl State.withdrawLost s).view = s.view.withdrawAll ids := by
  induction ids generalizing s with
  | nil => rfl
  | cons id ids ih =>
    rw [List.foldl_cons, ih (s.grows_withdrawLost id k small form) (by rw [State.withdrawLost_handler]; exact idle),
      State.view_withdrawLost form idle]
    rfl

theorem State.lapsesFit_reclaimAll (s : State) (ids : List Ident) : s.LapsesFit (ids.foldl State.reclaimIfUnfit s) := by
  induction ids generalizing s with
  | nil => exact ((State.Same.refl s).lapses rfl).fit rfl
  | cons id ids ih => exact (s.lapsesFit_reclaimIfUnfit id).trans (ih _)

/-! ## SCANNED -/

theorem State.view_raiseIf (s : State) (c : NoticeKind) (d : Option Detail) : (s.raiseIf c d).view = s.view := by
  cases d with
  | none => rfl
  | some d => exact s.view_raise c d

theorem ScanFold.view_scanned (f : ScanFold) (m : Move) : (f.scanned m).view = f.state.view.dropIdle m.seq := by
  change (((((f.state.dropMove m.seq).handlerIdle).raiseIf .catalogueFull f.full).raiseIf .mismatch f.mismatch).raiseIf .slotFault
    f.slotFault).view = _
  rw [State.view_raiseIf, State.view_raiseIf, State.view_raiseIf, State.view_dropIdle]

/-- The census goes on with no move, or with the SCAN of a shelf. -/
theorem State.view_censusMovesOn (s : State) (a : Shelf) : (s.censusMovesOn a).view = s.view
    ∨ ∃ b x, x.kind = .scan ∧ x.source = .shelf b ∧ x.target = .pos (.shelf b) ∧ x.reticle = none ∧ x.pickTest = .none ∧ x.isWaiting = true
      ∧ x.seq = s.nextSeq ∧ (s.censusMovesOn a).view = s.view.enter x := by
  unfold State.censusMovesOn
  split
  · split
    · exact .inr ⟨_, _, rfl, rfl, rfl, rfl, rfl, rfl, rfl, s.view_offerScan _⟩
    · exact .inl (State.view_raise _ _ _)
  · exact .inl rfl
  · exact .inl rfl

theorem State.agree_takeScanned (form : s.QueueForm k) (small : k + 7 < 2147483648) (sound : s.CatalogueSound) (agree : s.view.Agree)
    (exec : s.execMove = some m) (busy : s.handler.state = .scanning) (results : Vector ScanResult 8) : (s.takeScanned m results).view.Agree := by
  obtain ⟨here, runs⟩ := State.execMove_mem exec
  have phase := agree.phase_of_busy here runs (ph := .scanning) busy
  have scan : m.kind = .scan := agree.working here runs phase
  have wired := agree.wired m here
  have routed := wired.2
  unfold Move.Routed at routed
  rw [scan] at routed
  obtain ⟨⟨a, source⟩, _, unnamed⟩ := routed
  rw [State.takeScanned_eq source]
  have fit := State.fit_scanFold ⟨agree, phase⟩ a results
  have same := s.same_scanFold a results
  generalize s.scanFold a results = f at fit same ⊢
  have fform := same.form form
  -- the scan's results with the SCAN ended
  have alone : f.state.view.Alone m := by
    refine ⟨fform.view, (show f.state.view.queue = s.queue from same.queue) ▸ here,
      (congrArg (fun e : Option ExecRecord => e.bind (·.move)) same.exec).trans runs, fun id bound => ?_⟩
    obtain ⟨r, hr, binding⟩ := State.binding_of_view bound
    obtain ⟨r', hr', binding'⟩ := same.bound r hr m.seq binding
    have seen := State.record_view (sound.record_of_mem hr')
    rw [binding'] at seen
    rw [(agree.bound_to form.view here seen).1] at unnamed
    cases unnamed
  have aloneFit := alone.withdrawAll f.lost
  have ended : ((f.state.view.withdrawAll f.lost).dropIdle m.seq).Agree :=
    fit.agree.quits_still aloneFit.form aloneFit.here aloneFit.runs (View.quits_scan wired scan) fun n _ => .inl rfl
  have endedForm : ((f.state.view.withdrawAll f.lost).dropIdle m.seq).Form := aloneFit.form.dropIdle aloneFit.runs
  rw [← View.withdrawAll_dropIdle] at ended endedForm
  have sform : (f.scanned m).QueueForm (k + 0) :=
    ((((State.same_raiseIf _ .catalogueFull f.full).trans (State.same_raiseIf _ .mismatch f.mismatch)).trans
      (State.same_raiseIf _ .slotFault f.slotFault)).trans (State.same_countTally _ fun t => { t with scanned := t.scanned + 1 })).form
      (f.state.ends_dropIdle m.seq k (by omega) ((congrArg (fun e : Option ExecRecord => e.bind (·.move)) same.exec).trans runs) fform)
  rw [← f.view_scanned m] at ended endedForm
  have idle : (f.scanned m).handler.exec = none := congrArg View.exec (f.view_scanned m)
  -- the census moves on
  have moved : (((f.scanned m).censusMovesOn a).view.withdrawAll f.lost).Agree := by
    rcases (f.scanned m).view_censusMovesOn a with view | ⟨b, x, kind, from_b, to_b, free, test, waits, seq, view⟩
    · rw [view]
      exact ended
    · have fresh : ∀ y ∈ (f.scanned m).view.queue, y.seq ≠ x.seq := fun y hy => by rw [seq]; exact sform.fresh y hy
      rw [view, View.withdrawAll_enter free fun id bound => ?_]
      · refine ended.enter endedForm (fun y hy => fresh y (View.withdrawAll_queue _ _ y hy)) waits ⟨by simp [free, test], ?_⟩
          (fun id named => by rw [free] at named; cases named) (fun p from_p => by rw [from_b] at from_p; cases from_p)
          fun k => by rw [kind] at k; cases k
        unfold Move.Routed
        rw [kind]
        exact ⟨⟨b, from_b⟩, ⟨b, to_b⟩, free⟩
      · obtain ⟨r, hr, binding⟩ := State.binding_of_view bound
        obtain ⟨y, hy, same⟩ := sform.bound r hr _ binding
        exact fresh y hy same
  have mform := State.grows_censusMovesOn (f.scanned m) a (k + 0) (by omega) sform
  have midle : ((f.scanned m).censusMovesOn a).handler.exec = none := by
    rw [(State.ungranted_censusMovesOn _ a).handler]
    exact idle
  rw [← State.view_withdrawAll mform (by omega) midle] at moved
  exact ((State.lapsesFit_reclaimAll _ f.doubted).fits (k + 0 + 1 + 0) (by omega) (State.grows_withdrawAll _ f.lost _ (by omega) mform) moved).2

end Sys2Proof.Machine
end

section
/-! PROOFS. The agreement (O10) under the RESTART (R55, R112, R142, R168). -/

namespace Sys2Proof.Machine

open Sys2Proof

variable {v w : View} {m x : Move} {id : Ident} {p : Port} {n : Slot} {q r : Seq} {l : Location} {s t u z : State} {i j k : Nat}
  {f g : FreshMove}

/-! ## The ports -/

/-- A port's OUT_WAIT nest lapses. -/
def View.restartPort (v : View) (p : Port) : View := if v.nest p = .outWait then v.lapse p else v

theorem State.view_restartPort (s : State) (p : Port) : (s.restartPort p).view = s.view.restartPort p := by
  have silenced : ((s.updPort p (fun r => if r.state = .closed then r else { r with state := .silent, livenessLeft := none })).emptyLists
      p).view = s.view := by
    refine (State.view_updAhead _ p CallAhead.emptied).trans (s.view_updPort_same p ?_ ?_) <;> split <;> rfl
  have nest : ((s.updPort p (fun r => if r.state = .closed then r else { r with state := .silent, livenessLeft := none })).emptyLists
      p).toolNest p = s.view.nest p := congrArg (fun v : View => v.nest p) silenced
  unfold State.restartPort View.restartPort
  dsimp only
  rw [nest]
  split
  · rw [State.view_lapseNest, silenced]
  · exact silenced

/-- What the lapses of ports leave. -/
structure View.LapsesTo (v w : View) : Prop where
  slot : w.slot = v.slot
  record : w.record = v.record
  queue : w.queue = v.queue
  exec : w.exec = v.exec
  inn : w.inn = v.inn
  waits : ∀ p, v.waits p = false → w.waits p = false

theorem View.lapsesTo_restartPort (v : View) (p : Port) : v.LapsesTo (v.restartPort p) := by
  unfold View.restartPort
  split
  · refine ⟨rfl, rfl, rfl, rfl, rfl, fun r quiet => ?_⟩
    by_cases e : r = p <;> simp [View.lapse, View.setNest, View.setWaits, e, quiet]
  · exact ⟨rfl, rfl, rfl, rfl, rfl, fun _ quiet => quiet⟩

theorem View.LapsesTo.trans {a b c : View} (h : a.LapsesTo b) (g : b.LapsesTo c) : a.LapsesTo c :=
  ⟨g.slot.trans h.slot, g.record.trans h.record, g.queue.trans h.queue, g.exec.trans h.exec, g.inn.trans h.inn,
    fun p quiet => g.waits p (h.waits p quiet)⟩

theorem View.Agree.restartPort (h : v.Agree) (p : Port) : (v.restartPort p).Agree := by
  unfold View.restartPort
  split
  · next nest => exact h.setNest_free (.inr (.inl nest))
  · exact h

theorem State.restartPorts_view (ps : List Port) (s : State) : s.view.LapsesTo (ps.foldl State.restartPort s).view
    ∧ (s.view.Agree → (ps.foldl State.restartPort s).view.Agree) := by
  induction ps generalizing s with
  | nil => exact ⟨⟨rfl, rfl, rfl, rfl, rfl, fun _ quiet => quiet⟩, fun h => h⟩
  | cons p ps ih =>
    obtain ⟨lapses, agrees⟩ := ih (s.restartPort p)
    rw [State.view_restartPort] at lapses agrees
    exact ⟨(s.view.lapsesTo_restartPort p).trans lapses, fun h => agrees (h.restartPort p)⟩

theorem State.view_shutDown (s : State) : s.shutDown.view = (allPorts.foldl State.restartPort s).view := by
  have census (t : State) : t.restartCensus.view = t.view := by
    obtain ⟨c, e, _⟩ := t.restartCensus_eq
    rw [e]
    rfl
  have notices (t : State) : t.restartNotices.view = t.view := by
    obtain ⟨⟨_, _, _, e⟩, _⟩ := t.restartNotices_spec
    rw [e]
    rfl
  unfold State.shutDown
  rw [notices, census]
  generalize allPorts.foldl State.restartPort s = t
  rfl

/-! ## What a RESTART leaves before the fresh moves -/

theorem State.view_workCleared (s : State) : s.workCleared.view = s.workWithdrawn.view := by
  unfold State.workCleared
  rw [State.view_noSlotStep, State.restartQueue_eq]
  rfl

theorem State.fits_workWithdrawn (s : State) : s.Fits 0 s.workWithdrawn :=
  ((s.fits_withdrawWhere _ _).trans (State.fits_withdrawWhere _ _ _)).mono (by omega)

/-- The state before the fresh moves of a RESTART: nothing waits, records and return waits stand. -/
structure State.Cleared (s c : State) : Prop where
  idle : ∀ m ∈ c.queue, m.isWaiting = false
  place : ∀ id l b, s.view.record id = some (l, b) → ∃ b', c.view.record id = some (l, b')
  waits : ∀ p, s.view.waits p = false → c.view.waits p = false

theorem State.lapsesTo_restartCleared (s : State) : s.workWithdrawn.view.LapsesTo s.restartCleared.view := by
  unfold State.restartCleared
  rw [State.view_shutDown, ← State.view_workCleared]
  exact (State.restartPorts_view allPorts s.workCleared).1

theorem State.workWithdrawn_view (s : State) : ∃ ms, s.workWithdrawn.view = s.view.drops ms := by
  unfold State.workWithdrawn
  rw [State.view_withdrawWhere, State.view_withdrawWhere]
  exact ⟨_ ++ _, (List.foldl_append ..).symm⟩

theorem State.LapsesTo.cleared {c : State} (lapses : s.workWithdrawn.view.LapsesTo c.view) : s.Cleared c := by
  obtain ⟨ms, view⟩ := s.workWithdrawn_view
  refine ⟨fun m hm => ?_, fun id l b here => ?_, fun p quiet => lapses.waits p ?_⟩
  · have queue : c.queue = s.workWithdrawn.queue := lapses.queue
    rw [queue] at hm
    exact s.workWithdrawn_waiting hm
  · rw [lapses.record, view]
    exact View.drops_place here ms
  · rw [view, (View.drops_still _ ms).2.2.2.2.1]
    exact quiet

theorem State.cleared_restartCleared (s : State) : s.Cleared s.restartCleared := State.LapsesTo.cleared s.lapsesTo_restartCleared

theorem State.agree_restartCleared (form : s.QueueForm k) (small : k < 2147483648) (agree : s.view.Agree) :
    s.restartCleared.view.Agree := by
  unfold State.restartCleared
  rw [State.view_shutDown]
  refine (State.restartPorts_view allPorts s.workCleared).2 ?_
  rw [State.view_workCleared]
  exact (s.fits_workWithdrawn k small form agree).2

/-! ## The fresh moves -/

/-- Where a fresh move comes from. -/
def FreshMove.spot : FreshMove → Nest
  | .reclaim p => .t p
  | .collect p _ => .t p
  | .stockIn => .bi
  | .reshelve => .inn

/-- What a fresh move finds at its nest. -/
def State.Ready (s : State) : FreshMove → Prop
  | .reclaim p => s.view.nest p = .outLapsed ∧ ∀ m ∈ s.queue, m.isWaiting = true → m.source ≠ .nest (.t p)
  | .collect p id => s.view.nest p = .returned ∧ s.view.waits p = false ∧ (∀ m ∈ s.queue, m.isWaiting = true → m.source ≠ .nest (.t p))
    ∧ ∀ i, id = some i → ∃ b, s.view.record i = some (.tool p, b) ∨ s.view.record i = some (.nest (.t p), b)
  | .stockIn => True
  | .reshelve => s.view.inn = .arrived ∧ ∀ m ∈ s.queue, m.isWaiting = true → m.kind ≠ .reshelve

/-- A fresh move from another place enters. -/
theorem State.Ready.enter (h : s.Ready f) (view : t.view = s.view.enter x) {y : Nest} (source : x.source = .nest y)
    (other : y ≠ f.spot) (kind : x.kind = .reshelve → y = .inn) : t.Ready f := by
  have same : t.view.nest = s.view.nest ∧ t.view.waits = s.view.waits ∧ t.view.inn = s.view.inn := by
    rw [view]
    unfold View.enter
    split <;> exact ⟨rfl, rfl, rfl⟩
  have queue : t.queue = s.queue ++ [x] := by
    change t.view.queue = _
    rw [view]
    unfold View.enter
    split <;> rfl
  have place (i : Ident) (l : Location) (b : Option Seq) (here : s.view.record i = some (l, b)) : ∃ b', t.view.record i = some (l, b') := by
    rw [view]
    unfold View.enter
    split
    · next i' _ =>
      by_cases e : i = i'
      · subst e
        exact ⟨some x.seq, by simp [View.bind, View.onRecord, here]⟩
      · exact ⟨b, by simpa [View.bind, View.onRecord, Function.update_of_ne e] using here⟩
    · exact ⟨b, here⟩
  obtain ⟨nest, waits, inn⟩ := same
  have free {p : Port} (away : y ≠ .t p) (old : ∀ m ∈ s.queue, m.isWaiting = true → m.source ≠ .nest (.t p)) :
      ∀ m ∈ t.queue, m.isWaiting = true → m.source ≠ .nest (.t p) := fun m hm waits from_p => by
    rw [queue] at hm
    rcases List.mem_append.mp hm with old' | new
    · exact old m old' waits from_p
    · rw [List.mem_singleton.mp new, source] at from_p
      cases from_p
      exact away rfl
  cases f with
  | reclaim p => exact ⟨by rw [nest]; exact h.1, free other h.2⟩
  | collect p id =>
    obtain ⟨returned, quiet, old, here⟩ := h
    refine ⟨by rw [nest]; exact returned, by rw [waits]; exact quiet, free other old, fun i e => ?_⟩
    obtain ⟨b, at_p | at_p⟩ := here i e
    · obtain ⟨b', there⟩ := place i _ b at_p
      exact ⟨b', .inl there⟩
    · obtain ⟨b', there⟩ := place i _ b at_p
      exact ⟨b', .inr there⟩
  | stockIn => trivial
  | reshelve =>
    refine ⟨by rw [inn]; exact h.1, fun m hm waits k => ?_⟩
    rw [queue] at hm
    rcases List.mem_append.mp hm with old | new
    · exact h.2 m old waits k
    · rw [List.mem_singleton.mp new] at k
      exact other (kind k)

theorem State.view_admitFresh (s : State) (f : FreshMove) : (s.admitFresh f).view = s.view
    ∨ ∃ x, x.source = .nest f.spot ∧ (x.kind = .reshelve → f.spot = .inn) ∧ (s.admitFresh f).view = s.view.enter x := by
  have offered (o : Offer) (source : o.source = .nest f.spot) (kind : o.kind = .reshelve → f.spot = .inn) :
      ∃ x, x.source = .nest f.spot ∧ (x.kind = .reshelve → f.spot = .inn) ∧ (s.offerInward o).view = s.view.enter x := by
    obtain ⟨hold, view⟩ := s.view_offerInward o
    exact ⟨_, source, kind, view⟩
  cases f with
  | reclaim p =>
    change (s.reclaimNest p).view = _ ∨ ∃ x, _ ∧ _ ∧ (s.reclaimNest p).view = _
    unfold State.reclaimNest
    split
    · exact .inr (offered _ rfl nofun)
    · exact .inl rfl
  | collect p id => exact .inr (offered (collectOffer p id) rfl nofun)
  | stockIn =>
    change s.stockInArrives.view = _ ∨ ∃ x, _ ∧ _ ∧ s.stockInArrives.view = _
    unfold State.stockInArrives
    split
    · exact .inl rfl
    · exact .inr (offered stockInOffer rfl nofun)
  | reshelve =>
    change s.reshelveArrives.view = _ ∨ ∃ x, _ ∧ _ ∧ s.reshelveArrives.view = _
    unfold State.reshelveArrives
    split
    · exact .inl rfl
    · exact .inr (offered reshelveOffer rfl fun _ => rfl)

theorem State.Ready.admitFresh (h : s.Ready f) (other : g.spot ≠ f.spot) : (s.admitFresh g).Ready f := by
  rcases s.view_admitFresh g with view | ⟨x, source, kind, view⟩
  · have queue : (s.admitFresh g).queue = s.queue := congrArg View.queue view
    unfold State.Ready
    rw [view, queue]
    exact h
  · exact h.enter view source other kind

theorem State.agree_admitFresh (sound : s.CatalogueSound) (form : s.QueueForm k) (small : k + 1 < 2147483648) (agree : s.view.Agree)
    (ready : s.Ready f) : (s.admitFresh f).view.Agree := by
  cases f with
  | reclaim p =>
    obtain ⟨nest, free⟩ := ready
    change (s.reclaimNest p).view.Agree
    unfold State.reclaimNest
    split
    · next r onNest =>
      obtain ⟨hold, view⟩ := s.view_offerInward (reclaimOffer p r.id)
      rw [view]
      have here := State.recordAt_view sound onNest
      have unbound := agree.unbound_unwaited form.view (p := p) (by rw [nest]; exact nofun) free (.inl here)
      rw [unbound] at here
      exact agree.reclaim form.view nest free here rfl rfl rfl rfl rfl form.fresh
    · exact agree
  | collect p id =>
    obtain ⟨nest, quiet, free, here⟩ := ready
    obtain ⟨hold, view⟩ := s.view_offerInward (collectOffer p id)
    change (s.offerInward (collectOffer p id)).view.Agree
    rw [view]
    refine agree.collect form.view nest quiet free (fun i named => ?_) rfl rfl ?_ rfl form.fresh
    · obtain ⟨b, at_p⟩ := here i named
      have unbound := agree.unbound_unwaited form.view (p := p) (by rw [nest]; exact nofun) free at_p.symm
      rw [unbound] at at_p
      exact at_p
    · change id.isSome = true ↔ (if id.isSome then PickTest.named else .anyAtTool) = .named
      cases id <;> simp
  | stockIn => exact (s.fits_stockInArrives k small form agree).2
  | reshelve => exact (State.fits_reshelveArrives ready.1 ready.2 k small form agree).2

theorem State.agree_admitAll (fs : List FreshMove) (apart : (fs.map FreshMove.spot).Nodup) (sound : s.CatalogueSound ∧ s.AnnouncementsSound)
    (form : s.QueueForm k) (small : k + fs.length < 2147483648) (agree : s.view.Agree) (ready : ∀ f ∈ fs, s.Ready f) :
    (fs.foldl State.admitFresh s).view.Agree := by
  induction fs generalizing s k with
  | nil => exact agree
  | cons f fs ih =>
    obtain ⟨other, rest⟩ := List.nodup_cons.mp apart
    simp only [List.length_cons] at small
    refine ih rest ((s.advances_admitFresh f).catalogue sound) (s.grows_admitFresh f k (by omega) form) (by omega)
      (State.agree_admitFresh sound.1 form (by omega) agree (ready f List.mem_cons_self)) fun g hg => ?_
    refine (ready g (List.mem_cons_of_mem _ hg)).admitFresh fun same => other ?_
    rw [same]
    exact List.mem_map_of_mem hg

end Sys2Proof.Machine
end

section
/-! PROOFS. The agreement (O10) under the RESTART taking effect (R168). -/

namespace Sys2Proof.Machine

open Sys2Proof

variable {v w : View} {m x : Move} {id : Ident} {p : Port} {n : Slot} {q r : Seq} {l : Location} {s t u z c : State} {i j k : Nat}
  {f g : FreshMove}

/-! ## The fresh moves of a RESTART -/

theorem State.spots_freshOfPort (s b : State) (p : Port) :
    ((s.freshOfPort b p).map FreshMove.spot).Sublist [Nest.t p] := by
  unfold State.freshOfPort
  split
  · exact List.Sublist.refl _
  · split
    · exact List.Sublist.refl _
    · exact List.nil_sublist _
  · exact List.nil_sublist _

theorem State.spots_freshMoves (s b : State) : ((s.freshMoves b).map FreshMove.spot).Nodup := by
  have ports (ps : List Port) : ((ps.flatMap (s.freshOfPort b)).map FreshMove.spot).Sublist (ps.map Nest.t) := by
    induction ps with
    | nil => exact List.Sublist.refl _
    | cons p ps ih =>
      rw [List.flatMap_cons, List.map_append]
      exact (s.spots_freshOfPort b p).append ih
  have one (c : Prop) [Decidable c] (f : FreshMove) : ((if c then [f] else []).map FreshMove.spot).Sublist [f.spot] := by
    split
    · exact List.Sublist.refl _
    · exact List.nil_sublist _
  have all : ((s.freshMoves b).map FreshMove.spot).Sublist (allPorts.map Nest.t ++ [.bi] ++ [.inn]) := by
    unfold State.freshMoves
    rw [List.map_append, List.map_append]
    exact ((ports allPorts).append (one (s.bi = .arrived) .stockIn)).append (one (s.inn = .arrived) .reshelve)
  exact all.nodup (by decide)

/-- Where the record of a COLLECT waiting at a nest is. -/
theorem View.Agree.collect_place (h : v.Agree) (form : v.Form) (hm : m ∈ v.queue) (source : m.source = .nest (.t p))
    (waits : m.isWaiting = true) (named : m.reticle = some id) :
    ∃ b, v.record id = some (.tool p, b) ∨ v.record id = some (.nest (.t p), b) := by
  obtain ⟨l, bound⟩ := h.binds m hm id named
  have stands := (h.bound_to form hm bound).2
  cases l with
  | slot n => exact absurd (source.symm.trans stands) nofun
  | nest y =>
    cases y with
    | bo => exact stands.elim
    | t p' =>
      have same := source.symm.trans stands
      cases same
      exact ⟨_, .inr bound⟩
    | bi => exact absurd (source.symm.trans stands) nofun
    | inn => exact absurd (source.symm.trans stands) nofun
  | tool p' =>
    have same := source.symm.trans stands.2
    cases same
    exact ⟨_, .inl bound⟩
  | gripper =>
    have run : m.state = .executing := stands
    rw [m.isWaiting_iff, run] at waits
    cases waits
  | inspection => exact stands.elim
  | unlocated => exact stands.elim

theorem State.ready_freshMoves (form : s.QueueForm k) (agree : s.view.Agree) (cleared : s.Cleared c) : ∀ f ∈ c.freshMoves s, c.Ready f := by
  obtain ⟨idle, place, waits⟩ := cleared
  have free (y : Position) : ∀ m ∈ c.queue, m.isWaiting = true → m.source ≠ y := fun m hm run => by
    rw [idle m hm] at run
    cases run
  intro f hf
  unfold State.freshMoves at hf
  rcases List.mem_append.mp hf with hf | hf
  · rcases List.mem_append.mp hf with hf | hf
    · obtain ⟨p, _, hf⟩ := List.mem_flatMap.mp hf
      unfold State.freshOfPort at hf
      split at hf
      · next nest =>
        rw [List.mem_singleton.mp hf]
        exact ⟨nest, free _⟩
      · next nest =>
        split at hf
        · next m found =>
          rw [List.mem_singleton.mp hf]
          have hm : m ∈ s.view.queue := List.mem_of_find?_eq_some found
          have test := List.find?_some found
          simp only [Bool.and_eq_true, decide_eq_true_eq] at test
          obtain ⟨⟨kind, source⟩, run⟩ := test
          refine ⟨nest, waits p ?_, free _, fun i named => ?_⟩
          · rcases agree.nests m hm run p source with ⟨other, _⟩ | ⟨_, _, quiet⟩
            · rw [kind] at other
              cases other
            · exact quiet
          · obtain ⟨b, at_p | at_p⟩ := agree.collect_place form.view hm source run named
            · obtain ⟨b', there⟩ := place i _ b at_p
              exact ⟨b', .inl there⟩
            · obtain ⟨b', there⟩ := place i _ b at_p
              exact ⟨b', .inr there⟩
        · cases hf
      · cases hf
    · split at hf
      · rw [List.mem_singleton.mp hf]
        trivial
      · cases hf
  · split at hf
    · next arrived =>
      rw [List.mem_singleton.mp hf]
      exact ⟨arrived, fun m hm run => by rw [idle m hm] at run; cases run⟩
    · cases hf

/-! ## The RESTART taking effect (R168) -/

theorem State.same_shutDown (s : State) : s.Same s.shutDown := by
  have announced (t : State) : t.Same { t with announcements := [] } := .of_catalogue rfl rfl rfl rfl
  have noted (t : State) : t.Same t.restartNotices :=
    (t.same_restartNoticesOn .material).trans (State.same_restartNoticesOn _ .service)
  unfold State.shutDown
  exact (((s.same_restartPorts allPorts).trans (announced _)).trans (State.same_restartCensus _)).trans (noted _)

theorem State.advances_shutDown (s : State) : s.Advances s.shutDown := by
  have noted (t : State) : t.Advances t.restartNotices :=
    (t.advances_restartNoticesOn .material).trans (State.advances_restartNoticesOn _ .service)
  unfold State.shutDown
  exact (((State.advances_foldl State.advances_restartPort allPorts s).trans (State.advances_clearAnnouncements _)).trans
    (State.advances_restartCensus _)).trans (noted _)

theorem State.grows_restartQueue (s : State) : s.Grows 0 s.restartQueue := by
  have tenure (t : State) (x : Tenure) : t.Same { t with tenure := x } := .of_catalogue rfl rfl rfl rfl
  exact ((s.grows_withdrawWhere _ _).trans (State.grows_withdrawWhere _ _ _)).trans (tenure _ _).grows

theorem State.grows_restartCleared (s : State) : s.Grows 0 s.restartCleared := by
  unfold State.restartCleared State.workCleared
  exact s.grows_restartQueue.trans ((State.same_noSlotStep _ s noTouch).trans (State.same_shutDown _)).grows

theorem State.advances_restartCleared (s : State) : s.Advances s.restartCleared := by
  unfold State.restartCleared State.workCleared
  exact (s.advances_restartQueue.trans (State.advances_noSlotStep _ _ _)).trans (State.advances_shutDown _)

theorem State.agree_restartEffect (sound : s.CatalogueSound ∧ s.AnnouncementsSound) (form : s.QueueForm k) (small : k + 8 < 2147483648)
    (agree : s.view.Agree) : s.restartEffect.view.Agree := by
  have cform := s.grows_restartCleared k (by omega) form
  have cagree := State.agree_restartCleared form (by omega) agree
  have ready := State.ready_freshMoves form agree s.cleared_restartCleared
  have csound := s.advances_restartCleared.catalogue sound
  rw [State.restartEffect_eq]
  generalize s.restartCleared = c at cform cagree ready csound
  obtain ⟨n, drawn⟩ := freeOrder_state (s := c) (c.freshMoves s)
  have perm := freeOrder_perm (c.freshMoves s) c
  have few := perm.length_eq.trans_le (c.freshMoves_length s)
  rw [drawn]
  exact State.agree_admitAll _ ((perm.map FreshMove.spot).nodup_iff.mpr (c.spots_freshMoves s)) csound
    ((c.same_choices n).form cform) (by omega) cagree fun f hf => ready f (perm.mem_iff.mp hf)

theorem State.agree_settleHandler (sound : s.CatalogueSound ∧ s.AnnouncementsSound) (a : State) (form : s.QueueForm k)
    (small : k + 200 < 2147483648) (agree : s.view.Agree) : (s.settleHandler a).view.Agree := by
  unfold State.settleHandler
  split
  · exact (State.fits_settle _ a _ (k + 8) (by omega) (s.grows_restartEffect k (by omega) form)
      (State.agree_restartEffect sound form (by omega) agree)).2
  · exact (s.fits_settle a _ k (by omega) form agree).2

end Sys2Proof.Machine
end

section
/-! PROOFS. The agreement (O10) after reports, timers and lines. -/

namespace Sys2Proof.Machine

open Sys2Proof

variable {m x : Move} {id : Ident} {p : Port} {n : Slot} {s t u z : State} {i j k : Nat} {l : Location}

/-! ## What a change holds -/

/-- The catalogue and the announcement list are in their forms. -/
def State.Catalogued (s : State) : Prop := s.CatalogueSound ∧ s.AnnouncementsSound

/-- From `s` to `t` the catalogue keeps its form, and from a catalogue in its form the queue and the agreement are kept, with at most `i`
numbers given out. -/
structure State.Holds (i : Nat) (s t : State) : Prop where
  sound : s.Catalogued → t.Catalogued
  fits : s.Catalogued → s.Fits i t

theorem State.Holds.trans (h : s.Holds i t) (g : t.Holds j u) : s.Holds (i + j) u where
  sound := fun c => g.sound (h.sound c)
  fits := fun c => (h.fits c).trans (g.fits (h.sound c))

theorem State.Holds.mono (h : s.Holds i t) (le : i ≤ j) : s.Holds j t where
  sound := h.sound
  fits := fun c => (h.fits c).mono le

theorem State.Fits.holds (h : s.Fits i t) (advances : s.Advances t) : s.Holds i t := ⟨advances.catalogue, fun _ => h⟩

theorem State.holds_still (s : State) (i : Nat) : s.Holds i s := ⟨fun c => c, fun _ => s.fits_still i⟩

theorem State.holds_settle (b a : State) (x : Touch) : b.Holds 192 (b.settle a x) := (b.fits_settle a x).holds (b.advances_settle a x)

theorem State.holds_settleHandler (b a : State) : b.Holds 200 (b.settleHandler a) :=
  ⟨(b.advances_settleHandler a).catalogue, fun c k small form agree =>
    ⟨b.grows_settleHandler a k small form, State.agree_settleHandler c a form small agree⟩⟩

/-- A change of the lines or a timer is settled. -/
theorem State.Holds.settled (h : s.Holds i t) (le : i ≤ 8) (x : Touch) : s.Holds 208 (t.settle s x) :=
  (h.trans (t.holds_settle s x)).mono (by omega)

/-- Nothing happens without an edge. -/
theorem State.holds_edge (s : State) {b : Prop} [Decidable b] {x y : State} (left : b → s.Holds 208 x) (right : ¬ b → s.Holds 208 y) :
    s.Holds 208 (if b then x else y) := by
  split
  · next h => exact left h
  · next h => exact right h

/-! ## Reports (R146, R149) -/

/-- A halt with its settling. -/
theorem State.holds_halted (s : State) (c : HaltCode) (g : GripperState) : s.Holds 208 ((s.halt c g).settleHandler s) := by
  have same : s.Catalogued → (s.halt c g).Catalogued := fun sound => by
    have catalogue : (s.halt c g).catalogue = s.catalogue ∧ (s.halt c g).announcements = s.announcements := by
      unfold State.halt State.haltAt
      simp
    unfold State.Catalogued State.CatalogueSound State.AnnouncementsSound State.known State.record at sound ⊢
    rw [catalogue.1, catalogue.2]
    exact sound
  have halted : s.Holds 0 (s.halt c g) := ⟨same, fun _ => s.fits_halt c g⟩
  exact (halted.trans (State.holds_settleHandler _ s)).mono (by omega)

theorem State.holds_takeReport (s : State) (number : Byte) (expects : List HandlerState) (f : State → Move → State) (le : i ≤ 8)
    (ends : ∀ m, s.execMove = some m → s.Ends i m.seq (f s m)) (sound : ∀ m, s.handler.state ∈ expects → s.Catalogued → (f s m).Catalogued)
    (agrees : ∀ m, s.execMove = some m → s.handler.state ∈ expects → ∀ k, k + i < 2147483648 → s.QueueForm k → s.Catalogued →
      s.view.Agree → (f s m).view.Agree) : s.Holds 208 (s.takeReport number expects f) := by
  unfold State.takeReport
  split
  · split
    · next expected =>
      split
      · next m exec =>
        have taken : s.Holds i (f s m) := ⟨sound m expected, fun c k small form agree =>
          ⟨(ends m exec).grows exec k small form, agrees m exec expected k small form c agree⟩⟩
        exact (taken.trans (State.holds_settleHandler _ s)).mono (by omega)
      · exact s.holds_still _
    · exact s.holds_halted _ _
  · exact s.holds_still _

/-- What PICKING finds of the move in execution. -/
theorem State.picking_of_busy (agree : s.view.Agree) (exec : s.execMove = some m) (busy : s.handler.state = .picking) : s.Picking m := by
  obtain ⟨here, runs⟩ := State.execMove_mem exec
  have works := agree.working here runs (agree.phase_of_busy here runs (ph := .picking) busy)
  exact ⟨here, runs, ⟨works.1, works.2.1⟩, works.2.2.1, works.2.2.2⟩

theorem State.holds_picked (s : State) (c : Byte) (read : ReadId) :
    s.Holds 208 (s.takeReport c [.picking] fun a m => a.takePicked m read) := by
  refine s.holds_takeReport (i := 0) c _ _ (by omega) (fun m exec => ?_) (fun m busy sound => ?_) fun m exec busy k small form _ agree => ?_
  · exact (s.grows_takePicked m read (List.mem_map_of_mem (State.execMove_mem exec).1)).ends m.seq
  · refine (s.advances_takePicked m read ?_).catalogue sound
    rw [Handler.busy, List.mem_singleton.mp busy]
    rfl
  · exact State.agree_takePicked read form small agree (State.picking_of_busy agree exec (List.mem_singleton.mp busy))

theorem State.holds_sourceEmpty (s : State) (c : Byte) : s.Holds 208 (s.takeReport c [.picking] State.sourceEmptyEnd) := by
  refine s.holds_takeReport (i := 2) c _ _ (by omega) (fun m _ => s.ends_sourceEmptyEnd m)
    (fun m _ sound => (s.advances_sourceEmptyEnd m).catalogue sound) fun m exec busy k small form _ agree => ?_
  obtain ⟨here, runs⟩ := State.execMove_mem exec
  exact State.agree_sourceEmptyEnd form small agree here runs (State.picking_of_busy agree exec (List.mem_singleton.mp busy)).granted

theorem State.holds_placed (s : State) (c : Byte) : s.Holds 208 (s.takeReport c [.placing, .putback] State.takePlaced) :=
  s.holds_takeReport c _ _ (by omega) (fun m _ => s.ends_takePlaced m) (fun m _ sound => (s.advances_takePlaced m).catalogue sound)
    fun _ exec busy _ small form _ agree => State.agree_takePlaced form small agree exec busy

theorem State.holds_occupied (s : State) (c : Byte) : s.Holds 208 (s.takeReport c [.placing, .putback] State.takeOccupiedReport) := by
  refine s.holds_takeReport (i := 7) c _ _ (by omega) (fun m exec => (s.grows_takeOccupiedReport m exec).ends m.seq)
    (fun m busy sound => (s.advances_takeOccupiedReport m ?_).catalogue sound) fun m exec busy k small form _ agree => ?_
  · simp only [List.mem_cons, List.not_mem_nil, or_false] at busy
    rcases busy with e | e <;> rw [Handler.busy, e] <;> rfl
  · exact (State.fits_takeOccupiedReport exec (by simpa using busy) k small form agree).2

theorem State.holds_scanned (s : State) (c : Byte) (results : Vector ScanResult 8) :
    s.Holds 208 (s.takeReport c [.scanning] fun a m => a.takeScanned m results) :=
  s.holds_takeReport c _ _ (by omega) (fun m _ => s.ends_takeScanned m results)
    (fun m _ sound => (s.advances_takeScanned m results).catalogue sound) fun _ exec busy _ small form sound agree =>
      State.agree_takeScanned form small sound.1 agree exec (List.mem_singleton.mp busy) results

theorem State.holds_restarted (s : State) (loaded : Bool) : s.Holds 208 ((s.takeRestarted loaded).settleHandler s) :=
  (((s.fits_takeRestarted loaded).holds (s.advances_takeRestarted loaded)).trans (State.holds_settleHandler _ s)).mono (by omega)

/-! ## Timers -/

theorem State.holds_goSilent (s : State) (p : Port) : s.Holds 1 (s.goSilent p) := by
  refine ⟨(s.advances_goSilent p).catalogue, fun c => ?_⟩
  have silenced : s.Fits 0 ((s.updPort p (fun r => { r with state := .silent, livenessLeft := none })).raise .portSilent
      { noDetail with port := some p }) :=
    ((s.same_updPort p _).trans (State.same_raise _ _ _)).fits ((State.view_raise _ _ _).trans (s.view_updPort_same p rfl rfl))
  exact (silenced.trans (State.fits_standDown (State.CatalogueSound.of_ids c.1 (by simp)) p)).mono (by omega)

theorem State.holds_collectExpires (nest : s.toolNest p = .outWait) : s.Holds 1 (s.collectExpires p) := by
  refine ⟨(s.advances_collectExpires p).catalogue, fun c => ?_⟩
  unfold State.collectExpires
  split
  · refine (State.Grows.fits (s.same_updPort p _).grows fun k form agree => ?_).mono (by omega)
    rw [s.view_stopWait p rfl rfl]
    have quiet := agree.setPort (p := p) (b := false) (y := s.view.nest p) (.inl rfl) nofun
    rwa [View.setNest_self] at quiet
  · exact State.fits_lapse c.1 nest

theorem State.holds_returnWaitExpires (runs : s.windowRuns p .returnWait = true) (nest : s.toolNest p = .returned) :
    s.Holds 1 (s.returnWaitExpires p) := by
  refine ⟨(s.advances_returnWaitExpires p).catalogue, fun _ => State.Grows.fits (s.grows_returnWaitExpires p) fun k form agree => ?_⟩
  have free : ∀ m ∈ s.view.queue, m.isWaiting = true → m.source ≠ .nest (.t p) := fun m hm waits source => by
    rcases agree.nests m hm waits p source with ⟨_, other⟩ | ⟨_, _, quiet⟩
    · rw [show s.view.nest p = .returned from nest] at other
      cases other
    · rw [show s.view.waits p = true from runs] at quiet
      cases quiet
  have quiet : (s.view.setWaits p false).Agree := by
    have := agree.setPort (p := p) (b := false) (y := s.view.nest p) (.inl rfl) nofun
    rwa [View.setNest_self] at this
  have form' : (s.view.setWaits p false).Form :=
    ⟨form.distinct, form.shaped, form.executing, form.named, form.cause, form.free⟩
  unfold State.returnWaitExpires
  rw [State.view_raise]
  obtain ⟨hold, view⟩ := (s.updPort p fun r => { r with window := none, lateOpen := true }).view_offerInward (collectOffer p none)
  rw [view, s.view_stopWait p rfl rfl]
  exact quiet.collect (p := p) form' nest (by simp [View.setWaits]) free (fun i named => by cases named) rfl rfl ⟨nofun, nofun⟩ rfl form.fresh

theorem State.holds_minute (s : State) : s.Holds 6 s.minute := by
  have counted : s.Same s.accrue := by
    have reset : s.Same { s with tickPhase := 0 } := .of_catalogue rfl rfl rfl rfl
    exact reset.trans (State.same_mapCatalogue _ (f := fun r => { r with air := satAdd r.air (s.airWeight r) }) fun _ _ e => e)
  have view : s.accrue.view = s.view :=
    State.view_mapCatalogue { s with tickPhase := 0 } (f := fun r => { r with air := satAdd r.air (s.airWeight r) }) (fun _ => rfl) fun _ => rfl
  exact (((counted.fits view).trans (s.accrue.fits_dueCheck s.gainsAir)).mono (by omega)).holds s.advances_minute

end Sys2Proof.Machine
end

section
/-! PROOFS. The agreement (O10) after the lines' edges. -/

namespace Sys2Proof.Machine

open Sys2Proof

variable {v : View} {m x : Move} {id : Ident} {p : Port} {n : Slot} {s t u z : State} {i j k : Nat} {l : Location}

/-! ## TBUSY (R58, R61, R63, R153) -/

theorem State.holds_busyAsserted (s : State) (p : Port) : s.Holds 0 (s.busyAsserted p) := by
  refine State.Fits.holds ((s.same_busyAsserted p).fits ?_) (s.advances_busyAsserted p)
  unfold State.busyAsserted
  dsimp only
  split
  · exact (State.view_raise _ _ _)
  · rfl

/-- A tool nest that is EMPTY is vacant. -/
theorem State.vacant_empty (agree : s.view.Agree) (nest : s.toolNest p = .empty) : s.Vacant p := by
  have here : s.view.nest p = .empty := nest
  refine ⟨.inr (.inr ?_), agree.unwaited ?_ ?_, Bool.eq_false_iff.mpr fun runs => ?_⟩
  · rw [here]
    exact ⟨nofun, nofun⟩
  · rw [here]
    exact nofun
  · rw [here]
    exact nofun
  · have returned := agree.window p runs
    rw [here] at returned
    cases returned

theorem State.holds_releaseAtNest (s : State) (p : Port) : s.Holds 7 (s.releaseAtNest p) := by
  refine ⟨(s.advances_releaseAtNest p).catalogue, fun c => ?_⟩
  unfold State.releaseAtNest
  split
  · next nest _ => exact fun k small form agree => State.fits_enterReturned (State.vacant_empty agree nest) k small form agree
  · next nest _ => exact (State.fits_takeCompletes c.1 nest).mono (by omega)
  · next nest _ =>
    split
    · exact (State.fits_lapse c.1 nest).mono (by omega)
    · exact s.fits_still 7
  · next nest _ => exact (State.fits_unsanctionedTake c.1 (.inr nest)).mono (by omega)
  · exact s.fits_still 7

theorem State.holds_releaseCarried (s : State) (p : Port) : s.Holds 0 (s.releaseCarried p) := by
  refine State.Fits.holds ?_ (s.advances_releaseCarried p)
  unfold State.releaseCarried
  split
  · next m exec =>
    split
    · next carrying =>
      split
      · exact State.fits_sendCarried exec carrying.1 _
      · exact .refl s
    · exact .refl s
  · exact .refl s

theorem State.holds_setTbusy (s : State) (p : Port) (b : Bool) : s.Holds 0 (s.setTbusy p b) :=
  ((s.same_setTbusy p b).fits rfl).holds (s.advances_setTbusy p b)

/-! ## PRES_T (R58, R60, R62) -/

theorem State.holds_tFull (s : State) (p : Port) : s.Holds 7 (s.tFull p) := by
  refine State.Fits.holds ?_ (s.advances_tFull p)
  have level : s.Fits 0 (s.setPresT p true) := (s.same_setPresT p true).fits rfl
  have raised (t : State) (a : NoticeKind) (d : Detail) : t.Fits 0 (t.raise a d) := (t.same_raise a d).fits (t.view_raise a d)
  unfold State.tFull
  dsimp only
  split
  · exact level.mono (by omega)
  · split
    · next nest =>
      have entered : (s.setPresT p true).Fits 7 ((s.setPresT p true).enterReturned p) := fun k small form agree =>
        State.fits_enterReturned (State.vacant_empty agree nest) k small form agree
      exact ((level.trans entered).trans (raised _ _ _)).mono (by omega)
    · exact (level.trans (raised _ _ _)).mono (by omega)
    · exact level.mono (by omega)

/-- A returned pod lifted back takes the waiting COLLECT with it. -/
theorem State.fits_liftedBack (nest : s.toolNest p = .returned) : s.Fits 0 (s.liftedBack p) := fun k small form agree => by
  refine ⟨s.grows_liftedBack p k small form, ?_⟩
  have withdrawn := (s.fits_withdrawWhere (fun m => m.kind = .collect && m.source = .nest (.t p)) none k small form agree).2
  have still : (s.withdrawWhere (fun m => m.kind = .collect && m.source = .nest (.t p)) none).view.nest p = .returned := by
    rw [State.view_withdrawWhere, (View.drops_still _ _).2.2.2.1]
    exact nest
  have free : ∀ m ∈ (s.withdrawWhere (fun m => m.kind = .collect && m.source = .nest (.t p)) none).view.queue, m.isWaiting = true →
      m.source ≠ .nest (.t p) := fun m hm waits source => by
    have spared := State.withdrawWhere_waiting hm (m.isWaiting_iff.mp waits)
    rcases withdrawn.nests m hm waits p source with ⟨_, other⟩ | ⟨kind, _⟩
    · rw [still] at other
      cases other
    · simp [kind, source] at spared
  have view : (s.liftedBack p).view = ((s.withdrawWhere (fun m => m.kind = .collect && m.source = .nest (.t p)) none).view.setNest p
      .empty).setWaits p false := by
    unfold State.liftedBack State.raiseUnsanctioned
    rw [State.view_raise, State.view_withdrawWhere, State.view_withdrawWhere, State.view_clearNest]
    exact View.drops_setPort _ _ _ _ _
  rw [view]
  exact withdrawn.setPort (.inr ⟨.inr (.inr (by rw [still]; exact ⟨nofun, nofun⟩)), free⟩) nofun

theorem State.holds_tEmpty (s : State) (p : Port) : s.Holds 0 (s.tEmpty p) := by
  refine ⟨(s.advances_tEmpty p).catalogue, fun c => ?_⟩
  have level : s.Fits 0 (s.setPresT p false) := (s.same_setPresT p false).fits rfl
  have taken (nest : s.toolNest p = .outWait ∨ s.toolNest p = .outLapsed) : s.Fits 0 ((s.setPresT p false).unsanctionedTake p) :=
    level.trans (State.fits_unsanctionedTake (s := s.setPresT p false) c.1 nest)
  unfold State.tEmpty
  dsimp only
  split
  · next nest =>
    split
    · exact level
    · exact taken (.inl nest)
  · next nest => exact taken (.inr nest)
  · next nest => exact level.trans (State.fits_liftedBack nest)
  · next nest =>
    refine level.trans ((State.same_updPort _ p _).grows.fits fun k form agree => ?_)
    change ((s.setPresT p false).setToolNest p .empty).view.Agree
    rw [State.view_setToolNest]
    have quiet : (s.setPresT p false).view.waits p = false := Bool.eq_false_iff.mpr fun runs => by
      have returned := agree.window p runs
      rw [show (s.setPresT p false).view.nest p = .blocked from nest] at returned
      cases returned
    have emptied := agree.setNest_free (p := p) (y := .empty) (.inr (.inr nest))
    rwa [show ((s.setPresT p false).view.setNest p .empty).setWaits p false = (s.setPresT p false).view.setNest p .empty by
      rw [← quiet]; exact View.setWaits_self ((s.setPresT p false).view.setNest p .empty) p] at emptied
  · exact level

/-! ## BI, BO and IN (R96, R102, R108, R109) -/

/-- The states of BI and BO and the lines are not of the view. -/
theorem State.fits_fabNests (s : State) (a : BiNest) (b : BoNest) (pins : Pins) :
    s.Fits 0 { s with bi := a, bo := b, inn := s.inn, pins := pins } := (s.same_fabNests a b s.inn pins).fits rfl

theorem State.holds_biFull (s : State) : s.Holds 1 s.biFull := by
  refine State.Fits.holds ?_ s.advances_biFull
  unfold State.biFull
  dsimp only
  split
  · exact ((s.fits_fabNests .arrived s.bo { s.pins with presBi := true }).trans (State.fits_stockInArrives _)).mono (by omega)
  · exact (s.fits_fabNests s.bi s.bo { s.pins with presBi := true }).mono (by omega)

theorem State.holds_biEmpty (s : State) : s.Holds 0 s.biEmpty := by
  refine State.Fits.holds ?_ s.advances_biEmpty
  unfold State.biEmpty
  dsimp only
  split
  · exact (s.fits_fabNests .empty s.bo { s.pins with presBi := false }).trans (State.fits_withdrawWhere _ _ _)
  · exact s.fits_fabNests .empty s.bo { s.pins with presBi := false }
  · exact s.fits_fabNests s.bi s.bo { s.pins with presBi := false }

theorem State.fits_boFull (s : State) : s.Fits 0 s.boFull := by
  refine s.same_boFull.fits ?_
  unfold State.boFull
  dsimp only
  split
  · unfold State.nestBlocks
    dsimp only
    rw [State.view_raise]
    rfl
  · rfl

/-- A record on BO, at INSPECTION or UNLOCATED is bound to no move. -/
theorem View.Agree.unbound_away (h : v.Agree) (away : l = .nest .bo ∨ l = .inspection ∨ l = .unlocated) {b : Option Seq}
    (here : v.record id = some (l, b)) : b = none := by
  rcases away with rfl | rfl | rfl
  · exact h.unbound_of_unnamed (l := .nest .bo) (fun _ _ _ stands => stands.elim) here
  · exact h.unbound_of_unnamed (l := .inspection) (fun _ _ _ stands => stands.elim) here
  · exact h.unbound_of_unnamed (l := .unlocated) (fun _ _ _ stands => stands.elim) here

theorem State.agree_exported (sound : s.CatalogueSound) (agree : s.view.Agree) : s.exported.view.Agree := by
  unfold State.exported
  dsimp only
  rw [State.view_raise]
  cases onBo : s.recordAt (.nest .bo) with
  | none =>
    have all : s.catalogue.filter (fun r => !decide (some r.id = (none : Option Rec).map (·.id))) = s.catalogue :=
      List.filter_eq_self.mpr fun r _ => by simp
    rw [all]
    exact agree
  | some r =>
    have here := State.recordAt_view sound onBo
    have unbound := agree.unbound_away (.inl rfl) here
    have view := State.view_filterCatalogue { s with bo := .empty } r.id
    simp only [Option.map_some, Option.some.injEq]
    rw [view]
    refine agree.remove fun l b at_l => ?_
    have same := here.symm.trans at_l
    rw [unbound] at same
    cases same
    exact ⟨rfl, nofun⟩

theorem State.holds_boEmpty (s : State) : s.Holds 0 s.boEmpty := by
  refine ⟨s.keeps_boEmpty.1.catalogue, fun c => (s.same_boEmpty).grows.fits fun k form agree => ?_⟩
  unfold State.boEmpty
  dsimp only
  split
  · exact State.agree_exported c.1 agree
  · exact agree
  · exact agree

theorem State.holds_inFull (s : State) : s.Holds 1 s.inFull := by
  refine State.Fits.holds (fun k small form agree => ⟨s.grows_inFull k small form, ?_⟩) s.advances_inFull
  unfold State.inFull
  dsimp only
  split
  · next empty =>
    have still : s.view.inn ≠ .outbound ∧ s.view.inn ≠ .inbound := by
      rw [show s.view.inn = .empty from empty]
      exact ⟨nofun, nofun⟩
    have arrived : State.view { s with pins := { s.pins with presIn := true }, inn := .arrived } = { s.view with inn := .arrived } := rfl
    have agree' : (State.view { s with pins := { s.pins with presIn := true }, inn := .arrived }).Agree := by
      rw [arrived]
      exact agree.setInn (.inr (.inr still)) (.inl rfl)
    exact (State.fits_reshelveArrives (s := { s with pins := { s.pins with presIn := true }, inn := .arrived }) rfl
      (agree.no_reshelve (by rw [show s.view.inn = .empty from empty]; exact nofun)) k small
      ((s.same_fabNests s.bi s.bo .arrived { s.pins with presIn := true }).form form) agree').2
  · exact agree

/-- A record on IN is bound to no move while IN is neither ARRIVED nor OUTBOUND. -/
theorem View.Agree.unbound_inn (h : v.Agree) (form : v.Form) (arrived : v.inn ≠ .arrived) (outbound : v.inn ≠ .outbound) {b : Option Seq}
    (here : v.record id = some (.nest .inn, b)) : b = none := by
  cases b with
  | none => rfl
  | some q =>
    obtain ⟨m, hm, rfl, named, stands⟩ := h.bound id _ q here
    have source : m.source = .nest .inn := stands
    by_cases waits : m.isWaiting = true
    · exact absurd (h.arrived m hm waits ((h.wired m hm).2.inn_kind source)) arrived
    · have runs := not_not.mp fun idle => waits ((form.waiting hm).mpr idle)
      exact absurd ((h.granted_of_record hm runs named here nofun).1.2 source) outbound

theorem State.agree_inspectionTake (sound : s.CatalogueSound) (form : s.QueueForm k) (agree : s.view.Agree) (away : s.inn = .awayWait) :
    s.inspectionTake.view.Agree := by
  have here : s.view.inn = .awayWait := away
  have emptied : View.Agree { s.view with inn := .empty } :=
    agree.setInn (.inr (.inr (by rw [here]; exact ⟨nofun, nofun⟩))) (.inr (agree.no_reshelve (by rw [here]; exact nofun)))
  unfold State.inspectionTake
  dsimp only
  split
  · next r onIn =>
    have at_in := State.recordAt_view sound onIn
    have unbound := agree.unbound_inn form.view (by rw [here]; exact nofun) (by rw [here]; exact nofun) at_in
    rw [State.view_moveTo]
    refine View.Agree.locate (v := { s.view with inn := .empty }) emptied (fun l b at_l => ?_) nofun nofun
    have same := at_in.symm.trans at_l
    rw [unbound] at same
    cases same
    exact ⟨rfl, nofun⟩
  · exact emptied

theorem View.drops_setInn (v : View) (y : InNest) (ms : List Move) :
    View.drops { v with inn := y } ms = { (v.drops ms) with inn := y } := by
  induction ms generalizing v with
  | nil => rfl
  | cons m ms ih => exact ih (v.drop m.seq)

theorem State.holds_inEmpty (s : State) : s.Holds 0 s.inEmpty := by
  refine ⟨s.advances_inEmpty.catalogue, fun c k small form agree => ⟨s.grows_inEmpty k small form, ?_⟩⟩
  have written (old : s.inn = .arrived ∨ s.inn = .blocked) : s.view.inn ≠ .outbound ∧ s.view.inn ≠ .inbound := by
    rcases old with e | e <;> rw [show s.view.inn = _ from e] <;> exact ⟨nofun, nofun⟩
  unfold State.inEmpty
  dsimp only
  split
  · next away =>
    exact State.agree_inspectionTake (s := { s with pins := { s.pins with presIn := false } }) c.1
      ((s.same_fabNests s.bi s.bo s.inn { s.pins with presIn := false }).form form) agree away
  · next arrived =>
    have withdrawn := (s.fits_withdrawWhere (fun m => m.kind = .reshelve) none k small form agree).2
    have view : (State.withdrawWhere { s with pins := { s.pins with presIn := false }, inn := .empty } (fun m => m.kind = .reshelve) none).view
        = { (s.withdrawWhere (fun m => m.kind = .reshelve) none).view with inn := .empty } := by
      rw [State.view_withdrawWhere, State.view_withdrawWhere]
      exact s.view.drops_setInn .empty _
    rw [view]
    refine withdrawn.setInn (.inr (.inr ?_)) (.inr fun m hm waits kind => ?_)
    · rw [State.view_withdrawWhere, (View.drops_still _ _).2.2.2.2.2]
      exact written (.inl arrived)
    · have spared := State.withdrawWhere_waiting hm (m.isWaiting_iff.mp waits)
      simp [kind] at spared
  · next blocked =>
    exact agree.setInn (.inr (.inr (written (.inr blocked)))) (.inr (agree.no_reshelve (by
      rw [show s.view.inn = .blocked from blocked]; exact nofun)))
  · exact agree

end Sys2Proof.Machine
end

section
/-! PROOFS. The agreement (O10) after requests. -/

namespace Sys2Proof.Machine

open Sys2Proof

variable {m x : Move} {id : Ident} {p : Port} {n : Slot} {s t u z : State} {i j k : Nat} {l : Location} {o : Offer} {c : Claim}

/-- What a request makes of its state keeps the queue's form and the agreement. -/
def Reply.Fits (r : Reply) (a : State) : Prop := a.Catalogued → a.Fits 208 (r.outcome a)

/-- A request with no consequences but its own. -/
theorem Reply.fits_quiet {code : AnswerCode} {fields : AnswerFields} (h : s.Fits 8 t) : (Reply.quiet t code fields).Fits s :=
  fun _ => h.mono (by omega)

/-- A request whose change is settled. -/
theorem Reply.fits_change {y : Touch} {code : AnswerCode} {fields : State → AnswerFields} (h : s.Catalogued → s.Fits 8 t) :
    (Reply.change t y code fields).Fits s :=
  fun c => ((h c).trans (t.fits_settle s y)).mono (by omega)

/-- A request for the handler interface. -/
theorem Reply.fits_handler {fields : AnswerFields} (advances : (Reply.handler t fields).Advances s) (h : s.Catalogued → s.Fits 8 t) :
    (Reply.handler t fields).Fits s := fun c => by
  have held : s.Holds 8 t := ⟨(show s.Advances t from advances).catalogue, h⟩
  exact ((held.trans (t.holds_settleHandler s)).mono (by omega)).fits c

theorem refuse_fits (s : State) (code : AnswerCode) : (refuse s code).Fits s := Reply.fits_quiet (s.fits_still 8)

/-- A change that the view does not show. -/
theorem State.Same.fits_changed {y : Touch} {code : AnswerCode} {fields : State → AnswerFields} (same : s.Same t)
    (view : t.view = s.view) : (Reply.change t y code fields).Fits s :=
  Reply.fits_change fun _ => (same.fits view).mono (by omega)

theorem State.Same.fits_quieted {code : AnswerCode} {fields : AnswerFields} (same : s.Same t) (view : t.view = s.view) :
    (Reply.quiet t code fields).Fits s :=
  Reply.fits_quiet ((same.fits view).mono (by omega))

/-! ## Offers of link requests (R117, R121, R187 to R190) -/

theorem State.boundMove_seq {r : Rec} (h : s.boundMove r = some m) : r.binding = some m.seq := by
  obtain ⟨q, bound, found⟩ := Option.bind_eq_some_iff.mp h
  have same := List.find?_some found
  rw [bound, of_decide_eq_true same]

/-- With the move an offer sets aside taken out, the record it offers is of no move. -/
theorem State.record_takeAside {r : Rec} (found : s.record id = some r) {f : Move → Bool} (claim : s.claim r f ≠ .bound)
    (reason : Option Reason) : (s.takeAside (s.claim r f) reason).view.record id = some (r.location, none) := by
  have here := State.record_view found
  unfold State.claim at claim ⊢
  split
  · next free =>
    rw [free] at here
    exact here
  · next bound =>
    rw [bound] at claim
    dsimp only at claim ⊢
    split at claim
    · next m of =>
      split at claim
      · next test =>
        rw [if_pos test]
        change (s.withdraw m reason).view.record id = _
        rw [State.view_withdraw, View.drop]
        simp [here, State.boundMove_seq of, unbind]
      · exact absurd rfl claim
    · exact absurd rfl claim

theorem State.fits_takeAside (reason : Option Reason) (claims : s.Claims c) : s.Fits 0 (s.takeAside c reason) := by
  unfold State.takeAside
  split
  · next m => exact s.fits_withdrawWaiting m reason (claims m rfl).1 (claims m rfl).2
  · exact .refl s

/-- The move an offer enters after the one it sets aside. -/
theorem State.fits_enterAside (d : Bool) (reason : Option Reason) (claims : s.Claims c) (shaped : ∀ a : State, (a.entered o d false).Shaped)
    (offers : (s.takeAside c reason).OffersFrom o) : s.Fits 1 ((s.takeAside c reason).enter o d false) := by
  refine ((State.fits_takeAside reason claims).trans (j := 1) ?_).mono (by omega)
  exact (State.grows_enter _ o d false (shaped _)).fits fun _ form agree => State.agree_enterSlot d false form agree offers rfl rfl

theorem State.fits_holdOffered (s : State) (o : Offer) : s.Fits 1 (s.holdOffered o) := by
  unfold State.holdOffered
  split
  · exact s.fits_setHeld _
  · exact s.fits_still 1

theorem State.view_takeAside_hit (s : State) (n : Fin 16) (o : Offer) (c : Claim) (reason : Option Reason) :
    ((s.countHit n o).takeAside c reason).view = (s.takeAside c reason).view := by
  unfold State.takeAside
  split
  · rw [State.view_withdraw, State.view_withdraw, State.view_countHit]
  · exact s.view_countHit n o

/-- A link offer of a record at a slot. -/
structure State.LinkOffer (s : State) (o : Offer) (c : Claim) (reason : Option Reason) : Prop where
  claims : s.Claims c
  shaped : ∀ a : State, (a.entered o false false).Shaped
  routed : ∀ (a : State) d h, (a.entered o d h).Routed
  test : o.pickTest = .named
  place : ∃ n id, o.source = .slot n ∧ o.reticle = some id ∧ (s.takeAside c reason).view.record id = some (.slot n, none)

theorem State.LinkOffer.offers {reason : Option Reason} (h : s.LinkOffer o c reason)
    (view : (t.takeAside c reason).view = (s.takeAside c reason).view) : (t.takeAside c reason).OffersFrom o :=
  ⟨h.routed, h.test, by rw [view]; exact h.place⟩

/-- An offer as a DIVERT changes it is routed as an INSPECT_OUT. -/
theorem State.LinkOffer.diverts {reason : Option Reason} (h : s.LinkOffer o c reason)
    (view : (t.takeAside c reason).view = (s.takeAside c reason).view) : (t.takeAside c reason).OffersFrom o.divert := by
  obtain ⟨n, id, source, named, _⟩ := h.place
  exact ⟨fun _ _ _ => ⟨n, source, rfl, by simp [State.entered, Offer.divert, named]⟩, h.test, by rw [view]; exact h.place⟩

theorem State.fits_offerLink {reason : Option Reason} (h : s.LinkOffer o c reason) : s.Fits 1 (s.offerLink o c reason).state := by
  unfold State.offerLink
  split
  · exact State.fits_enterAside false reason h.claims h.shaped (h.offers rfl)
  · next n _ =>
    have same := s.same_countHit n o
    have hit : s.Fits 0 (s.countHit n o) := same.fits (s.view_countHit n o)
    have view := s.view_takeAside_hit n o c reason
    obtain ⟨_, _, source, _⟩ := h.place
    dsimp only
    split
    · exact (hit.trans (State.fits_enterAside false reason (same.claims h.claims) h.shaped (h.offers view))).mono (by omega)
    · exact (hit.trans (State.fits_holdOffered _ o)).mono (by omega)
    · split
      · exact hit.mono (by omega)
      · exact (hit.trans (State.fits_enterAside true reason (same.claims h.claims)
          (fun a => a.entered_divert_shaped o source) (h.diverts view))).mono (by omega)

theorem Rec.slotOf_some {r : Rec} (h : r.slotOf = some n) : r.location = .slot n := by
  unfold Rec.slotOf at h
  split at h
  · next e => cases h; exact e
  · cases h

/-- The record of a request at a slot, its binding test passed. -/
theorem State.linkOffer {r : Rec} (found : s.record id = some r) (at_n : r.slotOf = some n) {f : Move → Bool} (claim : s.claim r f ≠ .bound)
    (shaped : ∀ a : State, (a.entered o false false).Shaped) (routed : ∀ (a : State) d h, (a.entered o d h).Routed)
    (test : o.pickTest = .named) (source : o.source = .slot n) (named : o.reticle = some id) (reason : Option Reason) :
    s.LinkOffer o (s.claim r f) reason :=
  ⟨s.claims_claim r f, shaped, routed, test, n, id, source, named, by
    rw [State.record_takeAside found claim reason, Rec.slotOf_some at_n]⟩

/-! ## Tool requests (chapters 3 and 4) -/

theorem State.view_goodFrame (s : State) (l : ReqLink) : (s.goodFrame l).view = s.view := by
  unfold State.goodFrame
  split
  · split
    · exact s.view_updPort_same _ rfl rfl
    · rfl
  · rfl

theorem fits_replyHello (s : State) (p : Port) (b : HelloBody) : (replyHello s p b).Fits s := by
  unfold replyHello
  split
  · split
    · exact refuse_fits s _
    · exact ((s.same_updPort p _).trans (State.same_raise _ _ _)).fits_changed
        ((State.view_raise _ _ _).trans (s.view_updPort_same p rfl rfl))
    · refine Reply.fits_change fun _ => ?_
      have renewed : s.Fits 0 (s.updPort p (PortRec.withLiveness (livenessOf b))) :=
        (s.same_updPort p _).fits (s.view_updPort_same p rfl rfl)
      unfold State.rehello
      dsimp only
      split
      · exact renewed.mono (by omega)
      · have named (a : State) : a.Fits 0 (a.updPort p fun r => { r with name := some b.name }) :=
          (a.same_updPort p _).fits (a.view_updPort_same p rfl rfl)
        have raised (a : State) : a.Fits 0 (a.raiseAttached p) := (State.same_raise _ _ _).fits (State.view_raise _ _ _)
        exact ((((renewed.trans (named _)).trans (State.fits_emptyLists _ p)).trans (State.fits_dropToolWork _ p)).trans
          (raised _)).mono (by omega)
  · exact refuse_fits s _

theorem State.fits_reportCall (s : State) (p : Port) (id : Ident) (code : AnswerCode) : s.Fits 0 (s.reportCall p id code) := by
  refine (s.same_reportCall p id code).fits ?_
  unfold State.reportCall
  split <;> rfl

theorem fits_replyCall (s : State) (p : Port) (id : Ident) : (replyCall s p id).Fits s := by
  unfold replyCall
  split
  · exact refuse_fits s _
  · split
    · exact refuse_fits s _
    · split
      · exact refuse_fits s _
      · next r found =>
        split
        · exact refuse_fits s _
        · next n at_n =>
          dsimp only
          split
          · exact refuse_fits s _
          · next passed =>
            have claim : s.claim r (callSetsAside p) ≠ .bound := fun bound => by
              unfold State.callRefusal at passed
              rw [bound] at passed
              split at passed
              · cases passed
              · split at passed <;> cases passed
            have offer := State.linkOffer (o := deliverOffer p id n) found at_n claim
              (fun a => a.entered_slot_shaped _ false rfl rfl nofun
                (fun q e => ⟨rfl, by simp only [deliverOffer, Target.pos.injEq, Position.nest.injEq, Nest.t.injEq] at e ⊢; rw [e]⟩)
                (fun e => by simp [deliverOffer] at e))
              (fun _ _ _ => ⟨p, n, rfl, rfl, rfl, rfl⟩) rfl rfl rfl none
            exact Reply.fits_change fun _ => ((State.fits_offerLink offer).trans (State.fits_reportCall _ p id _)).mono (by omega)

theorem fits_replyCancel (s : State) (p : Port) (id : Ident) : (replyCancel s p id).Fits s := by
  unfold replyCancel
  split
  · exact refuse_fits s _
  · split
    · exact refuse_fits s _
    · split
      · next m found =>
        split
        · next waits =>
          exact Reply.fits_change fun _ => (s.fits_withdrawWaiting m none (List.mem_of_find?_eq_some found) waits).mono (by omega)
        · exact Reply.fits_quiet ((s.fits_updMove (f := fun x => { x with standDown := true }) m.seq (fun _ => rfl) (fun _ => rfl)
            (fun _ => rfl) (fun _ h => h) fun _ => ⟨rfl, rfl, rfl, rfl, rfl, rfl, rfl, rfl⟩).mono (by omega))
      · split
        · split
          · exact refuse_fits s _
          · exact Reply.fits_change fun c => (State.fits_lapseQuietly c.1 p).mono (by omega)
        · exact refuse_fits s _

theorem fits_replyAhead (s : State) (p : Port) (b : AheadBody) : (replyAhead s p b).Fits s := by
  unfold replyAhead
  split
  · exact refuse_fits s _
  · split
    · exact refuse_fits s _
    · split
      · exact refuse_fits s _
      · exact State.Same.fits_changed (.of_catalogue rfl rfl rfl rfl) rfl

/-- Nothing waits at a RETURNED nest that awaits its report. -/
theorem State.awaitsReport_free (agree : s.view.Agree) (awaits : s.awaitsReport p = true) :
    s.toolNest p = .returned ∧ ∀ m ∈ s.queue, m.isWaiting = true → m.source ≠ .nest (.t p) := by
  unfold State.awaitsReport at awaits
  rw [Bool.and_eq_true_iff, decide_eq_true_eq] at awaits
  refine ⟨awaits.1, fun m hm waits source => ?_⟩
  rcases agree.nests m hm waits p source with ⟨_, nest⟩ | ⟨kind, _, _⟩
  · rw [show s.view.nest p = .returned from awaits.1] at nest
    cases nest
  · have none_ := awaits.2
    simp only [State.anyMove, Bool.not_eq_true', List.any_eq_false] at none_
    exact none_ m hm (by simp [kind, source, waits])

theorem State.fits_acceptReturn (lots : Nat) (here : s.locatedAt id (.tool p) = true) : s.Fits 7 (s.acceptReturn p id lots) := by
  unfold State.acceptReturn
  split
  · next awaits =>
    intro k small form agree
    obtain ⟨nest, free⟩ := State.awaitsReport_free agree awaits
    exact State.fits_completeReturn id lots nest free here k small form agree
  · exact ((s.same_updPort p _).fits (s.view_updPort_same p rfl rfl)).mono (by omega)

theorem fits_replyReturn (s : State) (p : Port) (b : ReturnBody) : (replyReturn s p b).Fits s := by
  unfold replyReturn
  split
  · exact refuse_fits s _
  · split
    · exact refuse_fits s _
    · split
      · refine Reply.fits_change fun _ => ?_
        unfold State.lateLots
        split
        · exact (s.fits_addLots _ _).mono (by omega)
        · exact s.fits_still 8
      · split
        · next here => exact Reply.fits_change fun _ => (State.fits_acceptReturn _ here).mono (by omega)
        · exact refuse_fits s _

/-! ## Material requests (chapter 5) -/

theorem fits_replyAnnounce (s : State) (b : AnnounceBody) : (replyAnnounce s b).Fits s := by
  unfold replyAnnounce
  split
  · split
    · exact refuse_fits s _
    · split
      · exact State.Same.fits_changed (.of_catalogue rfl rfl rfl rfl) rfl
      · split
        · exact refuse_fits s _
        · exact State.Same.fits_changed (.of_catalogue rfl rfl rfl rfl) rfl
  · exact refuse_fits s _

theorem fits_replyUnannounce (s : State) (id : Ident) : (replyUnannounce s id).Fits s := by
  unfold replyUnannounce
  split
  · exact refuse_fits s _
  · split
    · exact refuse_fits s _
    · exact State.Same.fits_changed (.of_catalogue rfl rfl rfl rfl) rfl

theorem fits_replyExport (s : State) (b : WithdrawBody) : (replyExport s b).Fits s := by
  unfold replyExport
  split
  · exact refuse_fits s _
  · split
    · exact refuse_fits s _
    · next r found =>
      split
      · exact refuse_fits s _
      · next n at_n =>
        dsimp only
        split
        · exact refuse_fits s _
        · next claim =>
          split
          · exact refuse_fits s _
          · have offer := State.linkOffer (o := stockOutOffer b.id n) found at_n claim
              (fun a => a.entered_slot_shaped _ false rfl rfl nofun (fun _ e => by simp [stockOutOffer] at e)
                (fun e => by simp [stockOutOffer] at e)) (fun _ _ _ => ⟨n, rfl, rfl, rfl⟩) rfl rfl rfl (some .preempted)
            exact Reply.fits_change fun _ => (State.fits_offerLink offer).mono (by omega)

theorem fits_replyInspect (s : State) (l : NoticeLink) (b : WithdrawBody) : (replyInspect s l b).Fits s := by
  unfold replyInspect
  split
  · exact refuse_fits s _
  · split
    · exact refuse_fits s _
    · next r found =>
      split
      · exact refuse_fits s _
      · next n at_n =>
        dsimp only
        split
        · exact refuse_fits s _
        · next claim =>
          split
          · exact refuse_fits s _
          · split
            · exact refuse_fits s _
            · have offer := State.linkOffer (o := inspectOutOffer l b.id n) found at_n claim
                (fun a => a.entered_slot_shaped _ false rfl rfl nofun (fun _ e => by simp [inspectOutOffer] at e) (fun _ => rfl))
                (fun _ _ _ => ⟨n, rfl, rfl, rfl⟩) rfl rfl rfl (some .preempted)
              exact Reply.fits_change fun _ => (State.fits_offerLink offer).mono (by omega)

theorem fits_replyHold (s : State) (id : Ident) : (replyHold s id).Fits s := by
  unfold replyHold
  split
  · exact refuse_fits s _
  · split
    · exact Reply.fits_change fun _ => (s.fits_setHeld id).mono (by omega)
    · exact refuse_fits s _

/-- A record changed but for its place and its binding. -/
theorem State.fits_updRecord_same (s : State) (id : Ident) {f : Rec → Rec} (ids : ∀ r, (f r).id = r.id) (seen : ∀ r, (f r).seen = r.seen) :
    s.Fits 0 (s.updRecord id f) :=
  (s.same_updRecord id (f := f) fun r => congrArg Prod.snd (seen r)).fits (s.view_updRecord_same id (f := f) ids seen)

theorem fits_replyRelease (s : State) (id : Ident) : (replyRelease s id).Fits s := by
  unfold replyRelease
  split
  · exact refuse_fits s _
  · split
    · exact Reply.fits_change fun _ => (s.fits_updRecord_same id (f := fun r => { r with held := false }) (fun _ => rfl)
        fun _ => rfl).mono (by omega)
    · exact refuse_fits s _

theorem fits_replySetClass (s : State) (b : SetClassBody) : (replySetClass s b).Fits s := by
  unfold replySetClass
  split
  · next c _ _ =>
    split
    · exact Reply.fits_change fun _ => ((s.fits_updRecord_same b.id (f := fun r => { r with cls := c }) (fun _ => rfl)
        fun _ => rfl).trans (State.fits_dueCheck _ _)).mono (by omega)
    · exact refuse_fits s _
  · exact refuse_fits s _

theorem fits_replyVerdict (s : State) (b : VerdictBody) : (replyVerdict s b).Fits s := by
  unfold replyVerdict
  split
  · exact refuse_fits s _
  · split
    · exact refuse_fits s _
    · split
      · split
        · exact Reply.fits_change fun _ => (s.fits_updRecord_same b.id (f := fun r => { r.resetLife with verdictOwed := false })
            (fun _ => rfl) fun _ => rfl).mono (by omega)
        · have failed := s.fits_updRecord_same b.id (f := fun r => { r with condition := .quarantine, verdictOwed := false })
            (fun _ => rfl) fun _ => rfl
          exact Reply.fits_change fun _ => ((failed.trans (State.fits_setHeld _ b.id)).trans
            (State.fits_reclaimIfUnfit _ b.id)).mono (by omega)
      · exact refuse_fits s _

end Sys2Proof.Machine
end

section
/-! PROOFS. The agreement (O10) after census, settings, recovery and correction requests. -/

namespace Sys2Proof.Machine

open Sys2Proof

variable {m x : Move} {id : Ident} {p : Port} {n : Slot} {s t u z : State} {i j k : Nat} {l : Location} {v : View}

/-! ## The census requests (R194 to R199) -/

theorem fits_replyCensus (s : State) (b : CensusBody) : (replyCensus s b).Fits s := by
  unfold replyCensus
  dsimp only
  split
  · exact refuse_fits s _
  · split
    · exact refuse_fits s _
    · refine Reply.fits_change fun _ => ?_
      exact (((s.same_updCensus _).fits rfl).trans (State.fits_offerScan _ _)).mono (by omega)

theorem fits_replyCensusStop (s : State) : (replyCensusStop s).Fits s := by
  unfold replyCensusStop
  split
  · exact Reply.fits_quiet (s.fits_still 8)
  · exact Reply.fits_quiet (s.fits_still 8)
  · split
    · exact State.Same.fits_quieted (s.same_updCensus _) rfl
    · have ended (t : State) : t.Fits 0 t.censusEnds := State.Same.fits (.of_catalogue rfl rfl rfl rfl) rfl
      exact Reply.fits_change fun _ => ((s.fits_withdrawWhere _ none).trans (ended _)).mono (by omega)

/-! ## Settings and notice requests -/

theorem fits_replyInterceptSet (s : State) (b : InterceptBody) : (replyInterceptSet s b).Fits s := by
  unfold replyInterceptSet
  split
  · exact State.Same.fits_quieted (.of_catalogue rfl rfl rfl rfl) rfl
  · exact refuse_fits s _

theorem State.view_setNoticeSet (s : State) (l : NoticeLink) (y : NoticeSet) : (s.setNoticeSet l y).view = s.view := by
  cases l <;> rfl

theorem State.view_sendNotice (s : State) (l : NoticeLink) : (s.sendNotice l).view = s.view := State.view_setNoticeSet _ l _

theorem State.view_maskKinds (s : State) (l : NoticeLink) (kinds : BitVec 16) : (s.maskKinds l kinds).view = s.view := by
  unfold State.maskKinds
  dsimp only
  split
  · unfold State.pushNotice
    split
    · exact (State.view_sendNotice _ l).trans (s.view_setNoticeSet l _)
    · exact s.view_setNoticeSet l _
  · exact s.view_setNoticeSet l _

theorem State.view_gapExpires (s : State) (l : NoticeLink) : (s.gapExpires l).view = s.view := by
  unfold State.gapExpires
  dsimp only
  split
  · exact s.view_sendNotice l
  · exact s.view_setNoticeSet l _

theorem fits_ack (s : State) (l : NoticeLink) (kinds : BitVec 16) {code : AnswerCode} {fields : AnswerFields} :
    (Reply.quiet (s.ackKinds l kinds) code fields).Fits s :=
  (s.same_setNoticeSet l _).fits_quieted (s.view_setNoticeSet l _)

theorem fits_mask (s : State) (l : NoticeLink) (kinds : BitVec 16) {code : AnswerCode} {fields : AnswerFields} :
    (Reply.quiet (s.maskKinds l kinds) code fields).Fits s :=
  (s.same_maskKinds l kinds).fits_quieted (s.view_maskKinds l kinds)

theorem fits_replyZoneSet (s : State) (b : ZoneBody) : (replyZoneSet s b).Fits s := by
  unfold replyZoneSet
  split
  · next k _ =>
    refine (s.same_writeZone _ _).fits_changed ?_
    unfold State.writeZone State.raiseConflict
    dsimp only
    split
    · exact State.view_raise _ _ _
    · rfl
  · exact refuse_fits s _

theorem fits_replyClassSet (s : State) (b : ClassBody) : (replyClassSet s b).Fits s := by
  unfold replyClassSet
  split
  · next k _ =>
    split
    · exact Reply.fits_quiet (s.fits_still 8)
    · have written : s.Fits 0 { s with classes := s.classes.set k.val ((s.classes.get k).write b) k.isLt } :=
        State.Same.fits (.of_catalogue rfl rfl rfl rfl) rfl
      exact Reply.fits_change fun _ => (written.trans (State.fits_dueCheck _ _)).mono (by omega)
  · exact refuse_fits s _

theorem State.view_writeSettings (s : State) (p : Port) (y : PortSettings) : (s.writeSettings p y).view = s.view := by
  have same (q : Port) : ((s.writeSettings p y).port q).nest = (s.port q).nest ∧ ((s.writeSettings p y).port q).window = (s.port q).window := by
    rw [s.port_writeSettings]
    split
    · exact ⟨rfl, rfl⟩
    · split <;> exact ⟨rfl, rfl⟩
  change View.mk _ _ _ _ _ _ _ _ = View.mk _ _ _ _ _ _ _ _
  congr 1
  · exact funext fun q => (same q).1
  · exact funext fun q => by unfold State.windowRuns; rw [(same q).2]

theorem fits_replyPortSet (s : State) (b : PortSetBody) : (replyPortSet s b).Fits s := by
  unfold replyPortSet
  split
  · next p _ => exact State.Same.fits_quieted (t := s.writeSettings p _) (.of_catalogue rfl rfl rfl rfl) (s.view_writeSettings p _)
  · exact refuse_fits s _

theorem fits_replyPortOpen (s : State) (y : Nat) : (replyPortOpen s y).Fits s := by
  unfold replyPortOpen
  split
  · next p _ =>
    refine (s.same_updPort p fun r => if r.state = .closed then { r with state := .silent } else r).fits_quieted
      (s.view_updPort_same p ?_ ?_) <;> split <;> rfl
  · exact refuse_fits s _

theorem fits_replyPortClose (s : State) (y : Nat) : (replyPortClose s y).Fits s := by
  unfold replyPortClose
  split
  · next p _ =>
    split
    · exact Reply.fits_quiet (s.fits_still 8)
    · refine Reply.fits_change fun c => ?_
      have shut : s.Fits 0 (s.updPort p fun r => { r with state := .closed, livenessLeft := none }) :=
        (s.same_updPort p _).fits (s.view_updPort_same p rfl rfl)
      have sound : (s.updPort p fun r => { r with state := .closed, livenessLeft := none }).CatalogueSound := c.1
      have stood := State.fits_standDown sound p
      exact (shut.trans stood).mono (by omega)
  · exact refuse_fits s _

theorem fits_replyTimingSet (s : State) (b : TimingBody) : (replyTimingSet s b).Fits s :=
  State.Same.fits_quieted (s := s) (t := s.writeTiming b) ⟨rfl, rfl, rfl, id, fun r hr _ e => ⟨r, hr, e⟩⟩ rfl

/-! ## Recovery requests (R165 to R168) -/

theorem fits_replyResume (s : State) : (replyResume s).Fits s := by
  have advances := advances_replyResume s
  unfold replyResume at advances ⊢
  split
  · next m ph halted =>
    rw [halted] at advances
    dsimp only at advances
    split
    · next z resumed =>
      rw [resumed] at advances
      exact Reply.fits_handler advances fun _ => (State.fits_resumed halted resumed).mono (by omega)
    · exact refuse_fits s _
  · exact refuse_fits s _

theorem fits_replyResolveAtTarget (s : State) : (replyResolveAtTarget s).Fits s := by
  unfold replyResolveAtTarget
  split
  · next m ph halted =>
    have exec := State.haltedAt_execMove halted
    split
    · next id y named target =>
      split
      · exact refuse_fits s _
      · next plain =>
        refine Reply.fits_handler (s.advances_resolvedAtTarget m ph id) fun _ k small form agree => ⟨?_, ?_⟩
        · exact ((s.ends_resolvedAtTarget m ph id (State.execMove_mem exec).1).grows exec).mono (by omega) k small form
        · have aimed : m.target = .pos y := by
            unfold Target.pos? at target
            split at target <;> cases target
            assumption
          exact State.agree_resolvedAtTarget form (by omega) agree halted named aimed plain
    · exact refuse_fits s _
  · exact refuse_fits s _

theorem fits_replyResolveAtSource (s : State) : (replyResolveAtSource s).Fits s := by
  unfold replyResolveAtSource
  split
  · next m ph halted =>
    split
    · exact refuse_fits s _
    · next accepted =>
      refine Reply.fits_handler (s.advances_resolvedAtSource m ph _) fun _ k small form agree => ⟨?_, ?_⟩
      · exact ((s.ends_resolvedAtSource m ph _).grows (State.haltedAt_execMove halted)).mono (by omega) k small form
      · exact State.agree_resolvedAtSource form (by omega) agree halted accepted
  · exact refuse_fits s _

theorem fits_replyResolveRemoved (s : State) : (replyResolveRemoved s).Fits s := by
  unfold replyResolveRemoved
  split
  · split
    · next m e exec record =>
      refine Reply.fits_handler (s.advances_resolvedRemoved m e) fun _ k small form agree => ⟨?_, ?_⟩
      · exact ((s.ends_resolvedRemoved m e).grows exec).mono (by omega) k small form
      · exact State.agree_resolvedRemoved form (by omega) agree exec record
    · next absent =>
      refine Reply.fits_handler s.advances_handlerIdle fun _ => (State.fits_clearedHalt ?_).mono (by omega)
      cases exec : s.execMove with
      | none => rfl
      | some m =>
        obtain ⟨e, he, _⟩ := Option.bind_eq_some_iff.mp (State.execMove_mem exec).2
        exact (absent m e exec he).elim
  · exact refuse_fits s _

theorem fits_replyRestart (s : State) : (replyRestart s).Fits s :=
  Reply.fits_handler (s.advances_setRestartPending true) fun _ =>
    (State.Same.fits (s := s) (t := s.updHandler fun h => { h with restartPending := true })
      ⟨rfl, rfl, rfl, id, fun r hr _ e => ⟨r, hr, e⟩⟩ rfl).mono (by omega)

/-! ## Corrections (chapter 1.6) -/

/-- A slot that may be corrected holds no reticle, is not reserved, and is no source of the move in execution. -/
theorem State.correctable_free (correctable : s.correctable n = true) : (s.view.slot n).Bare
    ∧ ∀ k, s.QueueForm k → ∀ m ∈ s.queue, s.view.Runs m.seq → m.source ≠ .slot n := by
  unfold State.correctable at correctable
  rw [Bool.and_eq_true_iff] at correctable
  obtain ⟨source, content⟩ := correctable
  refine ⟨?_, fun k form m hm runs from_n => ?_⟩
  · change (s.slot n).Bare
    split at content
    · next e => rw [e]; exact ⟨rfl, rfl⟩
    · next e => rw [e]; exact ⟨rfl, rfl⟩
    · next e => rw [e]; exact ⟨rfl, rfl⟩
    · cases content
  · have exec := State.execMove_of_mem form.distinct hm runs
    unfold State.execSourceSlot at source
    rw [exec] at source
    simp [from_n, Position.slot?] at source

theorem fits_replySetSlotEmpty (s : State) (y : Nat) : (replySetSlotEmpty s y).Fits s := by
  unfold replySetSlotEmpty
  split
  · next n _ =>
    split
    · next correctable =>
      obtain ⟨bare, _⟩ := State.correctable_free correctable
      refine Reply.fits_change fun _ => State.Fits.mono ((s.same_setSlot n .empty).grows.fits fun k form agree => ?_) (by omega)
      rw [State.view_setSlot]
      exact agree.setBare bare.1 bare.2 rfl rfl
    · exact refuse_fits s _
  · exact refuse_fits s _

/-- A record of no move, or a new one, put in a slot that may be corrected. -/
theorem State.fits_place (same : s.Same t) (correctable : s.correctable n = true) (view : t.view = s.view.place id n)
    (free : s.view.Agree → ∀ l b, s.view.record id = some (l, b) → b = none ∧ ∀ n, l ≠ .slot n) : s.Fits 0 t :=
  same.grows.fits fun k form agree => by
    obtain ⟨bare, source⟩ := State.correctable_free correctable
    rw [view]
    exact agree.place (free agree) bare.1 bare.2 (source k form)

theorem State.fits_refuseCreation (s : State) (id : Ident) (y : Position) : s.Fits 0 (s.refuseCreation id y) :=
  (s.same_raise _ _).fits (State.view_raise _ _ _)

theorem fits_fillSlot (s : State) (id : Ident) (c : ClassNo) (correctable : s.correctable n = true) : (s.fillSlot n id c).Fits s := by
  unfold State.fillSlot
  split
  · next unknown =>
    split
    · exact Reply.fits_quiet ((s.fits_refuseCreation id _).mono (by omega))
    · refine Reply.fits_change fun _ => (State.fits_place (s.same_createAt n id c) correctable (s.view_createAt n c unknown)
        fun _ l b here => ?_).mono (by omega)
      change (s.record id).map _ = _ at here
      rw [unknown] at here
      cases here
  · next r found =>
    split
    · next lost =>
      have here := State.record_view found
      rw [lost] at here
      refine Reply.fits_change fun _ => State.Fits.mono (fun k small form agree => ?_) (Nat.zero_le 8)
      have unbound := agree.unbound_away (.inr (.inr rfl)) here
      rw [unbound] at here
      have view : (s.relocate n id).view = s.view.place id n := by
        rw [s.view_relocate]
        change View.mk _ _ _ _ _ _ _ _ = View.mk _ _ _ _ _ _ _ _
        congr 1
        change Function.update s.view.record id ((s.view.record id).map _) = _
        rw [here]
        rfl
      refine State.fits_place (s.same_relocate n id) correctable view (fun _ l b at_l => ?_) k small form agree
      rw [here] at at_l
      cases at_l
      exact ⟨rfl, nofun⟩
    · exact refuse_fits s _

theorem fits_replySetSlotReticle (s : State) (b : SetSlotBody) : (replySetSlotReticle s b).Fits s := by
  unfold replySetSlotReticle
  split
  · split
    · next correctable => exact fits_fillSlot s _ _ correctable
    · exact refuse_fits s _
  · exact refuse_fits s _

theorem fits_replyForget (s : State) (id : Ident) : (replyForget s id).Fits s := by
  unfold replyForget
  split
  · exact refuse_fits s _
  · split
    · exact refuse_fits s _
    · next r found =>
      split
      · exact refuse_fits s _
      · next forgettable =>
        split
        · exact refuse_fits s _
        · next unbound =>
          refine Reply.fits_change fun _ => State.Fits.mono ((s.same_filterCatalogue _).grows.fits fun k form agree => ?_) (by omega)
          rw [State.view_filterCatalogue]
          refine agree.remove fun l b here => ?_
          rw [State.record_view found] at here
          cases here
          refine ⟨by simpa using unbound, fun n at_n => ?_⟩
          simp [Rec.forgettable, at_n] at forgettable

theorem fits_replySetCondition (s : State) (b : SetConditionBody) : (replySetCondition s b).Fits s := by
  unfold replySetCondition
  split
  · exact refuse_fits s _
  · split
    · exact Reply.fits_change fun _ => (s.fits_updRecord_same b.id (f := fun r => { r.resetLife with suspect := false }) (fun _ => rfl)
        fun _ => rfl).mono (by omega)
    · exact refuse_fits s _

/-! ## Queries -/

theorem query_fits (s : State) (code : AnswerCode) (fields : AnswerFields) : (Reply.quiet s code fields).Fits s :=
  Reply.fits_quiet (s.fits_still 8)

theorem fits_replyQSlot (s : State) (y : Nat) : (replyQSlot s y).Fits s := by
  unfold replyQSlot
  split <;> exact query_fits s _ _

theorem fits_replyQZoneEntry (s : State) (y : Nat) : (replyQZoneEntry s y).Fits s := by
  unfold replyQZoneEntry
  split <;> exact query_fits s _ _

theorem fits_replyQZoneSlot (s : State) (y : Nat) : (replyQZoneSlot s y).Fits s := by
  unfold replyQZoneSlot
  split <;> exact query_fits s _ _

theorem fits_replyQPort (s : State) (y : Nat) : (replyQPort s y).Fits s := by
  unfold replyQPort
  split <;> exact query_fits s _ _

theorem fits_replyQInterceptEntry (s : State) (y : Nat) : (replyQInterceptEntry s y).Fits s := by
  unfold replyQInterceptEntry
  split <;> exact query_fits s _ _

theorem fits_replyQReticle (s : State) (id : Ident) : (replyQReticle s id).Fits s := by
  unfold replyQReticle
  split
  · split <;> exact query_fits s _ _
  · exact query_fits s _ _

end Sys2Proof.Machine
end

section
/-! PROOFS. The agreement (O10) after every command. -/

namespace Sys2Proof.Machine

open Sys2Proof

variable {m x : Move} {id : Ident} {p : Port} {n : Slot} {s t u z b : State} {i j k : Nat} {l : Location} {v : View}

/-! ## Every command but POWER_ON_RESET -/

theorem State.request_fits {α β : Type} (s : State) (l : ReqLink) (tag : Byte) (k : FrameKind) (place : Option β)
    (body : Option α) {owner : State → β → α → Reply} (h : ∀ a b x, (owner a b x).Fits a) (sound : s.Catalogued) :
    s.Fits 208 (s.request l tag k place body owner) := by
  have good : s.Fits 0 (s.goodFrame l) := (s.same_goodFrame l).fits (s.view_goodFrame l)
  have kept : (s.goodFrame l).Catalogued := (s.advances_goodFrame l).catalogue sound
  obtain ⟨u, code, fields, e, fits⟩ := State.request_ends (s := s) (l := l) (tag := tag) (k := k) (place := place)
    (body := body) (owner := owner) (P := fun u => s.Fits 208 u) (good.mono (by omega)) fun b x _ _ =>
    (good.trans (h _ b x kept)).mono (by omega)
  rw [e]
  have answered : u.Fits 0 (u.answer l tag k.byte code fields) := State.Same.fits (State.same_send _ _ _) rfl
  exact (fits.trans answered).mono (by omega)

/-- The state a command leaves, the agreement kept. -/
def LeavesFit (c : Instr) (s : State) : Prop := ∃ t, exec c s = .next t ∧ (s.Catalogued → s.Fits 208 t)

theorem leavesFit_request {α β : Type} {c : Instr} {l : ReqLink} {tag : Byte} {k : FrameKind} {place : Option β} {body : Option α}
    {owner : State → β → α → Reply} (runs : exec c s = .next (s.request l tag k place body owner))
    (h : ∀ a b x, (owner a b x).Fits a) : LeavesFit c s :=
  ⟨_, runs, s.request_fits l tag k place body h⟩

theorem leavesFit_of_holds {c : Instr} (runs : exec c s = .next t) (h : s.Holds 208 t) : LeavesFit c s := ⟨t, runs, h.fits⟩

theorem State.fits_discardFrame (s : State) (l : Link) : s.Fits 0 (s.discardFrame l) := (s.same_discardFrame l).fits rfl

theorem leavesFit (c : Instr) (s : State) (h : ∀ x, c ≠ .powerOnReset x) : LeavesFit c s := by
  have still := s.holds_still 208
  cases c with
  | powerOnReset x => exact absurd rfl (h x)
  | hello l tag b => exact leavesFit_request rfl fits_replyHello
  | alive l tag b => exact leavesFit_request rfl fun a _ _ => query_fits a _ _
  | call l tag b => exact leavesFit_request rfl fits_replyCall
  | cancel l tag b => exact leavesFit_request rfl fits_replyCancel
  | ahead l tag b => exact leavesFit_request rfl fits_replyAhead
  | returnLots l tag b => exact leavesFit_request rfl fits_replyReturn
  | portState l tag b => exact leavesFit_request rfl fun a _ _ => query_fits a _ _
  | announce l tag b => exact leavesFit_request rfl fun a _ => fits_replyAnnounce a
  | unannounce l tag b => exact leavesFit_request rfl fun a _ => fits_replyUnannounce a
  | exportOut l tag b => exact leavesFit_request rfl fun a _ => fits_replyExport a
  | hold l tag b => exact leavesFit_request rfl fun a _ => fits_replyHold a
  | release l tag b => exact leavesFit_request rfl fun a _ => fits_replyRelease a
  | setClass l tag b => exact leavesFit_request rfl fun a _ => fits_replySetClass a
  | inspect l tag b => exact leavesFit_request rfl fits_replyInspect
  | verdict l tag b => exact leavesFit_request rfl fun a _ => fits_replyVerdict a
  | census l tag b => exact leavesFit_request rfl fun a _ => fits_replyCensus a
  | censusStop l tag b => exact leavesFit_request rfl fun a _ _ => fits_replyCensusStop a
  | interceptSet l tag b => exact leavesFit_request rfl fun a _ => fits_replyInterceptSet a
  | ack l tag b => exact leavesFit_request rfl fun a l k => fits_ack a l k
  | mask l tag b => exact leavesFit_request rfl fun a l k => fits_mask a l k
  | qReticle l tag b => exact leavesFit_request rfl fun a _ => fits_replyQReticle a
  | qSlot l tag b => exact leavesFit_request rfl fun a _ => fits_replyQSlot a
  | qZoneEntry l tag b => exact leavesFit_request rfl fun a _ => fits_replyQZoneEntry a
  | qZoneSlot l tag b => exact leavesFit_request rfl fun a _ => fits_replyQZoneSlot a
  | qPort l tag b => exact leavesFit_request rfl fun a _ => fits_replyQPort a
  | qQueue l tag b => exact leavesFit_request rfl fun a _ _ => query_fits a _ _
  | qInterceptEntry l tag b => exact leavesFit_request rfl fun a _ => fits_replyQInterceptEntry a
  | qInterceptAll l tag b => exact leavesFit_request rfl fun a _ _ => query_fits a _ _
  | zoneSet l tag b => exact leavesFit_request rfl fun a _ => fits_replyZoneSet a
  | classSet l tag b => exact leavesFit_request rfl fun a _ => fits_replyClassSet a
  | portSet l tag b => exact leavesFit_request rfl fun a _ => fits_replyPortSet a
  | portOpen l tag b => exact leavesFit_request rfl fun a _ => fits_replyPortOpen a
  | portClose l tag b => exact leavesFit_request rfl fun a _ => fits_replyPortClose a
  | timingSet l tag b => exact leavesFit_request rfl fun a _ => fits_replyTimingSet a
  | setSlotEmpty l tag b => exact leavesFit_request rfl fun a _ => fits_replySetSlotEmpty a
  | setSlotReticle l tag b => exact leavesFit_request rfl fun a _ => fits_replySetSlotReticle a
  | forget l tag b => exact leavesFit_request rfl fun a _ => fits_replyForget a
  | setCondition l tag b => exact leavesFit_request rfl fun a _ => fits_replySetCondition a
  | resume l tag b => exact leavesFit_request rfl fun a _ _ => fits_replyResume a
  | resolveAtTarget l tag b => exact leavesFit_request rfl fun a _ _ => fits_replyResolveAtTarget a
  | resolveAtSource l tag b => exact leavesFit_request rfl fun a _ _ => fits_replyResolveAtSource a
  | resolveRemoved l tag b => exact leavesFit_request rfl fun a _ _ => fits_replyResolveRemoved a
  | restart l tag b => exact leavesFit_request rfl fun a _ _ => fits_replyRestart a
  | unknownRequestKind l tag k =>
    refine ⟨_, rfl, fun _ => State.Fits.mono (((s.same_goodFrame l).trans (State.same_send _ _ _)).fits ?_) (by omega)⟩
    exact s.view_goodFrame l
  | bodyLengthExcess l => exact ⟨_, rfl, fun _ => (s.fits_discardFrame l).mono (by omega)⟩
  | crcFailure l => exact ⟨_, rfl, fun _ => (s.fits_discardFrame l).mono (by omega)⟩
  | byteGapTimeout l => exact ⟨_, rfl, fun _ => (s.fits_discardFrame l).mono (by omega)⟩
  | handlerFrameNotTaken => exact leavesFit_of_holds rfl still
  | picked n read => exact leavesFit_of_holds rfl (s.holds_edge (fun _ => s.holds_picked n read) fun _ => still)
  | sourceEmpty n => exact leavesFit_of_holds rfl (s.holds_sourceEmpty n)
  | placed n => exact leavesFit_of_holds rfl (s.holds_placed n)
  | occupied n => exact leavesFit_of_holds rfl (s.holds_occupied n)
  | scanned n results => exact leavesFit_of_holds rfl (s.holds_scanned n results)
  | faultReport n code loaded => exact leavesFit_of_holds rfl (s.holds_edge (fun _ => s.holds_halted _ _) fun _ => still)
  | restarted n loaded => exact leavesFit_of_holds rfl (s.holds_restarted loaded)
  | phaseTimeout => exact leavesFit_of_holds rfl (s.holds_edge (fun _ => s.holds_halted _ _) fun _ => still)
  | livenessExpiry p =>
    exact leavesFit_of_holds rfl (s.holds_edge (fun _ => (s.holds_goSilent p).settled (by omega) _) fun _ => still)
  | collectWindowExpiry p =>
    exact leavesFit_of_holds rfl (s.holds_edge (fun run => (State.holds_collectExpires run.2).settled (by omega) _) fun _ => still)
  | returnWaitExpiry p =>
    exact leavesFit_of_holds rfl (s.holds_edge (fun run => (State.holds_returnWaitExpires run.1 run.2).settled (by omega) _) fun _ => still)
  | gapTimerExpiry l =>
    have expires : s.Fits 208 (s.gapExpires l) := ((s.same_gapExpires l).fits (s.view_gapExpires l)).mono (by omega)
    exact leavesFit_of_holds rfl (s.holds_edge (fun _ => expires.holds (s.advances_gapExpires l)) fun _ => still)
  | minuteTick => exact leavesFit_of_holds rfl (s.holds_minute.settled (by omega) _)
  | tbusyAsserted p =>
    exact leavesFit_of_holds rfl (s.holds_edge (fun _ => still) fun _ => (s.holds_busyAsserted p).settled (by omega) _)
  | tbusyReleased p =>
    have released := ((s.holds_setTbusy p false).trans (State.holds_releaseAtNest _ p)).trans (State.holds_releaseCarried _ p)
    exact leavesFit_of_holds rfl (s.holds_edge (fun _ => released.settled (by omega) _) fun _ => still)
  | presTFull p => exact leavesFit_of_holds rfl (s.holds_edge (fun _ => still) fun _ => (s.holds_tFull p).settled (by omega) _)
  | presTEmpty p => exact leavesFit_of_holds rfl (s.holds_edge (fun _ => (s.holds_tEmpty p).settled (by omega) _) fun _ => still)
  | presBiFull => exact leavesFit_of_holds rfl (s.holds_edge (fun _ => still) fun _ => s.holds_biFull.settled (by omega) _)
  | presBiEmpty => exact leavesFit_of_holds rfl (s.holds_edge (fun _ => s.holds_biEmpty.settled (by omega) _) fun _ => still)
  | presBoFull =>
    exact leavesFit_of_holds rfl (s.holds_edge (fun _ => still) fun _ => (s.fits_boFull.holds s.advances_boFull).settled (by omega) _)
  | presBoEmpty => exact leavesFit_of_holds rfl (s.holds_edge (fun _ => s.holds_boEmpty.settled (by omega) _) fun _ => still)
  | presInFull => exact leavesFit_of_holds rfl (s.holds_edge (fun _ => still) fun _ => s.holds_inFull.settled (by omega) _)
  | presInEmpty => exact leavesFit_of_holds rfl (s.holds_edge (fun _ => s.holds_inEmpty.settled (by omega) _) fun _ => still)

/-! ## POWER_ON_RESET -/

/-- With no records, no moves, no slot known and no return wait running everything agrees. -/
theorem View.Agree.of_blank (queue : v.queue = []) (record : ∀ id, v.record id = none) (slot : ∀ n, v.slot n = .unknown)
    (waits : ∀ p, v.waits p = false) : v.Agree := by
  have idle (m : Move) (hm : m ∈ v.queue) : False := by
    rw [queue] at hm
    cases hm
  refine ⟨fun n id => ?_, fun m hm => (idle m hm).elim, fun id l q here => ?_, fun id b here => ?_, fun n q held => ?_,
    fun m hm => (idle m hm).elim, fun m hm => (idle m hm).elim, fun m hm => (idle m hm).elim, fun m hm => (idle m hm).elim,
    fun m hm => (idle m hm).elim, fun m hm => (idle m hm).elim, fun p runs => ?_, fun m hm => (idle m hm).elim⟩
  · rw [slot]
    refine ⟨nofun, fun ⟨b, here⟩ => ?_⟩
    rw [record] at here
    cases here
  · rw [record] at here
    cases here
  · rw [record] at here
    cases here
  · rw [slot] at held
    cases held
  · rw [waits] at runs
    cases runs

theorem resetPort_window (p : Port) : (State.reset.port p).window = none := by
  fin_cases p <;> rfl

/-- What the first admissions of POWER_ON_RESET find at the nests. -/
structure State.FirstBase (b : State) (x : Straps) : Prop where
  catalogue : b.catalogue = []
  nest : ∀ p, x.presT.get p = true → b.toolNest p = .returned
  waits : ∀ p, b.windowRuns p .returnWait = false
  inn : x.presIn = true → b.inn = .arrived

theorem State.firstBase (s : State) (x : Straps) (n : Nat) : ({ (s.powerOnBase x).blockBo x with choices := n } : State).FirstBase x := by
  obtain ⟨mn, sn, tx, base⟩ := s.blockBo_eq x
  have port (p : Port) : State.port { (s.powerOnBase x).blockBo x with choices := n } p
      = portAtReset (State.reset.port p) (x.presT.get p) := by
    rw [base]
    exact powerOnBase_port s x p
  refine ⟨by rw [base]; rfl, fun p pod => ?_, fun p => ?_, fun pod => ?_⟩
  · unfold State.toolNest
    rw [port, pod]
    rfl
  · unfold State.windowRuns
    rw [port]
    unfold portAtReset
    split <;> simp [resetPort_window]
  · rw [base]
    change (if x.presIn then InNest.arrived else .empty) = .arrived
    rw [if_pos pod]

theorem pod_of_firstMoves {x : Straps} {f : FirstMove} (h : f ∈ firstMoves x) : (∀ p, f = .nest (.collect p none) → x.presT.get p = true)
    ∧ (f = .nest .reshelve → x.presIn = true) := by
  simp only [firstMoves, List.mem_append, List.mem_map, List.mem_ite_nil_right, List.mem_singleton, List.mem_filter] at h
  rcases h with ((⟨p, ⟨_, pod⟩, rfl⟩ | ⟨_, rfl⟩) | ⟨pod, rfl⟩) | ⟨_, rfl⟩
  · refine ⟨fun q e => ?_, nofun⟩
    cases e
    exact pod
  · exact ⟨nofun, nofun⟩
  · exact ⟨nofun, fun _ => pod⟩
  · exact ⟨nofun, nofun⟩

/-- A first admission finds its nest as a fresh move needs it. -/
theorem State.Started.ready {P : Bool} {x : Straps} {ms : List FirstMove} {g : FreshMove} (started : b.Started P t ms)
    (base : b.FirstBase x) (new : FirstMove.nest g ∉ ms) (listed : FirstMove.nest g ∈ firstMoves x) (old : ∀ f ∈ ms, f ∈ firstMoves x) :
    t.Ready g := by
  have entry (m : Move) (hm : m ∈ t.queue) : ∃ f ∈ ms, f.entry = (m.kind, m.source) := by
    have listed := List.mem_map_of_mem (f := fun m => (m.kind, m.source)) hm
    rw [started.kinds] at listed
    exact List.mem_map.mp listed
  obtain ⟨q, n, f, h, c, mn, sn, tx, eq⟩ := started.eq
  have nests : t.view.nest = b.view.nest ∧ t.view.waits = b.view.waits ∧ t.view.inn = b.view.inn := by
    rw [eq]
    exact ⟨rfl, rfl, rfl⟩
  obtain ⟨pods, pod⟩ := pod_of_firstMoves listed
  rcases mem_firstMoves listed with e | ⟨p, e⟩ | e | e <;> cases e
  · refine ⟨by rw [nests.1]; exact base.nest p (pods p rfl), by rw [nests.2.1]; exact base.waits p, fun m hm _ source => ?_, nofun⟩
    obtain ⟨f, hf, e⟩ := entry m hm
    rcases mem_firstMoves (old f hf) with rfl | ⟨p', rfl⟩ | rfl | rfl <;> simp only [FirstMove.entry, Prod.mk.injEq, source] at e
    · exact absurd e.2 nofun
    · cases e.2
      exact new hf
    · exact absurd e.2 nofun
    · exact absurd e.2 nofun
  · trivial
  · refine ⟨by rw [nests.2.2]; exact base.inn (pod rfl), fun m hm _ kind => ?_⟩
    obtain ⟨f, hf, e⟩ := entry m hm
    rcases mem_firstMoves (old f hf) with rfl | ⟨p', rfl⟩ | rfl | rfl <;> simp only [FirstMove.entry, Prod.mk.injEq, kind] at e
    · exact absurd e.1 nofun
    · exact absurd e.1 nofun
    · exact absurd e.1 nofun
    · exact new hf

theorem State.agree_admitFirst {x : Straps} {f : FirstMove} (sound : s.CatalogueSound) (form : s.QueueForm k) (small : k + 1 < 2147483648)
    (agree : s.view.Agree) (listed : f ∈ firstMoves x) (ready : ∀ g, f = .nest g → s.Ready g) : (s.admitFirst f).view.Agree := by
  cases f with
  | nest g => exact State.agree_admitFresh sound form small agree (ready g rfl)
  | census => exact ((((s.same_updCensus _).fits rfl).trans (State.fits_offerScan _ _)) k (by omega) form agree).2

theorem State.agree_firstAdmissions {P : Bool} {x : Straps} {fs ms : List FirstMove} (blank : b.Blank P) (base : b.FirstBase x)
    (started : b.Started P t ms) (form : t.QueueForm k) (small : k + 193 * fs.length < 2147483648) (few : (ms ++ fs).length < 2 ^ 32)
    (distinct : (ms ++ fs).Nodup) (listed : ∀ f ∈ ms ++ fs, f ∈ firstMoves x) (agree : t.view.Agree) :
    (fs.foldl State.firstAdmission t).view.Agree := by
  induction fs generalizing t ms k with
  | nil => exact agree
  | cons f fs ih =>
    have shift : ms ++ f :: fs = (ms ++ [f]) ++ fs := by simp
    have here : f ∈ firstMoves x := listed f (by simp)
    have new : f ∉ ms := fun old => (List.nodup_append.mp distinct).2.2 f old f (List.mem_cons_self ..) rfl
    have room : ms.length < 2 ^ 32 := lt_of_le_of_lt (by simp) few
    simp only [List.length_cons] at small
    have empty : t.catalogue = [] := by
      obtain ⟨q, n, f, h, c, mn, sn, tx, eq⟩ := started.eq
      rw [eq]
      exact base.catalogue
    have sound : t.CatalogueSound := by
      unfold State.CatalogueSound
      rw [empty]
      exact ⟨by simp, by simp⟩
    have entered := State.agree_admitFirst sound form (by omega) agree here fun g e =>
      started.ready base (e ▸ new) (e ▸ here) fun f hf => listed f (List.mem_append_left _ hf)
    have settled := State.fits_settle (t.admitFirst f) t noTouch (k + 1) (by omega) (t.grows_admitFirst f k (by omega) form) entered
    rw [shift] at few distinct listed
    exact ih (started.admitted blank room new here) settled.1 (by omega) few distinct listed settled.2

theorem State.agree_powerOn (s : State) (x : Straps) : (s.powerOn x).view.Agree := by
  obtain ⟨n, drawn⟩ := freeOrder_state (s := (s.powerOnBase x).blockBo x) (firstMoves x)
  have order := freeOrder_perm (firstMoves x) ((s.powerOnBase x).blockBo x)
  have run : s.powerOn x = (freeOrder (firstMoves x) ((s.powerOnBase x).blockBo x)).1.foldl State.firstAdmission
      (freeOrder (firstMoves x) ((s.powerOnBase x).blockBo x)).2 := rfl
  rw [run, drawn]
  generalize (freeOrder (firstMoves x) ((s.powerOnBase x).blockBo x)).1 = fs at order ⊢
  have blank := s.blank_powerOn x n
  have base := s.firstBase x n
  have few : fs.length ≤ 9 := order.length_eq ▸ firstMoves_few x
  generalize { (s.powerOnBase x).blockBo x with choices := n } = b at blank base ⊢
  have form : b.QueueForm 0 := .of_empty blank.queue base.catalogue (by rw [blank.handler]; rfl)
  have agree : b.view.Agree := .of_blank blank.queue (fun id => by
    change (b.record id).map _ = none
    unfold State.record
    rw [base.catalogue]
    rfl) blank.slots base.waits
  exact State.agree_firstAdmissions blank base blank.started form (by omega) (by rw [List.nil_append]; omega)
    (order.nodup_iff.mpr (firstMoves_nodup x)) (fun f hf => order.mem_iff.mp hf) agree

/-! ## The idle second -/

theorem State.view_idleSecond (s : State) : s.idleSecond.view = s.view := by
  obtain ⟨n, e⟩ := s.idleSecond_eq
  have port (p : Port) : s.idleSecond.port p = (s.port p).second := by
    rw [e]
    exact s.port_second p
  have nest : s.idleSecond.toolNest = s.toolNest := funext fun p => (congrArg PortRec.nest (port p)).trans rfl
  have waits (p : Port) : s.idleSecond.windowRuns p .returnWait = s.windowRuns p .returnWait := by
    unfold State.windowRuns
    rw [port, PortRec.second, Option.any_map]
  unfold State.view
  rw [nest, funext waits, e]
  rfl

end Sys2Proof.Machine
end

section
/-! PROOFS. In every state a run reaches, slots, records, moves and the execution record agree (O10). -/

namespace Sys2Proof.Machine

open Sys2Proof

variable {m x : Move} {id : Ident} {n : Slot} {s t : State}

theorem exec_agree {c : Instr} (handler : s.handler.Sound) (queue : s.QueueSound) (fresh : s.SeqsFresh) (sound : s.Catalogued)
    (agree : s.view.Agree) (h : exec c s = .next t) : t.view.Agree := by
  by_cases reset : ∃ x, c = .powerOnReset x
  · obtain ⟨x, rfl⟩ := reset
    cases h
    exact s.agree_powerOn x
  · obtain ⟨u, runs, fits⟩ := leavesFit c s fun x e => reset ⟨x, e⟩
    rw [h] at runs
    cases runs
    exact (fits sound 0 (by omega) (.of_sound handler queue fresh) agree).2

/-- What a run from reset keeps. -/
structure State.InRun (s : State) : Prop where
  catalogued : s.Catalogued
  handler : s.handler.Sound
  queue : s.QueueSound
  agree : s.view.Agree

theorem inRun_reset : State.reset.InRun :=
  ⟨⟨resetIsSound.catalogue, resetIsSound.announcements⟩, resetIsSound.handler, resetIsSound.queue,
    .of_blank rfl (fun _ => rfl) (fun n => by simp [State.view, State.slot, State.reset, Vector.get]) fun p => by
      simp [State.view, State.windowRuns, resetPort_window]⟩

/-- The commands that wait are not part of what a run keeps. -/
theorem State.InRun.commands (h : s.InRun) (commands : List Instr) : State.InRun { s with pending := commands } :=
  have ⟨distinct, shaped, executing, named, bound, cause⟩ := h.queue
  ⟨h.catalogued, h.handler, ⟨distinct, shaped, executing, named, bound, cause⟩, h.agree⟩

theorem State.InRun.step (h : s.InRun) (fresh : s.SeqsFresh) (run : step s = .next t) : t.InRun := by
  have kept := step_preserves run
  refine ⟨kept.catalogue h.catalogued.1 h.catalogued.2, kept.handler h.handler, step_queueSound h.handler h.queue fresh run, ?_⟩
  unfold Machine.step at run
  split at run
  · cases run
    rw [s.view_idleSecond]
    exact h.agree
  · next c rest _ =>
    have waiting := h.commands rest
    exact exec_agree (s := { s with pending := rest }) waiting.handler waiting.queue fresh waiting.catalogued waiting.agree run

theorem inRun_of_reached (h : Reached s) : s.InRun := by
  induction h with
  | reset => exact inRun_reset
  | step commands _ fresh run ih => exact (ih.commands commands).step fresh run

/-! ## What the agreement says of the state -/

/-- A record is located somewhere exactly when the view has it there. -/
theorem State.locatedAt_iff_view {l : Location} : s.locatedAt id l = true ↔ ∃ b, s.view.record id = some (l, b) :=
  ⟨State.locatedAt_view, fun ⟨_, here⟩ => State.locatedAt_of_view here⟩

theorem State.record_of_view {y : Location × Option Seq} (h : s.view.record id = some y) :
    ∃ r, s.record id = some r ∧ r.binding = y.2 := by
  obtain ⟨r, found, rfl⟩ := Option.map_eq_some_iff.mp h
  exact ⟨r, found, rfl⟩

/-- Settles O10: a run from reset keeps more than the statement says, where moves come from and go to, the nests they wait at and
the phase of the move in execution with it (`View.Agree`). -/
theorem slotsAgreeWithRecords : Obligations.SlotsAgreeWithRecords := by
  intro s reached
  obtain ⟨sound, _, queue, agree⟩ := inRun_of_reached reached
  refine ⟨fun n id => (agree.located n id).trans State.locatedAt_iff_view.symm, fun id held => ?_, fun m hm id named => ?_,
    fun r hr q bound => ?_, fun n q held => (agree.reserved n q held).1⟩
  · obtain ⟨b, here⟩ := State.locatedAt_view held
    obtain ⟨m, hm, runs, named⟩ := agree.gripped id b here
    exact ⟨m, State.execMove_of_mem queue.distinct hm runs, named⟩
  · obtain ⟨l, here⟩ := agree.binds m hm id named
    exact State.record_of_view here
  · have here := State.record_view (sound.1.record_of_mem hr)
    rw [bound] at here
    obtain ⟨m, hm, same, named, _⟩ := agree.bound r.id r.location q here
    exact ⟨m, hm, same, named⟩

end Sys2Proof.Machine
end
